-- ==== Sys2Proof/Word.lean ====
section
/-!
DEFINITION. The plain types and arithmetic every layer uses: bytes, little-endian fields (R13), division and
remainder (R11), clamps, the integer square root and counters that wrap (R16).
-/

namespace Sys2Proof

/-- One byte of a packet, a record or a memory. -/
abbrev Byte := BitVec 8

/-- A counter that wraps at 2^32 without other effect (R16). -/
abbrev Cnt := BitVec 32

/-- A set of fault sources, source i in bit i (R416). -/
abbrev Bitmap := BitVec 256

/-- The little-endian value of a list of bytes (R13). -/
def leNat : List Byte → Nat
  | [] => 0
  | b :: bs => b.toNat + 256 * leNat bs

/-- The `n` little-endian bytes of a value (R13). -/
def leBytes : Nat → Nat → List Byte
  | 0, _ => []
  | n + 1, v => BitVec.ofNat 8 v :: leBytes n (v / 256)

/-- The field of `n` bytes at byte offset `off`, little-endian; bytes past the end read 0. -/
def leField (bs : List Byte) (off n : Nat) : Nat := leNat ((bs.drop off).take n)

/-- Bits [hi:lo] of a value (R12). -/
def bitsOf (v hi lo : Nat) : Nat := (v / 2 ^ lo) % 2 ^ (hi + 1 - lo)

/-- Bit `i` of a value as a Boolean (R12). -/
def bitOf (v i : Nat) : Bool := (v / 2 ^ i) % 2 == 1

/-- A value read as two's complement of `w` bits. -/
def sext (w v : Nat) : Int := if v % 2 ^ w < 2 ^ (w - 1) then (v % 2 ^ w : Nat) else (v % 2 ^ w : Nat) - (2 ^ w : Nat)

/-- The two's-complement pattern of `w` bits of an integer. -/
def unsext (w : Nat) (v : Int) : Nat := (v % (2 ^ w : Nat)).toNat

/-- `v` held between two bounds. -/
def clampI (v lo hi : Int) : Int := if v < lo then lo else if hi < v then hi else v

/-- `v` held between two bounds. -/
def clampN (v lo hi : Nat) : Nat := if v < lo then lo else if hi < v then hi else v

/-- Sign of an integer: -1, 0 or 1. -/
def sgn (v : Int) : Int := if v < 0 then -1 else if v = 0 then 0 else 1

/-- Division rounded up. -/
def ceilDiv (a b : Nat) : Nat := (a + b - 1) / b

/-- Newton steps of the integer square root, on fuel. -/
def isqrtAux (n : Nat) : Nat → Nat → Nat
  | 0, x => x
  | k + 1, x => let y := (x + n / x) / 2; if y < x then isqrtAux n k y else x

/-- The largest r with r * r ≤ n, for n below 2^128. -/
def isqrt (n : Nat) : Nat := if n = 0 then 0 else isqrtAux n 128 (2 ^ (Nat.log2 n / 2 + 1))

/-- A 16-bit count that saturates at 65,535 (R388). -/
def satInc16 (n : Nat) : Nat := if n < 65535 then n + 1 else n

/-- Entry `i` of a list with a value for entries past its end. -/
def nth {α : Type} (l : List α) (i : Nat) (d : α) : α := (l[i]?).getD d

/-- A list with entry `i` changed by a function; unchanged where `i` is past the end. -/
def modNth {α : Type} (l : List α) (i : Nat) (f : α → α) : List α := l.modify i f

/-- The numbers 0 to n - 1. -/
def upTo (n : Nat) : List Nat := List.range n

/-- Removes the first entry that meets a test. -/
def eraseFirst {α : Type} (p : α → Bool) : List α → List α
  | [] => []
  | a :: l => if p a then l else a :: eraseFirst p l

/-- An association list lookup with a default. -/
def alook {β : Type} (l : List (Nat × β)) (k : Nat) (d : β) : β :=
  match l with
  | [] => d
  | (k', v) :: l => if k' = k then v else alook l k d

/-- Sets key `k` of an association list kept in rising key order, without an entry equal to the default `d`. -/
def aset {β : Type} [DecidableEq β] (l : List (Nat × β)) (k : Nat) (v d : β) : List (Nat × β) :=
  match l with
  | [] => if v = d then [] else [(k, v)]
  | (k', v') :: l' =>
    if k' = k then (if v = d then l' else (k, v) :: l')
    else if k < k' then (if v = d then (k', v') :: l' else (k, v) :: (k', v') :: l')
    else (k', v') :: aset l' k v d

/-- Entry of an association list, if it has one. -/
def afind {β : Type} : List (Nat × β) → Nat → Option β
  | [], _ => none
  | (k', v) :: l, k => if k' = k then some v else afind l k

/-- Sets key `k` of an association list kept in rising key order. -/
def aput {β : Type} : List (Nat × β) → Nat → β → List (Nat × β)
  | [], k, v => [(k, v)]
  | (k', v') :: l, k, v =>
    if k' = k then (k, v) :: l else if k < k' then (k, v) :: (k', v') :: l else (k', v') :: aput l k v

/-- Removes key `k` of an association list. -/
def adel {β : Type} (l : List (Nat × β)) (k : Nat) : List (Nat × β) := l.filter (fun p => p.1 ≠ k)

/-- Bit `i` of a set. -/
def bmGet (m : Bitmap) (i : Nat) : Bool := m.getLsbD i

/-- A set with `i` in it. -/
def bmSet (m : Bitmap) (i : Nat) : Bitmap := m ||| BitVec.twoPow 256 i

/-- A set without `i`. -/
def bmClr (m : Bitmap) (i : Nat) : Bitmap := m &&& ~~~(BitVec.twoPow 256 i)

/-- The bytes of a value padded with zeros, or cut, to `n` bytes. -/
def padTo (n : Nat) (bs : List Byte) : List Byte := (bs ++ List.replicate (n - bs.length) 0).take n

/-- The canonical form of an association list: rising keys, no entry equal to the default. -/
def acanon {β : Type} [DecidableEq β] (d : β) : List (Nat × β) → Bool
  | [] => true
  | [(_, v)] => v ≠ d
  | (k, v) :: (k', v') :: l => decide (v ≠ d) && decide (k < k') && acanon d ((k', v') :: l)

end Sys2Proof
end

