-- ==== Sys2Proof/Syntax.lean ====
section
/-!
DEFINITION. The commands of the block: one constructor per row of the opcode table. Every command carries the instant
`t` in ps at which it happens; the other operands are what the event brings from outside.
-/

namespace Sys2Proof

/-- The two ways the host reaches the dictionary (chapter 18). -/
inductive Path where
  | can
  | ferry
deriving DecidableEq, Repr

/-- A time domain (chapter 14). -/
inductive Dom where
  | a
  | b
deriving DecidableEq, Repr

/-- A CAN frame received without error: identifier, FD or classical, data bytes (R474, R479). -/
structure CanFrame where
  id : Nat
  fd : Bool
  data : List Byte
deriving DecidableEq, Repr

/-- A Ferry packet as it lies in the stream: header, payload, trailer and padding (R131), and whether one of its blocks
came errored (R113). -/
structure Packet where
  hdr : BitVec 64
  payload : List Byte
  trailer : BitVec 32
  errored : Bool
  pad : BitVec 32 := 0
deriving DecidableEq, Repr

/-- Which launch a gate window belongs to (R21, R77, R81). -/
inductive GateKind where
  | boundary
  | subframe (i : Nat)
  | offStart (w : Nat)
  | offEnd (w : Nat)
  | probeStart (q : Nat)
  | probeEnd (q : Nat)
deriving DecidableEq, Repr

/-- A block that answers the prepare request (R431): block b of Table 16.2, an interrupt controller, the dictionary
server or the update path. -/
inductive PrepBlock where
  | block (b : Fin 16)
  | irqHelm
  | irqPurser
  | dictServer
  | updatePath
deriving DecidableEq, Repr

/-- A wake event (R435): a CAN frame seen by the selective-wake decoder, an edge of the WAKE pin, a light-enable
channel going on, or signal on FI0. -/
inductive Wake where
  | can (f : CanFrame)
  | pin (rising : Bool)
  | len
  | fi0
deriving DecidableEq, Repr

/-- The two management cores (R443). -/
inductive CoreId where
  | helm
  | purser
deriving DecidableEq, Repr

/-- What a core access met (R439, R443 to R445, R447, R456, R459, R461): a register of a block, a word with an uncorrectable or a
single-bit error, an address that Table 17.1 decodes for the context, an address not aligned to the access, the intact bytes of a
read of the MRAM window, a disagreement of the Helm pair, or a write of PE_AUTOARM. -/
inductive AccessTarget where
  | block (b : Fin 16)
  | sram
  | mram
  | sramSingle
  | mramSingle (bs : List Byte)
  | mapped (customer : Bool)
  | misaligned
  | mramRead (bs : List Byte)
  | lockstep
  | autoarm (e : Fin 8) (on : Bool)
deriving DecidableEq, Repr

/-- How a pixel was driven in a sense window (chapter 10): in live HI or LO light, by a forced
pulse, or not at all (the retry of a stuck-on pixel in the dark). -/
inductive SenseKind where
  | liveHi
  | liveLo
  | forced
  | dark
deriving DecidableEq, Repr

/-- What a core has written to the PRIO, ENABLE, THRESHOLD and MOD registers of its interrupt controller (Table 17.3). -/
structure IrqCfg where
  prio : List (Nat × Nat)
  en : BitVec 256
  thr : Nat
  mod : List (Nat × Nat)
  /-- The writes were acknowledged before the winner was presented (R452). -/
  before : Bool
deriving DecidableEq, Repr

/-- What the verification of the stored data at a boot has found: whether the copy in force of the protected store passes
(R465), and the districts whose factory calibration fails its CRC (R273). -/
structure BootCheck where
  psOk : Bool
  districts : List Nat
deriving DecidableEq, Repr

/-- One constructor per row of the opcode table. -/
inductive Instr where
  /-- SIGNAL_DETECT (R119): A signal appears on FI0 at 0.5 GBd while the receiver is in DETECT, and CDR and block lock on lane 0 begin. -/
  | signalDetect (t : Nat)
  /-- BLOCK_LOCK (R114): A lane reaches 64 consecutive blocks with valid headers and acquires block lock. -/
  | blockLock (t : Nat) (lane : Fin 4)
  /-- BLOCK_LOCK_LOSS (R114): 16 of 64 consecutive blocks on a lane have invalid headers, and the lane loses block lock. -/
  | blockLockLoss (t : Nat) (lane : Fin 4) (bad : Nat)
  /-- TS1 (R120): TS1 training blocks are received; the engine checks LANES and RATE, refuses or deskews, and after 16 good TS1 it transmits TS1 with HOPS incremented. -/
  | ts1 (t : Nat) (blks : List (List Byte)) (skew : List Nat) (n : Nat)
  /-- TS2 (R119): After 8 consecutive TS2 the engine sends 16 TS2, switches its receiver and then its transmitter to the target rate, and sends TS3. -/
  | ts2 (t : Nat) (blks : List (List Byte)) (n : Nat)
  /-- TS3 (R125): TS3 arrives from upstream at the rate in force and starts a fast retrain, including exit from FL2. -/
  | ts3 (t : Nat) (blks : List (List Byte))
  /-- TS4 (R119): With its receiver ready and 8 consecutive TS4 received, the engine transmits TS4. -/
  | ts4 (t : Nat) (blks : List (List Byte)) (n : Nat)
  /-- ADAPTATION_COMPLETE (R119): CDR lock, CTLE and DFE adaptation, block lock and deskew at rate complete (step 6 of training). -/
  | adaptationComplete (t : Nat) (ctle : List Nat) (dfe : List (List Int)) (eye : List Nat) (skew : List Nat)
  /-- TRAINING_TIMEOUT (R122): A training bound of Table 4.7 expires without its condition being met. -/
  | trainingTimeout (t : Nat)
  /-- ELECTRICAL_IDLE_END (R122): The 2 ms electrical idle after a training failure ends, and DETECT follows. -/
  | electricalIdleEnd (t : Nat)
  /-- SYNC (R127): SYNC slots arrive on every lane in force and end FL1; lanes 1 to 3 relock and the SYNC slots are forwarded. -/
  | syncSlots (t : Nat) (blks : List (List Byte)) (n : Nat)
  /-- FL0_ENTRY (R119): The first data slot after at least 2 SYNC slots arrives; the engine enters FL0, sends 2 SYNC slots, forwards the stream and offers TB0. -/
  | fl0Entry (t : Nat) (delay : Nat)
  /-- ALIGN (R116): An ALIGN slot is received; its reference instant is time-stamped, COUNT is checked and the engine's own ALIGN slot follows after the fixed delay. -/
  | align (t : Nat) (blks : List (List Byte)) (skew : List Nat) (c : Nat)
  /-- EI1 (R126): EI1 slots are received and forwarded, and the link enters FL1 with lane 0 sending the idle pattern. -/
  | ei1 (t : Nat) (blks : List (List Byte)) (n : Nat)
  /-- EI2 (R128): EI2 slots are received and forwarded, the transmitters turn off, and only signal detect stays on FI0. -/
  | ei2 (t : Nat) (blks : List (List Byte)) (n : Nat)
  /-- LINK_DOWN (R123): Signal detect drops, the FI0 CDR loses lock or a lane loses block lock without a preceding EI slot; the FO lanes go idle and the link-loss timeout starts. -/
  | linkDown (t : Nat)
  /-- NO_SIGNAL_TIMEOUT (R124): No signal is seen on FI0 for 1 ms, and the receiver enters DETECT. -/
  | noSignalTimeout (t : Nat)
  /-- FAST_RETRAIN_COMPLETE (R125): A fast retrain regains FL0, stops the link-loss timeout and counts a fast retrain. -/
  | fastRetrainComplete (t : Nat) (delay : Nat)
  /-- FAST_RETRAIN_FAILED (R125): A fast retrain is not complete within 1 ms; after the third consecutive failure, failure 0x0A is recorded. -/
  | fastRetrainFailed (t : Nat)
  /-- PACKET_HEADER (R136): A packet header is received and checked, and the handling of the packet (consume, forward, replace by IDLE) is decided for cut-through. -/
  | packetHeader (t : Nat) (k : Packet) (badBlock : Bool) (bad : List (Fin 4))
  /-- HUNT_CONFIRM (R154): A candidate header is confirmed by a second valid header LEN + 1 units later, and normal handling resumes. -/
  | huntConfirm (t : Nat) (hdr : BitVec 64)
  /-- SURF (R174): A consumed SURF packet reaches its effect instant and is checked against the slot state and written or rejected. -/
  | surf (t : Nat) (k : Packet) (ecc : List (Nat × Nat))
  /-- PROBE_PACKET (R174): A consumed PROBE packet writes BP1 pattern data to a slot, updating ONES, or is rejected. -/
  | probePacket (t : Nat) (k : Packet) (ecc : List (Nat × Nat))
  /-- FRAME_WRITE (R148): A FRAME WRITE places a descriptor into the shadow descriptor and is acknowledged. -/
  | frameWrite (t : Nat) (k : Packet)
  /-- FRAME_COMMIT (R88): A FRAME COMMIT validates the shadow descriptor and either queues it with its pins or refuses it with a reason code. -/
  | frameCommit (t : Nat) (k : Packet)
  /-- FRAME_WRITE_COMMIT (R148): A FRAME WRITE_COMMIT writes the shadow descriptor and then commits it. -/
  | frameWriteCommit (t : Nat) (k : Packet)
  /-- FRAME_DISCARD (R88): A FRAME DISCARD clears the shadow descriptor. -/
  | frameDiscard (t : Nat) (k : Packet)
  /-- DICT_REQUEST (R149): A consumed DICT REQUEST packet hands one dictionary message to the dictionary server's Ferry queue. -/
  | dictRequest (t : Nat) (k : Packet)
  /-- TIME_PACKET (R150): A TIME packet is checked against the last good marker COUNT and used as a domain A sync sample or counted as stale. -/
  | timePacket (t : Nat) (k : Packet)
  /-- ENUM (R145): A CHAIN ENUM packet is held until its trailer passes, gives the engine its address or overflow, and is forwarded with the new COUNT. -/
  | enum (t : Nat) (k : Packet)
  /-- ECHO (R151): An ECHO addressed to the engine is answered with its TAG and the local arrival time. -/
  | echo (t : Nat) (k : Packet)
  /-- STATUS_REQ (R152): A STATUS_REQ makes the engine send a STATUS packet. -/
  | statusReq (t : Nat) (k : Packet)
  /-- OWN_PACKET_INSERT (R137): A queued own packet is inserted in place of an IDLE packet of enough length in the output. -/
  | ownPacketInsert (t : Nat) (units : Nat)
  /-- STATUS_PERIOD (R152): ferry.status_period expires and a STATUS packet is sent. -/
  | statusPeriod (t : Nat)
  /-- SLOT_CONFIGURE (R177): A write of slot.configure sets a slot descriptor and moves the slot to FILLING, or is refused with a result code. -/
  | slotConfigure (t : Nat) (p : Path) (data : List Byte)
  /-- SLOT_READY (R177): The READY command of slot.command makes a slot READY or PINNED, or starts the tile check of a compressed slot. -/
  | slotReady (t : Nat) (p : Path) (v : Nat)
  /-- SLOT_RELEASE (R177): The RELEASE command of slot.command frees a slot or sets RELEASE_PENDING. -/
  | slotRelease (t : Nat) (p : Path) (v : Nat)
  /-- SLOT_CHECK_END (R173): The ready check of a compressed slot ends, recording its outcome in CHECK and moving the slot on or leaving it FILLING. -/
  | slotCheckEnd (t : Nat) (n : Fin 256) (ecc : List (Nat × Nat))
  /-- SCRUB (R165): The scrubber reads a word of a slot area or the flatten cache, correcting single-bit errors. -/
  | scrub (t : Nat) (word : Nat) (errors : Nat)
  /-- CACHE_SIZE_WRITE (R209): A write of surf.cache_size is refused or resizes and empties the flatten cache. -/
  | cacheSizeWrite (t : Nat) (p : Path) (v : Nat)
  /-- PALETTE_WRITE (R169): A write of palette.data replaces a palette, or is refused while a pinned slot references it. -/
  | paletteWrite (t : Nat) (p : Path) (n : Fin 32) (data : List Byte)
  /-- MODE_COMMIT (R73): A write of frame.mode_commit validates the shadow timing mode and makes it pending, starting or restarting retiming, or refuses it. -/
  | modeCommit (t : Nat) (p : Path) (v : Nat)
  /-- RETIMING_END (R75): Retiming of the subframe sequencer ends, so the pending mode takes effect at the next frame boundary. -/
  | retimingEnd (t : Nat)
  /-- GATE_WINDOW_OPEN (R90): The gate window of a launch opens; the launch decision, timing match, budget sample, item placement and gate-plane streaming begin. -/
  | gateWindowOpen (t : Nat) (k : GateKind) (at_ : Nat) (ecc : List (Nat × Nat))
  /-- GATE_WINDOW_CLOSE (R21): The gate window closes 4 µs before the launch with the shadow gate bits of both halves complete. -/
  | gateWindowClose (t : Nat)
  /-- FRAME_LAUNCH (R43): At a frame boundary the shadow drive words and gate bits become active (or only the gate bits for a repeat) and the ramp starts in RUN. -/
  | frameLaunch (t : Nat)
  /-- GATE_LAUNCH (R43): A subframe launch or item launch copies every shadow gate bit to its active gate bit. -/
  | gateLaunch (t : Nat)
  /-- RAMP_TAIL (R46): The ramp reaches step 8192 and goes to TAIL for the rest of the subframe. -/
  | rampTail (t : Nat)
  /-- OFFWIN_START (R77): An off-window starts: the ramp pauses for a whole-array window, or a gate launch applies rule 7 for a maskable-only window. -/
  | offwinStart (t : Nat) (w : Fin 4)
  /-- OFFWIN_END (R77): An off-window ends, returning the ramp to RUN or restoring the gate plane. -/
  | offwinEnd (t : Nat) (w : Fin 4)
  /-- PROBE_SLOT_START (R81): A probe slot starts with a gate launch loading the probe pattern and the ramp in FORCE. -/
  | probeSlotStart (t : Nat) (q : Fin 2)
  /-- PROBE_SLOT_END (R81): A probe slot ends with a gate launch restoring the normal gate plane and RUN. -/
  | probeSlotEnd (t : Nat) (q : Fin 2)
  /-- PROBE_PAUSE (R82): A probe slot shorter than 56 µs ends and the ramp goes from FORCE to PAUSE until the end launch. -/
  | probePause (t : Nat) (q : Fin 2)
  /-- CALIBRATION_CLAIM (R84): The 8 µs calibration claim PAUSE begins before the frame's last boundary. -/
  | calibrationClaim (t : Nat)
  /-- COMPOSITION_START (R213): A descriptor becomes head of the queue; the Square samples its inputs, decides stale and omitted layers and chooses its path. -/
  | compositionStart (t : Nat)
  /-- COMPOSE_ROW (R187): The Square composes one row of codes into a half's line buffer when there is room. -/
  | composeRow (t : Nat) (south : Bool) (ecc : List (Nat × Nat)) (bankErr : List Nat)
  /-- PROTECTED_LAYER_WRITE (R201): A write of protected.layer stages a new protected record or is refused. -/
  | protectedLayerWrite (t : Nat) (p : Path) (data : List Byte)
  /-- MASK_SET (R219): A MASK SET packet is checked and becomes the set in force from the first gate launch it meets, or is rejected. -/
  | maskSet (t : Nat) (k : Packet)
  /-- MASK_RENEW (R219): A MASK RENEW restarts the lifetime of the set in force, or is rejected. -/
  | maskRenew (t : Nat) (k : Packet)
  /-- MASK_EXPIRY (R231): The lifetime of the mask set ends, the expired-mask policy applies and the mask-expiry source is raised. -/
  | maskExpiry (t : Nat)
  /-- QUAY_ROW_CORRECT (R243): The Quay corrects the pixels of a row into drive words once their codes and donors are present and output space exists. -/
  | quayRowCorrect (t : Nat) (south : Bool)
  /-- ROW_UNDERRUN (R245): quay.row_timeout expires while a begun row waits for codes; the row is completed with repeated words and flagged. -/
  | rowUnderrun (t : Nat) (south : Bool) (x : Nat)
  /-- ROW_SEND (R247): A whole corrected row enters the bridge from the output buffer outside gate windows and is written to the array. -/
  | rowSend (t : Nat) (south : Bool)
  /-- SENSE_WINDOW_DONE (R271): A sense-converter window completes and its result is judged, discarded or used. -/
  | senseWindowDone (t : Nat) (px : Nat) (py : Nat) (kind : SenseKind) (cut : Bool) (rail : Nat) (vf : Nat) (cur : Nat)
  /-- FORCED_PULSE (R267): A pending forced-pulse command reaches its execution instant and drives one pixel at HI for 2.0 µs. -/
  | forcedPulse (t : Nat) (d : Fin 128)
  /-- STUCK_SCREEN (R274): The 100 ms screening period of a district falls due and a Sum-mode screen and bisection search run. -/
  | stuckScreen (t : Nat) (d : Fin 128) (sum : Nat) (windows : List Nat)
  /-- SWEEP_END (R265): A sweep period ends; diag.sweep_count increments and per-district counts are reported. -/
  | sweepEnd (t : Nat)
  /-- DIAG_TABLE_CLEAR (R279): A write of diag.table_clear empties the failed-pixel table. -/
  | diagTableClear (t : Nat) (p : Path) (v : Nat)
  /-- GAIN_UPDATE (R287): A write of diag.gain_update writes gain codes into a district's idle bank and puts it in force, or is refused. -/
  | gainUpdate (t : Nat) (p : Path) (data : List Byte)
  /-- REF_CURRENT (R291): REF_CURRENT calibration of a district falls due, measures I_HI against I_M and chooses a new code. -/
  | refCurrent (t : Nat) (d : Fin 128) (iHi : Nat)
  /-- SENSE_CALIBRATION (R286): The SENSE calibration of a district measures and corrects the converter's zero and gain. -/
  | senseCalibration (t : Nat) (d : Fin 128) (offset gain : Int) (inRange : Bool)
  /-- STORE_CHECK (R288): STORE_CHECK compares calibration-store words with factory calibration and rewrites those that differ. -/
  | storeCheck (t : Nat)
  /-- REXT_MONITOR (R290): The once-per-second REXT check finds the resistance in or out of range. -/
  | rextMonitor (t : Nat) (ohms : Nat)
  /-- CALIBRATION_NO_GAP (R285): A calibration type finds no usable interval for 10 s and reports NO_GAP. -/
  | calibrationNoGap (t : Nat) (k : Fin 8)
  /-- LIGHT_DARK (R333): The dark offset of every photodiode channel is measured in a long enough off-window or TAIL. -/
  | lightDark (t : Nat) (offsets : List Int)
  /-- TEMP_MAP (R321): The 1 s TEMP_MAP calibration compares the Vf map with the diode and adjusts the map offset. -/
  | tempMap (t : Nat)
  /-- CONTROL_SAMPLE (R303): At each TB7 tick the control engine computes the set-point, loop and feed-forward outputs and new phase references. -/
  | controlSample (t : Nat) (v : Nat) (cur : List Int)
  /-- LEVEL_STEP (R314): Every 1,000th sample the LEVEL channel of the profile generator takes one step. -/
  | levelStep (t : Nat)
  /-- PHASE_SWITCH (R301): A phase comparator turns its PHG line on or off by the hysteretic law or the cycle-by-cycle limit. -/
  | phaseSwitch (t : Nat) (ph : Fin 4) (cur : Int)
  /-- FREE_RUNNING (R305): No sample occurs for 5 µs and the control engine enters free-running mode. -/
  | freeRunning (t : Nat)
  /-- FREE_RUN_SWITCH (R305): In free-running mode VLED crosses V_hold ± 50 mV and all phases switch together. -/
  | freeRunSwitch (t : Nat) (v : Nat)
  /-- VLED_OVERVOLTAGE (R317): VLED exceeds supply.ov_limit for 2 µs and all PHG lines go to 0. -/
  | vledOvervoltage (t : Nat) (v : Nat)
  /-- OVERVOLTAGE_RESTART (R317): 1 ms after VLED falls below ov_limit − 200 mV switching restarts. -/
  | overvoltageRestart (t : Nat) (v : Nat)
  /-- VLED_UNDERVOLTAGE (R317): VLED stays 400 mV below the set-point for 100 µs while switching, clearing the integrator. -/
  | vledUndervoltage (t : Nat) (v : Nat)
  /-- SENSE_FAULT (R317): A phase current sense is out of range or does not rise, and the phase is held at 0. -/
  | senseFault (t : Nat) (ph : Fin 4)
  /-- SENSE_RETRY (R317): 1 ms after a sense fault the phase is retried once. -/
  | senseRetry (t : Nat) (ph : Fin 4)
  /-- PHASE_IMBALANCE (R317): A phase current deviates from the mean by more than 25 % for 1 ms. -/
  | phaseImbalance (t : Nat) (ph : Fin 4)
  /-- REP_CLEAR (R313): A write of supply.rep_clear clears the repetitive-controller table. -/
  | repClear (t : Nat) (p : Path) (v : Nat)
  /-- THERMAL_SAMPLE (R323): Every 10 ms the Helm core samples and filters every temperature source. -/
  | thermalSample (t : Nat) (diode : Option Int) (ntcUv : List Nat) (ctl : Option Int)
  /-- THERMAL_LEVEL_CHANGE (R325): A thermal level dwell of 250 ms ends and the array level rises or falls. -/
  | thermalLevelChange (t : Nat)
  /-- THROTTLE_STEP_DOWN (R326): A throttle threshold has held for 250 ms and the throttle step n falls by 1. -/
  | throttleStepDown (t : Nat)
  /-- THROTTLE_STEP_UP (R326): All sources have stayed below their thresholds for 1 s and n rises by 1. -/
  | throttleStepUp (t : Nat)
  /-- COLD_START_END (R329): The 1 s cold-start margin of a source ends. -/
  | coldStartEnd (t : Nat) (ntc : Bool)
  /-- MANAGEMENT_RESTART (R332): The control sensor has read below 110 °C for 1 s and management boots as after RSTN. -/
  | managementRestart (t : Nat)
  /-- COLOUR_LOOP (R335): Once per second the colour loop updates k_cool and k_warm or holds. -/
  | colourLoop (t : Nat) (blue broad : Int)
  /-- FLUX_FAULT (R336): phi stays below tolerance for 10 s with a gain at its bound, raising the flux source. -/
  | fluxFault (t : Nat)
  /-- COLOUR_FAULT (R336): light.cct stays outside its box for 10 s, raising the colour source. -/
  | colourFault (t : Nat)
  /-- PROGRAM_WRITE (R348): A write of pattern.program checks and installs a program, leaving the engine STOPPED, or refuses it. -/
  | programWrite (t : Nat) (p : Path) (e : Fin 8) (data : List Byte)
  /-- ARM (R353): The ARM command moves a pattern engine to ARMED. -/
  | arm (t : Nat) (p : Option Path) (e : Fin 8)
  /-- STOP (R353): The STOP command moves a pattern engine to STOPPED. -/
  | stop (t : Nat) (p : Option Path) (e : Fin 8)
  /-- TRIGGER (R354): The TRIGGER command latches a DICT trigger for one engine. -/
  | trigger (t : Nat) (p : Option Path) (e : Fin 8)
  /-- TRIGGER_SET (R354): A write of pattern.trigger_set latches DICT triggers for several engines in one tick. -/
  | triggerSet (t : Nat) (p : Option Path) (v : Nat)
  /-- TIME_TRIGGER (R354): Local time reaches a TIME trigger's time while time is valid, latching the trigger. -/
  | timeTrigger (t : Nat) (e : Fin 8)
  /-- PE_LOAD (R456): A write of PE_LOAD_LEN starts loading a program from SRAM and checking it as pattern.program. -/
  | peLoad (t : Nat) (e : Fin 8) (addr len : Nat) (customer : Bool) (data : List Byte)
  /-- CAN_SYNC (R367): A domain B SYNC frame is received and the local time at its start-of-frame edge is captured. -/
  | canSync (t : Nat) (f : CanFrame)
  /-- CAN_FOLLOW (R367): A FOLLOW message forms a domain B sample with the last SYNC capture or is discarded. -/
  | canFollow (t : Nat) (f : CanFrame)
  /-- DOMAIN_LOSS (R369): No sample of a domain is accepted for 3 × INTERVAL; the domain becomes LOST and a switch or holdover follows. -/
  | domainLoss (t : Nat) (d : Dom)
  /-- DOMAIN_RETURN (R370): The preferred domain has been LOCKED for 10 s and the engine returns to it. -/
  | domainReturn (t : Nat)
  /-- TIME_STEP_WRITE (R362): A write of time.step arms a step at the next accepted sample of the selected domain. -/
  | timeStepWrite (t : Nat) (p : Path) (v : Nat)
  /-- TP_MODE_WRITE (R379): A write of tp.mode applies the pin's configuration as one set or is refused. -/
  | tpModeWrite (t : Nat) (p : Path) (n : Fin 4) (v : Nat)
  /-- TP_PULSE_START (R378): A programmed time or launch is reached and a TP pin goes to its active level. -/
  | tpPulseStart (t : Nat) (n : Fin 4)
  /-- TP_PULSE_END (R377): tp.width ends or the window ends and the TP pin returns to its inactive level. -/
  | tpPulseEnd (t : Nat) (n : Fin 4)
  /-- TC_CAPTURE (R381): A selected edge on TC0 or TC1 is time-stamped into the FIFO and offered as a PIN trigger. -/
  | tcCapture (t : Nat) (n : Fin 2) (falling : Bool) (width : Nat)
  /-- TC_ACK (R382): A write of tc.ack with the SEQ of the oldest entry removes it. -/
  | tcAck (t : Nat) (p : Path) (n : Fin 2) (v : Nat)
  /-- BLANKING_TIMEOUT (R393): The blanking command is not acknowledged within 10 µs, raising source 0xDB. -/
  | blankingTimeout (t : Nat)
  /-- LIMP_LOAD_DONE (R394): The limp loader finishes loading the limp beam, so a limp launch follows at the next gate window. -/
  | limpLoadDone (t : Nat)
  /-- TOLLGATE_CLEAR (R401): A write of tollgate.clear clears one latched source or is refused with a result code. -/
  | tollgateClear (t : Nat) (p : Path) (v : Nat)
  /-- CLEAR_ALL (R401): A write of tollgate.clear_all clears every qualifying latched source or is refused. -/
  | clearAll (t : Nat) (p : Path) (v : Nat)
  /-- RESET_ARM (R403): A write of 0x5A to tollgate.reset starts the dictionary reset sequence. -/
  | resetArm (t : Nat) (p : Path)
  /-- RESET_CONFIRM (R403): A write of 0xA5 within 100 ms of 0x5A issues a dictionary reset request. -/
  | resetConfirm (t : Nat) (p : Path)
  /-- SRESET_RISE (R402): A rising SRESET edge while armed starts a pulse and disarms the input. -/
  | sresetRise (t : Nat)
  /-- SRESET_REQUEST (R402): SRESET stays high for 10 ms and one reset request is issued. -/
  | sresetRequest (t : Nat)
  /-- SRESET_JAM (R402): SRESET stays high for more than 5 s and source 0x04 is raised. -/
  | sresetJam (t : Nat)
  /-- SRESET_ARM (R402): SRESET has been low for 50 ms and the input is armed. -/
  | sresetArm (t : Nat)
  /-- LEN_CHANGE (R405): A filtered light-enable channel changes, updating agreement and light permission. -/
  | lenChange (t : Nat) (channelB : Bool) (on : Bool)
  /-- DISCREPANCY_TIMEOUT (R406): The light-enable channels disagree longer than T_disc, raising 0x01 and setting the discrepancy latch. -/
  | discrepancyTimeout (t : Nat)
  /-- DISC_FB_CHANGE (R409): DISC_FB changes level and is compared with DISC_EN. -/
  | discFbChange (t : Nat) (closed : Bool)
  /-- DISC_FB_TIMEOUT (R409): T_fb expires at a disconnect-check step or with DISC_FB disagreeing, passing the step or raising 0x03. -/
  | discFbTimeout (t : Nat)
  /-- HELM_WATCHDOG (R410): The Helm core misses the Tollgate watchdog service for 100 ms; HB stops and 0xC1 is raised. -/
  | helmWatchdog (t : Nat)
  /-- LINK_LOSS_TIMEOUT (R411): The link-loss timeout expires before FL0 is regained and source 0x05 is raised. -/
  | linkLossTimeout (t : Nat)
  /-- SELF_FAULT (R412): A collector register pair mismatches; the forcing logic asserts the hold lines, drops HB and latches 0x00. -/
  | selfFault (t : Nat)
  /-- CLASS_WRITE (R386): A write of tollgate.class sets the classes of sources or is refused if any falls below its floor. -/
  | classWrite (t : Nat) (p : Path) (data : List Byte)
  /-- LIMP_PATTERN_WRITE (R396): A write of limp.pattern stages a limp pattern or is refused. -/
  | limpPatternWrite (t : Nat) (p : Path) (n : Fin 4) (data : List Byte)
  /-- FUNCTION_MAP_WRITE (R65): A write of function.map stages a new function map in the protected store. -/
  | functionMapWrite (t : Nat) (p : Path) (data : List Byte)
  /-- FACTORY_UNLOCK (R413): A write of the unlock sequence to factory.unlock enters factory mode. -/
  | factoryUnlock (t : Nat) (p : Path) (v : Nat)
  /-- FACTORY_EXIT (R413): A write of 0x00 to factory.unlock ends factory mode and removes injected causes. -/
  | factoryExit (t : Nat) (p : Path)
  /-- FACTORY_INJECT (R414): A write of factory.inject creates a cause of the selected form for a source. -/
  | factoryInject (t : Nat) (p : Path) (v : Nat)
  /-- FACTORY_INJECT_CLEAR (R414): A write of factory.inject_clear removes every injected cause. -/
  | factoryInjectClear (t : Nat) (p : Path) (v : Nat)
  /-- POWER_UP (R428): Every supply is in range with RSTN high, and the engine goes from OFF to BOOT with domains powering up in order. -/
  | powerUp (t : Nat) (testen : Bool) (lenA lenB : Bool) (fbClosed : Bool)
  /-- RSTN_LOW (R517): RSTN is low for at least 10 µs and the engine goes to OFF. -/
  | rstnLow (t : Nat)
  /-- VAON_LOSS (R515): VAON falls below its power-on range and the engine goes to OFF. -/
  | vaonLoss (t : Nat)
  /-- BOOT_START (R467): HELM and NVM are on and the boot ROM reads the boot record. -/
  | bootStart (t : Nat)
  /-- IMAGE_VERIFY_DONE (R467): Verification of the firmware bank completes; the Helm firmware runs and BOOT ends, or the other bank is tried. -/
  | imageVerifyDone (t : Nat) (ok : Bool) (version : Nat) (vccOk : Bool) (chk : BootCheck)
  /-- COMMAND_STANDBY (R431): power.command STANDBY starts the two-phase entry to STANDBY or is refused. -/
  | commandStandby (t : Nat) (p : Path)
  /-- COMMAND_QUIET (R431): power.command QUIET starts the two-phase entry to QUIET or is refused. -/
  | commandQuiet (t : Nat) (p : Path)
  /-- COMMAND_READY (R428): power.command READY starts exit from QUIET or the change from LIT to READY. -/
  | commandReady (t : Nat) (p : Path) (vccOk : Bool)
  /-- COMMAND_LIT (R429): power.command LIT moves the engine from READY to LIT or is refused. -/
  | commandLit (t : Nat) (p : Path) (vccOk : Bool)
  /-- PREPARE_ANSWER (R433): A block answers the prepare request with a grant or a refusal. -/
  | prepareAnswer (t : Nat) (b : PrepBlock)
  /-- PREPARE_RETRY (R433): 10 ms after a refusal the prepare request is repeated. -/
  | prepareRetry (t : Nat)
  /-- EI2_WAIT_TIMEOUT (R431): 1.0 ms after commit without EI2 slots the transmitters are turned off and FTX powers down. -/
  | ei2WaitTimeout (t : Nat)
  /-- DOMAIN_BOUND_MISS (R427): A domain misses its power-up or power-down bound, raising source 0xE0 + i. -/
  | domainBoundMiss (t : Nat) (dm : Fin 16)
  /-- WAKE_EVENT (R437): An enabled wake source fires and is latched or starts exit to READY. -/
  | wakeEvent (t : Nat) (w : Wake) (vccOk : Bool)
  /-- EXIT_COMPLETE (R438): Loading from MRAM completes and the engine enters READY with its entry actions. -/
  | exitComplete (t : Nat)
  /-- VCC_RECOVERED (R536): The VCC monitor reads at least 0.70 V and a pending change to READY proceeds. -/
  | vccRecovered (t : Nat)
  /-- VCC_LOW (R33): VCC stays below 0.69 V for 10 µs in READY or LIT and source 0xB5 is raised. -/
  | vccLow (t : Nat)
  /-- VCC_MONITOR_CLEAR (R33): VCC has been at or above 0.70 V for 1 ms and the cause of 0xB5 ends. -/
  | vccMonitorClear (t : Nat)
  /-- RAIL_TRIP (R515): A rail crosses a trip threshold for 10 µs and its monitor source is raised. -/
  | railTrip (t : Nat) (r : Fin 6)
  /-- RAIL_RECOVER (R515): A rail has lain between its thresholds for 1 ms and its cause ends. -/
  | railRecover (t : Nat) (r : Fin 6)
  /-- KEEPER_STARTED (R421): The amplitude detector counts 4,096 periods and the keeper leaves STARTING. -/
  | keeperStarted (t : Nat)
  /-- KEEPER_PERIOD_FAULT (R421): 4 consecutive keeper periods lie out of range; TB5 is declared stopped and 0xF5 raised. -/
  | keeperPeriodFault (t : Nat)
  /-- KEEPER_TIMEOUT (R423): 10 s pass without a keeper measurement and the keeper returns to UNQUALIFIED. -/
  | keeperTimeout (t : Nat)
  /-- MONITOR_WINDOW (R424): A 1,024-period monitor window ends and TB0 is judged against the keeper, tripping on disagreement. -/
  | monitorWindow (t : Nat) (n : Nat) (noEdge : Bool)
  /-- FORCED_SWITCH (R419): The source being left shows no edge in time and the timebase switch is forced. -/
  | forcedSwitch (t : Nat) (tb : Fin 13) (toKeeper : Bool)
  /-- TIMEBASE_STOPPED (R420): A timebase stops without a fallback taking over within 1.0 µs, raising 0xF0 + n. -/
  | timebaseStopped (t : Nat) (tb : Fin 13)
  /-- TAP_RESET_EXIT (R534): The test access port leaves reset and DISC_EN and every PHG line are held low. -/
  | tapResetExit (t : Nat) (cells : BitVec 19)
  /-- CLAIM (R450): A read of CLAIM returns the winning source, clears its pending bit and puts it in service. -/
  | claim (t : Nat) (c : CoreId) (cfg : Option IrqCfg)
  /-- COMPLETE (R450): A write of COMPLETE ends service of a source, re-sampling levels and recorded edges. -/
  | complete (t : Nat) (c : CoreId) (id : Fin 256)
  /-- MODERATION_HOLDOFF (R453): The HOLDOFF of a moderated source expires and it becomes pending. -/
  | moderationHoldoff (t : Nat) (c : CoreId) (id : Fin 256)
  /-- TIMER_FIRE (R454): A core timer reaches its compare value and fires, rearming in periodic mode. -/
  | timerFire (t : Nat) (c : CoreId) (k : Fin 4)
  /-- TNOW_READ (R455): A read of TNOW_NS latches the local clock seconds for TNOW_SEC_LO and TNOW_SEC_HI. -/
  | tnowRead (t : Nat)
  /-- MAILBOX_TIMEOUT (R455): A customer-object request is not completed within 100 ms and is answered TIMEOUT. -/
  | mailboxTimeout (t : Nat)
  /-- LOG_APPEND (R455): A write of LOG_CODE appends a customer log entry. -/
  | logAppend (t : Nat) (code : Byte) (ctx : List Byte)
  /-- LOG_WRITE (R466): The Helm core writes a queued log entry to the ring and, for HOLD or DARK, to the pinned log. -/
  | logWrite (t : Nat)
  /-- PIN_CLEAR (R466): A write of log.pin_clear empties the pinned log and clears log.pin_ovf. -/
  | pinClear (t : Nat) (p : Path) (v : Nat)
  /-- PURSER_WATCHDOG_SERVICE (R446): The Purser firmware writes the watchdog register to serve it. -/
  | purserWatchdogService (t : Nat)
  /-- PURSER_WATCHDOG_EXPIRY (R446): The Purser watchdog is not served in 100 ms; 0xC2 is raised and the Purser core restarts. -/
  | purserWatchdogExpiry (t : Nat)
  /-- CUSTOMER_TRAP (R448): A customer-context access outside its rights traps and the customer image is stopped. -/
  | customerTrap (t : Nat) (addr : Nat)
  /-- CORE_ACCESS_FAULT (R444): A core load or store reaches an unpowered or untimed block or an uncorrectable SRAM word and raises an access fault. -/
  | coreAccessFault (t : Nat) (c : CoreId) (a : AccessTarget) (addr : Nat) (isWrite : Bool)
  /-- VERSION (R449): The VERSION service returns the firmware version. -/
  | version (t : Nat)
  /-- ATTACH (R449): The ATTACH service attaches a handler to a customer interrupt source. -/
  | attach (t : Nat) (src : Fin 256) (addr : Nat)
  /-- YIELD (R449): The YIELD service returns when the firmware is idle again. -/
  | yield (t : Nat)
  /-- OBJECT_DONE (R449): The OBJECT_DONE service completes a customer-object request with a result. -/
  | objectDone (t : Nat) (tag : Nat) (code : Nat) (data : List Byte)
  /-- SAVE (R449): The SAVE service persists customer data through the journal. -/
  | save (t : Nat) (data : List Byte)
  /-- SR_SNAP (R457): A read of SR_SNAP freezes a copy of the safety-register region. -/
  | srSnap (t : Nat)
  /-- CRC_START (R458): The START bit of a CRC unit's CTRL begins a computation from INIT. -/
  | crcStart (t : Nat) (u : Fin 8) (ctrl poly init xorout : Nat)
  /-- CRC_FINISH (R460): The FINISH bit ends a computation, setting RESULT and incrementing RSEQ. -/
  | crcFinish (t : Nat) (u : Fin 8)
  /-- CRC_PRESET (R458): A write of PRESET loads a parameter set into a CRC unit. -/
  | crcPreset (t : Nat) (u : Fin 8) (n : Nat)
  /-- CRC_DATA (R458): A write of DATA feeds 1, 2 or 4 bytes to a CRC unit. -/
  | crcData (t : Nat) (u : Fin 8) (value : Option Nat) (data : List Byte)
  /-- RINFO_READ (R460): A read of RINFO latches RESULT with its sequence. -/
  | rinfoRead (t : Nat) (u : Fin 8)
  /-- MRAM_PROGRAM_DONE (R461): A 64-byte MRAM program unit completes. -/
  | mramProgramDone (t : Nat) (readOk : Bool)
  /-- PSTORE_COMMIT (R465): A write of pstore.commit starts verification of the staging copy of the protected store. -/
  | pstoreCommit (t : Nat) (p : Path) (v : Nat)
  /-- PSTORE_VERIFY_DONE (R465): Verification of the protected store ends, making staging the copy in force and loading buffers, or discarding it. -/
  | pstoreVerifyDone (t : Nat)
  /-- OPEN_FW (R470): update.control OPEN_FW opens a firmware update and erases the idle bank. -/
  | openFw (t : Nat) (p : Path)
  /-- OPEN_CUSTOMER (R470): update.control OPEN_CUSTOMER opens a customer-image update and stops a running customer image. -/
  | openCustomer (t : Nat) (p : Path)
  /-- VERIFY (R470): update.control VERIFY checks the received image under R469. -/
  | verify (t : Nat) (p : Path)
  /-- ACTIVATE (R470): update.control ACTIVATE makes the verified image current and updates its counter. -/
  | activate (t : Nat) (p : Path)
  /-- ABORT_UPDATE (R470): update.control ABORT returns the update path to IDLE. -/
  | abortUpdate (t : Nat) (p : Path)
  /-- REBOOT (R470): update.control REBOOT restarts the engine as after RSTN, or is refused in LIT. -/
  | reboot (t : Nat) (p : Path)
  /-- UPDATE_IMAGE_WRITE (R470): A completed transfer to update.image appends bytes to the image. -/
  | updateImageWrite (t : Nat) (p : Path) (data : List Byte)
  /-- KEY_WRITE (R471): A write of a key slot stores and locks a public key, or is refused once locked. -/
  | keyWrite (t : Nat) (p : Path) (slot : Fin 2) (data : List Byte)
  /-- STATE_COMMAND (R505): A CAN state command acts as a write of power.command without an answer. -/
  | stateCommand (t : Nat) (f : CanFrame) (vccOk : Bool)
  /-- READ (R487): A dictionary READ is answered with READ_OK, UP_INIT or an abort. -/
  | read (t : Nat) (p : Path) (bcast : Bool) (msg : List Byte)
  /-- WRITE (R487): A dictionary WRITE carries a whole value and is answered WRITE_OK or an abort. -/
  | write (t : Nat) (p : Path) (bcast : Bool) (msg : List Byte)
  /-- DOWN_INIT (R488): DOWN_INIT opens a segmented or bulk download and is answered DOWN_READY. -/
  | downInit (t : Nat) (p : Path) (bcast : Bool) (msg : List Byte)
  /-- SEGMENT (R488): A SEGMENT carries the next download bytes or asks for the next upload bytes. -/
  | segment (t : Nat) (p : Path) (bcast : Bool) (msg : List Byte)
  /-- ABORT (R490): A host ABORT closes the open transfer without an answer. -/
  | abortTransfer (t : Nat) (p : Path) (bcast : Bool) (msg : List Byte)
  /-- BULK_ACK (R489): A host BULK_ACK asks for the next block of a bulk upload or ends it. -/
  | bulkAck (t : Nat) (p : Path) (bcast : Bool) (msg : List Byte)
  /-- BULK_SEGMENT (R489): A bulk frame of a download is received with its SEQ. -/
  | bulkSegment (t : Nat) (f : CanFrame)
  /-- BULK_ACK_TIMEOUT (R489): 10 ms after the latest frame of an incomplete block the engine answers BULK_ACK. -/
  | bulkAckTimeout (t : Nat)
  /-- TRANSFER_TIMEOUT (R490): No message arrives for an open transfer within comm.transfer_timeout and it is aborted. -/
  | transferTimeout (t : Nat) (p : Path)
  /-- IDENTIFY_RANGE (R481): IDENTIFY_RANGE makes engines with a UID in range reply PRESENT. -/
  | identifyRange (t : Nat) (f : CanFrame)
  /-- ASSIGN (R481): ASSIGN gives or removes the node number of the engine with a UID. -/
  | assign (t : Nat) (f : CanFrame)
  /-- QUERY (R481): QUERY makes numbered engines reply IDENT. -/
  | query (t : Nat) (f : CanFrame)
  /-- NODE_COLLISION (R482): A frame with the engine's own node number that it did not send, or a data bit error, raises 0xD1. -/
  | nodeCollision (t : Nat)
  /-- COLLISION_CLEAR (R482): 2 s pass without a collision and the cause of 0xD1 ends. -/
  | collisionClear (t : Nat)
  /-- BUS_OFF (R478): The CAN controller enters bus-off, raising 0xD0 and closing CAN transfers. -/
  | busOff (t : Nat)
  /-- BUS_OFF_RECOVERY (R478): 128 occurrences of 11 recessive bits complete bus-off recovery. -/
  | busOffRecovery (t : Nat)
  /-- CAN_JOIN (R476): After the keeper is qualified the controller sees 11 recessive bits and joins the bus. -/
  | canJoin (t : Nat)
  /-- HEARTBEAT_MESSAGE (R504): comm.heartbeat_period expires and a heartbeat message is sent. -/
  | heartbeatMessage (t : Nat)
  /-- EVENT_MODERATION (R503): A moderated event code reaches its count or HOLDOFF and one message is sent. -/
  | eventModeration (t : Nat) (p : Path) (code : Nat)
  /-- SUMMARY (R503): A path can send again and one SUMMARY replaces the held events. -/
  | summary (t : Nat) (p : Path)
  /-- COMM_SAVE (R494): A write of comm.save stores every persist object through the journal. -/
  | commSave (t : Nat) (p : Path) (v : Nat)
  /-- COMM_RESTORE (R494): A write of comm.restore erases every saved value. -/
  | commRestore (t : Nat) (p : Path) (v : Nat)
  /-- COMM_SNAPSHOT (R496): A write of comm.snapshot freezes every measurement object of the path at one instant. -/
  | commSnapshot (t : Nat) (p : Path) (v : Nat)
  /-- MEASUREMENT_READ (R495): A read of subindex 0 of a measurement object freezes a new copy of all its subindices. -/
  | measurementRead (t : Nat) (p : Path) (idx : Nat)
  /-- SESSION_CHALLENGE (R498): A read of session.challenge returns 16 new random bytes and voids the previous challenge. -/
  | sessionChallenge (t : Nat) (p : Path)
  /-- SESSION_RESPONSE (R498): A write of session.response opens a session if it matches, or counts a failure. -/
  | sessionResponse (t : Nat) (p : Path) (data : List Byte)
  /-- SESSION_CLOSE (R499): A write of session.close closes the path's session. -/
  | sessionClose (t : Nat) (p : Path) (v : Nat)
  /-- SESSION_KEY (R497): A write of session.key stores the session key once, through the journal. -/
  | sessionKey (t : Nat) (p : Path) (data : List Byte)
  /-- SESSION_TIMEOUT (R499): session.timeout passes without a write and the session closes. -/
  | sessionTimeout (t : Nat) (p : Path)
  /-- LOCKOUT_END (R500): The 60 s challenge lockout of a path ends. -/
  | lockoutEnd (t : Nat) (p : Path)
  /-- OBJECT_WRITE (R492): A write of an object without a row of its own is checked and stored, taking effect as its chapter states. -/
  | objectWrite (t : Nat) (p : Path) (idx sub : Nat) (data : List Byte)
  /-- CAN_START_OF_FRAME (R422): A CAN frame received without error while the link is down spans its start-of-frame edge to its last arbitration edge and gives a KEEPER measurement, which may qualify or unqualify the keeper. -/
  | canStartOfFrame (t : Nat) (bits c : Nat)
  /-- FERRY_RX (R285): Each 1 s of FL0 in which every lane has adapted completes the FERRY_RX calibration, recording the largest CTLE change, count and times. -/
  | ferryRx (t : Nat) (ctle : List Nat) (dfe : List (List Int)) (eye : List Nat) (change : Nat)
  /-- HOLD_LINE_READBACK (R389): The hold-line state read back from the emitter die has differed from the commanded state for 10 µs, raising source 0xD8 or 0xD9 at DARK. -/
  | holdLineReadback (t : Nat) (south : Bool) (asserted : Bool)
  /-- WATCHDOG_WARNING (R453): A core's watchdog reaches 20 ms before expiry and raises its watchdog-warning interrupt source 5. -/
  | watchdogWarning (t : Nat) (c : CoreId)
  /-- TMR_CTRL_WRITE (R455): A write of ENABLE in TMR_CTRL arms or disarms a core timer with its compare value and mode, and a write of 1 to FIRED clears it. -/
  | tmrCtrlWrite (t : Nat) (c : CoreId) (k : Fin 4) (ctrl : Nat) (sec ns period : Nat)
deriving DecidableEq, Repr

end Sys2Proof
end

