-- ==== Sys2Proof/Decode.lean ====
section
/-!
DEFINITION. The command a word spells: the opcode table gives no row any bits, so no word spells a command (log 4).
-/

namespace Sys2Proof

/-- The command whose bits are `w` in a row of `nbits` bits: no row has bits (log 4). -/
def decodeTableWord (_nbits _w : Nat) : Option Instr := none

end Sys2Proof
end

