-- ==== Sys2Proof/Machine/Crypto.lean ====
section
/-!
DEFINITION. The hash and signature functions of Table 0.5 the spec calls by name: SHA-256 (FIPS 180-4), HMAC (FIPS 198-1)
and the verification of ECDSA over P-256 (FIPS 186-4), as R465, R468 and R498 use them.
-/

namespace Sys2Proof.Machine

/-! ## SHA-256 -/

/-- Big-endian value of a list of bytes. -/
def beNat (bs : List Byte) : Nat := bs.foldl (fun a b => 256 * a + b.toNat) 0

/-- The `n` big-endian bytes of a value. -/
def beBytes (n v : Nat) : List Byte := (leBytes n v).reverse

/-- The integer part of the `k`-th root of `n`, over `b` bits of the root, found from its top bit down. -/
def rootFloor (k n b : Nat) : Nat :=
  (upTo b).foldl (fun r i => let c := r + 2 ^ (b - 1 - i); if c ^ k ≤ n then c else r) 0

/-- The first 32 bits of the fraction of the `k`-th root of a number. -/
def rootFraction (k n : Nat) : BitVec 32 := BitVec.ofNat 32 (rootFloor k (n * 2 ^ (32 * k)) 40)

/-- The primes below 312: the first 64. -/
def shaPrimes : List Nat := ((upTo 312).drop 2).filter (fun n => [2, 3, 5, 7, 11, 13, 17].all (fun d => n == d || n % d != 0))

/-- Constants of the rounds: fractions of the cube roots of the first 64 primes (FIPS 180-4, 4.2.2). -/
def shaConsts : List (BitVec 32) := shaPrimes.map (rootFraction 3)

/-- The eight chaining words; between rounds, the working words. -/
structure ShaWords where
  a : BitVec 32
  b : BitVec 32
  c : BitVec 32
  d : BitVec 32
  e : BitVec 32
  f : BitVec 32
  g : BitVec 32
  h : BitVec 32

/-- The initial words: fractions of the square roots of the first eight primes (FIPS 180-4, 5.3.3). -/
def shaStart : ShaWords :=
  let r := fun i => rootFraction 2 (nth shaPrimes i 0)
  ⟨r 0, r 1, r 2, r 3, r 4, r 5, r 6, r 7⟩

/-- Three rotations of a word joined. -/
def rot3 (i j k : Nat) (x : BitVec 32) : BitVec 32 := x.rotateRight i ^^^ x.rotateRight j ^^^ x.rotateRight k

/-- A function of the message schedule: two rotations and a shift joined. -/
def shaMix (i j k : Nat) (x : BitVec 32) : BitVec 32 := x.rotateRight i ^^^ x.rotateRight j ^^^ (x >>> k)

/-- A round takes the oldest of the sixteen words in its window of the schedule and a constant; the window moves by the word
that follows it. -/
def shaRound (st : ShaWords × List (BitVec 32)) (k : BitVec 32) : ShaWords × List (BitVec 32) :=
  let (v, w) := st
  let pick := v.g ^^^ (v.e &&& (v.f ^^^ v.g))
  let most := (v.a &&& v.b) ||| (v.c &&& (v.a ||| v.b))
  let x := k + nth w 0 0 + v.h + pick + rot3 6 11 25 v.e
  let next := nth w 0 0 + shaMix 7 18 3 (nth w 1 0) + nth w 9 0 + shaMix 17 19 10 (nth w 14 0)
  ({ a := x + most + rot3 2 13 22 v.a, b := v.a, c := v.b, d := v.c, e := v.d + x, f := v.e, g := v.f, h := v.g },
   w.drop 1 ++ [next])

/-- One block of 64 bytes. -/
def shaBlock (v : ShaWords) (blk : List Byte) : ShaWords :=
  let x := (shaConsts.foldl shaRound (v, (upTo 16).map (fun i => BitVec.ofNat 32 (beNat ((blk.drop (4 * i)).take 4))))).1
  ⟨v.a + x.a, v.b + x.b, v.c + x.c, v.d + x.d, v.e + x.e, v.f + x.f, v.g + x.g, v.h + x.h⟩

/-- SHA-256 of a message: padded to whole blocks with a 1 bit, 0 bits and its length in bits. -/
def sha256 (m : List Byte) : List Byte :=
  let p := m ++ 0x80 :: (List.replicate ((119 - m.length % 64) % 64) 0 ++ beBytes 8 (8 * m.length))
  let v := (upTo (p.length / 64)).foldl (fun v i => shaBlock v ((p.drop (64 * i)).take 64)) shaStart
  [v.a, v.b, v.c, v.d, v.e, v.f, v.g, v.h].flatMap (fun w => beBytes 4 w.toNat)

/-- HMAC-SHA-256 with a key of at most 64 bytes. -/
def hmac256 (key m : List Byte) : List Byte :=
  let k := padTo 64 key
  let x := fun (c : Byte) => k.map (· ^^^ c)
  sha256 (x 0x5C ++ sha256 (x 0x36 ++ m))

/-! ## ECDSA over P-256 -/

/-- The field prime. -/
def p256P : Nat := 2 ^ 256 - 2 ^ 224 + 2 ^ 192 + 2 ^ 96 - 1
/-- The group order. -/
def p256N : Nat := 0xffffffff00000000ffffffffffffffffbce6faada7179e84f3b9cac2fc632551
/-- The curve coefficient b. -/
def p256B : Nat := 0x5ac635d8aa3a93e7b3ebbd55769886bc651d06b0cc53b0f63bce3c3e27d2604b
/-- The base point. -/
def p256G : Nat × Nat :=
  (0x6b17d1f2e12c4247f8bce6e563a440f277037d812deb33a0f4a13945d898c296,
   0x4fe342e2fe1a7f9b8ee7eb4a7c0f9e162bce33576b315ececbb6406837bf51f5)

/-- a to the power e modulo m, over n bits of e. -/
def powMod (m : Nat) : Nat → Nat → Nat → Nat
  | 0, _, _ => 1
  | n + 1, a, e => let h := powMod m n (a * a % m) (e / 2); if e % 2 = 1 then a * h % m else h

/-- Inverse modulo a prime. -/
def invMod (m a : Nat) : Nat := powMod m 256 (a % m) (m - 2)

/-- Sum of two points; none is the point at infinity. -/
def ptAdd (p q : Option (Nat × Nat)) : Option (Nat × Nat) :=
  match p, q with
  | none, q => q
  | p, none => p
  | some (x1, y1), some (x2, y2) =>
    if x1 = x2 && (y1 + y2) % p256P = 0 then none
    else
      let l := if x1 = x2 then (3 * x1 * x1 + p256P - 3) * invMod p256P (2 * y1) % p256P
        else (y2 + p256P - y1) * invMod p256P (x2 + p256P - x1) % p256P
      let x := (l * l + 2 * p256P - x1 - x2) % p256P
      some (x, (l * (x1 + p256P - x) + p256P - y1) % p256P)

/-- k times a point, over n bits of k. -/
def ptMul : Nat → Nat → Option (Nat × Nat) → Option (Nat × Nat)
  | 0, _, _ => none
  | n + 1, k, p => let h := ptMul n (k / 2) (ptAdd p p); if k % 2 = 1 then ptAdd p h else h

/-- The signature (r, s), 32 bytes each, of a message verifies against a public key, X then Y (R468, R471). -/
def ecdsaOk (key sig msg : List Byte) : Bool :=
  let x := beNat (key.take 32)
  let y := beNat (key.drop 32)
  let r := beNat (sig.take 32)
  let s := beNat (sig.drop 32)
  let e := beNat (sha256 msg)
  let on := x < p256P && y < p256P && y * y % p256P == (x * x * x + (p256P - 3) * x + p256B) % p256P
  if key.length = 64 && sig.length = 64 && on && 0 < r && r < p256N && 0 < s && s < p256N then
    let w := invMod p256N s
    match ptAdd (ptMul 256 (e * w % p256N) (some p256G)) (ptMul 256 (r * w % p256N) (some (x, y))) with
    | some (px, _) => px % p256N == r
    | none => false
  else false

end Sys2Proof.Machine
end

