-- ==== Sys2Proof/Machine/Coding.lean ====
section
/-!
DEFINITION. Pixel formats and block-plane coding (chapter 6), as functions of a byte reader: how a row, a tile and a
plane record are read (R167, R170 to R173), and the check of a compressed area.
-/

namespace Sys2Proof.Machine

/-- Reads `n` little-endian bytes at an address through a byte reader (R13). -/
def rdLe (rd : Nat → Byte) (a : Nat) : Nat → Nat
  | 0 => 0
  | n + 1 => (rd a).toNat + 256 * rdLe rd (a + 1) n

/-- `w` bits from bit offset `off` of a field packed LSB-first at byte address `a` (R172). -/
def rdBits (rd : Nat → Byte) (a off w : Nat) : Nat :=
  (rdLe rd (a + off / 8) ((off % 8 + w + 7) / 8) / 2 ^ (off % 8)) % 2 ^ w

/-- Bytes of one row of a format with `w` pixels (Table 6.3). -/
def rowBytes (fmt w : Nat) : Nat :=
  match fmt with
  | 0 => 2 * w | 1 => w | 2 => 2 * w | 3 => 3 * w | 4 => (w + 1) / 2 | 5 => w | 6 => w | _ => (w + 7) / 8

/-- Byte of its row at which pixel `x` starts (Table 6.3). -/
def pixByte (fmt x : Nat) : Nat :=
  match fmt with
  | 0 => 2 * x | 1 => x | 2 => 2 * x | 3 => 3 * x | 4 => x / 2 | 5 => x | 6 => x | _ => x / 8

/-- Bytes a pixel of a format reaches (Table 6.3). -/
def pixLen (fmt : Nat) : Nat := match fmt with | 0 => 2 | 2 => 2 | 3 => 3 | _ => 1

/-- Plane widths of a compressed format (Table 6.4). -/
def planes (fmt : Nat) : List Nat :=
  match fmt with
  | 0 => [16] | 1 => [8] | 2 => [8, 8] | 3 => [16, 8] | 4 => [4] | 5 => [8] | 6 => [8] | _ => []

/-- Tile columns and rows (R170). -/
def tilesAcross (w : Nat) : Nat := (w + 7) / 8

/-- Bytes of the value field of a plane of width B (R172). -/
def planeNb (b : Nat) : Nat := (b + 7) / 8

/-- Length of a plane record from its header byte; none for MODE 3 (R172). -/
def planeLen (b hdr : Nat) : Option Nat :=
  match hdr % 4 with
  | 0 => some (1 + planeNb b)
  | 1 => some (1 + planeNb b + 8 * bitsOf hdr 6 2)
  | 2 => some (1 + 8 * b)
  | _ => none

/-- Value `i` of the plane record of width `b` at address `a` (R172). -/
def planeVal (rd : Nat → Byte) (a b i : Nat) : Nat :=
  let h := (rd a).toNat
  let w := bitsOf h 6 2
  match h % 4 with
  | 0 => rdLe rd (a + 1) (planeNb b)
  | 1 => (rdLe rd (a + 1) (planeNb b) + rdBits rd (a + 1 + planeNb b) (w * i) w) % 2 ^ b
  | _ => rdBits rd (a + 1) (b * i) b

/-- Whether the plane record at `a` is well formed and ends at or before `stop`; answers the address after it (R173). -/
def planeCheck (rd : Nat → Byte) (a b stop : Nat) : Option Nat :=
  let h := (rd a).toNat
  let w := bitsOf h 6 2
  let m := h % 4
  if stop < a + 1 then none else
  match planeLen b h with
  | none => none
  | some n =>
    if stop < a + n then none
    else if h ≥ 128 then none
    else if m = 1 && !(1 ≤ w && w ≤ b) then none
    else if m ≠ 1 && w ≠ 0 then none
    else if b = 4 && m ≠ 2 && (rd (a + 1)).toNat ≥ 16 then none
    else some (a + n)

/-- Checks the plane records of one tile in order (R173). -/
def tileCheck (rd : Nat → Byte) (stop : Nat) : List Nat → Nat → Bool
  | [], _ => true
  | b :: bs, a => match planeCheck rd a b stop with | none => false | some a' => tileCheck rd stop bs a'

/-- The check of a compressed area: 0 passed, 7 table or entry, 8 plane record, first finding in tile raster order
(R173). `n` is the number of tiles, `k` those still to check. -/
def areaCheckFrom (rd : Nat → Byte) (base size n : Nat) (ps : List Nat) : Nat → Nat
  | 0 => 0
  | k + 1 =>
    let i := n - (k + 1)
    let e := rdLe rd (base + 4 * i) 4
    if e ≥ 2 ^ 24 then 7
    else if e < 4 * n then 7
    else if tileCheck rd (base + size) ps (base + e) then areaCheckFrom rd base size n ps k else 8

/-- The ready check of R173 over an area of `size` bytes at `base`. -/
def areaCheck (rd : Nat → Byte) (base size fmt w h : Nat) : Nat :=
  let n := tilesAcross w * tilesAcross h
  if size < 4 * n then 7 else areaCheckFrom rd base size n (planes fmt) n

/-- Address of the first plane record of the tile that holds pixel (x, y) (R170). -/
def tileAddr (rd : Nat → Byte) (base w x y : Nat) : Nat :=
  base + rdLe rd (base + 4 * ((y / 8) * tilesAcross w + x / 8)) 4 % 2 ^ 24

/-- Address of plane `p` of a tile whose first record is at `a` (R171). -/
def planeAddr (rd : Nat → Byte) : List Nat → Nat → Nat → Nat
  | b :: bs, p + 1, a => planeAddr rd bs p (a + ((planeLen b (rd a).toNat).getD 0))
  | _, _, a => a

/-- Value of plane `p` at pixel (x, y) of a compressed surface (R171, R172). -/
def compVal (rd : Nat → Byte) (base fmt w p x y : Nat) : Nat :=
  planeVal rd (planeAddr rd (planes fmt) p (tileAddr rd base w x y)) (nth (planes fmt) p 8) (8 * (y % 8) + x % 8)

/-- The geometry of a surface as its slot descriptor gives it. -/
structure Geom where
  base : Nat
  size : Nat
  width : Nat
  height : Nat
  stride : Nat
  fmt : Nat
  compressed : Bool
deriving DecidableEq, Repr

/-- Intensity, index or alpha plane of pixel (x, y), before scaling to 16 bits: `p` 0 the first component, 1 the alpha
of IA16 and IA24 (Tables 6.3, 6.4). -/
def rawPix (rd : Nat → Byte) (g : Geom) (p x y : Nat) : Nat :=
  if g.compressed then compVal rd g.base g.fmt g.width p x y
  else
    let a := g.base + y * g.stride + pixByte g.fmt x
    match g.fmt, p with
    | 0, _ => rdLe rd a 2
    | 2, 1 => (rd (a + 1)).toNat
    | 3, 0 => rdLe rd a 2
    | 3, _ => (rd (a + 2)).toNat
    | 4, _ => if x % 2 = 0 then (rd a).toNat % 16 else (rd a).toNat / 16
    | 7, _ => if (rd a).getLsbD (x % 8) then 1 else 0
    | _, _ => (rd a).toNat

/-- Intensity delivered to the Square (Table 6.3): 8-bit intensities are multiplied by 257. -/
def pixInt (rd : Nat → Byte) (g : Geom) (x y : Nat) : Nat :=
  match g.fmt with
  | 1 => rawPix rd g 0 x y * 257
  | 2 => rawPix rd g 0 x y * 257
  | _ => rawPix rd g 0 x y

/-- Alpha delivered to the Square (Tables 6.3, 7.3): 255 for I16 and I8. -/
def pixAlpha (rd : Nat → Byte) (g : Geom) (x y : Nat) : Nat :=
  match g.fmt with
  | 2 => rawPix rd g 1 x y
  | 3 => rawPix rd g 1 x y
  | 6 => rawPix rd g 0 x y
  | _ => 255

/-- Byte addresses a tap at pixel (x, y) lies in: the pixel's own bytes, or for a compressed surface the tile's table
entry and every plane record of the tile (R164). -/
def tapBytes (rd : Nat → Byte) (g : Geom) (x y : Nat) : List (Nat × Nat) :=
  if g.compressed then
    let e := g.base + 4 * ((y / 8) * tilesAcross g.width + x / 8)
    let a := tileAddr rd g.base g.width x y
    let stop := planeAddr rd (planes g.fmt) (planes g.fmt).length a
    [(e, 4), (a, stop - a)]
  else [(g.base + y * g.stride + pixByte g.fmt x, pixLen g.fmt)]

/-- Whether one of the 64-bit words that `n` bytes at `a` touch is in a list of poisoned words (R163). -/
def touchesPoison (poison : List Nat) (a n : Nat) : Bool :=
  n ≠ 0 && poison.any (fun w => a / 8 ≤ w && w ≤ (a + n - 1) / 8)

/-- A tap lies in a poisoned word (R164). -/
def tapPoisoned (rd : Nat → Byte) (poison : List Nat) (g : Geom) (x y : Nat) : Bool :=
  !poison.isEmpty && (tapBytes rd g x y).any (fun p => touchesPoison poison p.1 p.2)

end Sys2Proof.Machine
end

