-- ==== Sys2Proof/Machine/Blend.lean ====
section
/-!
DEFINITION. Sampling, blending, levelling, regions, soft mask and protected layer (chapter 7, R191 to R204), as
functions of one pixel: exact integer arithmetic, rounding towards minus infinity (R11).
-/

namespace Sys2Proof.Machine

/-- Rounded division by 255 (R196). -/
def div255 (n : Nat) : Nat := (n + 127) / 255

/-- Rounded division by 65,535 (R196). -/
def div65535 (n : Nat) : Nat := (n + 32767) / 65535

/-- Scaler coefficients of Table 7.4, by phase. -/
def scalerCf : List (List Int) :=
  [[0, 128, 0, 0], [-4, 127, 5, 0], [-6, 123, 12, -1], [-8, 118, 20, -2],
   [-9, 111, 29, -3], [-10, 103, 39, -4], [-9, 93, 50, -6], [-9, 83, 61, -7],
   [-8, 72, 72, -8], [-7, 61, 83, -9], [-6, 50, 93, -9], [-4, 39, 103, -10],
   [-3, 29, 111, -9], [-2, 20, 118, -8], [-1, 12, 123, -6], [0, 5, 127, -4]]

/-- Coefficient k of a phase. -/
def cfOf (phase k : Nat) : Int := nth (nth scalerCf phase []) k 0

/-- A source index held inside the surface (R191). -/
def clampIdx (v : Int) (n : Nat) : Nat := if v < 0 then 0 else min v.toNat (n - 1)

/-- A layer record (Table 7.2). -/
structure LayerRec where
  slot : Nat := 0
  symbol : Bool := false
  isStatic : Bool := false
  lflagsRsv : Nat := 0
  alpha : Nat := 0
  ox : Int := 0
  oy : Int := 0
  dw : Nat := 0
  dh : Nat := 0
  hstep : Nat := 4096
  vstep : Nat := 4096
  iscale : Nat := 65535
  rsv : Bool := false
deriving DecidableEq, Repr

/-- A layer record read from its 32 bytes (Table 7.2). -/
def LayerRec.parse (b : List Byte) : LayerRec :=
  { slot := leField b 0 1, symbol := bitOf (leField b 1 1) 0, isStatic := bitOf (leField b 1 1) 1
    lflagsRsv := leField b 1 1 / 4, alpha := leField b 2 1
    ox := sext 32 (leField b 4 4), oy := sext 32 (leField b 8 4)
    dw := leField b 12 2, dh := leField b 14 2, hstep := leField b 16 2, vstep := leField b 18 2
    iscale := leField b 20 2
    rsv := leField b 3 1 ≠ 0 || leField b 22 10 ≠ 0 || leField b 1 1 / 4 ≠ 0 }

/-- A layer is scaled unless both steps are 4,096 (R189). -/
def LayerRec.scaled (l : LayerRec) : Bool := !(l.hstep == 4096 && l.vstep == 4096)

/-- A layer covers pixel (x, y) (R191). -/
def LayerRec.covers (l : LayerRec) (x y : Nat) : Bool :=
  let tx := (16 * x + 8 : Int) - l.ox
  let ty := (16 * y + 8 : Int) - l.oy
  0 ≤ tx && tx < 16 * l.dw && 0 ≤ ty && ty < 16 * l.dh

/-- The taps of a 2-tap interpolation along one axis: index and weight, taps of weight 0 left out (R192, R197). -/
def taps2 (x : Nat) (o : Int) (n : Nat) : List (Nat × Int) :=
  let t := (16 * x : Int) - o
  let f := t % 16
  ([(clampIdx (t / 16) n, 16 - f), (clampIdx (t / 16 + 1) n, f)]).filter (fun p => p.2 ≠ 0)

/-- Source position of a scaled axis (R193). -/
def scaledPos (x : Nat) (o : Int) (step : Nat) : Int := (32 * x + 16 - 2 * o) * step - 65536

/-- The taps of the 4-tap filter along one axis, those of coefficient 0 left out (R193, R197). -/
def taps4 (x : Nat) (o : Int) (step n : Nat) : List (Nat × Int) :=
  let q := scaledPos x o step
  let m := q / 131072
  let p := ((q % 131072) / 8192).toNat
  ((upTo 4).map (fun (k : Nat) => (clampIdx (m - 1 + (k : Int)) n, cfOf p k))).filter (fun t => t.2 ≠ 0)

/-- The taps of a layer at a pixel along x and y. -/
def LayerRec.taps (l : LayerRec) (w h x y : Nat) : List (Nat × Int) × List (Nat × Int) :=
  if l.scaled then (taps4 x l.ox l.hstep w, taps4 y l.oy l.vstep h) else (taps2 x l.ox w, taps2 y l.oy h)

/-- The weighted sum of a row of taps. -/
def tapSum (ts : List (Nat × Int)) (f : Nat → Int) : Int := ts.foldl (fun a t => a + t.2 * f t.1) 0

/-- Sample of one component of a beam layer or soft mask: R192 unscaled, R193 scaled with the vertical pass first.
`m` is the largest value of the component. -/
def LayerRec.sample (l : LayerRec) (w h x y : Nat) (m : Nat) (src : Nat → Nat → Nat) : Nat :=
  let (tx, ty) := l.taps w h x y
  if l.scaled then
    let col := fun c => clampI ((tapSum ty (fun r => (src c r : Int)) + 64) / 128) 0 m
    (clampI ((tapSum tx col + 64) / 128) 0 m).toNat
  else ((tapSum tx (fun c => tapSum ty (fun r => (src c r : Int))) + 128) / 256).toNat

/-- Source pixel of a symbol layer (R194). -/
def LayerRec.nearest (l : LayerRec) (w h x y : Nat) : Nat × Nat :=
  (clampIdx ((scaledPos x l.ox l.hstep + 65536) / 131072) w, clampIdx ((scaledPos y l.oy l.vstep + 65536) / 131072) h)

/-- The source pixels a layer reads at a pixel (R197). -/
def LayerRec.reads (l : LayerRec) (w h x y : Nat) : List (Nat × Nat) :=
  if l.symbol then [l.nearest w h x y]
  else
    let (tx, ty) := l.taps w h x y
    tx.flatMap (fun a => ty.map (fun b => (a.1, b.1)))

/-- What a layer reads from: the surface, its PREMULT flag, its palette. -/
structure LayerSrc where
  geom : Geom
  premult : Bool
  palette : List Byte
deriving DecidableEq, Repr

/-- One layer blended over the value below it at a covered pixel without poison (R197). -/
def blendLayer (rd : Nat → Byte) (l : LayerRec) (s : LayerSrc) (x y c : Nat) : Nat :=
  let g := s.geom
  if l.symbol then
    let (u, v) := l.nearest g.width g.height x y
    let k := rawPix rd g 0 u v
    if k = leField s.palette 512 2 then c
    else div255 (div65535 (leField s.palette (2 * k) 2 * l.iscale) * l.alpha + c * (255 - l.alpha))
  else
    let i := div65535 (l.sample g.width g.height x y 65535 (fun u v => pixInt rd g u v) * l.iscale)
    let pa := if g.fmt = 2 || g.fmt = 3 then l.sample g.width g.height x y 255 (fun u v => pixAlpha rd g u v) else 255
    let a := div255 (pa * l.alpha)
    if s.premult then min 65535 (div255 (i * l.alpha) + div255 (c * (255 - a)))
    else div255 (i * a + c * (255 - a))

/-- Levelling of a column by the beam offset (R198). `g` reads G with rows outside the array at 0. -/
def levelPix (g : Int → Nat) (o : Int) (y : Nat) : Nat :=
  let q := o / 16
  let f := (o % 16).toNat
  ((16 - f) * g ((y : Int) - q) + f * g ((y : Int) - q - 1) + 8) / 16

/-- A scaling region (R199). -/
structure Region where
  enable : Bool
  x0 : Nat
  y0 : Nat
  x1 : Nat
  y1 : Nat
  scale : Nat
deriving DecidableEq, Repr

/-- Region scales applied in order (R199). -/
def regionPix (rs : List Region) (x y v : Nat) : Nat :=
  rs.foldl (fun v r =>
    if r.enable && r.x0 ≤ x && x ≤ r.x1 && r.y0 ≤ y && y ≤ r.y1 then div65535 (v * r.scale) else v) v

/-- The soft mask at a covered pixel of a maskable function (R200). -/
def softPix (pm alpha v : Nat) : Nat := div255 (v * (255 - div255 ((255 - pm) * alpha)))

/-- The header of a protected layer record (Table 7.5). -/
structure ProtHdr where
  px : Nat
  py : Nat
  width : Nat
  height : Nat
  kprot : Nat
  dataLen : Nat
deriving DecidableEq, Repr

/-- The header of a protected record; an absent record has no layer and the floor 16 of R60. -/
def ProtHdr.parse (b : List Byte) : ProtHdr :=
  if b.isEmpty then ⟨0, 0, 0, 0, 16, 0⟩
  else ⟨leField b 0 2, leField b 2 2, leField b 4 2, leField b 6 2, leField b 8 2, leField b 12 4⟩

/-- A record read as bytes. -/
def byteReader (b : List Byte) : Nat → Byte := fun a => nth b a 0

/-- Geometry of the protected layer's data inside its record (Table 7.5). -/
def ProtHdr.geom (h : ProtHdr) : Geom := ⟨16, h.dataLen, h.width, h.height, 0, 3, true⟩

/-- A pixel lies inside the protected layer's rectangle (R202). -/
def ProtHdr.inside (h : ProtHdr) (x y : Nat) : Bool :=
  h.px ≤ x && x < h.px + h.width && h.py ≤ y && y < h.py + h.height

/-- Intensity and alpha of the protected layer at array pixel (x, y); alpha 0 outside (R202, R204). -/
def protPix (b : List Byte) (poison : List Nat) (x y : Nat) : Nat × Nat :=
  let h := ProtHdr.parse b
  let rd := byteReader b
  if h.inside x y then
    if tapPoisoned rd poison h.geom (x - h.px) (y - h.py) then (0, 255)
    else (pixInt rd h.geom (x - h.px) (y - h.py), pixAlpha rd h.geom (x - h.px) (y - h.py))
  else (0, 0)

/-- The protected footprint: pixels where the protected layer has alpha above 0 (R202). -/
def inFootprint (b : List Byte) (x y : Nat) : Bool := (protPix b [] x y).2 > 0

/-- Nibble of a function map at pixel (x, y) (R65). -/
def mapNib (map : List Byte) (x y : Nat) : Nat :=
  let b := (nth map ((2048 * y + x) / 2) 0).toNat
  if x % 2 = 0 then b % 16 else b / 16

/-- Stage 5 of R187 (R202). -/
def protOver (p : Nat × Nat) (maskable : Bool) (v : Nat) : Nat :=
  if p.2 > 0 then div255 (p.1 * p.2 + (if maskable then 0 else v) * (255 - p.2)) else v

/-- Layout checks of a protected record (R201). -/
def protOk (b : List Byte) : Bool :=
  let h := ProtHdr.parse b
  decide (16 ≤ b.length) && decide (b.length ≤ 262144) && decide (b.length = 16 + h.dataLen) &&
  decide (h.px ≤ 2047) && decide (h.py ≤ 1023) && decide (h.width ≤ 2048 - h.px) && decide (h.height ≤ 1024 - h.py) &&
  decide (16 ≤ h.kprot ∧ h.kprot ≤ 256) && decide (leField b 10 2 = 0) &&
  decide (areaCheck (byteReader b) 16 h.dataLen 3 h.width h.height = 0)

/-- Line-buffer samples a scaled layer needs (R195). -/
def sNeed (dw hstep : Nat) : Int := ((2 * dw - 1) * hstep - 4096 : Int) / 8192 - ((hstep : Int) - 4096) / 8192 + 5

/-! Hard-mask geometry (chapter 8). -/

/-- The four vertices of a shape, in 1/16 pixel (Table 8.2). -/
abbrev Shape := List (Int × Int)

/-- A shape read from its 32 bytes. -/
def Shape.parse (b : List Byte) : Shape :=
  (upTo 4).map (fun i => (sext 32 (leField b (8 * i) 4), sext 32 (leField b (8 * i + 4) 4)))

/-- Vertex i mod 4. -/
def vtx (v : Shape) (i : Nat) : Int × Int := nth v (i % 4) (0, 0)

/-- Edge i mod 4. -/
def edge (v : Shape) (i : Nat) : Int × Int := ((vtx v (i + 1)).1 - (vtx v i).1, (vtx v (i + 1)).2 - (vtx v i).2)

/-- The convexity rule (R220). -/
def convex (v : Shape) : Bool :=
  let z := (upTo 4).map (fun i => (edge v i).1 * (edge v (i + 1)).2 - (edge v i).2 * (edge v (i + 1)).1)
  z.all (fun a => 0 ≤ a) || z.all (fun a => a ≤ 0)

/-- Whether the centre of pixel (x, y) lies inside a shape dilated by `m` pixels (R221, R222). -/
def shapeCovers (v : Shape) (m x y : Nat) : Bool :=
  let s : Int := 16 * m
  let px : Int := 16 * x + 8
  let py : Int := 16 * y + 8
  let a := (upTo 4).foldl (fun a i => a + ((vtx v i).1 * (vtx v (i + 1)).2 - (vtx v i).2 * (vtx v (i + 1)).1)) 0
  let sg := sgn a
  let okEdge := fun i =>
    let (dx, dy) := edge v i
    let d := dx * (py - (vtx v i).2) - dy * (px - (vtx v i).1)
    let t := s * (dx.natAbs + dy.natAbs)
    (dx == 0 && dy == 0) || (if sg = 0 then (d.natAbs : Int) ≤ t else -t ≤ sg * d)
  let xs := v.map Prod.fst
  let ys := v.map Prod.snd
  (upTo 4).all okEdge &&
  xs.any (fun q => q - s ≤ px) && xs.any (fun q => px ≤ q + s) &&
  ys.any (fun q => q - s ≤ py) && ys.any (fun q => py ≤ q + s)

end Sys2Proof.Machine
end

