-- ==== Sys2Proof/Config.lean ====
section
/-!
DEFINITION. What the spec leaves open: free values, as constants without a body, and what one device carries from the
factory. No proof can see what they are.
-/

namespace Sys2Proof

/-- What byte `addr` of surface memory holds after a configure, made with tag `tag`, left it undefined (R177). Free value
(log 8). -/
opaque Config.undefByte : Nat → Nat → Byte

/-- Byte `n` of the random source (R498). Free value (log 8). -/
opaque Config.randomByte : Nat → Byte

/-- Frequency term the servo chooses at its n-th choice (R361). Free value within the bounds of R361 (log 8). -/
opaque Config.servoF : Nat → Int

/-- Phase term the servo chooses at its n-th choice below 10 us (R361). Free value within the bounds of R361 (log 8). -/
opaque Config.servoS : Nat → Nat

/-- Whether a quotient that is no whole number is rounded up where no rounding is stated; the arguments are the place
and the operands. Free value (log 17). -/
opaque Config.roundUp : Nat → Int → Nat → Bool

/-- NTC temperature in 1/16 C, from beta and R as a ratio in ohms, where the formula of R322 has no value: R is 0, or the
reciprocal it forms is not positive. Free value (log 8). -/
opaque Config.ntcCorner : Nat → Nat → Nat → Int

/-- Blue ratio of the cool phosphor, factory calibration (R334), in units of 2^-16. Free value (log 18). -/
opaque Config.betaC : Nat

/-- Blue ratio of the warm phosphor, factory calibration (R334), in units of 2^-16. Free value (log 18). -/
opaque Config.betaW : Nat

/-- eta of R334, factory calibration, in units of 2^-32. Free value (log 18). -/
opaque Config.eta : Nat

/-- Warm share at point i of the CCT table, 3,500 K plus 500 K times i, factory calibration (R334), in units of 2^-16.
Free value (log 18). -/
opaque Config.sharePoint : Nat → Nat

/-- A value the colour loop takes where its formula divides by zero (R335). Free value (log 17). -/
opaque Config.colourCorner : Nat → Nat

/-- Factory gain code of a pixel, bank A (R270). Free value (log 18). -/
opaque Config.factoryGain : Nat → Nat

/-- Factory VB field of a pixel (R270). Free value (log 18). -/
opaque Config.factoryVb : Nat → Nat

/-- Factory district forward voltage in mV (R270). Free value (log 18). -/
opaque Config.factoryVf : Nat → Nat

/-- Voesque's public key, slot 0 in boot ROM (R469). Free value (log 18). -/
opaque Config.voesqueKey : List Byte

/-- The Futil file of a firmware version (R508). Free value (log 19). -/
opaque Config.futil : Nat → List Byte

/-- Bytes 1 to 13 of a SYNC, EI1 or EI2 block but its LANE byte, which no table lays out: byte, sending. Free value
(log 8). -/
opaque Config.ctlFill : Nat → Nat → Byte

/-- SLOT of the first training block of a sending, whose start no rule gives (Table 4.6). Free value (log 151). -/
opaque Config.slotFirst : Nat → Nat

/-- Scrambler of a transmit lane after a fill that is not recorded (R109: its initial state is arbitrary), and, for lanes 4
to 7, the bits that receive lanes 0 to 3 saw before a block lock: fill or lock, lane. Free value (log 151). -/
opaque Config.lineScr : Nat → Nat → BitVec 58

/-- p_prev of a transmit lane after a fill that is not recorded, and q_prev of a receive lane, 4 to 7, at its block lock.
Free value (log 151). -/
opaque Config.linePrev : Nat → Nat → Fin 4

/-- Index of the last symbol of an unrecorded fill (first argument 0) or of the one before that (1). Free value (log 151). -/
opaque Config.lineSymbol : Nat → Nat → Nat → Fin 4

/-- Bits in error that a read finds in a word where no operand of the command lists them: the reading of a BP1 area at its
configure (R163, R175). Free value (log 194). -/
opaque Config.upset : Nat → Nat → Nat

/-- Least-significant step of a DFE tap in mV (R106). Free value (log 8). -/
opaque Config.dfeStep : Nat

/-- Bit ACTIVE of RINFO, whose meaning Table 17.7 does not state. Free value (log 8). -/
opaque Config.crcActive : Nat → Bool

/-- BLKSIZE the engine grants, less 1 and modulo 127 (R483 gives 1 to 127 and no choice). Free value (log 8). -/
opaque Config.blkSize : Nat → Nat

/-- Byte n of what a read returns where the spec states no value: a command object of access RWS, log.head with an empty
log; the first argument is 256 index + subindex. Free value (log 8). -/
opaque Config.unstatedRead : Nat → Nat → Byte

/-- The width a CRC unit computes with, less 1, where its WIDTH lies outside 1 to 32 (R458, log 179). -/
opaque Config.crcWidth : Nat → Fin 32

/-- Where an object lies in its area of the MRAM: Table 17.6 gives the areas and no layout of them. Free value (log 200). -/
opaque Config.jrnlPlace : Nat → Nat

/-- Bytes that fill the payload of a journal transaction up to whole units, and the boot record's. Free value (log 200). -/
opaque Config.jrnlFill : Nat → Nat

/-- Pipeline handshakes a core completes between two commands that show it at work. Free value (log 202). -/
opaque Config.handshakes : Nat → Nat

/-- Time in ps for which the load of a pattern program is BUSY; none is stated. Free value (log 203). -/
opaque Config.peLoadTime : Nat → Nat

/-- Level of an input pin, or of HB in its square wave, at the instant a scan captures it. Free value (log 180). -/
opaque Config.pinFree : Nat → Nat → Bool

end Sys2Proof
end

