-- ==== Sys2Proof/Machine/Correct.lean ====
section
/-!
DEFINITION. Correction of one pixel (R238 to R240), the drive word (R40), the ramp orderings (R48) and the running
register of a CRC (R458), as functions of numbers.
-/

namespace Sys2Proof.Machine

/-- The result of correcting one pixel: the drive word and whether it was clamped (R238). -/
structure Corrected where
  word : Nat
  saturated : Bool
deriving DecidableEq, Repr

/-- The four steps of R238: code `c`, gain `gp` = 512 + g, phosphor gain `kt`, donor sum `d`. -/
def correct (c gp kt d : Nat) : Corrected :=
  let a := (c * gp + 512) / 1024
  let b := (a * kt + 16384) / 32768
  let a3 := (d * gp + 2048) / 4096
  let b3 := (a3 * kt + 16384) / 32768
  let t := ((b + b3) * 131056 + 32767) / 65535
  let u := min t 131056
  ⟨if u ≤ 8191 then u else 8192 + (u + 8) / 16, decide (131056 < t)⟩

/-- District of a pixel (R5). -/
def districtOf (x y : Nat) : Nat := 16 * (y / 128) + x / 128

/-- Column of a pixel given by 2048 y + x. -/
def keyX (k : Nat) : Nat := k % 2048

/-- Row of a pixel given by 2048 y + x. -/
def keyY (k : Nat) : Nat := k / 2048

/-- District of a pixel given by 2048 y + x. -/
def keyD (k : Nat) : Nat := districtOf (keyX k) (keyY k)

/-- RANGE of a drive word (Table 2.2). -/
def wRange (w : Nat) : Nat := (w / 8192) % 2

/-- DUTY of a drive word (Table 2.2). -/
def wDuty (w : Nat) : Nat := w % 8192

/-- Light of a drive word in LO units (R40). -/
def wLight (w : Nat) : Nat := if wRange w = 1 then 16 * wDuty w else wDuty w

/-- Lit steps of a duty in ramp segment j (R48): order 0 SINGLE, 1 SPREAD16. -/
def segSteps (order duty j : Nat) : Nat :=
  if order = 0 then min 512 (duty - 512 * j) else (duty + 15 - j) / 16

/-- LO-unit value of a word in segment j (R57). -/
def segLight (order w j : Nat) : Nat := segSteps order (wDuty w) j * (if wRange w = 1 then 16 else 1)

/-- Ramp value r(n) (R48). -/
def rampValue (order n : Nat) : Nat := if order = 0 then n else 16 * (n % 512) + n / 512

/-- Step boundary b_n (R50). -/
def stepBoundary (n k u : Nat) : Nat := (n * k * u) / 2097152

/-- The largest step whose boundary is at most `ticks`, capped at 8192, searching down from 8192 (R50). -/
def rampStepFrom (k u ticks : Nat) : Nat → Nat
  | 0 => 0
  | n + 1 => if stepBoundary (n + 1) k u ≤ ticks then n + 1 else rampStepFrom k u ticks n

/-- Reverses the low `w` bits of a value. -/
def reverseBits : Nat → Nat → Nat
  | 0, _ => 0
  | w + 1, v => (v % 2) * 2 ^ w + reverseBits w (v / 2)

/-- Parameters of a CRC computation (R458). -/
structure CrcParams where
  width : Nat := 32
  poly : Nat := 0x04C11DB7
  init : Nat := 0xFFFFFFFF
  xorout : Nat := 0xFFFFFFFF
  refin : Bool := false
  refout : Bool := false
deriving DecidableEq, Repr

/-- One bit of the running register (R458). -/
def crcBit (p : CrcParams) (v bit : Nat) : Nat :=
  let f := (v / 2 ^ (p.width - 1) + bit) % 2
  let v' := (2 * v) % 2 ^ p.width
  if f = 1 then v' ^^^ (p.poly % 2 ^ p.width) else v'

/-- The bits of a byte fed from bit n - 1 down to bit 0. -/
def crcBits (p : CrcParams) (b : Nat) : Nat → Nat → Nat
  | 0, v => v
  | n + 1, v => crcBits p b n (crcBit p v (b / 2 ^ n % 2))

/-- One byte of the running register (R458). -/
def crcByte (p : CrcParams) (v : Nat) (b : Byte) : Nat :=
  crcBits p (if p.refin then reverseBits 8 b.toNat else b.toNat) 8 v

/-- The running register at START (R458). -/
def crcStart (p : CrcParams) : Nat := p.init % 2 ^ p.width

/-- The result at FINISH (R458). -/
def crcFinish (p : CrcParams) (v : Nat) : Nat :=
  ((if p.refout then reverseBits p.width v else v) ^^^ p.xorout) % 2 ^ p.width

/-- The CRC of a list of bytes. -/
def crcOf (p : CrcParams) (bs : List Byte) : Nat := crcFinish p (bs.foldl (crcByte p) (crcStart p))

/-- The IEEE 802.3 CRC-32 of R133, preset 1. -/
def crcIeee : CrcParams := { refin := true, refout := true }

/-- The CRC-16 of R112, preset 2. -/
def crcHdr : CrcParams := { width := 16, poly := 0x1021, init := 0xFFFF, xorout := 0 }

/-- Preset 3 of R458. -/
def crcCast : CrcParams := { poly := 0x1EDC6F41, refin := true, refout := true }

end Sys2Proof.Machine
end

