-- ==== Sys2Proof/Machine/State.lean ====
section
/-!
DEFINITION. The state of the engine as plain data, the reasons a step can stop, and the state after reset: the device
without supplies (OFF), from which POWER_UP leads on.
-/

namespace Sys2Proof.Machine

/-- A TIME80 value (R492). -/
structure Time80 where
  sec : Nat := 0
  ns : Nat := 0
deriving DecidableEq, Repr

/-- A time domain (R369): its state of Table 14.2, last accepted offset in units of 2^-32 ps, that offset corrected
for the clock's rate up to an instant, what it last announced, and when its master last changed. -/
structure DomSt where
  st : Nat := 0
  theta : Int := 0
  pred : Int := 0
  predAt : Nat := 0
  master : Nat := 0
  interval : Nat := 0
  last : Time80 := {}
  lastAt : Nat := 0
  hist : List Int := []
  clean : Nat := 0
  outs : List Int := []
  lockedSince : Option Nat := none
  changedAt : Option Nat := none
deriving DecidableEq, Repr

/-- A pulse pin (R377): the configuration in force, its level, the local times in 2^-32 ns at which it went active and at which
the configuration took effect, the next pulse of PERIODIC and the pulses driven. -/
structure TpSt where
  mode : Nat := 0
  start : Time80 := {}
  period : Nat := 1000000
  width : Nat := 1000
  activeLow : Bool := false
  source : Nat := 0
  active : Bool := false
  upAt : Int := 0
  armedAt : Int := 0
  m : Nat := 0
  count : Cnt := 0
deriving DecidableEq, Repr

/-- A capture entry (Table 14.6). -/
structure TcEntry where
  sec : Nat
  ns : Nat
  frac : Nat
  seq : Nat
  edge : Nat
  flags : Nat
deriving DecidableEq, Repr

/-- A capture pin (R381). -/
structure TcSt where
  fifo : List TcEntry := []
  seq : Nat := 0
  overflows : Cnt := 0
  lastAt : Option Nat := none
deriving DecidableEq, Repr

/-- The five safety states (Table 15.3). -/
inductive Safety where
  | normal
  | degraded
  | limp
  | hold
  | dark
deriving DecidableEq, Repr

/-- The device states (R428). -/
inductive Dev where
  | off
  | boot
  | standby
  | quiet
  | ready
  | lit
deriving DecidableEq, Repr

/-- power.sequence (R442). -/
inductive PwSeq where
  | idle
  | preparing
  | retryWait
  | committing
  | exiting
deriving DecidableEq, Repr

/-- The keeper's states (R421). -/
inductive Keeper where
  | starting
  | unqualified
  | qualified
deriving DecidableEq, Repr

/-- What assembles a gate bit under the rules of Table 2.5, frozen when its gate window opened (R52). -/
structure GateRules where
  map : List Byte
  prot : List Byte
  dark : List Nat
  maskable : List Nat
  zeroLevel : List Nat
  shapes : List Shape
  margin : Nat
  off7 : Bool
deriving DecidableEq, Repr

/-- A gate plane, held as what it was assembled from (R41, R53, R81, R394). -/
inductive GatePlane where
  | zero
  | rules (g : GateRules)
  | probe (words : List Nat)
  | limp (pattern : List Byte)
deriving DecidableEq, Repr

/-- The ramp's states (R46). -/
inductive Ramp where
  | run
  | pause
  | force
  | tail
deriving DecidableEq, Repr

/-- The settings of a function that take effect at a frame launch (R69). -/
structure FuncSet where
  maskable : Bool
  shedOrder : Nat
  minFlux : Nat
deriving DecidableEq, Repr

/-- The failure-policy settings of a function that take effect at a frame launch (R283). -/
structure PolSet where
  policy : Nat
  limit : Nat
  crit : List Nat
  limp : Nat
deriving DecidableEq, Repr

/-- The committed fields of an off-window or a probe slot (R77, R81). -/
structure ItemCfg where
  kind : Nat := 0
  base : Nat := 0
  sub : Nat := 0
  offset : Nat := 0
  length : Nat := 100000
  start : Time80 := {}
  period : Nat := 0
deriving DecidableEq, Repr

/-- A timing mode (R73). -/
structure Mode where
  rate : Nat := 120000
  subframes : Nat := 4
  order : Nat := 1
  offs : List ItemCfg := [{}, {}, {}, {}]
  probes : List ItemCfg := [{ offset := 56000 }, { offset := 56000 }]
deriving DecidableEq, Repr

/-- A static run as the flatten cache holds it (R205). -/
structure Run where
  layers : List (List Byte × Nat)
  x0 : Nat
  y0 : Nat
  w : Nat
  h : Nat
deriving DecidableEq, Repr

/-- A committed descriptor: its bytes (Table 3.3), its SEQ, the slots it has pinned, its static run, whether it is
cache-continuing, its charges at source cost by layer with the soft mask at index 8 (R205, R211), and whether its launch time
was missed (R92). -/
structure Desc where
  raw : List Byte
  seq : Nat
  pins : List Nat
  run : Option Run := none
  runLen : Nat := 0
  contd : Bool := false
  charges : List Nat := []
  missed : Bool := false
deriving DecidableEq, Repr

/-- Predicted currents (R57): for each function 0 to 15 and for the protected footprint as entry 16, the sums of
dist.i_hi in nA times LO units of the 16 ramp segments, from which the quantities of Table 2.6 follow. -/
structure Sums where
  raw : List (List Nat) := List.replicate 17 (List.replicate 16 0)
deriving DecidableEq, Repr

/-- An off-window or probe slot placed in the frame in progress (R80): item 0 to 3 off-window, 4 to 5 probe slot;
start and end in ticks after the frame boundary. -/
structure Placed where
  item : Nat
  start : Nat
  stop : Nat
deriving DecidableEq, Repr

/-- The launch snapshot (R24), with what the gate window's opening decided: whether the head leaves the queue (`pops`), whether
the limp beam had loaded (`loaded`), the length in ps of the ticks it counts in (`p`), a timebase return (`back`), a return of
the safety state (`ret`), the governor's results and the settings that take effect at the launch. -/
structure Snap where
  kind : GateKind
  at_ : Nat
  p : Nat
  new : Bool
  pops : Bool
  loaded : Bool
  k : Nat
  shed : BitVec 16
  plane : GatePlane
  mode : Mode
  safety : Safety
  flags : Nat
  launchError : Int
  fPrime : Nat
  items : List Placed
  claim : Bool
  limp : Bool
  back : Bool
  ret : Bool
  modeTook : Bool
  fset : List FuncSet
  pol : List PolSet
  states : List Nat
  budget : Nat
  predicted : Nat
  average : Nat
  peak : Nat
  floor : Nat
  kFit : Nat
  e : Int
  durLim : Bool
  absent : List Nat
  map : List Byte
  mapTook : Bool
  prot : List Byte
deriving DecidableEq, Repr

/-- An interrupt controller (Table 17.3): priorities and MOD words by source, pending, enabled and in-service bits,
the edges recorded in service, level inputs, and the events accumulated of moderated sources; its core has executed WFI. -/
structure Irq where
  prio : List (Nat × Nat) := []
  pend : Bitmap := 0
  en : Bitmap := 0
  thr : Nat := 0
  svc : Bitmap := 0
  again : Bitmap := 0
  lines : Bitmap := 0
  mod : List (Nat × Nat) := []
  acc : List (Nat × Nat × Nat) := []
  wfi : Bool := false
deriving DecidableEq, Repr

/-- The exceptions of a core that a command brings about (R443, R444). -/
inductive CoreExc where
  | misaligned
  | accessFault
deriving DecidableEq, Repr

/-- A core timer (Table 17.5). -/
structure Tmr where
  sec : Nat := 0
  ns : Nat := 0
  period : Nat := 0
  enable : Bool := false
  periodic : Bool := false
  fired : Bool := false
deriving DecidableEq, Repr

/-- What a customer-object request answers: nothing on the bus, READ_OK, WRITE_OK, or SEG_ACK at the end of a segmented
download. -/
inductive MbxAns where
  | none
  | readOk
  | writeOk
  | segAck
deriving DecidableEq, Repr

/-- A customer-object request in the mailbox (R455): what MBX_REQ, MBX_TAG, MBX_LEN and MBX_DATA hold, and how and where it
is answered. -/
structure MbxReq where
  tag : Nat
  idx : Nat
  sub : Nat
  write : Bool
  data : List Byte
  ans : MbxAns
  path : Path
  bcast : Bool
  bulk : Bool
  reqTag : Nat
  seq : Nat
  /-- Instant of the request (R455). -/
  at_ : Nat
deriving DecidableEq, Repr

/-- A log entry (Table 17.8) without its CHECK. -/
structure LogEntry where
  seq : Nat := 0
  source : Nat
  cls : Nat
  flags : Nat
  timeA : Time80
  timeB : Time80
  safety : Nat
  device : Nat
  frameSeq : Nat
  raises : Nat
  transients : Nat
  ctx : List Byte
deriving DecidableEq, Repr

/-- The values of the safety-register region (Table 17.15). -/
structure SrRegion where
  state : Nat := 0
  target : Nat := 0
  light : Nat := 0
  entrySource : Nat := 255
  limp : Nat := 0
  entryTime : Time80 := {}
  status : Bitmap := 0
  active : Bitmap := 0
  classes : List Byte := []
  raises : List Nat := []
  transients : List Nat := []
deriving DecidableEq, Repr

/-- A CRC unit (Table 17.7). -/
structure CrcUnit where
  ctrl : Nat := 32
  poly : Nat := 0x04C11DB7
  init : Nat := 0xFFFFFFFF
  xorout : Nat := 0xFFFFFFFF
  value : Nat := 0
  result : Nat := 0
  rseq : Nat := 0
  latched : Nat := 0
  latchedSeq : Nat := 0
  started : Bool := false
  /-- Taken by a check window since a composition start (R460, Table 17.12). -/
  taken : Bool := false
deriving DecidableEq, Repr

/-- One copy of the protected store (R464); an absent record is empty. -/
structure Prot where
  map : List Byte := []
  layer : List Byte := []
  limp : List (List Byte) := [[], [], [], []]
deriving DecidableEq, Repr

/-- An entry of the failed-pixel table (R278). -/
structure FailEntry where
  x : Nat
  y : Nat
  cls : Nat
  func : Nat
  sweep : Nat
deriving DecidableEq, Repr

/-- What a journal transaction writes (R462). -/
inductive JTarget where
  | saved (key : Nat) (data : List Byte)
  | restore
  | table (entries : List FailEntry)
  | custData (data : List Byte)
  | bank (b : Nat) (counter : Nat)
  | cust (counter : Nat)
  | sessKey (key : List Byte)
  | key (slot : Nat) (key : List Byte)
  | copy (c : Nat)
deriving DecidableEq, Repr

/-- The newest journal transaction: its target, its SEQ, the target offset and the CRC of its header, the units programmed so
far, the payload units, and whether its done unit is programmed (R462). A unit whose programming is cut off is torn, fails its
CRC and counts as not programmed. -/
structure Journal where
  target : JTarget
  seq : Nat
  off : Nat := 0
  crc : Nat := 0
  units : Nat
  payload : Nat
  done : Bool
deriving DecidableEq, Repr

/-- An open transfer (R490): its object, direction and kind, SIZE and CRC, the bytes received or captured, the segments or
acknowledged frames so far, BLKSIZE or the frames of the last upload block, the frames of a download block received, and the
TAG of its initiation. -/
structure Xfer where
  idx : Nat
  sub : Nat
  upload : Bool
  bulk : Bool
  size : Nat
  crc : Nat
  data : List Byte
  seg : Nat
  blk : Nat
  got : List (Nat × Bool × List Byte)
  tag : Nat
  /-- Instant of the latest message for it (R489, R490). -/
  at_ : Nat
deriving DecidableEq, Repr

/-- The answer to the previous SEGMENT of a path, for a repeat (R488); `final` says that it ended its transfer. -/
structure SegAns where
  tag : Nat
  idx : Nat
  sub : Nat
  final : Bool
  msg : List Byte
deriving DecidableEq, Repr

/-- A safety session of a path (R498 to R500). -/
structure Sess where
  isOpen : Bool := false
  lastWrite : Nat := 0
  challenge : Option (List Byte × Nat) := none
  fails : Nat := 0
  lockUntil : Option Nat := none
deriving DecidableEq, Repr

/-- Events of one moderated code that have accumulated on a path (R503). -/
structure EvAcc where
  code : Nat
  num : Nat
  /-- ESEQ of the latest. -/
  eseq : Nat
  cls : Nat
  time : Time80
  ctx : List Byte
  since : Nat
  /-- ESEQ of the first. -/
  first : Nat := 0
deriving DecidableEq, Repr

/-- Moderation and pending-events set of a path (R503). -/
structure EvPath where
  acc : List EvAcc := []
  codes : List Nat := []
  first : Nat := 0
  last : Nat := 0
deriving DecidableEq, Repr

/-- ferry.state (R130). -/
inductive LinkSt where
  | detect
  | slow
  | atRate
  | fl0
  | fl1
  | fl2
  | retrain
  | down
deriving DecidableEq, Repr

/-- What the transmitter sends (R119, R126, R128). -/
inductive TxMode where
  | idle
  | ts1
  | ts2
  | ts3
  | ts4
  | sync
  | data
  | idlePattern
  | off
deriving DecidableEq, Repr

/-- The capture of a good marker (R116, R364): COUNT, instant, captured local time in units of 2^-32 ps. -/
structure Marker where
  count : Nat
  at_ : Nat
  time : Int
deriving DecidableEq, Repr

/-- An own packet in the insertion queue (R139): its precedence, its header fields and its payload. -/
structure Own where
  prec : Nat
  ptype : Nat
  addr : Nat
  seq : Nat
  payload : List Byte
deriving DecidableEq, Repr

/-- A row-error entry (R157). -/
structure RowErr where
  slot : Nat
  row : Nat
  whole : Bool
  sent : Nat
  lasting : Bool := false
  probe : Bool := false
deriving DecidableEq, Repr

/-- A slot descriptor (Table 6.2). -/
structure Slot where
  base : Nat := 0
  size : Nat := 0
  width : Nat := 0
  height : Nat := 0
  stride : Nat := 0
  format : Nat := 0
  flags : Nat := 0
  palette : Nat := 0
  state : Nat := 0
  pins : Nat := 0
  sflags : Nat := 0
  ones : Nat := 0
  retSeq : Nat := 0
  gen : BitVec 16 := 0
  check : Nat := 0
deriving DecidableEq, Repr

/-- One layer as a composition uses it: its record with pattern outputs, its slot's descriptor, or omitted. -/
structure LayerUse where
  raw : List Byte
  rel : LayerRec
  slot : Slot
  palette : List Byte
  omitted : Bool
deriving DecidableEq, Repr

/-- What a composition sampled at its start (R213), and how far it has come. -/
structure Job where
  desc : Desc
  layers : List LayerUse
  regions : List Region
  useRegions : Bool
  useLevel : Bool
  level : Int
  soft : Option LayerUse
  prot : List Byte
  protPoison : List Nat
  dim : List Nat
  degrade : List Nat
  maskable : List Nat
  map : List Byte
  runLen : Nat
  run : Option Run
  useCache : Bool
  fill : Bool
  fits : Bool
  complete : Bool
  counted : Bool
  isRepeat : Bool
deriving DecidableEq, Repr

/-- comp.cache_state (R207). -/
inductive CacheSt where
  | empty
  | filling
  | valid
deriving DecidableEq, Repr

/-- mask.state (R230). -/
inductive MaskSt where
  | none
  | active
  | expired
deriving DecidableEq, Repr

/-- An accepted mask set (R218). -/
structure MaskSet where
  mseq : Nat
  shapes : List Shape
  margin : Nat
  lifetime : Nat
  arrival : Nat
  reached : Bool := false
deriving DecidableEq, Repr

/-- What the current load is corrected with (R236). -/
structure QSample where
  kCool : Nat := 32768
  kWarm : Nat := 32768
  bank : List Bool := List.replicate 128 false
  table : List (Nat × Nat) := []
  comp : List Nat := []
  order : Nat := 1
  lineMatch : Nat := 0xFFFF
  events : Nat := 8
  gainA : List (Nat × Nat) := []
  gainB : List (Nat × Nat) := []
deriving DecidableEq, Repr

/-- One half of the Quay (R242): codes of composed rows waiting, corrected rows waiting, its next rows, its urgency, and the
instant at which a row last entered or left its buffers (R245). -/
structure HalfQ where
  lines : List (Nat × List Nat) := []
  prev : List Nat := []
  outs : List (Nat × List Nat) := []
  nextComp : Nat := 0
  nextCorr : Nat := 0
  nextSend : Nat := 0
  urgent : Bool := false
  moved : Nat := 0
deriving DecidableEq, Repr

/-- A check window (R251 to R255). -/
structure WinSt where
  mode : Nat := 0
  tap : Nat := 0
  unit_ : Nat := 0
  x0 : Nat := 0
  y0 : Nat := 0
  x1 : Nat := 0
  y1 : Nat := 0
  expected : Nat := 0
  params : CrcParams := {}
  valid : Bool := false
  acc : Nat := 0
  result : Nat := 0
  status : Nat := 0
  frameSeq : Nat := 0
  mismatches : Cnt := 0
  lasting : Cnt := 0
  failed : Bool := false
deriving DecidableEq, Repr

/-- The rectangle a stuck-on search has come to, in pixels of the array, and its sum in nA (R274). -/
structure StuckRect where
  x0 : Nat
  y0 : Nat
  w : Nat
  h : Nat
  sum : Nat
deriving DecidableEq, Repr

/-- A calibration type (R285). -/
structure Cal where
  count : Cnt := 0
  timeA : Time80 := {}
  timeB : Time80 := {}
  status : Nat := 0
  value : Int := 0
deriving DecidableEq, Repr

/-- supply.mode (R319). -/
inductive SupMode where
  | off
  | sampled
  | freeRunning
deriving DecidableEq, Repr

/-- A block-float stage (R304): exponent E and mantissas. -/
structure BfStage where
  e : Nat := 0
  m : List Int := []
deriving DecidableEq, Repr

/-- States of the repetitive controller (Table 11.4). -/
inductive RepSt where
  | cleared
  | waiting
  | fading
  | learning
deriving DecidableEq, Repr

/-- Engine states (Table 13.6). -/
inductive EngSt where
  | idle
  | stopped
  | armed
  | running
  | waiting
  | done
deriving DecidableEq, Repr

/-- The sequencer of one lane (R351). -/
structure LaneSt where
  delay : Nat := 0
  step : Nat := 0
  n : Nat := 0
  run : Nat := 0
  cnt : List Nat := []
  sA : Int := 0
  sB : Int := 0
  outA : Int := 0
  outB : Int := 0
  ended : Bool := false
  released : Bool := false
deriving DecidableEq, Repr

/-- A pattern engine (R353). -/
structure Eng where
  prog : List Byte := []
  st : EngSt := .idle
  lanes : List LaneSt := []
  latched : Bool := false
  fired : Bool := false
deriving DecidableEq, Repr

/-- An output of an engine in force on a target (Table 13.1): kind, index, values. -/
structure Drive where
  kind : Nat
  index : Nat
  a : Int
  b : Int
deriving DecidableEq, Repr

/-- State of one transmit lane: its scrambler, p_prev, and the levels of its last two symbols (R102, R104, R109). -/
structure TxLane where
  /-- Bit k was sent k + 1 bits earlier (R109). -/
  scr : BitVec 58 := 0
  /-- p_prev (R102). -/
  prev : Fin 4 := 0
  /-- Level of the symbol before the last, 0 for none. -/
  before : Int := 0
  /-- Level of the last symbol, 0 for none. -/
  last : Int := 0
deriving DecidableEq, Repr

/-- State of one receive lane: its descrambler and q_prev (R102, R109). -/
structure RxLane where
  /-- Bit k was received k + 1 bits earlier (R109). -/
  scr : BitVec 58 := 0
  /-- q_prev (R102). -/
  prev : Fin 4 := 0
  /-- The lane has acquired block lock and read no block since: it ignores the payload of the next one (R109). -/
  fresh : Bool := false
deriving DecidableEq, Repr

/-- Taps c(-1) and c(+1) of the FFE (R104). -/
structure Taps where
  pre : Int := 0
  post : Int := 0
deriving DecidableEq, Repr

/-- Settings of the transmitters (R102, R105). -/
structure TxSet where
  precode : Bool := false
  preset : Nat := 0
  taps : Taps := {}
deriving DecidableEq, Repr

/-- A block as it leaves on a lane: at 0.5 GBd or at rate, its header and payload, the levels of its symbols, and the
outputs of the FFE that they complete, in units of A / 144 (R104, R110). -/
structure TxBlock where
  lane : Nat
  slow : Bool
  ctl : Bool
  payload : List Byte
  levels : List Int
  outs : List Int
deriving DecidableEq, Repr

/-- The lanes below the block (R101 to R104, R108 to R111). -/
structure Phy where
  /-- Transmit lanes 0 to 3. -/
  tx : List TxLane := [{}, {}, {}, {}]
  /-- Receive lanes 0 to 3. -/
  rx : List RxLane := [{}, {}, {}, {}]
  /-- Lane that carries the next 16 bytes of the stream sent (R111). -/
  txUnit : Nat := 0
  /-- Lane that carries the next 16 bytes of the stream received (R111). -/
  rxUnit : Nat := 0
  /-- Unrecorded fills and locks so far; it gives each of them its own free values (the model's own). -/
  n : Nat := 0
  /-- Blocks sent, newest first (the model's own trace). -/
  sent : List TxBlock := []
deriving DecidableEq, Repr

/-- What the engine sends, newest first in State.out (the model's own trace, no state of the engine). -/
inductive Out where
  | can (id : Nat) (fd brs : Bool) (data : List Byte)
  | packet (hdr : Nat) (payload : List Byte) (trailer : Nat)
  | forward (hdr : BitVec 64) (payload : List Byte) (trailer : BitVec 32)
  | slot (kind : Nat) (n : Nat)
  | marker (count : Nat)
  | service (core : CoreId) (value : Nat)
  | tdo (cells : BitVec 19)
deriving DecidableEq, Repr

/-- The local clock and its servo (chapter 14). -/
structure Clk where
  /-- Seconds of the local clock (R358). -/
  sec : Nat := 0
  /-- Nanoseconds, 0 to 999,999,999 (R358). -/
  ns : Nat := 0
  /-- Fraction in 2^-32 ns (R358). -/
  frac : Nat := 0
  /-- Picoseconds since the last TB2 tick (R359). -/
  phase : Nat := 0
  /-- VALID: set by the first step (R375). -/
  valid : Bool := false
  /-- A step set for the next tick of TB2, in 2^-32 ns (R362). -/
  step : Option Int := none
  /-- Rate correction in force, c = f + s (R361). -/
  c : Int := 0
  /-- Phase term s (R361). -/
  sTerm : Int := 0
  /-- The phase term before the bound on c reduced it (R361). -/
  sFull : Int := 0
  /-- Frequency term of TB2 on TB0 (R361). -/
  fLink : Int := 0
  /-- Frequency term of TB2 on TB5 (R361). -/
  fKeeper : Int := 0
deriving DecidableEq, Repr

/-- Domains, pulses and captures (chapter 14). -/
structure Tim where
  /-- Selected domain: 0 none, 1 A, 2 B (R370). -/
  selected : Nat := 0
  /-- Offset of the sample that causes the first step, for a sample of the other domain before the same tick (R370). -/
  firstTh : Int := 0
  /-- Pins and time.tp_late as they were before it (R370, R380). -/
  firstTp : List TpSt × Cnt := ([], 0)
  /-- The core timers as they were before it (R370, R454). -/
  firstTmr : List Tmr × List Tmr := ([], [])
  /-- Domains A and B (Table 14.2) (R369). -/
  doms : List DomSt := [{}, {}]
  /-- time.step written, step at the next selected sample (R362). -/
  stepArmed : Bool := false
  /-- UNALIGNED (R371). -/
  unaligned : Bool := false
  /-- HOLDOVER (R372). -/
  holdover : Bool := false
  /-- Both domains have changed master in one interval: holdover until a domain can be selected (Table 14.7). -/
  bothChanged : Bool := false
  /-- time.steps (R362). -/
  steps : Cnt := 0
  /-- time.switches (R370). -/
  switches : Cnt := 0
  /-- time.master_changes (R370). -/
  masterChanges : Cnt := 0
  /-- time.outliers (R368). -/
  outliers : Cnt := 0
  /-- time.discards (R364). -/
  discards : Cnt := 0
  /-- time.tp_late (R380). -/
  tpLate : Cnt := 0
  /-- Last captured SYNC: its SEQ, its instant in ps, its captured local time (R367). -/
  canSync : Option (Nat × Nat × Int) := none
  /-- Pins TP0 to TP3: configuration in force, level and pulse index (R377). -/
  tp : List TpSt := [{}, {}, {}, {}]
  /-- Pins TC0 and TC1: FIFO of 16 entries, next SEQ, overflows (R381). -/
  tc : List TcSt := [{}, {}]
deriving DecidableEq, Repr

/-- What a reset request of an instant changes, as it was before (R415). -/
structure SafBefore where
  at_ : Nat
  state : Safety
  transitions : Cnt
  resetsAccepted : Cnt
  pendingReturn : Bool
  limpPattern : Nat
  limpIn : List Byte
  limpLoaded : Bool
  limpLaunched : Bool
  limpLost : Bool
  limpSums : Sums
  holdN : Bool
  holdS : Bool
  discEn : Bool
  discAt : Nat
  closeOk : Bool
  firstReadyDone : Bool
  discStep : Nat
  discOnly4 : Bool
  discDeferred : Bool
deriving DecidableEq, Repr

/-- The Tollgate (chapter 15). -/
structure Saf where
  /-- Safety state (R390). -/
  state : Safety := .normal
  /-- Latched bits, tollgate.status (R387). -/
  latched : Bitmap := 0
  /-- Causes present of the condition sources (R387). -/
  causes : Bitmap := 0
  /-- Injected causes (factory mode) (R414). -/
  injected : Bitmap := 0
  /-- Check-window sources latched with a mismatch over the protected layer, whose class is then at least LIMP (R389). -/
  floorUp : Bitmap := 0
  /-- tollgate.raises, saturating (R388). -/
  raises : List Nat := List.replicate 256 0
  /-- tollgate.transients, saturating (R388). -/
  transients : List Nat := List.replicate 256 0
  /-- safety.entry_source (R391). -/
  entrySource : Nat := 255
  /-- safety.entry_time (R416). -/
  entryTime : Time80 := {}
  /-- Instant of that entry, for the lowest ID among the sources of one instant (R391). -/
  entryInstant : Option Nat := none
  /-- Hold line of the north half, as commanded (R23). -/
  holdN : Bool := false
  /-- Hold line of the south half, as commanded (R23). -/
  holdS : Bool := false
  /-- DISC_EN pin (low since power-up) (R408). -/
  discEn : Bool := false
  /-- DISC_FB pin: closed (R408). -/
  discFb : Bool := false
  /-- Filtered LEN_A reads on (R405). -/
  lenA : Bool := false
  /-- Filtered LEN_B reads on (R405). -/
  lenB : Bool := false
  /-- Light permission (R405). -/
  permission : Bool := false
  /-- Start-up test passed (R407). -/
  startTest : Bool := false
  /-- Disconnect check passed (R408). -/
  discPassed : Bool := false
  /-- Step of the disconnect check in progress, 0 none (R408). -/
  discStep : Nat := 0
  /-- Instant at which that step began, or DISC_EN or DISC_FB last changed: T_fb runs from it (R408, R409). -/
  discAt : Nat := 0
  /-- The step running is step 4 alone, after a re-assertion (R409). -/
  discOnly4 : Bool := false
  /-- A disconnect check deferred while the Tollgate is PREPARED (R432). -/
  discDeferred : Bool := false
  /-- The close check since DISC_EN was last asserted has passed, so the control engine may switch (R409). -/
  closeOk : Bool := false
  /-- the disconnect check of the first entry to READY has begun since power-up or RSTN (R408). -/
  firstReadyDone : Bool := false
  /-- The light-enable channels disagree since (R406). -/
  disagreeAt : Option Nat := none
  /-- Discrepancy latch (R406). -/
  discrepLatch : Bool := false
  /-- Both channels have read off together since the latch was set (R406). -/
  bothOffSeen : Bool := false
  /-- The collector's own latch of source 0x00 (R412). -/
  selfFault : Bool := false
  /-- A return accepted by a reset request, waiting for reload and launch (R392). -/
  pendingReturn : Bool := false
  /-- Limp pattern in force (R394). -/
  limpPattern : Nat := 0
  /-- The limp loader's own buffer: the VALID patterns 1 to 4 (R396). -/
  limpBuf : List (List Byte) := [[], [], [], []]
  /-- The record of the pattern in force, as chosen on entry to LIMP (R394). -/
  limpIn : List Byte := []
  /-- The limp loader has finished loading (R394). -/
  limpLoaded : Bool := false
  /-- The limp beam has launched (R394). -/
  limpLaunched : Bool := false
  /-- HOLD is held in place of LIMP because no pattern is VALID (R394). -/
  limpLost : Bool := false
  /-- Sums of the limp pattern, taken at its load (R57, R394). -/
  limpSums : Sums := {}
  /-- Instant of the last 0x5A written to tollgate.reset (R403). -/
  resetArm : Option Nat := none
  /-- tollgate.reset as last written (R416). -/
  resetReg : Nat := 0
  /-- Filtered SRESET level (R402). -/
  srLevel : Bool := false
  /-- Instant of the last filtered rising edge of SRESET (R402). -/
  srAt : Nat := 0
  /-- SRESET armed (R402). -/
  srArmed : Bool := false
  /-- The pulse in progress has given its request (R402). -/
  srDone : Bool := false
  /-- Instant of the watchdog service that the Helm core has missed (R410). -/
  helmMissed : Option Nat := none
  /-- The Tollgate before the last accepted reset request, for a raise of its instant (R415). -/
  before : Option SafBefore := none
  /-- safety.transitions (R416). -/
  transitions : Cnt := 0
  /-- safety.resets_accepted (R404). -/
  resetsAccepted : Cnt := 0
  /-- safety.resets_ignored (R392). -/
  resetsIgnored : Cnt := 0
  /-- safety.discrepancies (R406). -/
  discrepancies : Cnt := 0
  /-- safety.clears_refused (R401). -/
  clearsRefused : Cnt := 0
  /-- tollgate.clear_result (R401). -/
  clearResult : Nat := 0
  /-- TESTEN was high at the release of RSTN or power-up (R413). -/
  testen : Bool := false
  /-- Instant of that release (R413). -/
  releaseAt : Nat := 0
  /-- Factory mode (R413). -/
  factory : Bool := false
  /-- Writes of the unlock sequence received (R413). -/
  unlockStep : Nat := 0
  /-- Instant of the last of them (R413). -/
  unlockAt : Nat := 0
  /-- factory.unlock as last written (R416). -/
  unlockReg : Nat := 0
  /-- factory.inject as last written (R416). -/
  injectReg : Nat := 0
  /-- Instants of each receive lane's latest block-lock losses (R389). -/
  laneLoss : List (List Nat) := [[], [], [], []]
deriving DecidableEq, Repr

/-- Device and power states (chapter 16). -/
structure Pw where
  /-- Device state (R428). -/
  dev : Dev := .off
  /-- power.sequence (R442). -/
  seq : PwSeq := .idle
  /-- State the sequence leads to (R431). -/
  target : Dev := .off
  /-- A change to READY waits for VCC (R536). -/
  pendingReady : Bool := false
  /-- Blocks that have granted (PREPARED) (R433). -/
  answered : List PrepBlock := []
  /-- Instant of the last refusal (R433). -/
  refusedAt : Nat := 0
  /-- Repetitions of the prepare request made (R433). -/
  repeats : Nat := 0
  /-- The entry has committed (R434). -/
  committed : Bool := false
  /-- Instant of commit (R431). -/
  committedAt : Nat := 0
  /-- EI2 slots received for the entry (R431). -/
  ei2Seen : Nat := 0
  /-- power.result (R442). -/
  result : Nat := 0
  /-- power.refuse_block (R442). -/
  refuseBlock : Nat := 255
  /-- power.refuse_reason (R442). -/
  refuseReason : Nat := 0
  /-- Wake latch armed (R437). -/
  wakeArmed : Bool := false
  /-- Latched wake sources (R437). -/
  wakeLatch : Nat := 0
  /-- Wake events of the keeper tick at `recentAt` outside a sequence, newest first (R437). -/
  recent : List Wake := []
  /-- Instant of the newest of them (the model's own). -/
  recentAt : Nat := 0
  /-- power.wake_cause (R437). -/
  wakeCause : Nat := 0
  /-- power.exit_time, in microseconds (R442). -/
  exitTime : Nat := 0
  /-- Instant from which the exit in progress is timed (R438). -/
  exitFrom : Nat := 0
  /-- Steps 4 to 7 of Table 16.7 run (R438). -/
  exiting : Bool := false
  /-- BOOT runs as step 3 of an exit from STANDBY (R467). -/
  rebooting : Bool := false
  /-- The VCC monitor reads at least 0.70 V (R33). -/
  vccOk : Bool := false
  /-- power.entries (R442). -/
  entries : Cnt := 0
  /-- power.refusals (R433). -/
  refusals : Cnt := 0
  /-- power.failures (R433). -/
  failures : Cnt := 0
  /-- power.wakes_absorbed (R437). -/
  wakesAbsorbed : Cnt := 0
  /-- power.early_drops (R438). -/
  earlyDrops : Cnt := 0
  /-- power.bus_errors (R439). -/
  busErrors : Cnt := 0
  /-- dom.state of the sixteen domains, Table 1.8 order (R427). -/
  doms : List Nat := List.replicate 16 0
  /-- dom.failures (R427). -/
  domFailures : List Cnt := List.replicate 16 0
  /-- Rails out of their trip thresholds, from bit 0: VCE, VSER, VNV, VIO, VAON, VCAN (R515, R535). -/
  railOut : BitVec 6 := 0
  /-- The test access port is out of reset, so DISC_EN and PHG are held low (R534). -/
  testPort : Bool := false
  /-- The boundary register: one cell for each of the pins of R534, in the order of `scanPins` (R17, R534). -/
  boundary : BitVec 19 := 0
deriving DecidableEq, Repr

/-- The pins the boundary register covers: the VIO and VAON signal pins of Table 19.2. DESIGN CHOICE: the five of the test access
port itself, TCK, TMS, TDI, TDO and TRSTN, are left out, as IEEE 1149.1 has them (R534, log 180). -/
inductive ScanPin where
  | lenA | lenB | sreset | discEn | discFb | hb | wake
  | tp (n : Fin 4)
  | tc (n : Fin 2)
  | phg (n : Fin 4)
  | testen | rstn
deriving DecidableEq, Repr

/-- Their order in the register, from bit 0: that of Table 19.2 (DESIGN CHOICE, log 180). -/
def scanPins : List ScanPin :=
  [.lenA, .lenB, .sreset, .discEn, .discFb, .hb, .wake, .tp 0, .tp 1, .tp 2, .tp 3, .tc 0, .tc 1, .phg 0, .phg 1, .phg 2, .phg 3,
   .testen, .rstn]

/-- Timebases, keeper and clock monitor (chapter 16). -/
structure Tb where
  /-- TB0 is qualified (R417). -/
  tb0 : Bool := false
  /-- TB0 is offered (link in FL0) (R424). -/
  offered : Bool := false
  /-- Source of each TBn: 0 normal, 1 keeper, 2 stopped (R417). -/
  src : List Nat := [2, 2, 1, 1, 1, 1, 1, 1, 1, 1, 1, 1, 1]
  /-- TBn stopped without a fallback (R420). -/
  stopped : List Bool := List.replicate 13 false
  /-- TB3, TB4, TB11 and TB12 switch back at the first boundary whose gate window opens from now on (R420). -/
  backPending : Bool := false
  /-- Instant at which each TBn last began to go back to TB0 (R418, R441). -/
  backAt : List (Option Nat) := List.replicate 13 none
  /-- Keeper state (R421). -/
  keeper : Keeper := .starting
  /-- Trim word KT (R422). -/
  kt : Int := 0
  /-- Keeper period P in 2^-32 ns (0xF_A000_0000) (R442). -/
  p : Nat := 67108864000
  /-- keeper.reference (R442). -/
  reference : Nat := 0
  /-- keeper.agree (R424). -/
  agree : Nat := 0
  /-- Consecutive CAN measurements within 2 % while the link is down (R423). -/
  canGood : Nat := 0
  /-- Consecutive measurements with |d| above 1,311 (R423). -/
  badRun : Nat := 0
  /-- A KEEPER measurement has completed since AON was powered (R424). -/
  measured : Bool := false
  /-- Instant of the last measurement (R423). -/
  lastMeas : Nat := 0
  /-- Consecutive good ALIGN slots with following COUNT in FL0 (R424). -/
  goodAligns : Nat := 0
  /-- tb.switches (R418). -/
  switches : Cnt := 0
  /-- tb.forced (R419). -/
  forced : Cnt := 0
  /-- tb.monitor_trips (R424). -/
  monitorTrips : Cnt := 0
  /-- tb.unqualified_trips (R424). -/
  unqualTrips : Cnt := 0
deriving DecidableEq, Repr

/-- Pixel array, gate plane and governor (chapter 2). -/
structure Arr where
  /-- Reference code of each district (R37). -/
  code : List Nat := List.replicate 128 500
  /-- drive.hi_target in force, in nA (R39). -/
  hiTarget : Nat := 40000
  /-- Active drive words by 2048 y + x; an unlisted pixel holds 0 (R41). -/
  active : List (Nat × Nat) := []
  /-- Shadow drive words (R41). -/
  shadow : List (Nat × Nat) := []
  /-- Active gate bits, held as the plane they were assembled from (R41). -/
  gate : GatePlane := .zero
  /-- Shadow gate bits (R41). -/
  gateShadow : GatePlane := .zero
  /-- A gate launch has taken place since the hold lines were released (R56). -/
  litSince : Bool := true
  /-- Instant of the last gate launch (R260). -/
  gateAt : Nat := 0
  /-- Ramp state (R46). -/
  ramp : Ramp := .tail
  /-- RUN time of the subframe's ramp up to the last ramp switch (R50). -/
  rampTicks : Nat := 0
  /-- Instant of the last ramp switch (R50). -/
  rampAt : Nat := 0
  /-- Ordering in force (R48). -/
  order : Nat := 1
  /-- Compression K in force (R50). -/
  k : Nat := 256
  /-- Length U of the subframe in progress (R50). -/
  u : Nat := 0
  /-- Function map in force; a byte past its end reads 0 (R65). -/
  map : List Byte := []
  /-- A verified map waits for the next frame launch (R65). -/
  mapNew : Bool := false
  /-- Shed set of the last launch (R62). -/
  shed : BitVec 16 := 0
  /-- Consecutive evaluations each function has been absent from W (R62). -/
  absent : List Nat := List.replicate 16 0
  /-- LIT 0, OFF 2 or FALLBACK 3 of each function (R67). -/
  policy : List Nat := List.replicate 16 0
  /-- maskable, shed_order and min_flux in force since the last frame launch; empty before the first launch, when the written values stand (R69). -/
  fset : List FuncSet := []
  /-- governor.budget (R68). -/
  budget : Nat := 0
  /-- governor.predicted (R68). -/
  predicted : Nat := 0
  /-- governor.average (R68). -/
  average : Nat := 0
  /-- governor.peak (R68). -/
  peak : Nat := 0
  /-- governor.floor (R68). -/
  floor : Nat := 0
  /-- governor.shed_events (R68). -/
  shedEvents : Cnt := 0
  /-- governor.unmet_events (R62). -/
  unmetEvents : Cnt := 0
  /-- governor.dur_limited (R68). -/
  durLimited : Cnt := 0
deriving DecidableEq, Repr

/-- Frame timing (chapter 3). -/
structure Frm where
  /-- Timing mode in force (R73). -/
  mode : Mode := {}
  /-- Pending timing mode (R74). -/
  pend : Option Mode := none
  /-- Retiming of the subframe sequencer runs (R75). -/
  retiming : Bool := false
  /-- The pending mode was committed after the gate window of the coming boundary opened (R74, R95). -/
  modeNew : Bool := false
  /-- frame.mode_reason (R73). -/
  modeReason : Nat := 0
  /-- Shadow descriptor (R88). -/
  shadowDesc : Option (List Byte) := none
  /-- Committed descriptors that have not launched, head first (R89). -/
  queue : List Desc := []
  /-- Frame in force (R89). -/
  cur : Option Desc := none
  /-- Predicted currents of the frame in force, kept for repeats (R63). -/
  curSums : Sums := {}
  /-- LO-unit total of the frame in force (R57). -/
  curLo : Nat := 0
  /-- Last accepted SEQ (R88). -/
  lastSeq : Option Nat := none
  /-- frame.launched_seq (R98). -/
  launchedSeq : Nat := 0
  /-- frame.launch_time (R98). -/
  launchTime : Time80 := {}
  /-- frame.launch_error in ns (R93). -/
  launchError : Int := 0
  /-- frame.k_fit (R84). -/
  kFit : Nat := 256
  /-- frame.launch_flags (R98). -/
  flags : Nat := 0
  /-- Phase error still to slew (R93). -/
  e : Int := 0
  /-- Length F' of the frame in progress, in ticks (R71). -/
  fPrime : Nat := 0
  /-- Instant of the last frame boundary (R71). -/
  frameAt : Nat := 0
  /-- Subframe in progress (R71). -/
  sub : Nat := 0
  /-- Instant of its launch (R71). -/
  subAt : Nat := 0
  /-- Off-windows and probe slots placed in the frame in progress (R80). -/
  items : List Placed := []
  /-- The frame in progress carries a calibration claim (R84). -/
  claim : Bool := false
  /-- The PAUSE of that claim runs, up to the frame's last boundary (R84). -/
  claiming : Bool := false
  /-- Launch snapshot from the opening of a gate window to its launch (R24). -/
  snap : Option Snap := none
  /-- A gate window is open (R21). -/
  windowOpen : Bool := false
  /-- Drive-word traffic held until the launch (R44). -/
  held : Bool := false
  /-- Item in progress (R77). -/
  inItem : Option GateKind := none
  /-- Local time in ns past the last occurrence of each absolute item that has been placed or dropped (R80). -/
  oneShotFrom : List Nat := [0, 0, 0, 0, 0, 0]
  /-- frame.late_launches (R90). -/
  late : Cnt := 0
  /-- frame.missed_times (R92). -/
  missed : Cnt := 0
  /-- frame.unsynced_launches (R94). -/
  unsynced : Cnt := 0
  /-- frame.truncated_subframes (R85). -/
  truncated : Cnt := 0
  /-- frame.dropped_items (R80). -/
  dropped : Cnt := 0
  /-- frame.refused_commits (R88). -/
  refused : Cnt := 0
  /-- frame.retime_holds (R75). -/
  retimeHolds : Cnt := 0
  /-- frame.reject_reason (R98). -/
  rejectReason : Nat := 0
  /-- frame.reject_seq (R98). -/
  rejectSeq : Nat := 0
deriving DecidableEq, Repr

/-- Management subsystem (chapter 17). -/
structure Mg where
  /-- Interrupt controller of the Helm core (Table 17.3) (R450). -/
  irqH : Irq := {}
  /-- Interrupt controller of the Purser core (R450). -/
  irqP : Irq := {}
  /-- Timers of the Helm core (Table 17.5) (R454). -/
  tmrH : List Tmr := [{}, {}, {}, {}]
  /-- Timers of the Purser core (R454). -/
  tmrP : List Tmr := [{}, {}, {}, {}]
  /-- Seconds latched by a read of TNOW_NS (R455). -/
  tnowSec : Nat := 0
  /-- VALID latched with them (R455). -/
  tnowValid : Bool := false
  /-- Nanoseconds returned by that read (R455). -/
  tnowNs : Nat := 0
  /-- Mailbox request pending (MBX_REQ, MBX_TAG, MBX_LEN, MBX_DATA) (R455). -/
  mbx : Option MbxReq := none
  /-- Next MBX_TAG (R455). -/
  mbxTag : Nat := 0
  /-- MBX_LEN (R455). -/
  mbxLen : Nat := 0
  /-- MBX_DATA, 1,024 bytes (R455). -/
  mbxData : List Byte := List.replicate 1024 0
  /-- Log queue in management SRAM, oldest first (R466). -/
  logQueue : List LogEntry := []
  /-- log.lost (R466). -/
  logLost : Cnt := 0
  /-- Frozen copy of the safety registers (R457). -/
  srCopy : SrRegion := {}
  /-- SR_SNAP as last returned (R457). -/
  srSeqRead : Nat := 0
  /-- CRC units (Table 17.7) (R458). -/
  crc : List CrcUnit := List.replicate 8 {}
  /-- Instant of the last watchdog service of the Purser core (R446). -/
  purserWd : Nat := 0
  /-- Cores whose watchdog warning has been given since the last service (R453). -/
  wdWarned : Nat := 0
  /-- mgmt.cust_state (R473). -/
  custState : Nat := 0
  /-- Handlers attached to customer interrupt sources (R449). -/
  custAttach : List (Nat × Nat) := []
  /-- Sources claimed in customer context and not completed (R448). -/
  custClaims : List Nat := []
  /-- The customer image waits in YIELD (R449). -/
  custYield : Bool := false
  /-- Result register of the last service call (R449). -/
  svcResult : Nat := 0
  /-- mtval of the Helm and Purser cores after an access fault (R444). -/
  mtval : List Nat := [0, 0]
  /-- mcycle of the Helm and Purser cores (R443, log 202). -/
  mcycle : List Nat := [0, 0]
  /-- Direction captured with it (R439). -/
  faultWrite : List Bool := [false, false]
  /-- The exception each core took last, Helm first (R443, R444). -/
  exc : List (Option CoreExc) := [none, none]
  /-- Neither bank verified: the boot ROM alone answers (R467). -/
  bootRom : Bool := false
  /-- The bank in force has failed its check and the other one is tried (R467). -/
  bankTried : Bool := false
  /-- Both cores are halted after the control sensor reached 125 C (R332). -/
  haltMgmt : Bool := false
  /-- A program unit was in progress at the halt, since this instant (R332). -/
  haltUnit : Option Nat := none
  /-- The boot after a halt awaits the check of an image (R332, R467). -/
  restarting : Bool := false
  /-- mgmt.mram_corrected (R461). -/
  mramCorrected : Cnt := 0
  /-- mgmt.sram_corrected (R444). -/
  sramCorrected : Cnt := 0
  /-- mgmt.purser_restarts (R446). -/
  purserRestarts : Cnt := 0
  /-- mgmt.cust_traps (R448). -/
  custTraps : Cnt := 0
  /-- mgmt.journal_tx (R462). -/
  journalTx : Cnt := 0
  /-- mgmt.journal_rollbacks (R463). -/
  journalRollbacks : Cnt := 0
  /-- mgmt.fw_version (R473). -/
  fwVersion : Nat := 0
  /-- update.state (R470). -/
  updState : Nat := 0
  /-- update.reason (R470). -/
  updReason : Nat := 0
  /-- The update open is a customer image (R470). -/
  updCustomer : Bool := false
  /-- Image bytes received since OPEN (R470). -/
  updImage : List Byte := []
  /-- update.received (R473). -/
  updReceived : Nat := 0
  /-- pstore.signature as written (R465). -/
  psSig : List Byte := []
  /-- pstore.result (R473). -/
  psResult : Nat := 0
  /-- Verification of staging runs (R465). -/
  psVerifying : Bool := false
  /-- Staging has been filled since the last commit in this session (R464). -/
  psStaged : Bool := false
  /-- PE_LOAD_ADDR (R456). -/
  peAddr : List Nat := List.replicate 8 0
  /-- PE_LOAD_RESULT (R456). -/
  peLoadResult : List Nat := List.replicate 8 0
  /-- Instant at which BUSY of a load ends (R456, log 203). -/
  peBusy : List Nat := List.replicate 8 0
  /-- PE_CMD_RESULT (R456). -/
  peCmdResult : List Nat := List.replicate 8 0
deriving DecidableEq, Repr

/-- MRAM: what survives power (chapter 17). -/
structure Nv where
  /-- Firmware bank in force (R467). -/
  bank : Nat := 0
  /-- Firmware rollback counter (R469). -/
  rollFw : Nat := 0
  /-- Customer rollback counter (R469). -/
  rollCust : Nat := 0
  /-- Key slot 1 (R471). -/
  keyCust : Option (List Byte) := none
  /-- Key slot 2 (R471). -/
  keyPst : Option (List Byte) := none
  /-- Session key (R497). -/
  sessKey : Option (List Byte) := none
  /-- Firmware banks A and B (R461). -/
  banks : List (List Byte) := [[], []]
  /-- Customer image (R461). -/
  custImage : List Byte := []
  /-- The customer image is marked valid (R470). -/
  custValid : Bool := false
  /-- Saved customer data (R449). -/
  custData : List Byte := []
  /-- Protected store copies 0 and 1 (R464). -/
  copies : List Prot := [{}, {}]
  /-- Copy in force (R465). -/
  copy : Nat := 0
  /-- The copy in force has failed its check (R465). -/
  psBad : Bool := false
  /-- Saved values of persist objects by 256 index + subindex (R494). -/
  saved : List (Nat × List Byte) := []
  /-- Failed-pixel table, kept in the persistent dictionary (R278). -/
  table : List FailEntry := []
  /-- Log ring, newest first (R466). -/
  ring : List LogEntry := []
  /-- Pinned log, oldest first (R466). -/
  pinned : List LogEntry := []
  /-- log.pin_ovf (R466). -/
  pinOvf : Bool := false
  /-- SEQ of the next log entry (R466). -/
  logSeq : Cnt := 0
  /-- Newest journal transaction, open or done (R462). -/
  jrnl : Option Journal := none
  /-- Transaction SEQ (R462). -/
  jrnlSeq : Cnt := 0
  /-- Transactions waiting their turn (R462). -/
  jrnlWait : List JTarget := []
  /-- Districts whose factory calibration does not match its stored CRC (R273). -/
  factoryBad : List Nat := []
deriving DecidableEq, Repr

/-- Dictionary server (chapter 18). -/
structure Dict where
  /-- Ferry request queue: packet SEQ, broadcast, message (R485). -/
  queue : List (Nat × Bool × List Byte) := []
  /-- Transfer open on CAN (R490). -/
  xferCan : Option Xfer := none
  /-- Transfer open on Ferry (R490). -/
  xferFerry : Option Xfer := none
  /-- CAN requests that wait for the server: how many Ferry requests that came before still wait, broadcast, message (R485). -/
  canQueue : List (Nat × Bool × List Byte) := []
  /-- Answer to the previous SEGMENT on CAN (R488). -/
  lastCan : Option SegAns := none
  /-- Answer to the previous SEGMENT on Ferry (R488). -/
  lastFerry : Option SegAns := none
  /-- Session of the CAN path (R498). -/
  sesCan : Sess := {}
  /-- Session of the Ferry path (R498). -/
  sesFerry : Sess := {}
  /-- session.failures (R500). -/
  failures : Cnt := 0
  /-- comm.event_seq, last ESEQ issued (R501). -/
  eventSeq : BitVec 16 := 0
  /-- Moderation and pending-events set of the CAN path (R503). -/
  evCan : EvPath := {}
  /-- Moderation and pending-events set of the Ferry path (R503). -/
  evFerry : EvPath := {}
  /-- comm.events_coalesced (R503). -/
  coalesced : Cnt := 0
  /-- comm.summaries (R507). -/
  summaries : Cnt := 0
  /-- Frozen copies of the CAN path, by index (R495). -/
  frozenCan : List (Nat × List (Nat × List Byte)) := []
  /-- Frozen copies of the Ferry path (R495). -/
  frozenFerry : List (Nat × List (Nat × List Byte)) := []
  /-- Answer to the latest object access: 0, or the abort code (R491). -/
  answer : Nat := 0
deriving DecidableEq, Repr

/-- CAN FD controller (chapter 18). -/
structure Can where
  /-- The controller has joined the bus (R476). -/
  joined : Bool := false
  /-- Bus-off (R478). -/
  busOff : Bool := false
  /-- can.tec (R507). -/
  tecErr : Nat := 0
  /-- can.rec (R507). -/
  recErr : Nat := 0
  /-- Node number last given by ASSIGN, 0 none (R480). -/
  assigned : Nat := 0
  /-- COLLISION flag (R482). -/
  collision : Bool := false
  /-- Instant of the last collision (R482). -/
  collisionAt : Nat := 0
  /-- Arbitration rate in force since boot (R475). -/
  arbRate : Nat := 0
  /-- Data rate in force since boot (R475). -/
  dataRate : Nat := 2
  /-- can.bus_offs (R478). -/
  busOffs : Cnt := 0
  /-- can.rx_frames (R507). -/
  rxFrames : Cnt := 0
  /-- can.tx_frames (R507). -/
  txFrames : Cnt := 0
  /-- can.busy_drops (R485). -/
  busyDrops : Cnt := 0
  /-- can.collisions (R482). -/
  collisions : Cnt := 0
  /-- Count of the heartbeat message (R504). -/
  hbCount : Nat := 0
  /-- Instant of the last heartbeat message, if one was sent (R504). -/
  hbAt : Option Nat := none
deriving DecidableEq, Repr

/-- Ferry lanes (chapter 4). -/
structure Lane where
  /-- ferry.state (R130). -/
  st : LinkSt := .detect
  /-- Rate code in force (R100). -/
  rate : Nat := 0
  /-- Lanes in force (R99). -/
  lanes : Nat := 1
  /-- RATE of the training in progress (R119). -/
  tgtRate : Nat := 0
  /-- LANES of the training in progress (R119). -/
  tgtLanes : Nat := 1
  /-- Precoding announced by the upstream transmitter (R102). -/
  rxPrecode : Bool := false
  /-- Transmit settings in force: P0 without precoding at 0.5 GBd and for the idle pattern (R103, R105, R126). -/
  txNow : TxSet := {}
  /-- Transmit settings at rate, taken from the objects when a training or fast retrain starts (R130). -/
  txRate : TxSet := {}
  /-- Transmit lanes driven: 0 electrical idle (R119). -/
  txOn : Nat := 0
  /-- What the transmitter sends (R119). -/
  txMode : TxMode := .idle
  /-- HOPS of the last TS1 (R116). -/
  hops : Nat := 0
  /-- GEN of the training in progress (R120). -/
  gen : Nat := 0
  /-- GEN refused, whose TS2 is ignored (R120). -/
  refusedGen : Option Nat := none
  /-- Consecutive good TS1 (R119). -/
  ts1Run : Nat := 0
  /-- Consecutive TS2 (R119). -/
  ts2Run : Nat := 0
  /-- Consecutive TS4 (R119). -/
  ts4Run : Nat := 0
  /-- Step of Table 4.7 in progress (R119). -/
  step : Nat := 0
  /-- Instant from which the bound of that step runs; step 7 keeps that of step 6 (Table 4.7). -/
  stepAt : Nat := 0
  /-- What step 2 of Table 4.7 still waits for: failure 0x02, 0x03 or 0x04 (R122). -/
  cause2 : Nat := 2
  /-- LANES, RATE and GEN of the last TS1 (R119). -/
  tsPar : Option (Nat × Nat × Nat) := none
  /-- Training block being transmitted, bytes 0x00 to 0x09 of Table 4.6 for lane 0 (R115). -/
  txBlk : List Byte := []
  /-- Receiver ready (step 6 complete) (R119). -/
  rxReady : Bool := false
  /-- Stored adaptation is valid (R128). -/
  adapted : Bool := false
  /-- Adaptation frozen (FL1) (R106). -/
  frozen : Bool := false
  /-- Consecutive failed fast retrains (R125). -/
  retrainFails : Nat := 0
  /-- The 2 ms electrical idle runs since this instant (R122). -/
  idleFrom : Option Nat := none
  /-- Instant of the last entry to FL0 (R125). -/
  upFrom : Nat := 0
  /-- The link-loss timeout runs since this instant (R411). -/
  downAt : Option Nat := none
  /-- SYNC slots received before the first data slot (R119). -/
  syncSlots : Nat := 0
  /-- EI1 slots received (R126). -/
  ei1Run : Nat := 0
  /-- EI2 slots received (R128). -/
  ei2Run : Nat := 0
  /-- The exit of FL1 has begun on lane 0 and SYNC has not come on every lane in force (R127, R129). -/
  exitFl1 : Bool := false
  /-- Block lock of each lane (R114). -/
  lock : List Bool := [false, false, false, false]
  /-- COUNT of the last good ALIGN slot (R116). -/
  count : Option Nat := none
  /-- The next marker is the first after training, fast retrain or FL1 exit (R116). -/
  firstAlign : Bool := true
  /-- Captures of good markers of the last 2 s: COUNT, instant, local time (R364). -/
  markers : List Marker := []
  /-- ferry.marker_delay in ps (R116). -/
  markerDelay : Nat := 0
  /-- ferry.skew in ps (R118). -/
  skew : Nat := 0
  /-- Deskew of each lane as trained (R118). -/
  trainedSkew : List Nat := [0, 0, 0, 0]
  /-- ferry.fail_reason (R122). -/
  failReason : Nat := 0
  /-- ferry.train_failures (R122). -/
  trainFailures : Cnt := 0
  /-- ferry.link_downs (R123). -/
  linkDowns : Cnt := 0
  /-- ferry.fast_retrains (R125). -/
  fastRetrains : Cnt := 0
  /-- ferry.marker_jumps (R116). -/
  markerJumps : Cnt := 0
  /-- ferry.marker_errors (R117). -/
  markerErrors : Cnt := 0
  /-- ferry.rx_lane.bad_headers (R113). -/
  badHeaders : List Cnt := [0, 0, 0, 0]
  /-- ferry.rx_lane.ctl_errors (R112). -/
  ctlErrors : List Cnt := [0, 0, 0, 0]
  /-- ferry.rx_lane.lock_losses (R114). -/
  lockLosses : List Cnt := [0, 0, 0, 0]
  /-- CTLE peaking code (R106). -/
  ctle : List Nat := [0, 0, 0, 0]
  /-- The three DFE taps of each lane in mV (R106). -/
  dfe : List (List Int) := [[0, 0, 0], [0, 0, 0], [0, 0, 0], [0, 0, 0]]
  /-- Instant of the last adaptation, which limits the next (R106). -/
  adaptAt : Nat := 0
  /-- Eye height in mV (R130). -/
  eye : List Nat := [0, 0, 0, 0]
deriving DecidableEq, Repr

/-- Ferry packets and the ring (chapter 5). -/
structure Fy where
  /-- Chain address, 63 unaddressed (R143). -/
  address : Nat := 63
  /-- OVERFLOW (R146). -/
  overflow : Bool := false
  /-- ferry.enum_gen (R160). -/
  enumGen : Nat := 0
  /-- Insertion queue, in order of arrival (R139). -/
  insert : List Own := []
  /-- The pending STATUS was caused by an address change, which lifts the 100 us spacing (R152). -/
  identPend : Bool := false
  /-- STATUS_SEQ of the next STATUS packet (R152). -/
  statusSeq : BitVec 16 := 0
  /-- Instant of the last STATUS packet (R152). -/
  statusAt : Option Nat := none
  /-- Executed DICT packets with their answers, newest first (R156). -/
  doneDict : List (Nat × List Byte) := []
  /-- Executed FRAME packets with their answers, newest first (R156). -/
  doneFrame : List (Nat × List Byte) := []
  /-- NACKed DICT packets with their counts (R156). -/
  nackDict : List (Nat × Nat) := []
  /-- NACKed FRAME packets with their counts (R156). -/
  nackFrame : List (Nat × Nat) := []
  /-- The engine hunts (R154). -/
  hunt : Bool := false
  /-- Units still to come before the one that can confirm a candidate header, for each candidate (R154). -/
  cands : List Nat := []
  /-- The IDLE packet open in the output: its units, and the packet received where nothing has replaced it (R137). -/
  idle : Option (Nat × Option Packet) := none
  /-- The last header received: its word, the local time of its arrival, the COUNT of the last good marker before it
  (R150, R151). -/
  head : Option (BitVec 64 × Time80 × Option Nat) := none
  /-- Row-error entries pending (R157). -/
  rowPend : List RowErr := []
  /-- Entries made in the previous frame period: slot, row, whole slot (R157). -/
  rowPrev : List (Nat × Nat × Bool) := []
  /-- Entries made in this frame period (R157). -/
  rowCur : List (Nat × Nat × Bool) := []
  /-- ROW_OVF (R157). -/
  rowOvf : Bool := false
  /-- ferry.crc_errors (R155). -/
  crcErrors : Cnt := 0
  /-- ferry.crc_passed (R155). -/
  crcPassed : Cnt := 0
  /-- ferry.hunts (R154). -/
  hunts : Cnt := 0
  /-- ferry.nacks_sent (R160). -/
  nacksSent : Cnt := 0
  /-- ferry.transients (R157). -/
  transients : Cnt := 0
  /-- ferry.duplicates (R156). -/
  duplicates : Cnt := 0
  /-- ferry.busy_drops (R139). -/
  busyDrops : Cnt := 0
  /-- ferry.malformed (R134). -/
  malformed : Cnt := 0
  /-- ferry.stale_time (R150). -/
  staleTime : Cnt := 0
  /-- ferry.row_errors (R157). -/
  rowErrors : Cnt := 0
  /-- ferry.row_overflows (R157). -/
  rowOverflows : Cnt := 0
  /-- ferry.consumed (R160). -/
  consumed : Cnt := 0
  /-- Instant at which a STATUS packet fell due by its period last (R152). -/
  periodAt : Nat := 0
  /-- ferry.inserted (R160). -/
  inserted : Cnt := 0
deriving DecidableEq, Repr

/-- Surface memory and slots (chapter 6). -/
structure Surf where
  /-- Surface memory; an unlisted byte reads 0 or, in an undefined region, as a free value (R161). -/
  mem : List Host.Cell := []
  /-- Areas whose content a configure left undefined: first, past the last, tag of the configure (R177). -/
  undef : List (Nat × Nat × Nat) := []
  /-- Poisoned 64-bit words, by address / 8 (R163). -/
  poison : List Nat := []
  /-- Slot descriptors (R166). -/
  slots : List Slot := List.replicate 256 {}
  /-- Palettes written; an unlisted one has every entry 0 and KEY 0xFFFF (R169). -/
  palettes : List (Nat × List Byte) := []
  /-- slot.result (R176). -/
  result : Nat := 0
  /-- surf.retired_seq (R182). -/
  retiredSeq : Nat := 0
  /-- surf.rej_free (R174). -/
  rejFree : Cnt := 0
  /-- surf.rej_pinned (R174). -/
  rejPinned : Cnt := 0
  /-- surf.rej_shape (R174). -/
  rejShape : Cnt := 0
  /-- surf.ecc_corrected (R163). -/
  eccCorrected : Cnt := 0
  /-- surf.ecc_poisoned (R163). -/
  eccPoisoned : Cnt := 0
  /-- surf.retirements (R182). -/
  retirements : Cnt := 0
  /-- surf.release_deferred (R177). -/
  releaseDeferred : Cnt := 0
deriving DecidableEq, Repr

/-- The Square (chapter 7). -/
structure Comp where
  /-- Composition in progress or complete for the head descriptor, with its samples (R213). -/
  job : Option Job := none
  /-- Composition of the frame in force, for a reload with an empty queue (R249). -/
  curJob : Option Job := none
  /-- Layer records the preceding composed descriptor used (R214). -/
  prev : Option (List (Nat × LayerUse)) := none
  /-- comp.cache_state (R207). -/
  cache : CacheSt := .empty
  /-- Run held by the flatten cache: layer records with their GENs, and the rectangle (R205). -/
  cacheRun : Option Run := none
  /-- Protected record of the bank in force (R203). -/
  bankRec : List Byte := []
  /-- Words of the bank in force found uncorrectable (R204). -/
  bankPoison : List Nat := []
  /-- Newly verified record in the idle bank (R203). -/
  idleRec : Option (List Byte) := none
  /-- Record whose footprint and K_prot the gate plane uses (R203). -/
  footRec : List Byte := []
  /-- protected.state (R217). -/
  protState : Nat := 0
  /-- comp.composed_seq (R213). -/
  composedSeq : Nat := 0
  /-- comp.level_used (R217). -/
  levelUsed : Int := 0
  /-- comp.stale_mask (R217). -/
  staleMask : Nat := 0
  /-- comp.omitted_mask (R217). -/
  omittedMask : Nat := 0
  /-- comp.load (R217). -/
  load : Nat := 0
  /-- comp.reject_layer (R217). -/
  rejectLayer : Nat := 255
  /-- comp.reject_load (R217). -/
  rejectLoad : Nat := 0
  /-- comp.reject_samples (R217). -/
  rejectSamples : Nat := 0
  /-- comp.stale_layers (R214). -/
  staleLayers : Cnt := 0
  /-- comp.omitted_layers (R214). -/
  omittedLayers : Cnt := 0
  /-- comp.flattens (R207). -/
  flattens : Cnt := 0
  /-- comp.fallback_frames (R207). -/
  fallbackFrames : Cnt := 0
  /-- comp.cache_repairs (R208). -/
  cacheRepairs : Cnt := 0
deriving DecidableEq, Repr

/-- What the expiry of a set found: its instant, the policies in force, the Tollgate and the log queue (R229). -/
structure MaskUndo where
  at_ : Nat
  dim : Bool
  dead : Bool
  saf : Saf
  logQueue : List LogEntry
deriving DecidableEq, Repr

/-- Glare masks (chapter 8). -/
structure Mask where
  /-- mask.state (R230). -/
  st : MaskSt := .none
  /-- Accepted sets that have not reached the array, oldest first (R226). -/
  known : List MaskSet := []
  /-- Newest accepted set (R219). -/
  cur : Option MaskSet := none
  /-- Set in force in the gate plane (R226). -/
  force : Option MaskSet := none
  /-- Instant at which the lifetime ends (R229). -/
  expiry : Nat := 0
  /-- Arrival at which the lifetime started (R229). -/
  lifeFrom : Nat := 0
  /-- Instant of the last expiry, with `dim` and `dead` before it (R229). -/
  expiredAt : Option MaskUndo := none
  /-- Arrival of the SET that ended NONE or EXPIRED last (R232). -/
  endFrom : Option Nat := none
  /-- The gate plane acts under the policy of NONE and EXPIRED (R231). -/
  dead : Bool := true
  /-- The expired-mask dimming applies to compositions that start now (R232). -/
  dim : Bool := true
  /-- mask.latency (R228). -/
  latency : Nat := 0
  /-- mask.remaining at the last gate launch (R235). -/
  remaining : Nat := 0
  /-- mask.covered at the last gate launch (R235). -/
  covered : Nat := 0
  /-- mask.accepted (R235). -/
  accepted : Cnt := 0
  /-- mask.rejected (R219). -/
  rejected : Cnt := 0
  /-- mask.superseded (R228). -/
  superseded : Cnt := 0
  /-- mask.expiries (R231). -/
  expiries : Cnt := 0
  /-- mask.renewals (R235). -/
  renewals : Cnt := 0
  /-- mask.reject_reason (R219). -/
  rejectReason : Nat := 0
  /-- mask.reject_mseq (R219). -/
  rejectMseq : Nat := 0
deriving DecidableEq, Repr

/-- The Quay (chapter 9). -/
structure Quay where
  /-- What the current load is corrected with, sampled at the start of composition (R236). -/
  smp : QSample := {}
  /-- SEQ of the descriptor being loaded (R247). -/
  seq : Nat := 0
  /-- A load is in progress (R247). -/
  loading : Bool := false
  /-- The head descriptor's shadow words are complete (R44). -/
  complete : Bool := false
  /-- The load in progress is a reload (R249). -/
  reload : Bool := false
  /-- The one check-window retry of this load has been used (R255). -/
  retried : Bool := false
  /-- A mismatch of this load calls for a reload (R255). -/
  retryPend : Bool := false
  /-- The load is the descriptor of the frame in force, loaded again on return from a safety state (R249). -/
  repeatCur : Bool := false
  /-- North half: line buffer, output buffer and row pointers (R242). -/
  north : HalfQ := {}
  /-- South half (R242). -/
  south : HalfQ := { nextComp := 512, nextCorr := 512, nextSend := 512 }
  /-- LO-unit sums of the load by district, function and segment (R248). -/
  sums : List (Nat × Nat) := []
  /-- Predicted currents of the complete load (R57). -/
  loadSums : Sums := {}
  /-- LO-unit total of the complete load (R57). -/
  loadLo : Nat := 0
  /-- Pixels clamped in the load in progress (R241). -/
  saturated : Nat := 0
  /-- Pixels with s > 0 in the load in progress (R241). -/
  compensated : Nat := 0
  /-- quay.flagged_rows (R246). -/
  flagged : List Nat := []
  /-- quay.flag_ovf (R246). -/
  flagOvf : Bool := false
  /-- quay.loaded_seq (R258). -/
  lastSeq : Nat := 0
  /-- quay.load_time (R258). -/
  lastTime : Time80 := {}
  /-- quay.saturated (R258). -/
  lastSat : Nat := 0
  /-- quay.compensated (R258). -/
  lastComp : Nat := 0
  /-- quay.k_cool (R258). -/
  lastCool : Nat := 32768
  /-- quay.k_warm (R258). -/
  lastWarm : Nat := 32768
  /-- Check windows: accumulator, result, status, counts (R251). -/
  win : List WinSt := List.replicate 16 {}
  /-- quay.underruns (R245). -/
  underruns : Cnt := 0
  /-- quay.urgency_raises (R244). -/
  urgencyRaises : Cnt := 0
  /-- quay.reloads (R249). -/
  reloads : Cnt := 0
  /-- quay.saturated_frames (R241). -/
  satFrames : Cnt := 0
  /-- quay.window_retries (R255). -/
  retries : Cnt := 0
deriving DecidableEq, Repr

/-- Pixel diagnosis and calibration (chapter 10). -/
structure Diag where
  /-- GAIN_A codes written since entry to READY, by 2048 y + x; the others are those of factory calibration (R270). -/
  gainA : List (Nat × Nat) := []
  /-- GAIN_B codes written since entry to READY; the others are those of factory calibration (R270). -/
  gainB : List (Nat × Nat) := []
  /-- Gain updates that wait while the Quay reads the bank they would write: district and codes (R237). -/
  gainWait : List (Nat × List Byte) := []
  /-- Gain bank in force per district: false A, true B (R237). -/
  bank : List Bool := List.replicate 128 false
  /-- Factory calibration after the gain updates since entry to READY, bank A (R288). -/
  expA : List (Nat × Nat) := []
  /-- The same, bank B (R288). -/
  expB : List (Nat × Nat) := []
  /-- Static-limp bits, held as the limp pattern 1 they were copied from (R270). -/
  slBits : List Byte := []
  /-- VB fields of the calibration store that differ from factory calibration (R270). -/
  vbWrong : List (Nat × Nat) := []
  /-- Districts that are BASELINE_BAD (R273). -/
  baseBad : List Nat := []
  /-- Due instants of pixels measured since entry to READY; the others are due since that entry (R264). -/
  due : List (Nat × Nat) := []
  /-- Instant of the last entry to READY (R264). -/
  readyAt : Nat := 0
  /-- Retry lists: pixel and class of the first failure, in order (R276). -/
  retry : List (Nat × Nat) := []
  /-- diag.table_ovf (R280). -/
  tableOvf : Bool := false
  /-- Districts whose first SENSE since entry to READY has completed (R286). -/
  senseDone : List Nat := []
  /-- The first TEMP_MAP since entry to READY has completed (R272). -/
  mapDone : Bool := false
  /-- Offset correction of each sense converter (R286). -/
  senseOff : List Int := List.replicate 128 0
  /-- Gain correction of each sense converter (R286). -/
  senseGain : List Int := List.replicate 128 0
  /-- Reference codes chosen that wait for the next frame launch (R291). -/
  codeNew : List (Nat × Nat) := []
  /-- Districts whose code is clamped (R291). -/
  clamped : List Nat := []
  /-- dist.i_hi in nA (R295). -/
  iHi : List Nat := List.replicate 128 40000
  /-- Last valid Vf of each pixel measured since entry to READY, in mV, with T_d at that instant (R306). -/
  vf : List (Nat × Nat × Int) := []
  /-- Pending forced pulses: district, pixel, execution instant (R267). -/
  pulses : List (Nat × Nat × Nat) := []
  /-- District, pixel and execution instant of each forced pulse under way, until its window is done (R55, R267). -/
  pulsed : List (Nat × Nat × Nat) := []
  /-- Failure-policy objects in force since the last frame launch; empty before the first, when the written values stand (R283). -/
  pol : List PolSet := []
  /-- A calibration claim is requested for the next frame (R268). -/
  claimReq : Bool := false
  /-- Stuck-on searches in progress, by district: the rectangle left and its sum less the pixels located (R274). -/
  search : List (Nat × StuckRect) := []
  /-- Instant of the last stuck-on screening of each district (R274). -/
  screenAt : List Nat := List.replicate 128 0
  /-- Instant at which the last window of each district's converter ended (R259). -/
  convAt : List (Option Nat) := List.replicate 128 none
  /-- Located stuck-on pixels with the current subtracted from later sums (R274). -/
  located : List (Nat × Nat) := []
  /-- dist.dark_sum (R295). -/
  darkSum : List Nat := List.replicate 128 0
  /-- diag.sweep_count (R265). -/
  sweeps : Cnt := 0
  /-- Pixels measured live in the sweep in progress (R265). -/
  liveN : List Nat := List.replicate 128 0
  /-- Pixels probed in the sweep in progress (R265). -/
  probedN : List Nat := List.replicate 128 0
  /-- Dark-probe candidates D of each district (R269). -/
  demand : List Nat := List.replicate 128 0
  /-- Calibration types: count, times, status, value (R285). -/
  cal : List Cal := List.replicate 8 {}
  /-- Words corrected by the last STORE_CHECK (R288). -/
  checkOff : Nat := 0
  /-- REXT is out of range (R290). -/
  rextBad : Bool := false
  /-- diag.measurements (R295). -/
  measurements : Cnt := 0
  /-- diag.dark_probes (R295). -/
  darkProbes : Cnt := 0
  /-- diag.first_failures (R276). -/
  firstFailures : Cnt := 0
  /-- diag.transients (R277). -/
  transients : Cnt := 0
  /-- diag.lasting (R277). -/
  lasting : Cnt := 0
  /-- diag.retry_full (R276). -/
  retryFull : Cnt := 0
  /-- diag.discarded (R260). -/
  discarded : Cnt := 0
  /-- diag.claims (R268). -/
  claims : Cnt := 0
  /-- diag.stuck_screens (R295). -/
  stuckScreens : Cnt := 0
  /-- Instant at which the sweep in progress began (R265). -/
  sweepAt : Nat := 0
deriving DecidableEq, Repr

/-- Supply and motion control (chapter 11). -/
structure Sup where
  /-- supply.mode: OFF, SAMPLED or FREE_RUNNING (R319). -/
  mode : SupMode := .off
  /-- N in force since the last entry to READY (R298). -/
  phases : Nat := 4
  /-- supply.rsense in force (R298). -/
  rsense : Nat := 2000
  /-- I_lim in force (R298). -/
  phaseLimit : Nat := 8000
  /-- supply.ov_limit in force (R298). -/
  ovLimit : Nat := 4800
  /-- supply.min_on in force, in ns (R298). -/
  minOn : Nat := 40
  /-- supply.min_off in force, in ns (R298). -/
  minOff : Nat := 40
  /-- Position of the VLED channel, 2^-32 mV (R314). -/
  p : Int := 0
  /-- Velocity of the VLED channel (R314). -/
  v : Int := 0
  /-- Acceleration of the VLED channel (R314). -/
  a : Int := 0
  /-- Position of the LEVEL channel, 2^-32 of 1/16 pixel (R314). -/
  lp : Int := 0
  /-- Velocity of the LEVEL channel (R314). -/
  lv : Int := 0
  /-- Acceleration of the LEVEL channel (R314). -/
  la : Int := 0
  /-- Voltage-loop integrator in mA (R303). -/
  acc : Int := 0
  /-- Error stage: e (R304). -/
  errStage : BfStage := {}
  /-- Feed-forward stage: u, ff, iref (R304). -/
  ffStage : BfStage := {}
  /-- Band stage: i_ref and h of each phase (R304). -/
  bandStage : BfStage := {}
  /-- Exponent E of the profile stage (R304). -/
  profE : Nat := 0
  /-- Mantissas of the profile table P; an unlisted bin holds 0 (R311). -/
  prof : List (Nat × Int) := []
  /-- Bin of the samples accumulated (R311). -/
  bin : Option Nat := none
  /-- Sum of u over the samples of that bin (R312). -/
  binSum : Int := 0
  /-- Samples of that bin (R312). -/
  binCnt : Nat := 0
  /-- A frame boundary lies in the next sample (R304). -/
  boundary : Bool := false
  /-- v of the last sample in mV (R303). -/
  lastV : Nat := 0
  /-- Phase currents of the last sample in mA (R303). -/
  lastI : List Int := [0, 0, 0, 0]
  /-- PHG0 to PHG3 (R296). -/
  phg : List Bool := [false, false, false, false]
  /-- Instant of the last change of each PHG line (R301). -/
  phgAt : List Nat := [0, 0, 0, 0]
  /-- Phases that hit I_lim since the last sample (R302). -/
  limitHit : List Bool := [false, false, false, false]
  /-- Consecutive samples in which each phase reached I_lim (R302). -/
  limitRun : List Nat := [0, 0, 0, 0]
  /-- Phase held at 0 after a sense fault: 1 first failure, 2 lasting (R317). -/
  senseHeld : List Nat := [0, 0, 0, 0]
  /-- Instant of that sense fault (R317). -/
  senseAt : List Nat := [0, 0, 0, 0]
  /-- The phase runs as a retry (R317). -/
  senseTried : List Bool := [false, false, false, false]
  /-- Overvoltage holds every PHG line at 0 (R317). -/
  ovTrip : Bool := false
  /-- Instant of the last restart after an overvoltage (R317). -/
  ovRestartAt : Option Nat := none
  /-- The overvoltage has been raised as lasting since (R317, R388). -/
  ovLasting : Bool := false
  /-- Instant of the last undervoltage restart (R317). -/
  uvAt : Option Nat := none
  /-- The undervoltage has been raised as lasting since (R317, R388). -/
  uvLasting : Bool := false
  /-- State of the repetitive controller (R313). -/
  rep : RepSt := .cleared
  /-- Feed-forward weight (R311). -/
  w : Nat := 0
  /-- supply.rep_frames (R313). -/
  repFrames : Nat := 0
  /-- supply.rep_clear written; cleared at the next sample (R318). -/
  clearPend : Bool := false
  /-- Something since the previous boundary keeps the next one from qualifying (R313). -/
  unqualified : Bool := false
  /-- Vfmax of each district in mV (R306). -/
  vfmax : List Nat := List.replicate 128 0
  /-- V_hold in mV (R310). -/
  vHold : Nat := 2800
  /-- Largest district need of the frame in force, without margin and drop (R308). -/
  needCur : Option (Nat × Nat) := none
  /-- The same for the next frame so far (R308). -/
  needNext : Option (Nat × Nat) := none
  /-- The same for the forced pulses and stuck-on searches that have been pending since the last frame launch: a pulse that is
  done does not lower the target before the next one (R307, R308). -/
  needPulse : Option (Nat × Nat) := none
  /-- Predicted I_pk of the next frame once its load has completed (R307). -/
  ipkNext : Option Nat := none
  /-- The previous frame launch fell short (R309). -/
  shortPrev : Bool := false
  /-- And the one before, so that source 0x8B was raised (R309, R388). -/
  shortTwice : Bool := false
  /-- supply.headroom_short (R309). -/
  headroomShort : Cnt := 0
  /-- supply.clamp_high (R307). -/
  clampHigh : Cnt := 0
  /-- supply.phase_limits (R302). -/
  phaseLimits : Cnt := 0
  /-- supply.bf_saturations (R304). -/
  bfSaturations : Cnt := 0
  /-- supply.free_runs (R305). -/
  freeRuns : Cnt := 0
  /-- supply.rep_clears (R313). -/
  repClears : Cnt := 0
  /-- supply.vf_capped (R306). -/
  vfCapped : Cnt := 0
  /-- Instant of the last sample (R305). -/
  sampleAt : Nat := 0
  /-- Samples since the last step of the LEVEL channel (R314). -/
  levelCnt : Nat := 0
deriving DecidableEq, Repr

/-- Temperature and light sensing (chapter 12). -/
structure Therm where
  /-- Last samples of the diode, newest first, 1/16 C (R323). -/
  diode : List Int := []
  /-- Last reading of the diode itself, before a substitution (R320). -/
  diodeRaw : Option Int := none
  /-- Last samples of T_arr, newest first (R323). -/
  arrS : List Int := []
  /-- Last samples of the NTC (R323). -/
  ntc : List Int := []
  /-- Last samples of the control sensor (R323). -/
  ctl : List Int := []
  /-- Filtered T_arr with its instant, newest first, for the rate (R323). -/
  arrHist : List (Nat × Int) := []
  /-- Rate of the array, 1/16 K/s (R323). -/
  rate : Int := 0
  /-- The rate was above 20 K/s at the last sample (R327). -/
  rateHigh : Bool := false
  /-- Instant of the last step for rate (R327). -/
  rateStepAt : Option Nat := none
  /-- Last step of the throttle thresholds (R326, R338). -/
  stepAt : Option Nat := none
  /-- T_d of each district as last formed from estimates, map offset included, 1/16 C (R321). -/
  td : List Int := List.replicate 128 400
  /-- Pixel temperatures of the last 100 ms: instant, district, 1/16 C (R321). -/
  est : List (Nat × Nat × Int) := []
  /-- Diode reading when each T_d was formed (R321). -/
  tdDiode : List Int := List.replicate 128 400
  /-- Map offset o, 1/16 K (R321). -/
  mapOff : Int := 0
  /-- The TEMP_MAP difference has been above 15 K since (R328). -/
  mapDiffSince : Option Nat := none
  /-- The NTC has read above T_arr + 15 K since (R328). -/
  ntcHighSince : Option Nat := none
  /-- NTC source current in use: 50, 5 or 0.5 uA (R322). -/
  ntcCur : Nat := 0
  /-- thermal.level (R324). -/
  level : Nat := 0
  /-- Instant of the last level transition (R325). -/
  levelAt : Option Nat := none
  /-- Since when filtered T_arr has been at or above WARN, THROTTLE, LIMP, DARK (R325). -/
  upSince : List (Option Nat) := [none, none, none, none]
  /-- Since when it has been below each level's threshold less 4 K (R325). -/
  fallSince : List (Option Nat) := [none, none, none, none]
  /-- thermal.step (R326). -/
  n : Nat := 16
  /-- Down condition of T_arr, NTC and control sensor since (R326). -/
  hotSrc : List (Option Nat) := [none, none, none]
  /-- Up timer (R326). -/
  coolSince : Option Nat := none
  /-- DIODE, NTC, CONTROL sensor broken as judged at the last sample (R328). -/
  broken : List Bool := [false, false, false]
  /-- The reading of the source is substituted (R328). -/
  subst : List Bool := [false, false, false]
  /-- Cold-start margin of diode, NTC and control sensor runs since (R329). -/
  validAt : List (Option Nat) := [none, none, none]
  /-- Control sensor above its warning level (R330). -/
  ctlWarn : Bool := false
  /-- Dwell of the control warning, rising (R330). -/
  ctlUpSince : Option Nat := none
  /-- Dwell of the control warning, falling (R330). -/
  ctlDownSince : Option Nat := none
  /-- NTC at or above thermal.ntc_warn (R339). -/
  ntcWarn : Bool := false
  /-- The control sensor has reached 125 C and management is not back (R332). -/
  ctlHigh : Bool := false
  /-- The control sensor has read below 110 C since (R332). -/
  ctlCoolSince : Option Nat := none
  /-- thermal.steps_down (R326). -/
  stepsDown : Cnt := 0
  /-- thermal.steps_up (R326). -/
  stepsUp : Cnt := 0
  /-- thermal.rate_steps (R327). -/
  rateSteps : Cnt := 0
  /-- thermal.sensor_faults (R328). -/
  sensorFaults : Cnt := 0
  /-- Cool phosphor gain (R335). -/
  kCool : Nat := 32768
  /-- Warm phosphor gain (R335). -/
  kWarm : Nat := 32768
  /-- light.state (R339). -/
  lightState : Nat := 0
  /-- light.share (R339). -/
  share : Nat := 0
  /-- light.cct (R339). -/
  cct : Nat := 0
  /-- light.flux_ratio (R339). -/
  fluxRatio : Nat := 0
  /-- Updating seconds phi has been below its tolerance with a gain at 40,960 (R336). -/
  fluxLow : Nat := 0
  /-- Updating seconds light.cct has been outside its box (R336). -/
  cctOut : Nat := 0
  /-- Dark offset of each photodiode channel, BLUE and BROAD of pairs 0 to 3 (R333). -/
  dark : List Int := List.replicate 8 0
  /-- Dark offsets of the integrals of this second, over the BLUE and over the BROAD channels (R333). -/
  darkSum : Int × Int := (0, 0)
  /-- Sum of L K over the frames of this second, in LO units / 256 (R334). -/
  demand : Nat := 0
  /-- A lit frame of this second had a predicted flux of at least 5 % of full (R335). -/
  litSec : Bool := false
  /-- light.updates (R335). -/
  updates : Cnt := 0
  /-- light.limited (R335). -/
  limited : Cnt := 0
deriving DecidableEq, Repr

/-- Pattern engines (chapter 13). -/
structure Pat where
  /-- The eight engines: program, state, lanes, latched trigger, output (R353). -/
  eng : List Eng := List.replicate 8 {}
  /-- Outputs in force, lowest engine per target (R346). -/
  vis : List Drive := []
  /-- Outputs of the tick computed, visible from the boundary (R346). -/
  visNext : Option (List Drive) := none
  /-- pattern.ticks (R345). -/
  ticks : Cnt := 0
  /-- pattern.conflicts (R343). -/
  conflicts : Cnt := 0
  /-- pattern.triggers_ignored (R353). -/
  trigIgnored : Cnt := 0
  /-- pattern.ignored_outputs (R341). -/
  ignoredOut : Cnt := 0
  /-- pattern.markers (R357). -/
  markers : Cnt := 0
  /-- pattern.load_reason (R348). -/
  loadReason : Nat := 0
  /-- pattern.load_engine (R348). -/
  loadEngine : Nat := 255
deriving DecidableEq, Repr

/-- The whole machine. -/
structure State where
  /-- Instant of the last command, in ps (R376). -/
  now : Nat := 0
  /-- id.grade: 0 HA, 1 SG (R507). -/
  grade : Nat := 0
  /-- id.uid (R507). -/
  uid : Nat := 0
  /-- id.hw_rev (R507). -/
  hwRev : Nat := 0
  /-- Values of the written objects by 256 index + subindex; an unlisted object holds its default (R494). -/
  objs : List (Nat × List Byte) := []
  /-- SEQ of each measurement object that is READY, by index (R495). -/
  measSeq : List (Nat × Nat) := []
  /-- Latched subindices of the scheduled measurement objects, by 256 index + subindex (R495). -/
  measVal : List (Nat × List Byte) := []
  /-- A STATUS packet is pending (R139). -/
  statusDue : Bool := false
  /-- A request is being served whose answer a place of the insertion queue is kept for, only inside a command (R139). -/
  serving : Bool := false
  /-- SEQ of the safety-register region (R457). -/
  srSeq : Nat := 0
  /-- Counter that gives each free value its own argument. -/
  free : Nat := 0
  /-- What the engine has sent, newest first. -/
  out : List Out := []
  /-- Commands that wait, first in first out. -/
  pending : List Instr := []
  /-- The local clock and its servo (chapter 14). -/
  clk : Clk := {}
  /-- Domains, pulses and captures (chapter 14). -/
  tim : Tim := {}
  /-- The Tollgate (chapter 15). -/
  saf : Saf := {}
  /-- Device and power states (chapter 16). -/
  pw : Pw := {}
  /-- Timebases, keeper and clock monitor (chapter 16). -/
  tb : Tb := {}
  /-- Pixel array, gate plane and governor (chapter 2). -/
  arr : Arr := {}
  /-- Frame timing (chapter 3). -/
  frm : Frm := {}
  /-- Management subsystem (chapter 17). -/
  mg : Mg := {}
  /-- MRAM: what survives power (chapter 17). -/
  nv : Nv := {}
  /-- Dictionary server (chapter 18). -/
  dict : Dict := {}
  /-- CAN FD controller (chapter 18). -/
  can : Can := {}
  /-- Ferry lanes (chapter 4). -/
  lane : Lane := {}
  /-- Ferry transmit lanes below the block (chapter 4). -/
  phy : Phy := {}
  /-- Ferry packets and the ring (chapter 5). -/
  fy : Fy := {}
  /-- Surface memory and slots (chapter 6). -/
  surf : Surf := {}
  /-- The Square (chapter 7). -/
  comp : Comp := {}
  /-- Glare masks (chapter 8). -/
  mask : Mask := {}
  /-- The Quay (chapter 9). -/
  quay : Quay := {}
  /-- Pixel diagnosis and calibration (chapter 10). -/
  diag : Diag := {}
  /-- Supply and motion control (chapter 11). -/
  sup : Sup := {}
  /-- Temperature and light sensing (chapter 12). -/
  th : Therm := {}
  /-- Pattern engines (chapter 13). -/
  pat : Pat := {}
deriving DecidableEq, Repr

/-- The reasons a command stops with a fault. -/
inductive Fault where
  /-- Raised by no command of this model: every command of the table has an effect. Safe: it stops nothing. -/
  | none
deriving DecidableEq, Repr

/-- The reasons a command is refused. -/
inductive Refusal where
  /-- Raised by an arm of exec whose command has no meaning yet. Safe: nothing is said of what it does. -/
  | notModelled (mnemonic : String)
deriving DecidableEq, Repr

/-- The machine right after reset: no supply, every block at the value its field names. -/
def State.reset : State := {}

end Sys2Proof.Machine
end

