-- ==== Sys2Proof/Machine/ObjTable.lean ====
section
/-!
DEFINITION. The object dictionary as a table (Tables 2.8 to 18.12): type, access, range, default and persistence of
every object, and the fault sources with their kinds, floors and defaults (Table 15.2).
-/

namespace Sys2Proof.Machine

/-- Types of Table 18.8; the bounds of STRING and DOMAIN are those of their length. -/
inductive ObjTy where
  | bool
  | u8
  | u16
  | u32
  | u64
  | i16
  | i32
  | bf16
  | time80
  | string (max : Nat)
  | domain (min max : Nat)
deriving DecidableEq, Repr

/-- Access rights (R493). -/
inductive Acc where
  | ro
  | wo
  | rw
  | rws
  | rwf
deriving DecidableEq, Repr

/-- One subindex of an object, or of a family of objects at indices `lo` to `hi`; an empty range admits every value. -/
structure ObjRow where
  lo : Nat
  hi : Nat
  sub : Nat
  ty : ObjTy
  acc : Acc
  rng : List (Int × Int)
  dflt : Int
  persist : Bool
deriving DecidableEq, Repr

/-- Objects of page 0x10 (part 1). -/
def objPage10a : List ObjRow :=
  [⟨0x1000, 0x1000, 0x01, (.string 16), .ro, [], 0, false⟩,
   ⟨0x1000, 0x1000, 0x02, (.string 16), .ro, [], 0, false⟩,
   ⟨0x1000, 0x1000, 0x03, .u8, .ro, [], 0, false⟩,
   ⟨0x1000, 0x1000, 0x04, .u64, .ro, [], 0, false⟩,
   ⟨0x1000, 0x1000, 0x05, .u16, .ro, [], 0, false⟩,
   ⟨0x1000, 0x1000, 0x06, .u32, .ro, [], 0, false⟩,
   ⟨0x1001, 0x1001, 0x01, (.domain 0 4194304), .ro, [], 0, false⟩,
   ⟨0x1010, 0x1010, 0x01, .u8, .rw, [(0, 127)], 0, true⟩,
   ⟨0x1010, 0x1010, 0x02, .u8, .ro, [], 0, false⟩,
   ⟨0x1010, 0x1010, 0x03, .u8, .rw, [(0, 1)], 0, true⟩,
   ⟨0x1010, 0x1010, 0x04, .u8, .rw, [(0, 0), (2, 2), (4, 4), (5, 5)], 2, true⟩,
   ⟨0x1010, 0x1010, 0x05, .u8, .rw, [(0, 1)], 0, true⟩,
   ⟨0x1010, 0x1010, 0x06, .u16, .rw, [(0, 0), (10, 10000)], 100, true⟩,
   ⟨0x1010, 0x1010, 0x07, .u16, .rw, [(100, 10000)], 1000, true⟩,
   ⟨0x1011, 0x1011, 0x01, .u8, .rw, [(0, 3)], 1, true⟩,
   ⟨0x1011, 0x1011, 0x02, .u8, .rw, [(0, 4)], 0, true⟩,
   ⟨0x1011, 0x1011, 0x03, .u16, .ro, [], 0, false⟩,
   ⟨0x1011, 0x1011, 0x04, (.domain 1152 1152), .rw, [], 0, true⟩,
   ⟨0x1012, 0x1012, 0x01, .u16, .rw, [(0, 2047)], 0, true⟩,
   ⟨0x1012, 0x1012, 0x02, .u16, .rw, [], 0, true⟩,
   ⟨0x1012, 0x1012, 0x03, .u8, .rw, [(0, 8)], 8, true⟩,
   ⟨0x1012, 0x1012, 0x04, .u64, .rw, [], 1, true⟩,
   ⟨0x1013, 0x1013, 0x01, .u8, .wo, [(1, 1)], 0, false⟩,
   ⟨0x1013, 0x1013, 0x02, .u8, .wo, [(1, 1)], 0, false⟩]

/-- Objects of page 0x10 (part 2). -/
def objPage10b : List ObjRow :=
  [⟨0x1013, 0x1013, 0x03, .u8, .wo, [(1, 1)], 0, false⟩,
   ⟨0x1020, 0x1020, 0x01, (.domain 0 4194304), .ro, [], 0, false⟩,
   ⟨0x1020, 0x1020, 0x02, (.domain 32 32), .wo, [], 0, false⟩,
   ⟨0x1020, 0x1020, 0x03, .u8, .wo, [(1, 1)], 0, false⟩,
   ⟨0x1020, 0x1020, 0x04, .u8, .ro, [], 0, false⟩,
   ⟨0x1020, 0x1020, 0x05, .u16, .rws, [(10, 3600)], 60, true⟩,
   ⟨0x1020, 0x1020, 0x06, (.domain 32 32), .wo, [], 0, false⟩,
   ⟨0x1020, 0x1020, 0x07, .u32, .ro, [], 0, false⟩,
   ⟨0x1040, 0x1040, 0x00, .u32, .ro, [], 0, false⟩,
   ⟨0x1040, 0x1040, 0x01, .u8, .ro, [], 0, false⟩,
   ⟨0x1040, 0x1040, 0x02, .u8, .ro, [], 0, false⟩,
   ⟨0x1040, 0x1040, 0x03, .u8, .ro, [], 0, false⟩,
   ⟨0x1040, 0x1040, 0x04, .u32, .ro, [], 0, false⟩,
   ⟨0x1040, 0x1040, 0x05, .u32, .ro, [], 0, false⟩,
   ⟨0x1040, 0x1040, 0x06, .u32, .ro, [], 0, false⟩,
   ⟨0x1040, 0x1040, 0x07, .u32, .ro, [], 0, false⟩,
   ⟨0x1040, 0x1040, 0x08, .u32, .ro, [], 0, false⟩,
   ⟨0x1040, 0x1040, 0x09, .u32, .ro, [], 0, false⟩,
   ⟨0x1040, 0x1040, 0x0A, .u32, .ro, [], 0, false⟩]

/-- Objects of page 0x10. -/
def objPage10 : List ObjRow := objPage10a ++ objPage10b

/-- Objects of page 0x20 (part 1). -/
def objPage20a : List ObjRow :=
  [⟨0x2000, 0x2000, 0x01, .u8, .rw, [(0, 1)], 1, true⟩,
   ⟨0x2000, 0x2000, 0x02, .u16, .rw, [(30000, 50000)], 40000, true⟩,
   ⟨0x2000, 0x2000, 0x03, .u8, .ro, [], 0, false⟩,
   ⟨0x2001, 0x2001, 0x01, .u16, .rw, [(1000, 16000)], 16000, true⟩,
   ⟨0x2001, 0x2001, 0x02, .u8, .rw, [(1, 255)], 8, true⟩,
   ⟨0x2002, 0x2002, 0x00, .u32, .ro, [], 0, false⟩,
   ⟨0x2002, 0x2002, 0x01, .u16, .ro, [], 0, false⟩,
   ⟨0x2002, 0x2002, 0x02, .u16, .ro, [], 0, false⟩,
   ⟨0x2002, 0x2002, 0x03, .u32, .ro, [], 0, false⟩,
   ⟨0x2002, 0x2002, 0x04, .u32, .ro, [], 0, false⟩,
   ⟨0x2002, 0x2002, 0x05, .u32, .ro, [], 0, false⟩,
   ⟨0x2002, 0x2002, 0x06, .u16, .ro, [], 0, false⟩,
   ⟨0x2002, 0x2002, 0x07, .u16, .ro, [], 0, false⟩,
   ⟨0x2003, 0x2003, 0x00, .u32, .ro, [], 0, false⟩,
   ⟨0x2003, 0x2003, 0x01, .u32, .ro, [], 0, false⟩,
   ⟨0x2003, 0x2003, 0x02, .u32, .ro, [], 0, false⟩,
   ⟨0x2003, 0x2003, 0x03, .u32, .ro, [], 0, false⟩,
   ⟨0x2004, 0x2004, 0x01, .u16, .ro, [], 0, false⟩,
   ⟨0x2010, 0x201F, 0x01, (.string 16), .rw, [], 0, true⟩,
   ⟨0x2010, 0x201F, 0x02, .bool, .rws, [], 0, true⟩,
   ⟨0x2010, 0x201F, 0x03, .u8, .rws, [(0, 15)], 0, true⟩,
   ⟨0x2010, 0x201F, 0x04, .u16, .rws, [(0, 256)], 0, true⟩,
   ⟨0x2010, 0x201F, 0x05, .u8, .ro, [], 0, false⟩,
   ⟨0x2010, 0x201F, 0x06, .u32, .ro, [], 0, false⟩]

/-- Objects of page 0x20 (part 2). -/
def objPage20b : List ObjRow :=
  [⟨0x2020, 0x2020, 0x01, (.domain 1048576 1048576), .rws, [], 0, false⟩,
   ⟨0x2020, 0x2020, 0x02, .u32, .ro, [], 0, false⟩]

/-- Objects of page 0x20. -/
def objPage20 : List ObjRow := objPage20a ++ objPage20b

/-- Objects of page 0x21 (part 1). -/
def objPage21a : List ObjRow :=
  [⟨0x2100, 0x2100, 0x00, .u32, .ro, [], 0, false⟩,
   ⟨0x2100, 0x2100, 0x01, .u32, .ro, [], 0, false⟩,
   ⟨0x2100, 0x2100, 0x02, .time80, .ro, [], 0, false⟩,
   ⟨0x2100, 0x2100, 0x03, .i32, .ro, [], 0, false⟩,
   ⟨0x2100, 0x2100, 0x04, .u8, .ro, [], 0, false⟩,
   ⟨0x2100, 0x2100, 0x05, .u16, .ro, [], 0, false⟩,
   ⟨0x2100, 0x2100, 0x06, .u8, .ro, [], 0, false⟩,
   ⟨0x2101, 0x2101, 0x00, .u32, .ro, [], 0, false⟩,
   ⟨0x2101, 0x2101, 0x01, .u32, .ro, [], 0, false⟩,
   ⟨0x2101, 0x2101, 0x02, .u32, .ro, [], 0, false⟩,
   ⟨0x2101, 0x2101, 0x03, .u32, .ro, [], 0, false⟩,
   ⟨0x2101, 0x2101, 0x04, .u32, .ro, [], 0, false⟩,
   ⟨0x2101, 0x2101, 0x05, .u32, .ro, [], 0, false⟩,
   ⟨0x2101, 0x2101, 0x06, .u32, .ro, [], 0, false⟩,
   ⟨0x2101, 0x2101, 0x07, .u32, .ro, [], 0, false⟩,
   ⟨0x2102, 0x2102, 0x01, .u8, .ro, [], 0, false⟩,
   ⟨0x2102, 0x2102, 0x02, .u32, .ro, [], 0, false⟩,
   ⟨0x2104, 0x2104, 0x01, .u8, .rw, [], 4, true⟩,
   ⟨0x2104, 0x2104, 0x02, .u32, .rw, [], 120000, true⟩,
   ⟨0x2104, 0x2104, 0x03, .u8, .wo, [(1, 1)], 0, false⟩,
   ⟨0x2104, 0x2104, 0x04, .u8, .ro, [], 0, false⟩,
   ⟨0x2104, 0x2104, 0x05, .u8, .ro, [], 0, false⟩,
   ⟨0x2108, 0x210B, 0x01, .bool, .rw, [], 0, true⟩,
   ⟨0x2108, 0x210B, 0x02, .u8, .rw, [], 0, true⟩]

/-- Objects of page 0x21 (part 2). -/
def objPage21b : List ObjRow :=
  [⟨0x2108, 0x210B, 0x03, .u8, .rw, [], 0, true⟩,
   ⟨0x2108, 0x210B, 0x04, .u8, .rw, [], 0, true⟩,
   ⟨0x2108, 0x210B, 0x05, .u32, .rw, [], 0, true⟩,
   ⟨0x2108, 0x210B, 0x06, .u32, .rw, [], 100000, true⟩,
   ⟨0x2108, 0x210B, 0x07, .time80, .rw, [], 0, false⟩,
   ⟨0x2108, 0x210B, 0x08, .u32, .rw, [], 0, true⟩,
   ⟨0x210C, 0x210D, 0x01, .bool, .rw, [], 0, true⟩,
   ⟨0x210C, 0x210D, 0x03, .u8, .rw, [], 0, true⟩,
   ⟨0x210C, 0x210D, 0x04, .u8, .rw, [], 0, true⟩,
   ⟨0x210C, 0x210D, 0x05, .u32, .rw, [], 56000, true⟩,
   ⟨0x210C, 0x210D, 0x06, .u32, .rw, [], 100000, true⟩,
   ⟨0x210C, 0x210D, 0x07, .time80, .rw, [], 0, false⟩,
   ⟨0x210C, 0x210D, 0x08, .u32, .rw, [], 0, true⟩]

/-- Objects of page 0x21. -/
def objPage21 : List ObjRow := objPage21a ++ objPage21b

/-- Objects of page 0x22 (part 1). -/
def objPage22a : List ObjRow :=
  [⟨0x2200, 0x2200, 0x01, .u8, .rw, [(0, 2)], 2, true⟩,
   ⟨0x2200, 0x2200, 0x02, .u8, .rw, [(1, 1), (2, 2), (4, 4)], 4, true⟩,
   ⟨0x2200, 0x2200, 0x03, .u8, .rw, [(0, 8)], 2, true⟩,
   ⟨0x2200, 0x2200, 0x04, .i16, .rw, [((-8), 0)], 0, true⟩,
   ⟨0x2200, 0x2200, 0x05, .i16, .rw, [((-16), 0)], (-8), true⟩,
   ⟨0x2200, 0x2200, 0x06, .bool, .rw, [], 0, true⟩,
   ⟨0x2201, 0x2201, 0x00, .u32, .ro, [], 0, false⟩,
   ⟨0x2201, 0x2201, 0x01, .u8, .ro, [], 1, false⟩,
   ⟨0x2201, 0x2201, 0x02, .u8, .ro, [], 0, false⟩,
   ⟨0x2201, 0x2201, 0x03, .u8, .ro, [], 0, false⟩,
   ⟨0x2201, 0x2201, 0x04, .bool, .ro, [], 0, false⟩,
   ⟨0x2201, 0x2201, 0x05, .u8, .ro, [], 0, false⟩,
   ⟨0x2201, 0x2201, 0x06, .u32, .ro, [], 0, false⟩,
   ⟨0x2201, 0x2201, 0x07, .u16, .ro, [], 0, false⟩,
   ⟨0x2201, 0x2201, 0x08, .u8, .ro, [], 0, false⟩,
   ⟨0x2202, 0x2202, 0x00, .u32, .ro, [], 0, false⟩,
   ⟨0x2202, 0x2202, 0x01, .u32, .ro, [], 0, false⟩,
   ⟨0x2202, 0x2202, 0x02, .u32, .ro, [], 0, false⟩,
   ⟨0x2202, 0x2202, 0x03, .u32, .ro, [], 0, false⟩,
   ⟨0x2202, 0x2202, 0x04, .u32, .ro, [], 0, false⟩,
   ⟨0x2202, 0x2202, 0x05, .u32, .ro, [], 0, false⟩,
   ⟨0x2210, 0x2213, 0x00, .u32, .ro, [], 0, false⟩,
   ⟨0x2210, 0x2213, 0x01, .u32, .ro, [], 0, false⟩,
   ⟨0x2210, 0x2213, 0x02, .u32, .ro, [], 0, false⟩]

/-- Objects of page 0x22 (part 2). -/
def objPage22b : List ObjRow :=
  [⟨0x2210, 0x2213, 0x03, .u32, .ro, [], 0, false⟩,
   ⟨0x2210, 0x2213, 0x04, .u8, .ro, [], 0, false⟩,
   ⟨0x2210, 0x2213, 0x05, .i16, .ro, [], 0, false⟩,
   ⟨0x2210, 0x2213, 0x06, .u16, .ro, [], 0, false⟩]

/-- Objects of page 0x22. -/
def objPage22 : List ObjRow := objPage22a ++ objPage22b

/-- Objects of page 0x23 (part 1). -/
def objPage23a : List ObjRow :=
  [⟨0x2300, 0x2300, 0x01, .u8, .ro, [], 63, false⟩,
   ⟨0x2300, 0x2300, 0x02, .u8, .ro, [], 1, false⟩,
   ⟨0x2300, 0x2300, 0x03, .u8, .ro, [], 0, false⟩,
   ⟨0x2300, 0x2300, 0x04, .u16, .rw, [(1, 1000)], 10, true⟩,
   ⟨0x2300, 0x2300, 0x05, .u8, .ro, [], 0, false⟩,
   ⟨0x2301, 0x2301, 0x00, .u32, .ro, [], 0, false⟩,
   ⟨0x2301, 0x2301, 0x01, .u32, .ro, [], 0, false⟩,
   ⟨0x2301, 0x2301, 0x02, .u32, .ro, [], 0, false⟩,
   ⟨0x2301, 0x2301, 0x03, .u32, .ro, [], 0, false⟩,
   ⟨0x2301, 0x2301, 0x04, .u32, .ro, [], 0, false⟩,
   ⟨0x2301, 0x2301, 0x05, .u32, .ro, [], 0, false⟩,
   ⟨0x2301, 0x2301, 0x06, .u32, .ro, [], 0, false⟩,
   ⟨0x2301, 0x2301, 0x07, .u32, .ro, [], 0, false⟩,
   ⟨0x2301, 0x2301, 0x08, .u32, .ro, [], 0, false⟩,
   ⟨0x2301, 0x2301, 0x09, .u32, .ro, [], 0, false⟩,
   ⟨0x2301, 0x2301, 0x0A, .u32, .ro, [], 0, false⟩,
   ⟨0x2301, 0x2301, 0x0B, .u32, .ro, [], 0, false⟩,
   ⟨0x2301, 0x2301, 0x0C, .u32, .ro, [], 0, false⟩,
   ⟨0x2301, 0x2301, 0x0D, .u32, .ro, [], 0, false⟩]

/-- Objects of page 0x23. -/
def objPage23 : List ObjRow := objPage23a

/-- Objects of page 0x24 (part 1). -/
def objPage24a : List ObjRow :=
  [⟨0x2400, 0x2400, 0x01, .u8, .rw, [(0, 64)], 64, true⟩,
   ⟨0x2400, 0x2400, 0x02, .u32, .ro, [], 0, false⟩,
   ⟨0x2400, 0x2400, 0x03, .u16, .ro, [], 256, false⟩,
   ⟨0x2401, 0x2401, 0x00, .u32, .ro, [], 0, false⟩,
   ⟨0x2401, 0x2401, 0x01, .u32, .ro, [], 0, false⟩,
   ⟨0x2401, 0x2401, 0x02, .u32, .ro, [], 0, false⟩,
   ⟨0x2401, 0x2401, 0x03, .u32, .ro, [], 0, false⟩,
   ⟨0x2401, 0x2401, 0x04, .u32, .ro, [], 0, false⟩,
   ⟨0x2401, 0x2401, 0x05, .u32, .ro, [], 0, false⟩,
   ⟨0x2401, 0x2401, 0x06, .u32, .ro, [], 0, false⟩,
   ⟨0x2401, 0x2401, 0x07, .u32, .ro, [], 0, false⟩,
   ⟨0x2402, 0x2402, 0x01, .u32, .ro, [], 0, false⟩,
   ⟨0x2410, 0x2410, 0x01, (.domain 24 24), .wo, [], 0, false⟩,
   ⟨0x2410, 0x2410, 0x02, .u32, .wo, [], 0, false⟩,
   ⟨0x2410, 0x2410, 0x03, .u8, .ro, [], 0, false⟩,
   ⟨0x2411, 0x2411, 0x01, (.domain 0 4194304), .ro, [], 0, false⟩,
   ⟨0x2420, 0x243F, 0x01, (.domain 514 514), .rw, [], 0, false⟩]

/-- Objects of page 0x24. -/
def objPage24 : List ObjRow := objPage24a

/-- Objects of page 0x25 (part 1). -/
def objPage25a : List ObjRow :=
  [⟨0x2500, 0x2500, 0x00, .u32, .ro, [], 0, false⟩,
   ⟨0x2500, 0x2500, 0x01, .u32, .ro, [], 0, false⟩,
   ⟨0x2500, 0x2500, 0x02, .u8, .ro, [], 0, false⟩,
   ⟨0x2500, 0x2500, 0x03, .u8, .ro, [], 0, false⟩,
   ⟨0x2500, 0x2500, 0x04, .u32, .ro, [], 0, false⟩,
   ⟨0x2500, 0x2500, 0x05, .i16, .ro, [], 0, false⟩,
   ⟨0x2500, 0x2500, 0x06, .u16, .ro, [], 0, false⟩,
   ⟨0x2500, 0x2500, 0x07, .u16, .ro, [], 0, false⟩,
   ⟨0x2500, 0x2500, 0x08, .u32, .ro, [], 0, false⟩,
   ⟨0x2501, 0x2501, 0x00, .u32, .ro, [], 0, false⟩,
   ⟨0x2501, 0x2501, 0x01, .u32, .ro, [], 0, false⟩,
   ⟨0x2501, 0x2501, 0x02, .u32, .ro, [], 0, false⟩,
   ⟨0x2501, 0x2501, 0x03, .u32, .ro, [], 0, false⟩,
   ⟨0x2501, 0x2501, 0x04, .u32, .ro, [], 0, false⟩,
   ⟨0x2501, 0x2501, 0x05, .u32, .ro, [], 0, false⟩,
   ⟨0x2502, 0x2502, 0x01, .u8, .ro, [], 255, false⟩,
   ⟨0x2502, 0x2502, 0x02, .u32, .ro, [], 0, false⟩,
   ⟨0x2502, 0x2502, 0x03, .u16, .ro, [], 0, false⟩,
   ⟨0x2510, 0x251F, 0x01, .bool, .rw, [], 0, true⟩,
   ⟨0x2510, 0x251F, 0x02, .u16, .rw, [(0, 2047)], 0, true⟩,
   ⟨0x2510, 0x251F, 0x03, .u16, .rw, [(0, 1023)], 0, true⟩,
   ⟨0x2510, 0x251F, 0x04, .u16, .rw, [(0, 2047)], 2047, true⟩,
   ⟨0x2510, 0x251F, 0x05, .u16, .rw, [(0, 1023)], 1023, true⟩,
   ⟨0x2510, 0x251F, 0x06, .u16, .rw, [], 65535, true⟩]

/-- Objects of page 0x25 (part 2). -/
def objPage25b : List ObjRow :=
  [⟨0x2520, 0x2520, 0x01, (.domain 0 262144), .rws, [], 0, false⟩,
   ⟨0x2520, 0x2520, 0x02, .u8, .ro, [], 0, false⟩,
   ⟨0x2520, 0x2520, 0x03, .u32, .ro, [], 0, false⟩]

/-- Objects of page 0x25. -/
def objPage25 : List ObjRow := objPage25a ++ objPage25b

/-- Objects of page 0x26 (part 1). -/
def objPage26a : List ObjRow :=
  [⟨0x2600, 0x2600, 0x01, .u8, .rw, [(0, 15)], 2, true⟩,
   ⟨0x2601, 0x2601, 0x00, .u32, .ro, [], 0, false⟩,
   ⟨0x2601, 0x2601, 0x01, .u8, .ro, [], 0, false⟩,
   ⟨0x2601, 0x2601, 0x02, .u16, .ro, [], 0, false⟩,
   ⟨0x2601, 0x2601, 0x03, .u8, .ro, [], 0, false⟩,
   ⟨0x2601, 0x2601, 0x04, .u8, .ro, [], 0, false⟩,
   ⟨0x2601, 0x2601, 0x05, .u16, .ro, [], 0, false⟩,
   ⟨0x2601, 0x2601, 0x06, .u32, .ro, [], 0, false⟩,
   ⟨0x2601, 0x2601, 0x07, .u32, .ro, [], 0, false⟩,
   ⟨0x2602, 0x2602, 0x00, .u32, .ro, [], 0, false⟩,
   ⟨0x2602, 0x2602, 0x01, .u32, .ro, [], 0, false⟩,
   ⟨0x2602, 0x2602, 0x02, .u32, .ro, [], 0, false⟩,
   ⟨0x2602, 0x2602, 0x03, .u32, .ro, [], 0, false⟩,
   ⟨0x2602, 0x2602, 0x04, .u32, .ro, [], 0, false⟩,
   ⟨0x2602, 0x2602, 0x05, .u32, .ro, [], 0, false⟩,
   ⟨0x2603, 0x2603, 0x01, .u8, .ro, [], 0, false⟩,
   ⟨0x2603, 0x2603, 0x02, .u16, .ro, [], 0, false⟩,
   ⟨0x2610, 0x261F, 0x01, .u8, .rws, [], 0, true⟩]

/-- Objects of page 0x26. -/
def objPage26 : List ObjRow := objPage26a

/-- Objects of page 0x27 (part 1). -/
def objPage27a : List ObjRow :=
  [⟨0x2700, 0x2700, 0x01, .u8, .rw, [(1, 7)], 4, true⟩,
   ⟨0x2700, 0x2700, 0x02, .u16, .rw, [(2, 500)], 20, true⟩,
   ⟨0x2700, 0x2700, 0x03, .u16, .rw, [(0, 1023), (65535, 65535)], 65535, true⟩,
   ⟨0x2700, 0x2700, 0x04, .u8, .rw, [(0, 15)], 8, true⟩,
   ⟨0x2701, 0x2701, 0x00, .u32, .ro, [], 0, false⟩,
   ⟨0x2701, 0x2701, 0x01, .u32, .ro, [], 0, false⟩,
   ⟨0x2701, 0x2701, 0x02, .time80, .ro, [], 0, false⟩,
   ⟨0x2701, 0x2701, 0x03, .u32, .ro, [], 0, false⟩,
   ⟨0x2701, 0x2701, 0x04, .u32, .ro, [], 0, false⟩,
   ⟨0x2701, 0x2701, 0x05, .u16, .ro, [], 32768, false⟩,
   ⟨0x2701, 0x2701, 0x06, .u16, .ro, [], 32768, false⟩,
   ⟨0x2701, 0x2701, 0x07, .u8, .ro, [], 0, false⟩,
   ⟨0x2701, 0x2701, 0x08, .bool, .ro, [], 0, false⟩,
   ⟨0x2702, 0x2702, 0x00, .u32, .ro, [], 0, false⟩,
   ⟨0x2702, 0x2702, 0x01, .u32, .ro, [], 0, false⟩,
   ⟨0x2702, 0x2702, 0x02, .u32, .ro, [], 0, false⟩,
   ⟨0x2702, 0x2702, 0x03, .u32, .ro, [], 0, false⟩,
   ⟨0x2702, 0x2702, 0x04, .u32, .ro, [], 0, false⟩,
   ⟨0x2702, 0x2702, 0x05, .u32, .ro, [], 0, false⟩,
   ⟨0x2703, 0x2703, 0x01, (.domain 0 4194304), .ro, [], 0, false⟩,
   ⟨0x2710, 0x271F, 0x00, .u32, .ro, [], 0, false⟩,
   ⟨0x2710, 0x271F, 0x01, .u8, .rws, [(0, 3)], 0, true⟩,
   ⟨0x2710, 0x271F, 0x02, .u8, .rws, [(0, 1)], 0, true⟩,
   ⟨0x2710, 0x271F, 0x03, .u8, .rws, [(0, 7)], 0, true⟩]

/-- Objects of page 0x27 (part 2). -/
def objPage27b : List ObjRow :=
  [⟨0x2710, 0x271F, 0x04, .u16, .rws, [(0, 2047)], 0, true⟩,
   ⟨0x2710, 0x271F, 0x05, .u16, .rws, [(0, 1023)], 0, true⟩,
   ⟨0x2710, 0x271F, 0x06, .u16, .rws, [(0, 2047)], 0, true⟩,
   ⟨0x2710, 0x271F, 0x07, .u16, .rws, [(0, 1023)], 0, true⟩,
   ⟨0x2710, 0x271F, 0x08, .u32, .rws, [], 0, true⟩,
   ⟨0x2710, 0x271F, 0x09, .u32, .ro, [], 0, false⟩,
   ⟨0x2710, 0x271F, 0x0A, .u8, .ro, [], 0, false⟩,
   ⟨0x2710, 0x271F, 0x0B, .u32, .ro, [], 0, false⟩,
   ⟨0x2710, 0x271F, 0x0C, .u32, .ro, [], 0, false⟩,
   ⟨0x2710, 0x271F, 0x0D, .u32, .ro, [], 0, false⟩]

/-- Objects of page 0x27. -/
def objPage27 : List ObjRow := objPage27a ++ objPage27b

/-- Objects of page 0x28 (part 1). -/
def objPage28a : List ObjRow :=
  [⟨0x2800, 0x2800, 0x01, .u16, .rw, [(250, 1000)], 1000, true⟩,
   ⟨0x2800, 0x2800, 0x02, .u16, .rw, [(0, 50)], 0, true⟩,
   ⟨0x2800, 0x2800, 0x03, .u8, .rws, [(5, 50)], 10, true⟩,
   ⟨0x2800, 0x2800, 0x04, .u16, .rws, [(500, 2000)], 1500, true⟩,
   ⟨0x2800, 0x2800, 0x05, .u16, .rws, [(50, 500)], 150, true⟩,
   ⟨0x2800, 0x2800, 0x06, .u8, .rws, [(10, 200)], 50, true⟩,
   ⟨0x2800, 0x2800, 0x07, .u16, .rws, [(100, 2500)], 625, true⟩,
   ⟨0x2800, 0x2800, 0x08, .u8, .rws, [(1, 1)], 0, false⟩,
   ⟨0x2801, 0x2801, 0x00, .u32, .ro, [], 0, false⟩,
   ⟨0x2801, 0x2801, 0x01, .u32, .ro, [], 0, false⟩,
   ⟨0x2801, 0x2801, 0x02, .u8, .ro, [], 0, false⟩,
   ⟨0x2801, 0x2801, 0x03, .u32, .ro, [], 0, false⟩,
   ⟨0x2801, 0x2801, 0x04, .u16, .ro, [], 0, false⟩,
   ⟨0x2801, 0x2801, 0x05, .bool, .ro, [], 0, false⟩,
   ⟨0x2801, 0x2801, 0x06, .bool, .ro, [], 1, false⟩,
   ⟨0x2802, 0x2802, 0x00, .u32, .ro, [], 0, false⟩,
   ⟨0x2802, 0x2802, 0x01, .u32, .ro, [], 0, false⟩,
   ⟨0x2802, 0x2802, 0x02, .u32, .ro, [], 0, false⟩,
   ⟨0x2802, 0x2802, 0x03, .u32, .ro, [], 0, false⟩,
   ⟨0x2802, 0x2802, 0x04, .u32, .ro, [], 0, false⟩,
   ⟨0x2802, 0x2802, 0x05, .u32, .ro, [], 0, false⟩,
   ⟨0x2802, 0x2802, 0x06, .u32, .ro, [], 0, false⟩,
   ⟨0x2802, 0x2802, 0x07, .u32, .ro, [], 0, false⟩,
   ⟨0x2802, 0x2802, 0x08, .u32, .ro, [], 0, false⟩]

/-- Objects of page 0x28 (part 2). -/
def objPage28b : List ObjRow :=
  [⟨0x2802, 0x2802, 0x09, .u32, .ro, [], 0, false⟩,
   ⟨0x2803, 0x2803, 0x01, (.domain 0 4194304), .ro, [], 0, false⟩,
   ⟨0x2810, 0x281F, 0x01, .u8, .rws, [(0, 3)], 1, true⟩,
   ⟨0x2810, 0x281F, 0x02, .u16, .rws, [(0, 4096)], 64, true⟩,
   ⟨0x2810, 0x281F, 0x03, .bool, .rws, [], 0, true⟩,
   ⟨0x2810, 0x281F, 0x04, .u8, .rws, [(0, 4)], 0, true⟩,
   ⟨0x2810, 0x281F, 0x05, .u64, .rws, [], 1, true⟩,
   ⟨0x2810, 0x281F, 0x06, .u64, .rws, [], 1, true⟩,
   ⟨0x2810, 0x281F, 0x07, .u64, .rws, [], 1, true⟩,
   ⟨0x2810, 0x281F, 0x08, .u64, .rws, [], 1, true⟩,
   ⟨0x2810, 0x281F, 0x09, .u16, .ro, [], 0, false⟩,
   ⟨0x2840, 0x2847, 0x00, .u32, .ro, [], 0, false⟩,
   ⟨0x2840, 0x2847, 0x01, .u32, .ro, [], 0, false⟩,
   ⟨0x2840, 0x2847, 0x02, .time80, .ro, [], 0, false⟩,
   ⟨0x2840, 0x2847, 0x03, .time80, .ro, [], 0, false⟩,
   ⟨0x2840, 0x2847, 0x04, .u8, .ro, [], 0, false⟩,
   ⟨0x2840, 0x2847, 0x05, .i32, .ro, [], 0, false⟩,
   ⟨0x2850, 0x2850, 0x01, (.domain 32772 32772), .rws, [], 0, false⟩]

/-- Objects of page 0x28. -/
def objPage28 : List ObjRow := objPage28a ++ objPage28b

/-- Objects of page 0x29 (part 1). -/
def objPage29a : List ObjRow :=
  [⟨0x2900, 0x2900, 0x01, .u8, .rws, [(1, 4)], 4, true⟩,
   ⟨0x2900, 0x2900, 0x02, .u16, .rws, [(500, 10000)], 2000, true⟩,
   ⟨0x2900, 0x2900, 0x03, .u16, .rws, [(1000, 25000)], 8000, true⟩,
   ⟨0x2900, 0x2900, 0x04, .u16, .rws, [(4700, 5000)], 4800, true⟩,
   ⟨0x2900, 0x2900, 0x05, .u8, .rw, [(20, 200)], 40, true⟩,
   ⟨0x2900, 0x2900, 0x06, .u8, .rw, [(20, 200)], 40, true⟩,
   ⟨0x2901, 0x2901, 0x01, .u8, .rw, [(2, 40)], 10, true⟩,
   ⟨0x2901, 0x2901, 0x02, .bf16, .rw, [], 200, true⟩,
   ⟨0x2901, 0x2901, 0x03, .bf16, .rw, [], 2, true⟩,
   ⟨0x2902, 0x2902, 0x01, .u16, .rw, [(0, 300)], 0, true⟩,
   ⟨0x2902, 0x2902, 0x02, .u16, .rw, [(0, 20000)], 0, true⟩,
   ⟨0x2902, 0x2902, 0x03, .u16, .rw, [(0, 600)], 250, true⟩,
   ⟨0x2902, 0x2902, 0x04, .u16, .rw, [(3300, 4300)], 4000, true⟩,
   ⟨0x2903, 0x2903, 0x01, .bool, .rw, [], 1, true⟩,
   ⟨0x2903, 0x2903, 0x02, .u8, .rw, [(1, 8)], 4, true⟩,
   ⟨0x2903, 0x2903, 0x03, .u8, .rw, [(0, 0), (8, 16)], 12, true⟩,
   ⟨0x2903, 0x2903, 0x04, .u8, .rw, [(0, 15)], 1, true⟩,
   ⟨0x2903, 0x2903, 0x05, .u8, .wo, [(1, 1)], 0, false⟩,
   ⟨0x2904, 0x2904, 0x01, .u16, .rw, [(100, 10000)], 2000, true⟩,
   ⟨0x2904, 0x2904, 0x02, .u32, .rw, [(1000, 200000)], 20000, true⟩,
   ⟨0x2904, 0x2904, 0x03, .u32, .rw, [(10000, 2000000)], 200000, true⟩,
   ⟨0x2905, 0x2905, 0x01, .i16, .rw, [((-2048), 2048)], 0, false⟩,
   ⟨0x2905, 0x2905, 0x02, .u16, .rw, [(1, 4096)], 256, true⟩,
   ⟨0x2905, 0x2905, 0x03, .u32, .rw, [(1, 65536)], 1024, true⟩]

/-- Objects of page 0x29 (part 2). -/
def objPage29b : List ObjRow :=
  [⟨0x2905, 0x2905, 0x04, .u32, .rw, [(1, 1048576)], 8192, true⟩,
   ⟨0x2906, 0x2906, 0x00, .u32, .ro, [], 0, false⟩,
   ⟨0x2906, 0x2906, 0x01, .u16, .ro, [], 0, false⟩,
   ⟨0x2906, 0x2906, 0x02, .u16, .ro, [], 0, false⟩,
   ⟨0x2906, 0x2906, 0x03, .u16, .ro, [], 0, false⟩,
   ⟨0x2906, 0x2906, 0x04, .u8, .ro, [], 0, false⟩,
   ⟨0x2906, 0x2906, 0x05, .u16, .ro, [], 0, false⟩,
   ⟨0x2906, 0x2906, 0x06, .u16, .ro, [], 0, false⟩,
   ⟨0x2906, 0x2906, 0x07, .u8, .ro, [], 0, false⟩,
   ⟨0x2906, 0x2906, 0x08, .u16, .ro, [], 0, false⟩,
   ⟨0x2906, 0x2906, 0x09, .u8, .ro, [], 0, false⟩,
   ⟨0x2906, 0x2906, 0x0A, .u8, .ro, [], 0, false⟩,
   ⟨0x2906, 0x2906, 0x0B, .i16, .ro, [], 0, false⟩,
   ⟨0x2906, 0x2906, 0x0C, .u8, .ro, [], 0, false⟩,
   ⟨0x2906, 0x2906, 0x0D, .u16, .ro, [], 0, false⟩,
   ⟨0x2907, 0x2907, 0x00, .u32, .ro, [], 0, false⟩,
   ⟨0x2907, 0x2907, 0x01, .u32, .ro, [], 0, false⟩,
   ⟨0x2907, 0x2907, 0x02, .u32, .ro, [], 0, false⟩,
   ⟨0x2907, 0x2907, 0x03, .u32, .ro, [], 0, false⟩,
   ⟨0x2907, 0x2907, 0x04, .u32, .ro, [], 0, false⟩,
   ⟨0x2907, 0x2907, 0x05, .u32, .ro, [], 0, false⟩,
   ⟨0x2907, 0x2907, 0x06, .u32, .ro, [], 0, false⟩,
   ⟨0x2907, 0x2907, 0x07, .u32, .ro, [], 0, false⟩,
   ⟨0x2908, 0x2908, 0x01, (.domain 0 4194304), .ro, [], 0, false⟩]

/-- Objects of page 0x29 (part 3). -/
def objPage29c : List ObjRow :=
  [⟨0x2909, 0x2909, 0x01, (.domain 0 4194304), .ro, [], 0, false⟩]

/-- Objects of page 0x29. -/
def objPage29 : List ObjRow := objPage29a ++ objPage29b ++ objPage29c

/-- Objects of page 0x2A (part 1). -/
def objPage2Aa : List ObjRow :=
  [⟨0x2A00, 0x2A00, 0x01, .i16, .rws, [(800, 1840)], 1840, true⟩,
   ⟨0x2A00, 0x2A00, 0x02, .i16, .rws, [(800, 1920)], 1920, true⟩,
   ⟨0x2A00, 0x2A00, 0x03, .i16, .rws, [(800, 2160)], 2160, true⟩,
   ⟨0x2A00, 0x2A00, 0x04, .i16, .rws, [(800, 2320)], 2320, true⟩,
   ⟨0x2A00, 0x2A00, 0x05, .bool, .rws, [], 1, true⟩,
   ⟨0x2A00, 0x2A00, 0x06, .u16, .rw, [(2500, 5000)], 3435, true⟩,
   ⟨0x2A00, 0x2A00, 0x07, .i16, .rws, [(800, 1680)], 1680, true⟩,
   ⟨0x2A00, 0x2A00, 0x08, .i16, .rws, [(800, 1760)], 1760, true⟩,
   ⟨0x2A01, 0x2A01, 0x00, .u32, .ro, [], 0, false⟩,
   ⟨0x2A01, 0x2A01, 0x01, .i16, .ro, [], 0, false⟩,
   ⟨0x2A01, 0x2A01, 0x02, .i16, .ro, [], 0, false⟩,
   ⟨0x2A01, 0x2A01, 0x03, .u8, .ro, [], 0, false⟩,
   ⟨0x2A01, 0x2A01, 0x04, .i16, .ro, [], 0, false⟩,
   ⟨0x2A01, 0x2A01, 0x05, .i16, .ro, [], 0, false⟩,
   ⟨0x2A01, 0x2A01, 0x06, .i16, .ro, [], 0, false⟩,
   ⟨0x2A01, 0x2A01, 0x07, .u8, .ro, [], 0, false⟩,
   ⟨0x2A01, 0x2A01, 0x08, .u8, .ro, [], 16, false⟩,
   ⟨0x2A01, 0x2A01, 0x09, .u16, .ro, [], 16000, false⟩,
   ⟨0x2A01, 0x2A01, 0x0A, .u8, .ro, [], 0, false⟩,
   ⟨0x2A02, 0x2A02, 0x00, .u32, .ro, [], 0, false⟩,
   ⟨0x2A02, 0x2A02, 0x01, .u32, .ro, [], 0, false⟩,
   ⟨0x2A02, 0x2A02, 0x02, .u32, .ro, [], 0, false⟩,
   ⟨0x2A02, 0x2A02, 0x03, .u32, .ro, [], 0, false⟩,
   ⟨0x2A02, 0x2A02, 0x04, .u32, .ro, [], 0, false⟩]

/-- Objects of page 0x2A (part 2). -/
def objPage2Ab : List ObjRow :=
  [⟨0x2A10, 0x2A10, 0x01, .bool, .rw, [], 1, true⟩,
   ⟨0x2A10, 0x2A10, 0x02, .u16, .rw, [(4000, 6500)], 5700, true⟩,
   ⟨0x2A10, 0x2A10, 0x03, .u16, .rws, [(3000, 8000)], 4000, true⟩,
   ⟨0x2A10, 0x2A10, 0x04, .u16, .rws, [(3000, 8000)], 7000, true⟩,
   ⟨0x2A10, 0x2A10, 0x05, .u8, .rws, [(2, 30)], 10, true⟩,
   ⟨0x2A11, 0x2A11, 0x00, .u32, .ro, [], 0, false⟩,
   ⟨0x2A11, 0x2A11, 0x01, .u16, .ro, [], 32768, false⟩,
   ⟨0x2A11, 0x2A11, 0x02, .u16, .ro, [], 32768, false⟩,
   ⟨0x2A11, 0x2A11, 0x03, .u16, .ro, [], 0, false⟩,
   ⟨0x2A11, 0x2A11, 0x04, .u16, .ro, [], 0, false⟩,
   ⟨0x2A11, 0x2A11, 0x05, .u16, .ro, [], 0, false⟩,
   ⟨0x2A11, 0x2A11, 0x06, .u8, .ro, [], 0, false⟩,
   ⟨0x2A12, 0x2A12, 0x00, .u32, .ro, [], 0, false⟩,
   ⟨0x2A12, 0x2A12, 0x01, .u32, .ro, [], 0, false⟩,
   ⟨0x2A12, 0x2A12, 0x02, .u32, .ro, [], 0, false⟩]

/-- Objects of page 0x2A. -/
def objPage2A : List ObjRow := objPage2Aa ++ objPage2Ab

/-- Objects of page 0x2B (part 1). -/
def objPage2Ba : List ObjRow :=
  [⟨0x2B00, 0x2B00, 0x01, .u8, .wo, [], 0, false⟩,
   ⟨0x2B00, 0x2B00, 0x02, .u8, .ro, [], 0, false⟩,
   ⟨0x2B00, 0x2B00, 0x03, .u8, .ro, [], 255, false⟩,
   ⟨0x2B01, 0x2B01, 0x00, .u32, .ro, [], 0, false⟩,
   ⟨0x2B01, 0x2B01, 0x01, .u32, .ro, [], 0, false⟩,
   ⟨0x2B01, 0x2B01, 0x02, .u32, .ro, [], 0, false⟩,
   ⟨0x2B01, 0x2B01, 0x03, .u32, .ro, [], 0, false⟩,
   ⟨0x2B01, 0x2B01, 0x04, .u32, .ro, [], 0, false⟩,
   ⟨0x2B01, 0x2B01, 0x05, .u32, .ro, [], 0, false⟩,
   ⟨0x2B10, 0x2B17, 0x01, (.domain 48 1056), .rw, [], 0, true⟩,
   ⟨0x2B10, 0x2B17, 0x02, .u8, .wo, [(1, 3)], 0, false⟩,
   ⟨0x2B10, 0x2B17, 0x03, .bool, .rw, [], 0, true⟩,
   ⟨0x2B20, 0x2B27, 0x00, .u32, .ro, [], 0, false⟩,
   ⟨0x2B20, 0x2B27, 0x01, .u8, .ro, [], 0, false⟩,
   ⟨0x2B20, 0x2B27, 0x02, .u8, .ro, [], 0, false⟩,
   ⟨0x2B20, 0x2B27, 0x03, .u16, .ro, [], 0, false⟩,
   ⟨0x2B20, 0x2B27, 0x04, .i32, .ro, [], 0, false⟩,
   ⟨0x2B20, 0x2B27, 0x05, .i32, .ro, [], 0, false⟩,
   ⟨0x2B20, 0x2B27, 0x06, .u32, .ro, [], 0, false⟩]

/-- Objects of page 0x2B. -/
def objPage2B : List ObjRow := objPage2Ba

/-- Objects of page 0x2C (part 1). -/
def objPage2Ca : List ObjRow :=
  [⟨0x2C00, 0x2C00, 0x01, .u8, .rw, [(0, 2)], 2, true⟩,
   ⟨0x2C00, 0x2C00, 0x02, .u32, .rw, [(0, 100000000)], 0, true⟩,
   ⟨0x2C00, 0x2C00, 0x03, .u32, .rw, [(0, 100000)], 0, true⟩,
   ⟨0x2C00, 0x2C00, 0x04, .bool, .rw, [], 1, true⟩,
   ⟨0x2C00, 0x2C00, 0x05, .u8, .wo, [(1, 1)], 0, false⟩,
   ⟨0x2C01, 0x2C01, 0x00, .u32, .ro, [], 0, false⟩,
   ⟨0x2C01, 0x2C01, 0x01, .time80, .ro, [], 0, false⟩,
   ⟨0x2C01, 0x2C01, 0x02, .u32, .ro, [], 0, false⟩,
   ⟨0x2C01, 0x2C01, 0x03, .u8, .ro, [], 0, false⟩,
   ⟨0x2C01, 0x2C01, 0x04, .u8, .ro, [], 0, false⟩,
   ⟨0x2C01, 0x2C01, 0x05, .i32, .ro, [], 0, false⟩,
   ⟨0x2C01, 0x2C01, 0x06, .i32, .ro, [], 0, false⟩,
   ⟨0x2C01, 0x2C01, 0x07, .i32, .ro, [], 0, false⟩,
   ⟨0x2C02, 0x2C03, 0x00, .u32, .ro, [], 0, false⟩,
   ⟨0x2C02, 0x2C03, 0x01, .u8, .ro, [], 0, false⟩,
   ⟨0x2C02, 0x2C03, 0x02, .u64, .ro, [], 0, false⟩,
   ⟨0x2C02, 0x2C03, 0x03, .i32, .ro, [], 0, false⟩,
   ⟨0x2C02, 0x2C03, 0x04, .u16, .ro, [], 0, false⟩,
   ⟨0x2C02, 0x2C03, 0x05, .time80, .ro, [], 0, false⟩,
   ⟨0x2C04, 0x2C04, 0x00, .u32, .ro, [], 0, false⟩,
   ⟨0x2C04, 0x2C04, 0x01, .u32, .ro, [], 0, false⟩,
   ⟨0x2C04, 0x2C04, 0x02, .u32, .ro, [], 0, false⟩,
   ⟨0x2C04, 0x2C04, 0x03, .u32, .ro, [], 0, false⟩,
   ⟨0x2C04, 0x2C04, 0x04, .u32, .ro, [], 0, false⟩]

/-- Objects of page 0x2C (part 2). -/
def objPage2Cb : List ObjRow :=
  [⟨0x2C04, 0x2C04, 0x05, .u32, .ro, [], 0, false⟩,
   ⟨0x2C04, 0x2C04, 0x06, .u32, .ro, [], 0, false⟩,
   ⟨0x2C10, 0x2C13, 0x01, .u8, .rw, [(0, 4)], 0, false⟩,
   ⟨0x2C10, 0x2C13, 0x02, .time80, .rw, [], 0, false⟩,
   ⟨0x2C10, 0x2C13, 0x03, .u64, .rw, [], 1000000, true⟩,
   ⟨0x2C10, 0x2C13, 0x04, .u32, .rw, [(8, 500000000)], 1000, true⟩,
   ⟨0x2C10, 0x2C13, 0x05, .bool, .rw, [], 0, true⟩,
   ⟨0x2C10, 0x2C13, 0x06, .u8, .rw, [], 0, true⟩,
   ⟨0x2C10, 0x2C13, 0x07, .u32, .ro, [], 0, false⟩,
   ⟨0x2C20, 0x2C21, 0x00, .u32, .ro, [], 0, false⟩,
   ⟨0x2C20, 0x2C21, 0x01, .u8, .rw, [(0, 3)], 0, true⟩,
   ⟨0x2C20, 0x2C21, 0x02, .u8, .ro, [], 0, false⟩,
   ⟨0x2C20, 0x2C21, 0x03, (.domain 0 4194304), .ro, [], 0, false⟩,
   ⟨0x2C20, 0x2C21, 0x04, .u16, .wo, [], 0, false⟩,
   ⟨0x2C20, 0x2C21, 0x05, .u32, .ro, [], 0, false⟩]

/-- Objects of page 0x2C. -/
def objPage2C : List ObjRow := objPage2Ca ++ objPage2Cb

/-- Objects of page 0x2D (part 1). -/
def objPage2Da : List ObjRow :=
  [⟨0x2D00, 0x2D00, 0x01, .u16, .rws, [(5, 500)], 50, true⟩,
   ⟨0x2D00, 0x2D00, 0x02, .u8, .rws, [(1, 50)], 5, true⟩,
   ⟨0x2D00, 0x2D00, 0x03, .u16, .rws, [(50, 1000)], 100, true⟩,
   ⟨0x2D00, 0x2D00, 0x04, .u8, .rws, [(1, 4)], 1, true⟩,
   ⟨0x2D00, 0x2D00, 0x05, .u8, .rws, [(0, 3)], 3, true⟩,
   ⟨0x2D01, 0x2D01, 0x00, .u32, .ro, [], 0, false⟩,
   ⟨0x2D01, 0x2D01, 0x01, .u8, .ro, [], 0, false⟩,
   ⟨0x2D01, 0x2D01, 0x02, .u8, .ro, [], 0, false⟩,
   ⟨0x2D01, 0x2D01, 0x03, .u8, .ro, [], 0, false⟩,
   ⟨0x2D01, 0x2D01, 0x04, .u8, .ro, [], 0, false⟩,
   ⟨0x2D01, 0x2D01, 0x05, .u8, .ro, [], 255, false⟩,
   ⟨0x2D01, 0x2D01, 0x06, .time80, .ro, [], 0, false⟩,
   ⟨0x2D02, 0x2D02, 0x00, .u32, .ro, [], 0, false⟩,
   ⟨0x2D02, 0x2D02, 0x01, .u32, .ro, [], 0, false⟩,
   ⟨0x2D02, 0x2D02, 0x02, .u32, .ro, [], 0, false⟩,
   ⟨0x2D02, 0x2D02, 0x03, .u32, .ro, [], 0, false⟩,
   ⟨0x2D02, 0x2D02, 0x04, .u32, .ro, [], 0, false⟩,
   ⟨0x2D02, 0x2D02, 0x05, .u32, .ro, [], 0, false⟩,
   ⟨0x2D10, 0x2D10, 0x01, (.domain 0 4194304), .ro, [], 0, false⟩,
   ⟨0x2D10, 0x2D10, 0x02, (.domain 0 4194304), .ro, [], 0, false⟩,
   ⟨0x2D10, 0x2D10, 0x03, (.domain 256 256), .rws, [], 0, true⟩,
   ⟨0x2D10, 0x2D10, 0x04, (.domain 0 4194304), .ro, [], 0, false⟩,
   ⟨0x2D10, 0x2D10, 0x05, (.domain 0 4194304), .ro, [], 0, false⟩,
   ⟨0x2D10, 0x2D10, 0x06, (.domain 0 4194304), .ro, [], 0, false⟩]

/-- Objects of page 0x2D (part 2). -/
def objPage2Db : List ObjRow :=
  [⟨0x2D11, 0x2D11, 0x01, .u8, .wo, [], 0, false⟩,
   ⟨0x2D11, 0x2D11, 0x02, .u8, .wo, [(1, 1)], 0, false⟩,
   ⟨0x2D11, 0x2D11, 0x03, .u8, .rws, [], 0, false⟩,
   ⟨0x2D11, 0x2D11, 0x04, .u8, .ro, [], 0, false⟩,
   ⟨0x2D20, 0x2D2F, 0x01, .u8, .rws, [], 255, true⟩,
   ⟨0x2D30, 0x2D33, 0x01, (.domain 28 784), .rws, [], 0, false⟩,
   ⟨0x2D30, 0x2D33, 0x02, .u8, .ro, [], 0, false⟩,
   ⟨0x2D30, 0x2D33, 0x03, .u16, .ro, [], 0, false⟩]

/-- Objects of page 0x2D. -/
def objPage2D : List ObjRow := objPage2Da ++ objPage2Db

/-- Objects of page 0x2E (part 1). -/
def objPage2Ea : List ObjRow :=
  [⟨0x2E00, 0x2E00, 0x01, .u8, .wo, [(1, 4)], 0, false⟩,
   ⟨0x2E00, 0x2E00, 0x02, .u8, .rw, [(0, 15)], 15, true⟩,
   ⟨0x2E00, 0x2E00, 0x03, .u8, .rw, [(0, 2)], 0, true⟩,
   ⟨0x2E00, 0x2E00, 0x04, .u8, .rw, [(2, 3)], 3, true⟩,
   ⟨0x2E01, 0x2E01, 0x00, .u32, .ro, [], 0, false⟩,
   ⟨0x2E01, 0x2E01, 0x01, .u8, .ro, [], 0, false⟩,
   ⟨0x2E01, 0x2E01, 0x02, .u8, .ro, [], 0, false⟩,
   ⟨0x2E01, 0x2E01, 0x03, .u8, .ro, [], 0, false⟩,
   ⟨0x2E01, 0x2E01, 0x04, .u8, .ro, [], 255, false⟩,
   ⟨0x2E01, 0x2E01, 0x05, .u8, .ro, [], 0, false⟩,
   ⟨0x2E01, 0x2E01, 0x06, .u8, .ro, [], 0, false⟩,
   ⟨0x2E01, 0x2E01, 0x07, .u32, .ro, [], 0, false⟩,
   ⟨0x2E02, 0x2E02, 0x00, .u32, .ro, [], 0, false⟩,
   ⟨0x2E02, 0x2E02, 0x01, .u32, .ro, [], 0, false⟩,
   ⟨0x2E02, 0x2E02, 0x02, .u32, .ro, [], 0, false⟩,
   ⟨0x2E02, 0x2E02, 0x03, .u32, .ro, [], 0, false⟩,
   ⟨0x2E02, 0x2E02, 0x04, .u32, .ro, [], 0, false⟩,
   ⟨0x2E02, 0x2E02, 0x05, .u32, .ro, [], 0, false⟩,
   ⟨0x2E02, 0x2E02, 0x06, .u32, .ro, [], 0, false⟩,
   ⟨0x2E03, 0x2E03, 0x00, .u32, .ro, [], 0, false⟩,
   ⟨0x2E03, 0x2E03, 0x01, .u8, .ro, [], 0, false⟩,
   ⟨0x2E03, 0x2E03, 0x02, .i16, .ro, [], 0, false⟩,
   ⟨0x2E03, 0x2E03, 0x03, .u64, .ro, [], 67108864000, false⟩,
   ⟨0x2E03, 0x2E03, 0x04, .u8, .ro, [], 0, false⟩]

/-- Objects of page 0x2E (part 2). -/
def objPage2Eb : List ObjRow :=
  [⟨0x2E03, 0x2E03, 0x05, .u8, .ro, [], 0, false⟩,
   ⟨0x2E04, 0x2E04, 0x00, .u32, .ro, [], 0, false⟩,
   ⟨0x2E04, 0x2E04, 0x01, .u32, .ro, [], 0, false⟩,
   ⟨0x2E04, 0x2E04, 0x02, .u32, .ro, [], 0, false⟩,
   ⟨0x2E04, 0x2E04, 0x03, .u32, .ro, [], 0, false⟩,
   ⟨0x2E04, 0x2E04, 0x04, .u32, .ro, [], 0, false⟩,
   ⟨0x2E05, 0x2E05, 0x01, (.domain 0 4194304), .ro, [], 0, false⟩,
   ⟨0x2E10, 0x2E1F, 0x01, .u16, .rw, [], 0, true⟩,
   ⟨0x2E10, 0x2E1F, 0x02, .u16, .rw, [], 0, true⟩,
   ⟨0x2E10, 0x2E1F, 0x03, .u16, .rw, [], 0, true⟩,
   ⟨0x2E10, 0x2E1F, 0x04, .u16, .ro, [], 0, false⟩,
   ⟨0x2E20, 0x2E2F, 0x01, .u8, .ro, [], 0, false⟩,
   ⟨0x2E20, 0x2E2F, 0x02, .u32, .ro, [], 0, false⟩]

/-- Objects of page 0x2E. -/
def objPage2E : List ObjRow := objPage2Ea ++ objPage2Eb

/-- Objects of page 0x2F (part 1). -/
def objPage2Fa : List ObjRow :=
  [⟨0x2F00, 0x2F00, 0x01, .u32, .ro, [], 0, false⟩,
   ⟨0x2F00, 0x2F00, 0x02, .u8, .ro, [], 0, false⟩,
   ⟨0x2F00, 0x2F00, 0x03, .u8, .ro, [], 0, false⟩,
   ⟨0x2F00, 0x2F00, 0x04, .u8, .ro, [], 0, false⟩,
   ⟨0x2F00, 0x2F00, 0x05, .u8, .ro, [], 0, false⟩,
   ⟨0x2F00, 0x2F00, 0x06, .bool, .rws, [], 1, true⟩,
   ⟨0x2F00, 0x2F00, 0x07, .u32, .ro, [], 0, false⟩,
   ⟨0x2F01, 0x2F01, 0x00, .u32, .ro, [], 0, false⟩,
   ⟨0x2F01, 0x2F01, 0x01, .u32, .ro, [], 0, false⟩,
   ⟨0x2F01, 0x2F01, 0x02, .u32, .ro, [], 0, false⟩,
   ⟨0x2F01, 0x2F01, 0x03, .u32, .ro, [], 0, false⟩,
   ⟨0x2F01, 0x2F01, 0x04, .u32, .ro, [], 0, false⟩,
   ⟨0x2F01, 0x2F01, 0x05, .u32, .ro, [], 0, false⟩,
   ⟨0x2F01, 0x2F01, 0x06, .u32, .ro, [], 0, false⟩,
   ⟨0x2F10, 0x2F10, 0x01, .u32, .ro, [], 0, false⟩,
   ⟨0x2F10, 0x2F10, 0x02, .u32, .rw, [], 0, false⟩,
   ⟨0x2F10, 0x2F10, 0x03, (.domain 0 4194304), .ro, [], 0, false⟩,
   ⟨0x2F10, 0x2F10, 0x04, .u16, .ro, [], 0, false⟩,
   ⟨0x2F10, 0x2F10, 0x05, .u8, .rw, [(0, 255)], 0, false⟩,
   ⟨0x2F10, 0x2F10, 0x06, (.domain 0 4194304), .ro, [], 0, false⟩,
   ⟨0x2F10, 0x2F10, 0x07, .bool, .ro, [], 0, false⟩,
   ⟨0x2F10, 0x2F10, 0x08, .u8, .rws, [(1, 1)], 0, false⟩,
   ⟨0x2F10, 0x2F10, 0x09, .u32, .ro, [], 0, false⟩,
   ⟨0x2F20, 0x2F20, 0x01, .u8, .rws, [(1, 6)], 0, false⟩]

/-- Objects of page 0x2F (part 2). -/
def objPage2Fb : List ObjRow :=
  [⟨0x2F20, 0x2F20, 0x02, (.domain 0 3145728), .rws, [], 0, false⟩,
   ⟨0x2F20, 0x2F20, 0x03, .u8, .ro, [], 0, false⟩,
   ⟨0x2F20, 0x2F20, 0x04, .u8, .ro, [], 0, false⟩,
   ⟨0x2F20, 0x2F20, 0x05, .u32, .ro, [], 0, false⟩,
   ⟨0x2F30, 0x2F30, 0x01, (.domain 64 64), .rws, [], 0, false⟩,
   ⟨0x2F30, 0x2F30, 0x02, .u8, .rws, [(1, 1)], 0, false⟩,
   ⟨0x2F30, 0x2F30, 0x03, .u8, .ro, [], 0, false⟩,
   ⟨0x2F30, 0x2F30, 0x04, .u32, .ro, [], 0, false⟩,
   ⟨0x2F30, 0x2F30, 0x05, .u8, .ro, [], 0, false⟩,
   ⟨0x2F38, 0x2F38, 0x01, (.domain 64 64), .rws, [], 0, false⟩,
   ⟨0x2F38, 0x2F38, 0x02, (.domain 64 64), .rws, [], 0, false⟩,
   ⟨0x2F38, 0x2F38, 0x03, .u8, .ro, [], 0, false⟩,
   ⟨0x2F40, 0x2F47, 0x01, .u8, .rws, [(1, 32)], 32, true⟩,
   ⟨0x2F40, 0x2F47, 0x02, .u32, .rws, [], 79764919, true⟩,
   ⟨0x2F40, 0x2F47, 0x03, .u32, .rws, [], 4294967295, true⟩,
   ⟨0x2F40, 0x2F47, 0x04, .u32, .rws, [], 4294967295, true⟩,
   ⟨0x2F40, 0x2F47, 0x05, .u8, .rws, [(0, 3)], 3, true⟩]

/-- Objects of page 0x2F. -/
def objPage2F : List ObjRow := objPage2Fa ++ objPage2Fb

/-- Objects of page 0x30 (part 1). -/
def objPage30a : List ObjRow :=
  [⟨0x3000, 0x307F, 0x00, .u32, .ro, [], 0, false⟩,
   ⟨0x3000, 0x307F, 0x01, .u16, .ro, [], 0, false⟩,
   ⟨0x3000, 0x307F, 0x02, .u32, .ro, [], 0, false⟩,
   ⟨0x3000, 0x307F, 0x03, .i16, .ro, [], 0, false⟩,
   ⟨0x3000, 0x307F, 0x04, .u16, .ro, [], 0, false⟩,
   ⟨0x3000, 0x307F, 0x05, .u16, .ro, [], 0, false⟩,
   ⟨0x3000, 0x307F, 0x06, .u16, .ro, [], 0, false⟩,
   ⟨0x3000, 0x307F, 0x07, .u16, .ro, [], 0, false⟩,
   ⟨0x3000, 0x307F, 0x08, .u16, .ro, [], 0, false⟩,
   ⟨0x3000, 0x307F, 0x09, .u32, .ro, [], 0, false⟩,
   ⟨0x3000, 0x307F, 0x0A, .u8, .ro, [], 0, false⟩,
   ⟨0x3000, 0x307F, 0x0B, .u8, .ro, [], 0, false⟩]

/-- Objects of page 0x30. -/
def objPage30 : List ObjRow := objPage30a

/-- Objects of page 0xF0 (part 1). -/
def objPageF0a : List ObjRow :=
  [⟨0xF010, 0xF010, 0x01, .u8, .rwf, [], 0, false⟩,
   ⟨0xF010, 0xF010, 0x02, .u16, .rwf, [], 0, false⟩,
   ⟨0xF010, 0xF010, 0x03, .u8, .rwf, [(1, 1)], 0, false⟩]

/-- Objects of page 0xF0. -/
def objPageF0 : List ObjRow := objPageF0a

/-- The page of the table an index lies in. -/
def objPage (idx : Nat) : List ObjRow :=
  match idx / 256 with
  | 0x10 => objPage10
  | 0x20 => objPage20
  | 0x21 => objPage21
  | 0x22 => objPage22
  | 0x23 => objPage23
  | 0x24 => objPage24
  | 0x25 => objPage25
  | 0x26 => objPage26
  | 0x27 => objPage27
  | 0x28 => objPage28
  | 0x29 => objPage29
  | 0x2A => objPage2A
  | 0x2B => objPage2B
  | 0x2C => objPage2C
  | 0x2D => objPage2D
  | 0x2E => objPage2E
  | 0x2F => objPage2F
  | 0x30 => objPage30
  | 0xF0 => objPageF0
  | _ => []

/-- The row of an object. -/
def objFind (idx sub : Nat) : Option ObjRow :=
  (objPage idx).find? (fun r => r.lo ≤ idx && idx ≤ r.hi && r.sub == sub)

/-- Whether an index holds an object (order 2 of Table 18.7). -/
def objIndex (idx : Nat) : Bool := (objPage idx).any (fun r => r.lo ≤ idx && idx ≤ r.hi)

/-- A fault source, or a run of sources alike: condition or event kind, floor and default of the HA grade. -/
structure FaultRow where
  lo : Nat
  hi : Nat
  cond : Bool
  floor : Nat
  dflt : Nat
deriving DecidableEq, Repr

/-- Table 15.2. -/
def faultRows : List FaultRow :=
  [⟨0x00, 0x00, false, 3, 3⟩,
   ⟨0x01, 0x01, false, 1, 1⟩,
   ⟨0x02, 0x02, false, 0, 0⟩,
   ⟨0x03, 0x03, true, 4, 4⟩,
   ⟨0x04, 0x04, true, 0, 1⟩,
   ⟨0x05, 0x05, true, 2, 2⟩,
   ⟨0x06, 0x06, true, 0, 0⟩,
   ⟨0x10, 0x11, false, 0, 0⟩,
   ⟨0x12, 0x13, false, 0, 1⟩,
   ⟨0x14, 0x14, true, 0, 1⟩,
   ⟨0x18, 0x1B, false, 0, 0⟩,
   ⟨0x20, 0x23, false, 0, 1⟩,
   ⟨0x24, 0x24, false, 1, 2⟩,
   ⟨0x25, 0x25, true, 0, 1⟩,
   ⟨0x26, 0x26, false, 1, 1⟩,
   ⟨0x28, 0x37, false, 1, 2⟩,
   ⟨0x38, 0x38, false, 0, 1⟩,
   ⟨0x40, 0x4F, false, 0, 1⟩,
   ⟨0x50, 0x50, false, 0, 0⟩,
   ⟨0x51, 0x54, true, 1, 1⟩,
   ⟨0x55, 0x55, false, 0, 0⟩,
   ⟨0x56, 0x56, true, 1, 1⟩,
   ⟨0x58, 0x5F, true, 0, 0⟩,
   ⟨0x60, 0x6F, true, 0, 1⟩,
   ⟨0x70, 0x7F, true, 1, 2⟩,
   ⟨0x80, 0x80, false, 2, 4⟩,
   ⟨0x81, 0x85, false, 1, 1⟩,
   ⟨0x86, 0x89, true, 1, 1⟩,
   ⟨0x8A, 0x8A, true, 0, 0⟩] ++
  [⟨0x8B, 0x8B, false, 0, 1⟩,
   ⟨0x8C, 0x8D, false, 0, 0⟩,
   ⟨0x8E, 0x8E, true, 0, 1⟩,
   ⟨0x90, 0x97, true, 0, 1⟩,
   ⟨0xA0, 0xA0, true, 0, 0⟩,
   ⟨0xA1, 0xA1, true, 2, 2⟩,
   ⟨0xA2, 0xA2, true, 4, 4⟩,
   ⟨0xA3, 0xA3, false, 2, 2⟩,
   ⟨0xA4, 0xA6, true, 1, 1⟩,
   ⟨0xA7, 0xA7, true, 0, 0⟩,
   ⟨0xA8, 0xA8, true, 3, 3⟩,
   ⟨0xA9, 0xAA, true, 0, 1⟩,
   ⟨0xB0, 0xB0, true, 0, 1⟩,
   ⟨0xB1, 0xB1, true, 0, 0⟩,
   ⟨0xB2, 0xB2, false, 0, 0⟩,
   ⟨0xB3, 0xB3, true, 3, 3⟩,
   ⟨0xB4, 0xB4, false, 0, 0⟩,
   ⟨0xB5, 0xB5, true, 2, 2⟩,
   ⟨0xB8, 0xB8, true, 4, 4⟩,
   ⟨0xB9, 0xB9, true, 0, 0⟩,
   ⟨0xBA, 0xBB, true, 1, 1⟩,
   ⟨0xBC, 0xBC, true, 3, 3⟩,
   ⟨0xBD, 0xBD, true, 0, 1⟩,
   ⟨0xC0, 0xC1, false, 3, 3⟩,
   ⟨0xC2, 0xC2, false, 0, 1⟩,
   ⟨0xC3, 0xC3, false, 1, 2⟩,
   ⟨0xC4, 0xC4, false, 1, 1⟩,
   ⟨0xC5, 0xC5, true, 4, 4⟩,
   ⟨0xC6, 0xC6, false, 0, 0⟩] ++
  [⟨0xC7, 0xC7, false, 0, 1⟩,
   ⟨0xC8, 0xC9, false, 0, 0⟩,
   ⟨0xCA, 0xCA, true, 0, 0⟩,
   ⟨0xD0, 0xD0, true, 0, 1⟩,
   ⟨0xD1, 0xD1, true, 0, 0⟩,
   ⟨0xD2, 0xD2, false, 0, 0⟩,
   ⟨0xD4, 0xD7, false, 3, 3⟩,
   ⟨0xD8, 0xD9, true, 4, 4⟩,
   ⟨0xDA, 0xDA, false, 3, 3⟩,
   ⟨0xDB, 0xDB, false, 4, 4⟩,
   ⟨0xDC, 0xDC, true, 1, 1⟩,
   ⟨0xE0, 0xE1, true, 3, 3⟩,
   ⟨0xE2, 0xE3, true, 1, 1⟩,
   ⟨0xE4, 0xE5, true, 0, 0⟩,
   ⟨0xE6, 0xE9, true, 1, 1⟩,
   ⟨0xEA, 0xEB, true, 2, 2⟩,
   ⟨0xEC, 0xED, true, 4, 4⟩,
   ⟨0xEE, 0xEE, true, 2, 2⟩,
   ⟨0xEF, 0xEF, true, 4, 4⟩,
   ⟨0xF0, 0xF1, true, 0, 0⟩,
   ⟨0xF2, 0xF2, true, 1, 1⟩,
   ⟨0xF3, 0xF5, true, 3, 3⟩,
   ⟨0xF6, 0xF9, true, 1, 1⟩,
   ⟨0xFA, 0xFA, true, 3, 3⟩,
   ⟨0xFB, 0xFB, true, 1, 1⟩,
   ⟨0xFC, 0xFC, true, 3, 3⟩]

/-- The row of a source ID; none for an ID without a source (R389). -/
def faultRow (i : Nat) : Option FaultRow := faultRows.find? (fun r => r.lo ≤ i && i ≤ r.hi)

/-- An ID has a source (R389). -/
def hasSource (i : Nat) : Bool := (faultRow i).isSome

/-- A source is a condition source (R387). -/
def isCond (i : Nat) : Bool := match faultRow i with | some r => r.cond | none => false

/-- Floor of a source as the table lists it; 0xFF without a source (R386, R389). -/
def floorOf (i : Nat) : Nat := match faultRow i with | some r => r.floor | none => 255

/-- Default class of a source: Table 15.2 for grade HA, the floor for grade SG (R386). -/
def classDflt (grade i : Nat) : Nat :=
  match faultRow i with | some r => if grade = 0 then r.dflt else r.floor | none => 255

/-- Default bytes of tollgate.class. -/
def classTable (grade : Nat) : List Byte := (upTo 256).map (fun i => BitVec.ofNat 8 (classDflt grade i))

/-- The timebase enables of Table 16.2: RUN, SLEEP, DEEP and, over all three sets, the fixed bits of each. -/
def tbDefaults : List (Nat × Nat × Nat × Nat × Nat × Nat) :=
  [(33, 32, 0, 0, 0, 0),
   (2, 0, 0, 0, 0, 0),
   (32, 0, 0, 0, 0, 0),
   (16, 0, 0, 16, 0, 0),
   (4144, 0, 0, 4096, 0, 0),
   (6168, 0, 0, 4120, 0, 0),
   (128, 0, 0, 128, 0, 0),
   (4, 4, 0, 4, 4, 0),
   (288, 32, 0, 0, 0, 0),
   (64, 64, 0, 0, 0, 0),
   (36, 36, 0, 32, 32, 0),
   (36, 36, 0, 0, 0, 0),
   (512, 512, 0, 512, 512, 0),
   (2048, 0, 0, 0, 0, 0),
   (1056, 1056, 1056, 32, 32, 32),
   (4096, 0, 0, 4096, 0, 0)]

/-- Row b of Table 16.2. -/
def tbRow (b : Nat) : Nat × Nat × Nat × Nat × Nat × Nat := nth tbDefaults b (0, 0, 0, 0, 0, 0)

/-- Bytes of a value of a type (R492). -/
def encodeTy (ty : ObjTy) (v : Int) : List Byte :=
  match ty with
  | .bool => leBytes 1 (unsext 8 v)
  | .u8 => leBytes 1 (unsext 8 v)
  | .u16 => leBytes 2 (unsext 16 v)
  | .u32 => leBytes 4 (unsext 32 v)
  | .u64 => leBytes 8 (unsext 64 v)
  | .i16 => leBytes 2 (unsext 16 v)
  | .i32 => leBytes 4 (unsext 32 v)
  | .bf16 => leBytes 2 (unsext 16 v) ++ [32, 0]
  | .time80 => leBytes 10 (unsext 80 v)
  | .string _ => []
  | .domain _ _ => []

/-- Default value of an object, where it does not stand in the table's column as one number. -/
def objDefault (grade idx : Nat) (r : ObjRow) : List Byte :=
  if idx = 0x2D10 && r.sub = 3 then classTable grade
  else if 0x2420 ≤ idx && idx ≤ 0x243F then List.replicate 512 0 ++ [255, 255]
  else if idx = 0x1011 && r.sub = 4 then List.replicate 1152 0
  else if 0x2010 ≤ idx && idx ≤ 0x201F && r.sub = 2 then leBytes 1 (if idx = 0x2010 then 0 else 1)
  else if 0x2010 ≤ idx && idx ≤ 0x201F && r.sub = 3 then leBytes 1 (idx - 0x2010)
  else if 0x2810 ≤ idx && idx ≤ 0x281F && r.sub = 3 then leBytes 1 (if idx = 0x2810 then 0 else 1)
  else if 0x2E10 ≤ idx && idx ≤ 0x2E1F && r.sub = 1 then leBytes 2 (tbRow (idx - 0x2E10)).1
  else if 0x2E10 ≤ idx && idx ≤ 0x2E1F && r.sub = 2 then leBytes 2 (tbRow (idx - 0x2E10)).2.1
  else if 0x2E10 ≤ idx && idx ≤ 0x2E1F && r.sub = 3 then leBytes 2 (tbRow (idx - 0x2E10)).2.2.1
  else encodeTy r.ty r.dflt

/-- Number of bytes a fixed-length type takes; none for STRING and DOMAIN (R492). -/
def tyLen : ObjTy → Option Nat
  | .bool => some 1
  | .u8 => some 1
  | .u16 => some 2
  | .u32 => some 4
  | .u64 => some 8
  | .i16 => some 2
  | .i32 => some 4
  | .bf16 => some 4
  | .time80 => some 10
  | .string _ => none
  | .domain _ _ => none

/-- The length of a value agrees with its type (order 8 of Table 18.7). -/
def lenOk (ty : ObjTy) (n : Nat) : Bool :=
  match ty with
  | .string m => decide (n ≤ m)
  | .domain a b => decide (a ≤ n) && decide (n ≤ b)
  | ty => tyLen ty == some n

/-- The value as the type reads it. -/
def decodeTy (ty : ObjTy) (d : List Byte) : Int :=
  match ty with
  | .i16 => sext 16 (leNat d)
  | .i32 => sext 32 (leNat d)
  | _ => (leNat d : Int)

/-- One byte of UTF-8 (R492): continuation bytes still to come, with the range of the next one; none after a fault. -/
def utf8Step (a : Option (Nat × Nat × Nat)) (b : Byte) : Option (Nat × Nat × Nat) :=
  let v := b.toNat
  match a with
  | none => none
  | some (0, _) =>
    if v < 0x80 then some (0, 0, 0)
    else if v < 0xC2 then none
    else if v < 0xE0 then some (1, 0x80, 0xBF)
    else if v = 0xE0 then some (2, 0xA0, 0xBF)
    else if v = 0xED then some (2, 0x80, 0x9F)
    else if v < 0xF0 then some (2, 0x80, 0xBF)
    else if v = 0xF0 then some (3, 0x90, 0xBF)
    else if v < 0xF4 then some (3, 0x80, 0xBF)
    else if v = 0xF4 then some (3, 0x80, 0x8F)
    else none
  | some (k + 1, lo, hi) => if lo ≤ v && v ≤ hi then some (k, 0x80, 0xBF) else none

/-- A STRING is UTF-8 (R492). -/
def utf8Ok (d : List Byte) : Bool :=
  match d.foldl utf8Step (some (0, 0, 0)) with | some (0, _) => true | _ => false

/-- A value keeps its type's own rule and its range (order 9 of Table 18.7). -/
def valueOk (r : ObjRow) (d : List Byte) : Bool :=
  let v := decodeTy r.ty d
  (match r.ty with
   | .bool => decide (v = 0 ∨ v = 1)
   | .bf16 => decide (leField d 0 2 ≠ 32768) && decide (leField d 2 1 ≤ 63) && decide (leField d 3 1 = 0)
   | .time80 => decide (leField d 6 4 ≤ 999999999)
   | .string _ => utf8Ok d
   | _ => true) &&
  (r.rng.isEmpty || r.rng.any (fun p => p.1 ≤ v && v ≤ p.2))

end Sys2Proof.Machine
end

