-- ==== Sys2Proof/Machine/Ops.lean ====
section
/-!
DEFINITION. The operations every family shares: objects, the local clock, the log, interrupts, own packets, events,
the raising of fault sources and the safety transitions that follow (chapters 14, 15, 17 and 18).
-/

namespace Sys2Proof.Machine

/-! ## Objects -/

/-- Key of an object in the store. -/
def okey (idx sub : Nat) : Nat := 256 * idx + sub

/-- Default value of an object (R494); empty for an object that does not exist. -/
def objDflt (grade idx sub : Nat) : List Byte :=
  match objFind idx sub with | some r => objDefault grade idx r | none => []

/-- Value of a stored object: as last written, else its default (R494). -/
def State.obj (s : State) (idx sub : Nat) : List Byte :=
  match afind s.objs (okey idx sub) with | some v => v | none => objDflt s.grade idx sub

/-- Value of a stored object as a number. -/
def State.objN (s : State) (idx sub : Nat) : Nat := leNat (s.obj idx sub)

/-- Value of a stored 16-bit object as two's complement. -/
def State.objI16 (s : State) (idx sub : Nat) : Int := sext 16 (s.objN idx sub)

/-- A stored BOOL object. -/
def State.objB (s : State) (idx sub : Nat) : Bool := s.objN idx sub ≠ 0

/-- A stored TIME80 object. -/
def State.objT (s : State) (idx sub : Nat) : Time80 := ⟨leField (s.obj idx sub) 0 6, leField (s.obj idx sub) 6 4⟩

/-- Stores the value of an object; one equal to its default leaves the store. -/
def State.setObj (s : State) (idx sub : Nat) (v : List Byte) : State :=
  { s with objs := aset s.objs (okey idx sub) v (objDflt s.grade idx sub) }

/-! ## The local clock (R358 to R361) -/

/-- The clock's value in units of 2^-32 ns. -/
def Clk.fix (k : Clk) : Nat := (k.sec * 1000000000 + k.ns) * 4294967296 + k.frac

/-- The clock set to a value in units of 2^-32 ns; SEC wraps at 2^48 (R358). -/
def Clk.setFix (k : Clk) (v : Int) : Clk :=
  let w := (v % (2 ^ 48 * 1000000000 * 4294967296 : Nat)).toNat
  let n := w / 4294967296
  { k with sec := n / 1000000000, ns := n % 1000000000, frac := w % 4294967296 }

/-- The increment I of a TB2 tick (R360). -/
def clkInc (nominal : Nat) (c : Int) : Int := nominal + (nominal * c + 2147483648) / 4294967296

/-- TB2 runs from the keeper (R360, R417). -/
def onKeeper (s : State) : Bool := nth s.tb.src 2 2 == 1

/-- The nominal increment in force (R360). -/
def nomInc (s : State) : Nat := if onKeeper s then s.tb.p else 8589934592

/-- Period of TB2 in ps; 0 while it gives no ticks (R359, R421; log 11). -/
def tb2Period (s : State) : Nat :=
  match nth s.tb.src 2 2 with
  | 0 => 2000
  | 1 => if s.tb.keeper = .starting then 0 else 15625
  | _ => 0

/-- Length in ps of a tick of the frame schedule: that of the TB3 source in use (R50, R70, R72). -/
def tickPs (s : State) : Nat := if nth s.tb.src 3 2 = 0 then 2000 else 15625

/-- Configuration of item i of a mode: 0 to 3 off-windows, 4 and 5 probe slots. -/
def itemCfg (m : Mode) (i : Nat) : ItemCfg := if i < 4 then nth m.offs i {} else nth m.probes (i - 4) {}

/-- The time unit is powered (R375). -/
def clockOn (s : State) : Bool :=
  match s.pw.dev with | .boot => true | .quiet => true | .ready => true | .lit => true | _ => false

/-- The clock after `dt` ps. A step acts at the first tick (R362). -/
def clkAfter (s : State) (dt : Nat) : Clk :=
  let per := tb2Period s
  if !clockOn s || per = 0 then s.clk
  else
    let tot := s.clk.phase + dt
    let c := { s.clk.setFix (s.clk.fix + (tot / per : Nat) * clkInc (nomInc s) s.clk.c) with phase := tot % per }
    match c.step with
    | some d => if tot < per then c else { c.setFix ((c.fix : Int) + d).toNat with valid := true, step := none }
    | none => c

/-- Time passes up to the instant of a command. -/
def State.advance (s : State) (t : Nat) : State :=
  if t ≤ s.now then s else { s with now := t, clk := clkAfter s (t - s.now) }

/-- The clock as a TIME80 value: SEC and NS, FRAC dropped (R358). -/
def State.time (s : State) : Time80 := ⟨s.clk.sec, s.clk.ns⟩

/-- The clock extrapolated to an instant not before now, in units of 2^-32 ns. -/
def localAt (s : State) (at_ : Nat) : Nat := (clkAfter s (at_ - s.now)).fix

/-- A TIME80 value in ns. -/
def Time80.toNs (x : Time80) : Nat := x.sec * 1000000000 + x.ns

/-- Nanoseconds as a TIME80 value. -/
def ofNs (n : Nat) : Time80 := ⟨n / 1000000000, n % 1000000000⟩

/-- Bytes of a TIME80 value (R492). -/
def Time80.bytes (x : Time80) : List Byte := leBytes 6 x.sec ++ leBytes 4 x.ns

/-- Each domain's offset moves with the rate correction in force up to now (R368). -/
def foldPred (s : State) : State :=
  { s with tim := { s.tim with
      doms := s.tim.doms.map (fun d => { d with pred := d.pred + s.clk.c * ((s.now - d.predAt : Nat) : Int), predAt := s.now }) } }

/-- The time now in domain d (R374): the local time when d is selected, less its offset otherwise, 0 in NONE. -/
def domTime (s : State) (d : Nat) : Time80 :=
  let x := nth s.tim.doms d {}
  if x.st = 0 then {}
  else if s.tim.selected = d + 1 then s.time
  else ofNs ((((s.clk.fix * 1000 : Nat) : Int) - x.theta) / (4294967296 * 1000)).toNat

/-! ## Codes -/

/-- Code of a safety state (Table 15.3). -/
def Safety.code : Safety → Nat
  | .normal => 0 | .degraded => 1 | .limp => 2 | .hold => 3 | .dark => 4

/-- The safety state of a class (R391). -/
def Safety.ofClass : Nat → Safety
  | 0 => .normal | 1 => .degraded | 2 => .limp | 3 => .hold | _ => .dark

/-- power.state (R442). -/
def Dev.code : Dev → Nat
  | .off => 0 | .boot => 1 | .standby => 2 | .quiet => 3 | .ready => 4 | .lit => 5

/-- READY or LIT: the states in which frames run (R31). -/
def active (s : State) : Bool := (s.pw.dev = .ready || s.pw.dev = .lit) && !s.pw.committed

/-- The device is in LIT, and no entry to a low-power state has committed (R434). -/
def lit (s : State) : Bool := s.pw.dev = .lit && !s.pw.committed

/-- The device is in QUIET, READY or LIT: HELM and PURS run their firmware (Table 1.8). -/
def running (s : State) : Bool := s.pw.dev = .quiet || s.pw.dev = .ready || s.pw.dev = .lit

/-- Block b of Table 16.2 is powered in the device state (Table 1.8); commit takes the domains of orders 7 to 10 (R434). -/
def blockPowered (s : State) (b : Nat) : Bool :=
  if active s then true
  else match s.pw.dev with
  | .off => false
  | .standby => b == 14
  | _ => [0, 7, 8, 9, 10, 11, 12, 14].contains b

/-- A controller's core waits: it has executed WFI, and no interrupt that is enabled is pending (R443). -/
def Irq.waits (q : Irq) : Bool := q.wfi && q.pend &&& q.en == 0

/-- Block b is a core that waits for an interrupt (R425, R443). -/
def coreWaits (s : State) (b : Nat) : Bool := (b == 10 && s.mg.irqH.waits) || (b == 11 && s.mg.irqP.waits)

/-- The timebase set in force of a block (R425). -/
def tbSet (s : State) (b : Nat) : Nat :=
  match s.pw.dev with
  | .standby => if b = 14 then s.objN (0x2E10 + b) 3 else s.objN (0x2E10 + b) 1
  | .quiet => if (b = 10 || b = 11) && !coreWaits s b then s.objN (0x2E10 + b) 1 else s.objN (0x2E10 + b) 2
  | _ => if coreWaits s b then s.objN (0x2E10 + b) 2 else s.objN (0x2E10 + b) 1

/-- A block is timed: some timebase of its RUN default is enabled in its set in force and runs (R426). -/
def blockTimed (s : State) (b : Nat) : Bool :=
  (upTo 13).any (fun n => bitOf (tbRow b).1 n && bitOf (tbSet s b) n && nth s.tb.src n 2 != 2)

/-- Block b receives the ticks of TBn: its set in force enables it, and it runs (R426). -/
def ticks (s : State) (b n : Nat) : Bool := bitOf (tbSet s b) n && nth s.tb.src n 2 != 2

/-- The safety state is NORMAL or DEGRADED. -/
def hostBeam (s : State) : Bool := s.saf.state = .normal || s.saf.state = .degraded

/-! ## Log (R466) -/

/-- Appends an entry to the log queue; a full queue loses it (R466). -/
def logAdd (src cls : Nat) (transient : Bool) (ctx : List Byte) (s : State) : State :=
  if 64 ≤ s.mg.logQueue.length then { s with mg := { s.mg with logLost := s.mg.logLost + 1 } }
  else
    let pinned := decide (3 ≤ cls) && decide (cls ≤ 4)
    let e : LogEntry :=
      { source := src, cls := cls
        flags := (if transient then 1 else 0) + (if pinned then 2 else 0) +
          (if (nth s.tim.doms 0 {}).st ≠ 0 then 4 else 0) + (if (nth s.tim.doms 1 {}).st ≠ 0 then 8 else 0)
        timeA := domTime s 0, timeB := domTime s 1, safety := s.saf.state.code, device := s.pw.dev.code
        frameSeq := s.frm.launchedSeq, raises := nth s.saf.raises src 0, transients := nth s.saf.transients src 0
        ctx := padTo 80 ctx }
    { s with mg := { s.mg with logQueue := s.mg.logQueue ++ [e] } }

/-- Logs something at NOTE that is no raise: an engine event (Table 17.8). -/
def logNote (code : Nat) (ctx : List Byte) (s : State) : State := logAdd code 255 false ctx s

/-! ## Interrupts (R450 to R453) -/

/-- An edge of a source at its controller (R451, R453). -/
def Irq.raise (q : Irq) (id now : Nat) : Irq :=
  let w := alook q.mod id 0
  if w % 256 ≠ 0 then
    let (n, f) := match q.acc.find? (fun a => a.1 == id) with | some a => (a.2.1 + 1, a.2.2) | none => (1, now)
    let rest := q.acc.filter (fun a => a.1 ≠ id)
    if w % 256 ≤ n && !bmGet q.svc id then { q with acc := rest, pend := bmSet q.pend id }
    else { q with acc := (id, n, f) :: rest }
  else if bmGet q.svc id then { q with again := bmSet q.again id }
  else { q with pend := bmSet q.pend id }

/-- A level source's input changes (R451). -/
def Irq.level (q : Irq) (id : Nat) (on : Bool) : Irq :=
  if on then
    { q with lines := bmSet q.lines id, pend := if bmGet q.svc id then q.pend else bmSet q.pend id
             again := if bmGet q.svc id then bmSet q.again id else q.again }
  else { q with lines := bmClr q.lines id, pend := bmClr q.pend id, again := bmClr q.again id }

/-- Sources that target a core (Table 17.4): those of TARGET (R450). -/
def irqTarget (c : CoreId) (i : Nat) : Bool :=
  match c with
  | .helm => decide (i ≤ 5) || i == 37 || (decide (48 ≤ i) && decide (i ≤ 51)) || (decide (62 ≤ i) && decide (i ≤ 64))
  | .purser => decide (i ≤ 5) || (decide (32 ≤ i) && decide (i ≤ 36)) || (decide (38 ≤ i) && decide (i ≤ 47)) ||
      (decide (52 ≤ i) && decide (i ≤ 61))

/-- An edge of a source at a controller that it targets. -/
def Irq.edge (q : Irq) (c : CoreId) (id now : Nat) : Irq := if irqTarget c id then q.raise id now else q

/-- An edge at the Helm controller. -/
def irqHelm (id : Nat) (s : State) : State := { s with mg := { s.mg with irqH := s.mg.irqH.edge .helm id s.now } }

/-- An edge at the Purser controller. -/
def irqPurser (id : Nat) (s : State) : State := { s with mg := { s.mg with irqP := s.mg.irqP.edge .purser id s.now } }

/-- A level at the Helm controller. -/
def lineHelm (id : Nat) (on : Bool) (s : State) : State := { s with mg := { s.mg with irqH := s.mg.irqH.level id on } }

/-- A level at the Purser controller. -/
def linePurser (id : Nat) (on : Bool) (s : State) : State := { s with mg := { s.mg with irqP := s.mg.irqP.level id on } }

/-! ## What leaves the engine -/

/-- Records something sent. -/
def send (o : Out) (s : State) : State := { s with out := o :: s.out }

/-- The node number in force, 0 for none (R480). -/
def nodeOf (s : State) : Nat :=
  if s.objN 0x1010 1 ≠ 0 then s.objN 0x1010 1
  else if s.can.assigned ≠ 0 then s.can.assigned
  else if s.fy.address ≠ 63 then 32 + s.fy.address
  else 0

/-- A block has answered the prepare request with a grant and is PREPARED (R432). -/
def prepared (s : State) (b : PrepBlock) : Bool := s.pw.answered.contains b

/-- The CAN transceiver has its supply; without VCAN there is no CAN (R535; log 207). -/
def vcanOk (s : State) : Bool := !s.pw.railOut.getLsbD 5

/-- The controller can transmit (R476 to R478, R535). -/
def canUp (s : State) : Bool :=
  vcanOk s && s.can.joined && !s.can.busOff && s.objN 0x1010 5 == 0 && clockOn s && ticks s 9 6

/-- Bit-rate switching is set in every frame that the controller sends in FD format, whenever the data rate in force is
not 0 (R474, R475). -/
def brsSet (s : State) : Bool := decide (s.can.dataRate ≠ 0)

/-- Sends a CAN frame (R474). -/
def canSend (id : Nat) (fd : Bool) (data : List Byte) (s : State) : State :=
  if canUp s then { (send (.can id fd (fd && brsSet s) data) s) with can := { s.can with txFrames := s.can.txFrames + 1 } } else s

/-- Places of the insertion queue kept for answers that are owed: to the requests that wait, to the one being served, to
one that waits for the customer image (R139, R149). -/
def owed (s : State) : Nat :=
  s.dict.queue.countP (fun q => leField q.2.2 0 1 != 5) + s.serving.toNat + (s.mg.mbx.any (fun m => m.path == .ferry)).toNat

/-- The insertion queue takes another packet (R139, R432). -/
def queueFree (s : State) : Bool := decide (s.fy.insert.length + owed s < 8) && !prepared s (.block 1)

/-- Puts a packet into the insertion queue of 8. -/
def putOwn (prec ptype seq : Nat) (payload : List Byte) (s : State) : State :=
  let o : Own := { prec := prec, ptype := ptype, addr := s.fy.address, seq := seq
                   payload := padTo (16 * ((payload.length + 15) / 16)) payload }
  { s with fy := { s.fy with insert := s.fy.insert ++ [o] } }

/-- A packet that answers no request enters the queue where it takes no place kept and Ferry transmit is not PREPARED
(R139, R432); else it is dropped: DESIGN CHOICE, log 159. -/
def ownPacket (prec ptype seq : Nat) (payload : List Byte) (s : State) : State :=
  if queueFree s then putOwn prec ptype seq payload s else s

/-- An answer enters the queue, in the place kept for it; PREPARED admits none (R139, R432, log 159). -/
def answerPacket (prec ptype seq : Nat) (payload : List Byte) (s : State) : State :=
  let s := { s with serving := false }
  if s.fy.insert.length < 8 && !prepared s (.block 1) then putOwn prec ptype seq payload s else s

/-- What is done for a request, with the place of its answer kept until it is given (R139). -/
def serving (ask : Bool) (f : State → State) (s : State) : State :=
  let s := f { s with serving := ask }
  { s with serving := false }

/-- A DICT RESPONSE payload around a message (R149). -/
def dictPayload (msg : List Byte) : List Byte := [2, 0] ++ leBytes 2 msg.length ++ [0, 0, 0, 0] ++ msg

/-! ## The journal (R462) -/

/-- A transaction that meets a test is open or waits. -/
def jrnlHas (is : JTarget → Bool) (s : State) : Bool := s.nv.jrnl.any (fun j => !j.done && is j.target) || s.nv.jrnlWait.any is

/-- The staging copy of the protected store is about to become the copy in force (R465). -/
def copying (s : State) : Bool := jrnlHas (fun j => match j with | .copy _ => true | _ => false) s

/-! ## Events (R501 to R503) -/

/-- Bytes of an event message (Table 18.10). -/
def EvAcc.bytes (e : EvAcc) : List Byte :=
  [0x90, BitVec.ofNat 8 (min e.num 255)] ++ leBytes 2 e.eseq ++ leBytes 2 e.code ++ leBytes 1 e.cls ++ [0] ++
  e.time.bytes ++ padTo 46 e.ctx

/-- The path's moderation. -/
def evPath (s : State) (p : Path) : EvPath := match p with | .can => s.dict.evCan | .ferry => s.dict.evFerry

/-- Sets the path's moderation. -/
def setEvPath (p : Path) (e : EvPath) (s : State) : State :=
  match p with
  | .can => { s with dict := { s.dict with evCan := e } }
  | .ferry => { s with dict := { s.dict with evFerry := e } }

/-- The path can send an event now (R503). -/
def evReady (s : State) (p : Path) : Bool :=
  match p with
  | .can => canUp s && nodeOf s ≠ 0
  | .ferry => s.lane.st = .fl0 && queueFree s && clockOn s

/-- How many events have been generated since the one with that ESEQ (R501). -/
def evAge (s : State) (eseq : Nat) : Nat := (s.dict.eventSeq.toNat + 65536 - eseq % 65536) % 65536

/-- The events that a message would carry, and that cannot be sent, enter the pending-events set of their path: its code, and
the first and the last ESEQ of all that are held (R503). -/
def holdEvent (p : Path) (a : EvAcc) (s : State) : State :=
  let e := evPath s p
  setEvPath p { e with codes := if e.codes.contains a.code then e.codes else e.codes ++ [a.code]
                       first := if e.codes.isEmpty || evAge s e.first < evAge s a.first then a.first else e.first
                       last := if e.codes.isEmpty || evAge s a.eseq < evAge s e.last then a.eseq else e.last } s

/-- One event message leaves on a path, or its event is held (R502, R503). -/
def sendEvent (p : Path) (a : EvAcc) (s : State) : State :=
  if evReady s p then
    let s := { s with dict := { s.dict with coalesced := s.dict.coalesced + BitVec.ofNat 32 (a.num - 1) } }
    match p with
    | .can => canSend (2 * 128 + nodeOf s) true a.bytes s
    | .ferry => ownPacket 3 4 0 (dictPayload a.bytes) s
  else holdEvent p a s

/-- The moderation word of a code (R503). -/
def modWord (s : State) (code : Nat) : Nat := leField (s.obj 0x1011 4) (4 * code) 4

/-- An event on one path: sent, or accumulated under its moderation word; in STANDBY it is held (R503). -/
def eventOn (p : Path) (a : EvAcc) (s : State) : State :=
  let w := modWord s a.code
  if w % 256 = 0 || s.pw.dev = .standby then sendEvent p a s
  else
    let e := evPath s p
    let b := match e.acc.find? (fun x => x.code == a.code) with
      | some x => { a with num := x.num + 1, since := x.since, first := x.first }
      | none => a
    let rest := e.acc.filter (fun x => x.code ≠ a.code)
    if w % 256 ≤ b.num then sendEvent p b (setEvPath p { e with acc := rest } s)
    else setEvPath p { e with acc := b :: rest } s

/-- An event is generated and goes to the enabled paths (R501). -/
def event (code cls : Nat) (ctx : List Byte) (s : State) : State :=
  let n := s.dict.eventSeq + 1
  let a : EvAcc := { code := code, num := 1, eseq := n.toNat, cls := cls, time := s.time, ctx := ctx, since := s.now, first := n.toNat }
  let s := { s with dict := { s.dict with eventSeq := n } }
  let s := if bitOf (s.objN 0x1011 1) 0 then eventOn .can a s else s
  if bitOf (s.objN 0x1011 1) 1 then eventOn .ferry a s else s

/-- An engine event: logged at NOTE and sent as an event message (R501). -/
def noteEvent (code : Nat) (ctx : List Byte) (s : State) : State := event code 255 ctx (logNote code ctx s)

/-! ## Safety outputs and transitions (R390 to R399) -/

/-- The blanking command: every gate bit cleared and every pending forced pulse cancelled (R393). -/
def blank (s : State) : State :=
  { s with arr := { s.arr with gate := .zero, gateShadow := .zero }, diag := { s.diag with pulses := [] }
           frm := { s.frm with snap := s.frm.snap.map (fun x => { x with plane := .zero }) } }

/-- Both hold lines asserted or released; an asserted line ends emission by the active state until the next gate launch
after its release (R23, R56). -/
def setHold (on : Bool) (s : State) : State :=
  if on then
    { s with saf := { s.saf with holdN := true, holdS := true }, arr := { s.arr with litSince := false } }
  else { s with saf := { s.saf with holdN := false, holdS := false } }

/-- The control engine stops switching: PHG at 0, integrator cleared, VLED channel at rest (R300). -/
def supplyRest (s : State) : State :=
  { s with sup := { s.sup with phg := [false, false, false, false], acc := 0, v := 0, a := 0, mode := .off } }

/-- The switch has opened under DISC_EN: the engine stops switching and holds every PHG line at 0 (R300). -/
def supplyStop (s : State) : State :=
  { s with sup := { s.sup with phg := [false, false, false, false], mode := .off } }

/-- The keeper gives the ticks that time TB5's spans (R402, R415). -/
def keeperRuns (s : State) : Bool := s.tb.keeper ≠ .starting && nth s.tb.src 5 2 ≠ 2

/-- Tick of the keeper an instant lies in. -/
def tickOf (a : Nat) : Nat := a / 15625

/-- The keeper is trimmed: exactly the state QUALIFIED (R421). -/
def trimmed (s : State) : Bool := s.tb.keeper = .qualified

/-- The shortest time that a span of `ps` timed on the keeper can take: 0.5 % less when it is trimmed, 25 % less when it is
not (R402, R422). -/
def keeperLeast (s : State) (ps : Nat) : Nat := if trimmed s then ps * 995 / 1000 else ps * 3 / 4

/-- A span of `ps` that began at an instant can be over as the keeper times it (log 176). -/
def spanOver (s : State) (from_ ps : Nat) : Bool := decide (from_ + keeperLeast s ps ≤ s.now)

/-- The same of a span whose outcome waits for TB5 while the keeper stands (R415). -/
def bandOver (s : State) (from_ ps : Nat) : Bool := keeperRuns s && spanOver s from_ ps

/-- Outside the check DISC_FB agrees with DISC_EN: the cause of source 0x03 ends (R389, R409). -/
def discAgree (s : State) : State :=
  if s.saf.discStep = 0 && s.saf.discFb = s.saf.discEn then { s with saf := { s.saf with causes := bmClr s.saf.causes 0x03 } } else s

/-- DISC_EN drops; a check under way, or one that waits, is over (R300, R398, R399). -/
def dropDisc (s : State) : State :=
  let was := s.saf.discEn || s.saf.discStep ≠ 0
  let s := { s with saf := { s.saf with
    discAt := if was then s.now else s.saf.discAt, discStep := 0, discOnly4 := false, discDeferred := false } }
  discAgree (if s.saf.discEn then supplyRest { s with saf := { s.saf with discEn := false, closeOk := false } } else s)

/-- DISC_EN is asserted, with the disconnect check of R408 to run if it has not yet, and step 4 of it to repeat otherwise
(R392, R409). -/
def assertDisc (s : State) : State :=
  if s.saf.discEn then s
  else if prepared s (.block 14) then { s with saf := { s.saf with discDeferred := true } }
  else if !s.saf.firstReadyDone then
    { s with saf := { s.saf with closeOk := false, discStep := 1, discAt := s.now, discOnly4 := false, firstReadyDone := true } }
  else { s with saf := { s.saf with discEn := true, discAt := s.now, closeOk := false, discStep := 4, discOnly4 := true } }

/-- Class of a source: its byte of tollgate.class, at least LIMP for a window latched over the protected layer, and HOLD
for source 0x00 (R386, R389). -/
def classOf (s : State) (id : Nat) : Nat :=
  if id = 0 then 3
  else
    let c := (nth (s.obj 0x2D10 3) id 255).toNat
    if bmGet s.saf.floorUp id then max c 2 else c

/-- The rectangle of a window meets that of the protected record of the load (R255). -/
def winOverProt (w : WinSt) (prot : List Byte) : Bool :=
  let h := ProtHdr.parse prot
  decide (0 < h.width) && decide (0 < h.height) && decide (w.x0 < h.px + h.width) && decide (h.px ≤ w.x1) &&
  decide (w.y0 < h.py + h.height) && decide (h.py ≤ w.y1)

/-- The floor of a source: LIMP for a check window that lies over the protected layer of the load (R255, R386). -/
def floorNow (s : State) (id : Nat) : Nat :=
  let prot := decide (0x40 ≤ id) && decide (id ≤ 0x4F) &&
    (nth s.quay.win (id - 0x40) {}).mode != 0 &&
    winOverProt (nth s.quay.win (id - 0x40) {}) (match s.comp.job with | some j => j.prot | none => s.comp.footRec)
  if prot then max 2 (floorOf id) else floorOf id

/-- The sources whose block retries a failure before it is lasting (Table 15.2). -/
def retried (id : Nat) : Bool :=
  [0x12, 0x13, 0x50, 0x80, 0x81, 0x8B, 0xDA].contains id || (decide (0x40 ≤ id) && decide (id ≤ 0x4F)) ||
  (decide (0x86 ≤ id) && decide (id ≤ 0x89)) || (decide (0xD4 ≤ id) && decide (id ≤ 0xD7))

/-- Highest class among the latched bits (R391); 0 when none is latched. -/
def targetClass (s : State) : Nat :=
  (upTo 256).foldl (fun m i => if bmGet s.saf.latched i then max m (classOf s i) else m) 0

/-- The record of limp pattern n, 1 to 4, in the protected copy in force (R396). -/
def limpRec (s : State) (n : Nat) : List Byte := nth (nth s.nv.copies s.nv.copy {}).limp (n - 1) []

/-- limp.state of pattern n: 0 EMPTY, 1 VALID, 2 INVALID (R396). -/
def limpState (s : State) (n : Nat) : Nat :=
  if (limpRec s n).isEmpty then 0 else if s.nv.psBad then 2 else 1

/-- The first VALID pattern counting upwards from n, with 4 followed by 1; 0 for none (R394). -/
def limpPick (s : State) (n : Nat) : Nat :=
  match ((upTo 4).map (fun k => (n - 1 + k) % 4 + 1)).find? (fun k => limpState s k == 1) with
  | some k => k
  | none => 0

/-- The failure policy of function f as written (R281, R282). -/
def polWritten (s : State) (f : Nat) : PolSet :=
  { policy := s.objN (0x2810 + f) 1, limit := s.objN (0x2810 + f) 2, limp := s.objN (0x2810 + f) 4
    crit := (upTo 4).map (fun i => s.objN (0x2810 + f) (5 + i)) }

/-- The failure policy of function f in force since the last frame launch (R283). -/
def polIn (s : State) (f : Nat) : PolSet := match s.diag.pol[f]? with | some p => p | none => polWritten s f

/-- The pattern an entry to LIMP starts its search at (R394). -/
def limpWish (s : State) (src : Nat) : Nat :=
  let named := if 0x70 ≤ src && src ≤ 0x7F then (polIn s (src - 0x70)).limp else 0
  if named ≠ 0 then named else s.objN 0x2D00 4

/-- Changes the Quay block. -/
def modQuay (f : Quay → Quay) (s : State) : State := { s with quay := f s.quay }

/-- One half. -/
def halfOf (s : State) (south : Bool) : HalfQ := if south then s.quay.south else s.quay.north

/-- Changes one half. -/
def modHalf (south : Bool) (f : HalfQ → HalfQ) (s : State) : State :=
  if south then modQuay (fun q => { q with south := f q.south }) s else modQuay (fun q => { q with north := f q.north }) s

/-- Urgency of a half follows its occupancy; each rise is counted (R244). -/
def urgency (south : Bool) (s : State) : State :=
  let h := halfOf s south
  let low := decide (h.lines.length < s.objN 0x2700 1)
  let s := if low && !h.urgent then modQuay (fun q => { q with urgencyRaises := q.urgencyRaises + 1 }) s else s
  modHalf south (fun h => { h with urgent := low }) s

/-- The buffers of both halves are empty and their rows begin again; an occupancy of 0 is below the watermark, at the first entry to
READY too: DESIGN CHOICE, log 199 (R244, R247, R249). -/
def emptyHalves (s : State) : State :=
  urgency true (urgency false (modQuay (fun q => { q with
    north := { urgent := q.north.urgent, moved := s.now }
    south := { nextComp := 512, nextCorr := 512, nextSend := 512, urgent := q.south.urgent, moved := s.now } }) s))

/-- A calibration record of type k (R285). -/
def calPut (k : Nat) (value : Int) (status : Nat) (s : State) : State :=
  { s with diag := { s.diag with cal := modNth s.diag.cal k (fun c =>
    { c with count := c.count + 1, timeA := domTime s 0, timeB := domTime s 1, value := value, status := status }) } }

/-- Pixel 2048 y + x of the i-th pixel of a district in raster order. -/
def distKey (d i : Nat) : Nat := 2048 * (128 * (d / 16) + i / 128) + 128 * (d % 16) + i % 128

/-- Codes of a gain update, in the district's raster order, over a bank. -/
def gainPut (d : Nat) (data : List Byte) (l : List (Nat × Nat)) : List (Nat × Nat) :=
  (upTo 16384).foldl (fun l i => aput l (distKey d i) (leField data (4 + 2 * i) 2)) l

/-- The Quay reads the idle bank of a district: the load in progress sampled it (R237). -/
def gainBusy (s : State) (d : Nat) : Bool := s.quay.loading && nth s.quay.smp.bank d false == !nth s.diag.bank d false

/-- The codes of a gain update go into the idle bank of their district, which is then put in force (R237, R287). -/
def gainWrite (d : Nat) (data : List Byte) (s : State) : State :=
  let b := !nth s.diag.bank d false
  calPut 6 d 2 { s with
    saf := { s.saf with causes := bmClr s.saf.causes 0x5E }
    diag := { s.diag with
    gainA := if b then s.diag.gainA else gainPut d data s.diag.gainA, expA := if b then s.diag.expA else gainPut d data s.diag.expA
    gainB := if b then gainPut d data s.diag.gainB else s.diag.gainB, expB := if b then gainPut d data s.diag.expB else s.diag.expB
    bank := modNth s.diag.bank d (fun _ => b) } }

/-- Gain updates that waited for the load are written. -/
def gainDrain (s : State) : State :=
  s.diag.gainWait.foldl (fun s w => gainWrite w.1 w.2 s) { s with diag := { s.diag with gainWait := [] } }

/-- The composition and the load in progress are abandoned on entry to LIMP, HOLD or DARK: gain updates that waited for the load
are written, and learning loses its weight (R237, R249, R313). -/
def abandonLoad (s : State) : State :=
  let s := emptyHalves s
  gainDrain { s with
    quay := { s.quay with loading := false, complete := false, repeatCur := false }
    sup := { s.sup with w := 0, unqualified := true } }

/-- Need of a district lit at HI, or at LO only, without margin and drop (R307), in mV. -/
def districtNeed (s : State) (hi : Bool) (d : Nat) : Nat :=
  let v := nth s.sup.vfmax d 0 + 300
  if hi then v else v - s.objN 0x2902 3

/-- The larger of two needs, each in mV with the district that sets it. -/
def needMax (a b : Option (Nat × Nat)) : Option (Nat × Nat) :=
  match a, b with
  | some x, some y => if x.1 < y.1 then some y else some x
  | some x, none => some x
  | none, y => y

/-- The largest need over districts (R307). -/
def needOver (s : State) (hi : Bool) (ds : List Nat) : Option (Nat × Nat) :=
  ds.foldl (fun a d => needMax a (some (districtNeed s hi d, d))) none

/-- A forced pulse or stuck-on search is pending in district d, which then counts as lit at HI (R307). -/
def needPulsed (d : Nat) (s : State) : State :=
  { s with sup := { s.sup with needPulse := needMax s.sup.needPulse (some (districtNeed s true d, d)) } }

/-- The need with which the accumulation for a descriptor starts: every district at HI if it carries a probe pattern, else
nothing (R307, R308). -/
def needStart (s : State) (raw : List Byte) : Option (Nat × Nat) :=
  if leField raw 4 2 / 2 % 4 ≠ 0 then needOver s true (upTo 128) else none

/-- The descriptor of a job is composed and loaded again from row 0, with what its composition sampled and the protected bank
reloaded; `rep` for the frame in force (R204, R249). -/
def reloadJob (j : Job) (rep : Bool) (s : State) : State :=
  let s := emptyHalves s
  { s with
    comp := { s.comp with job := some { j with complete := false, isRepeat := rep, protPoison := [] }, bankPoison := [] }
    sup := { s.sup with needNext := needStart s j.desc.raw, ipkNext := none }
    quay := { s.quay with loading := true, complete := false, reload := true, reloads := s.quay.reloads + 1
                          repeatCur := rep, sums := [], saturated := 0, compensated := 0, flagged := [], flagOvf := false
                          win := s.quay.win.map (fun w => { w with acc := crcStart w.params }) } }

/-- The reload on return from LIMP, HOLD or DARK: the head descriptor, or with an empty queue that of the frame in force; a
head whose composition has not started is loaded when it starts (R249). -/
def startReload (s : State) : State :=
  match s.frm.queue.head?, s.comp.curJob, s.comp.job with
  | none, some j, _ => reloadJob j true s
  | some d, _, some j => if d.seq = j.desc.seq then reloadJob j false s else s
  | _, _, _ => s

/-- Changes the frame-timing block. -/
def modFrm (f : Frm → Frm) (s : State) : State := { s with frm := f s.frm }

/-- Changes the array block. -/
def modArr (f : Arr → Arr) (s : State) : State := { s with arr := f s.arr }

/-! ## The ramp (R46, R50) -/

/-- Ticks of RUN time the ramp has run in the subframe in progress. -/
def rampRun (s : State) : Nat :=
  s.arr.rampTicks + (if s.arr.ramp = .run then (s.now - s.arr.rampAt + tickPs s / 2) / tickPs s else 0)

/-- b_8192 of the subframe in progress (R51). -/
def rampEnd (s : State) : Nat := stepBoundary 8192 s.arr.k s.arr.u

/-- The ramp goes to a state, its RUN time kept. -/
def setRamp (r : Ramp) (s : State) : State :=
  modArr (fun a => { a with ramp := r, rampTicks := rampRun s, rampAt := s.now }) s

/-- The ramp returns from PAUSE or FORCE: to RUN, or to TAIL where its steps are done (R46). -/
def resumeRamp (s : State) : State := setRamp (if rampEnd s ≤ rampRun s then .tail else .run) s

/-! ## Entries (R394 to R399) -/

/-- The schedule of frames stops: no launch is awaited, no item goes on, and no subframe is left that a launch could cut
short (R85, R97). -/
def stopSchedule (s : State) : State :=
  modArr (fun a => { a with ramp := .tail, u := 0 }) (modFrm (fun f => { f with
    snap := none, windowOpen := false, held := false, claim := false, claiming := false, items := [], inItem := none }) s)

/-- What entry to HOLD does to the outputs and to the schedule (R97, R398, R429). -/
def holdEntry (s : State) : State :=
  let s := stopSchedule { s with saf := { s.saf with limpPattern := 0 } }
  if lit s then
    let s := setHold true s
    if !s.saf.lenA && !s.saf.lenB then dropDisc s else s
  else if active s then dropDisc s
  else s

/-- What entry to DARK does to the outputs and to the schedule (R97, R399). -/
def darkEntry (s : State) : State :=
  dropDisc (setHold false (blank (stopSchedule
    { s with saf := { s.saf with limpPattern := 0, discStep := 0, discOnly4 := false } })))

/-- Items and the calibration claim do not occur in LIMP: the one in progress ends, and their launches are awaited no longer
(R97). -/
def dropItems (s : State) : State :=
  let keep := s.frm.snap.all (fun x => match x.kind with | .boundary => true | .subframe _ => true | _ => false)
  let s := if s.arr.ramp = .pause || s.arr.ramp = .force then resumeRamp s else s
  modFrm (fun f => { f with
    snap := if keep then f.snap else none, windowOpen := f.windowOpen && keep, held := f.held && keep, claim := false
    claiming := false, items := [], inItem := none }) s

/-- What entry to LIMP does: the pattern chosen, its load begun, and the hold lines asserted in LIT with permission; they are not
without it (R394, R405). -/
def limpEntry (n : Nat) (s : State) : State :=
  let s := dropItems { s with saf := { s.saf with
    limpPattern := n, limpIn := nth s.saf.limpBuf (n - 1) [], limpLoaded := false, limpLaunched := false, limpLost := false
    limpSums := {} } }
  setHold (s.saf.permission && lit s) s

/-- The safety state changes: counted, the Helm core interrupted, pending forced pulses cancelled (R267, R416, Table 17.4). -/
def setSafety (x : Safety) (s : State) : State :=
  irqHelm 37 { s with
    saf := { s.saf with state := x, transitions := s.saf.transitions + 1 }, diag := { s.diag with pulses := [] } }

/-- Light permission worked out again: 0 without the start-up test, the disconnect check or with the latch set; kept
while the channels disagree (R405, R406). Its fall blanks the array and releases the hold lines of LIMP. -/
def updPermission (s : State) : State :=
  let on := s.saf.startTest && s.saf.discPassed && !s.saf.discrepLatch &&
    (if s.saf.lenA = s.saf.lenB then s.saf.lenA else s.saf.permission)
  let fell := s.saf.permission && !on
  let s := { s with saf := { s.saf with permission := on } }
  if fell && decide (s.saf.state.code ≤ 2) then setHold false (blank s) else s

/-- One step of the disconnect check passes as soon as DISC_FB reads as it must (R408, R409). -/
def discEval : Nat → State → State
  | 0, s => s
  | k + 1, s =>
    match s.saf.discStep with
    | 1 => if s.saf.discFb then s else discEval k { s with saf := { s.saf with discStep := 2, discAt := s.now, discEn := true } }
    | 2 => if s.saf.discFb then discEval k { s with saf := { s.saf with discStep := 3, discAt := s.now, discEn := false } } else s
    | 3 => if s.saf.discFb then s else discEval k { s with saf := { s.saf with discStep := 4, discAt := s.now, discEn := true } }
    | 4 =>
      if s.saf.discFb then
        updPermission { s with saf := { s.saf with
          discPassed := s.saf.discPassed || !s.saf.discOnly4, discStep := 0, discOnly4 := false, closeOk := true } }
      else s
    | _ => s

/-- The check goes on as far as DISC_FB lets it (R408, R409). -/
def discRun (s : State) : State := discAgree (discEval 4 s)

/-- DISC_EN is asserted again and the close check runs (R392, R409). -/
def closeDisc (s : State) : State := discRun (assertDisc s)

/-- Entry to a higher state (R391, R394): with no VALID pattern HOLD takes the place of LIMP. -/
def enterUp (cls src : Nat) (s : State) : State :=
  let pick := limpPick s (limpWish s src)
  let lost := cls = 2 && pick = 0
  let x := if lost then Safety.hold else Safety.ofClass cls
  if x.code ≤ s.saf.state.code then s else
  let s := setSafety x s
  let s := { s with saf := { s.saf with entrySource := src, entryTime := s.time, entryInstant := some s.now
                                        pendingReturn := false, limpLost := lost } }
  match x with
  | .limp => limpEntry pick (abandonLoad s)
  | .hold => holdEntry (abandonLoad s)
  | .dark => darkEntry (abandonLoad s)
  | _ => s

/-- A request that moves nothing. -/
def ignoreReset (s : State) : State := { s with saf := { s.saf with resetsIgnored := s.saf.resetsIgnored + 1 } }

/-- A request that moves the state or starts a return (R404); what it found is kept for a raise of the same instant (R415). -/
def acceptReset (s : State) : State :=
  let o := s.saf
  { s with saf := { s.saf with
      resetsAccepted := o.resetsAccepted + 1
      before := some { at_ := s.now, state := o.state, transitions := o.transitions, resetsAccepted := o.resetsAccepted, pendingReturn := o.pendingReturn, limpPattern := o.limpPattern, limpIn := o.limpIn
                       limpLoaded := o.limpLoaded, limpLaunched := o.limpLaunched, limpLost := o.limpLost, limpSums := o.limpSums, holdN := o.holdN, holdS := o.holdS
                       discEn := o.discEn, discAt := o.discAt, closeOk := o.closeOk, firstReadyDone := o.firstReadyDone
                       discStep := o.discStep, discOnly4 := o.discOnly4, discDeferred := o.discDeferred } } }

/-- The move to a lower LIMP or HOLD, at once; to LIMP only while a pattern is VALID (R392, R394). -/
def lowerTo (tgt : Nat) (s : State) : Option State :=
  if tgt = 2 then
    match limpPick s (limpWish s s.saf.entrySource) with
    | 0 => none
    | n => some (limpEntry n (closeDisc (setSafety .limp s)))
  else
    let s := setSafety .hold s
    some (if lit s then setHold true s else s)

/-- A reset request whose target is LIMP, HOLD or DARK (R392). -/
def resetLow (tgt : Nat) (s : State) : State :=
  if s.saf.selfFault || decide (s.saf.state.code ≤ tgt) then ignoreReset s
  else match lowerTo tgt (acceptReset s) with
    | some x => x
    | none => ignoreReset s

/-- A waiting return meets a target that has risen: to the present state, it is cancelled; to a state between, the request
that was accepted leads there at once, as it would have, and it is cancelled while no pattern is VALID (R392, R394; DEDUCED, log
188). -/
def turnReturn (tgt : Nat) (s : State) : State :=
  let s := { s with saf := { s.saf with pendingReturn := false } }
  if s.saf.state.code ≤ tgt then s else (lowerTo tgt s).getD s

/-- The state that the sources of this instant have caused, as their class: HOLD in place of LIMP is LIMP (R391, R394). -/
def enteredClass (s : State) : Nat := if s.saf.limpLost && s.saf.state = .hold then 2 else s.saf.state.code

/-- The target state is worked out again after a raise of `id` (R391, R392). -/
def retarget (id : Nat) (s : State) : State :=
  let tgt := targetClass s
  let c := classOf s id
  if s.saf.state.code < tgt then enterUp tgt id s
  else if s.saf.pendingReturn && decide (2 ≤ tgt) then turnReturn tgt s
  else if s.saf.entryInstant = some s.now && decide (0 < c) && c = enteredClass s && decide (id < s.saf.entrySource) then
    { s with saf := { s.saf with entrySource := id } }
  else if s.saf.entryInstant = some s.now && c = s.saf.state.code && enteredClass s < c then
    { s with saf := { s.saf with entrySource := id, limpLost := false } }
  else s

/-- What the disconnect switch has done since a reset request stands, whatever a raise of the same instant makes of the request. -/
def keepDisc (s : State) : State :=
  { s with saf := { s.saf with before := s.saf.before.map (fun o =>
      { o with discEn := s.saf.discEn, discAt := s.saf.discAt, closeOk := s.saf.closeOk, firstReadyDone := s.saf.firstReadyDone, discStep := s.saf.discStep
               discOnly4 := s.saf.discOnly4, discDeferred := s.saf.discDeferred }) } }

/-- The safety state as it was before a reset request of this instant. -/
def undoReset (o : SafBefore) (s : State) : State :=
  { s with saf := { s.saf with
      before := none
      state := o.state, transitions := o.transitions, resetsAccepted := o.resetsAccepted, pendingReturn := o.pendingReturn, limpPattern := o.limpPattern, limpIn := o.limpIn
      limpLoaded := o.limpLoaded, limpLaunched := o.limpLaunched, limpLost := o.limpLost, limpSums := o.limpSums, holdN := o.holdN, holdS := o.holdS
      discEn := o.discEn, discAt := o.discAt, closeOk := o.closeOk, firstReadyDone := o.firstReadyDone, discStep := o.discStep
      discOnly4 := o.discOnly4, discDeferred := o.discDeferred } }

/-- A raise takes the target up: the state follows. Where a reset request of the same instant came before it, the raise comes
first and the request then acts against the new target (R391, R415). -/
def raiseTarget (id was : Nat) (s : State) : State :=
  let tgt := targetClass s
  match s.saf.before with
  | some o =>
    if o.at_ = s.now && decide (2 ≤ tgt) && decide (was < tgt) then resetLow tgt (retarget id (undoReset o s)) else retarget id s
  | none => retarget id s

/-- A source is raised at its class: counted, latched, the state moved up to its target, logged, reported
(R387, R388, R391, R501). -/
def raiseSrc (id : Nat) (ctx : List Byte) (s : State) : State :=
  if !hasSource id then s else
  let was := targetClass s
  let s := { s with saf := { s.saf with
      latched := bmSet s.saf.latched id
      causes := if isCond id then bmSet s.saf.causes id else s.saf.causes
      raises := modNth s.saf.raises id satInc16 } }
  let s := raiseTarget id was (lineHelm 64 true s)
  let c := classOf s id
  let s := logAdd id c false ctx s
  if s.objN 0x1011 2 ≤ c then event id c ctx s else s

/-- A first failure or a successful retry: counted and logged at NOTE with TRANSIENT, nothing latched (R388). -/
def transientSrc (id : Nat) (ctx : List Byte) (s : State) : State :=
  logAdd id 0 true ctx { s with saf := { s.saf with transients := modNth s.saf.transients id satInc16 } }

/-- The cause of a condition source is present (R387), the injected one included (R414). -/
def causeOn (s : State) (id : Nat) : Bool := bmGet s.saf.causes id || bmGet s.saf.injected id

/-- The cause of a condition source appears or ends; its appearing raises the source (R387). -/
def setCause (id : Nat) (on : Bool) (ctx : List Byte) (s : State) : State :=
  if on then (if bmGet s.saf.causes id then s else raiseSrc id ctx s)
  else { s with saf := { s.saf with causes := bmClr s.saf.causes id } }

/-- Takes a fresh argument for a free value. -/
def State.tickFree (s : State) : State := { s with free := s.free + 1 }

/-- A quotient rounded where no rounding is stated: exact where it divides, else one of its two neighbours (log 17). -/
def roundFree (tag : Nat) (num : Int) (den : Nat) : Int :=
  if num % den = 0 then num / den else num / den + (if Config.roundUp tag num den then 1 else 0)

end Sys2Proof.Machine
end

