-- ==== Sys2Proof/Machine/Flags.lean ====
section
/-!
DEFINITION. The status values the engine shows: status flags, the values of the measurement objects that have no
schedule, the sequence numbers of R495 and R457, and what every command does when it ends.
-/

namespace Sys2Proof.Machine

/-- A Boolean as a number. -/
def b2n (b : Bool) : Nat := if b then 1 else 0

/-- A time base position in the list of sources: the state of TBn, with 3 where no block enables it (R417, R426). -/
def tbSource (s : State) (n : Nat) : Nat := nth s.tb.src n 2

/-- FLAGS of a STATUS packet (Table 5.9). -/
def statusFlags (s : State) : Nat :=
  b2n (s.fy.address = 63) + 2 * b2n s.fy.overflow + 4 * b2n s.clk.valid + 8 * b2n s.fy.rowOvf

/-- safety.light (R416). -/
def safetyLight (s : State) : Nat :=
  b2n s.saf.permission + 2 * b2n s.saf.lenA + 4 * b2n s.saf.lenB + 8 * b2n s.saf.startTest +
  16 * b2n s.saf.discrepLatch + 32 * b2n s.saf.discEn + 64 * b2n s.saf.discFb + 128 * b2n s.saf.factory

/-- The selected domain, if one is selected. -/
def selDom (s : State) : Option DomSt := if s.tim.selected = 0 then none else s.tim.doms[s.tim.selected - 1]?

/-- time.state (R384). -/
def timeState (s : State) : Nat :=
  b2n s.clk.valid + 2 * b2n ((selDom s).any (fun d => d.st == 2)) + 4 * b2n s.tim.unaligned + 8 * b2n s.tim.holdover +
  16 * b2n (onKeeper s) + 32 * b2n (onKeeper s && !trimmed s)

/-- An offset in ns, held at the limits of an I32 (R384). -/
def thetaNs (th : Int) : Int := clampI (th / (4294967296 * 1000)) (-2147483648) 2147483647

/-- can.state (R507). -/
def canState (s : State) : Nat :=
  if s.can.busOff then 2
  else if !s.can.joined then 4
  else if s.objN 0x1010 5 = 1 then 3
  else if 128 ≤ s.can.tecErr || 128 ≤ s.can.recErr then 1
  else 0

/-- safety.target (R391, R392). -/
def targetCode (s : State) : Nat := (Safety.ofClass (targetClass s)).code

/-- ferry.state (R130). -/
def LinkSt.code : LinkSt → Nat
  | .detect => 1 | .slow => 2 | .atRate => 3 | .fl0 => 4 | .fl1 => 5 | .fl2 => 6 | .retrain => 7 | .down => 8

/-- power.sequence (R442). -/
def PwSeq.code : PwSeq → Nat
  | .idle => 0 | .preparing => 1 | .retryWait => 2 | .committing => 3 | .exiting => 4

/-- comp.cache_state (R217). -/
def CacheSt.code : CacheSt → Nat
  | .empty => 0 | .valid => 1 | .filling => 2

/-- keeper.state (R442). -/
def Keeper.code : Keeper → Nat
  | .starting => 0 | .unqualified => 1 | .qualified => 2

/-- A counter as object bytes. -/
def cnt (c : Cnt) : List Byte := leBytes 4 c.toNat

/-- The subindices 1, 2, ... of a measurement object without a schedule, as they stand (R495). -/
def measNow (s : State) (idx : Nat) : List (List Byte) :=
  match idx with
  | 0x2003 => [cnt s.arr.shedEvents, cnt s.arr.unmetEvents, cnt s.arr.durLimited]
  | 0x2101 => [cnt s.frm.late, cnt s.frm.missed, cnt s.frm.unsynced, cnt s.frm.truncated, cnt s.frm.dropped,
      cnt s.frm.refused, cnt s.frm.retimeHolds]
  | 0x2201 => [leBytes 1 s.lane.st.code, leBytes 1 s.lane.rate, leBytes 1 s.lane.lanes, leBytes 1 (b2n s.lane.rxPrecode),
      leBytes 1 s.lane.hops, leBytes 4 s.lane.markerDelay, leBytes 2 s.lane.skew, leBytes 1 s.lane.failReason]
  | 0x2202 => [cnt s.lane.trainFailures, cnt s.lane.linkDowns, cnt s.lane.fastRetrains, cnt s.lane.markerJumps,
      cnt s.lane.markerErrors]
  | 0x2301 => [cnt s.fy.crcErrors, cnt s.fy.crcPassed, cnt s.fy.hunts, cnt s.fy.nacksSent, cnt s.fy.transients,
      cnt s.fy.duplicates, cnt s.fy.busyDrops, cnt s.fy.malformed, cnt s.fy.staleTime, cnt s.fy.rowErrors,
      cnt s.fy.rowOverflows, cnt s.fy.consumed, cnt s.fy.inserted]
  | 0x2401 => [cnt s.surf.rejFree, cnt s.surf.rejPinned, cnt s.surf.rejShape, cnt s.surf.eccCorrected,
      cnt s.surf.eccPoisoned, cnt s.surf.retirements, cnt s.surf.releaseDeferred]
  | 0x2501 => [cnt s.comp.staleLayers, cnt s.comp.omittedLayers, cnt s.comp.flattens, cnt s.comp.fallbackFrames,
      cnt s.comp.cacheRepairs]
  | 0x2602 => [cnt s.mask.accepted, cnt s.mask.rejected, cnt s.mask.superseded, cnt s.mask.expiries, cnt s.mask.renewals]
  | 0x2702 => [cnt s.quay.underruns, cnt s.quay.urgencyRaises, cnt s.quay.reloads, cnt s.quay.satFrames, cnt s.quay.retries]
  | 0x2802 => [cnt s.diag.measurements, cnt s.diag.darkProbes, cnt s.diag.firstFailures, cnt s.diag.transients,
      cnt s.diag.lasting, cnt s.diag.retryFull, cnt s.diag.discarded, cnt s.diag.claims, cnt s.diag.stuckScreens]
  | 0x2907 => [cnt s.sup.headroomShort, cnt s.sup.clampHigh, cnt s.sup.phaseLimits, cnt s.sup.bfSaturations,
      cnt s.sup.freeRuns, cnt s.sup.repClears, cnt s.sup.vfCapped]
  | 0x2A02 => [cnt s.th.stepsDown, cnt s.th.stepsUp, cnt s.th.rateSteps, cnt s.th.sensorFaults]
  | 0x2A12 => [cnt s.th.updates, cnt s.th.limited]
  | 0x2B01 => [cnt s.pat.ticks, cnt s.pat.conflicts, cnt s.pat.trigIgnored, cnt s.pat.ignoredOut, cnt s.pat.markers]
  | 0x2C01 => [s.time.bytes, leBytes 4 s.clk.frac, leBytes 1 (timeState s), leBytes 1 s.tim.selected,
      leBytes 4 (unsext 32 s.clk.c), leBytes 4 (unsext 32 s.clk.sTerm),
      leBytes 4 (unsext 32 (match selDom s with | some d => thetaNs d.theta | none => 0))]
  | 0x2C04 => [cnt s.tim.steps, cnt s.tim.switches, cnt s.tim.masterChanges, cnt s.tim.outliers, cnt s.tim.discards,
      cnt s.tim.tpLate]
  | 0x2D01 => [leBytes 1 s.saf.state.code, leBytes 1 (targetCode s), leBytes 1 (safetyLight s), leBytes 1 s.saf.limpPattern,
      leBytes 1 s.saf.entrySource, s.saf.entryTime.bytes]
  | 0x2D02 => [cnt s.saf.transitions, cnt s.saf.resetsAccepted, cnt s.saf.resetsIgnored, cnt s.saf.discrepancies,
      cnt s.saf.clearsRefused]
  | 0x2E01 => [leBytes 1 s.pw.dev.code, leBytes 1 s.pw.seq.code, leBytes 1 s.pw.result, leBytes 1 s.pw.refuseBlock,
      leBytes 1 s.pw.refuseReason, leBytes 1 s.pw.wakeCause, leBytes 4 s.pw.exitTime]
  | 0x2E02 => [cnt s.pw.entries, cnt s.pw.refusals, cnt s.pw.failures, cnt s.pw.wakesAbsorbed, cnt s.pw.earlyDrops,
      cnt s.pw.busErrors]
  | 0x2E04 => [cnt s.tb.switches, cnt s.tb.forced, cnt s.tb.monitorTrips, cnt s.tb.unqualTrips]
  | 0x2F01 => [cnt s.mg.mramCorrected, cnt s.mg.sramCorrected, cnt s.mg.journalTx, cnt s.mg.journalRollbacks,
      cnt s.mg.purserRestarts, cnt s.mg.custTraps]
  | 0x1040 => [leBytes 1 (canState s), leBytes 1 s.can.tecErr, leBytes 1 s.can.recErr, cnt s.can.busOffs,
      cnt s.can.rxFrames, cnt s.can.txFrames, cnt s.can.busyDrops, cnt s.can.collisions, cnt s.dict.coalesced,
      cnt s.dict.summaries]
  | _ =>
    if 0x2210 ≤ idx && idx ≤ 0x2213 then
      let n := idx - 0x2210
      [cnt (nth s.lane.badHeaders n 0), cnt (nth s.lane.ctlErrors n 0), cnt (nth s.lane.lockLosses n 0),
       leBytes 1 (nth s.lane.ctle n 0), leBytes 2 (unsext 16 (nth (nth s.lane.dfe n []) 0 0)), leBytes 2 (nth s.lane.eye n 0)]
    else if 0x2840 ≤ idx && idx ≤ 0x2847 then
      let c := nth s.diag.cal (idx - 0x2840) {}
      [cnt c.count, c.timeA.bytes, c.timeB.bytes, leBytes 1 c.status, leBytes 4 (unsext 32 c.value)]
    else if 0x2C02 ≤ idx && idx ≤ 0x2C03 then
      let d := nth s.tim.doms (idx - 0x2C02) {}
      [leBytes 1 d.st, leBytes 8 d.master, leBytes 4 (unsext 32 (thetaNs d.theta)), leBytes 2 d.interval, d.last.bytes]
    else if 0x2C20 ≤ idx && idx ≤ 0x2C21 then
      let c := nth s.tim.tc (idx - 0x2C20) {}
      [[], leBytes 1 c.fifo.length,
       (match c.fifo with
        | e :: _ => leBytes 6 e.sec ++ leBytes 4 e.ns ++ leBytes 2 e.frac ++ leBytes 2 e.seq ++ leBytes 1 e.edge ++ leBytes 1 e.flags
        | [] => List.replicate 16 0), [], cnt c.overflows]
    else []

/-- The values whose change is a new result: those of `measNow`, for 0x2C01 without the running clock (log 20). -/
def measKey (s : State) (idx : Nat) : List (List Byte) :=
  if idx = 0x2C01 then (measNow s idx).drop 2 else measNow s idx

/-- The measurement objects without a schedule all of whose subindices have a stated default (R495). -/
def measDefaulted : List Nat :=
  [0x2003, 0x2101, 0x2202, 0x2301, 0x2401, 0x2501, 0x2602, 0x2702, 0x2802, 0x2840, 0x2841, 0x2842, 0x2843, 0x2844, 0x2845,
   0x2846, 0x2847, 0x2907, 0x2A02, 0x2A12, 0x2B01, 0x2C02, 0x2C03, 0x2C04, 0x2C20, 0x2C21, 0x2D01, 0x2D02, 0x2E02, 0x2E04,
   0x2F01]

/-- The other measurement objects without a schedule. -/
def measOther : List Nat := [0x2201, 0x2210, 0x2211, 0x2212, 0x2213, 0x2C01, 0x2E01, 0x1040]

/-- Sequence number after one more result, from 2^31 - 1 to 0 (R495). -/
def seqNext (n : Nat) : Nat := (n + 1) % 2147483648

/-- SEQ of one unscheduled object after a command (R495). -/
def bumpSeq (s0 s1 : State) (l : List (Nat × Nat)) (idx : Nat) : List (Nat × Nat) :=
  match afind s0.measSeq idx, afind s1.measSeq idx with
  | some _, some n => if measKey s0 idx = measKey s1 idx then l else aput l idx (seqNext n)
  | none, none => if measOther.contains idx && measKey s0 idx ≠ measKey s1 idx then aput l idx 1 else l
  | _, _ => l

/-- The values of the safety-register region (R457). -/
def srNow (s : State) : SrRegion :=
  { state := s.saf.state.code, target := targetCode s, light := safetyLight s, entrySource := s.saf.entrySource
    limp := s.saf.limpPattern, entryTime := s.saf.entryTime, status := s.saf.latched
    active := s.saf.causes ||| s.saf.injected, classes := s.obj 0x2D10 3, raises := s.saf.raises
    transients := s.saf.transients }

/-- What STATUS reports on change: SAFETY, LIT and FLAGS (R152). -/
def statusKey (s : State) : Nat × Bool × Nat := (s.saf.state.code, s.pw.dev = .lit, statusFlags s)

/-- The end of a command: results counted, the sequence of the safety registers, a STATUS packet owed. -/
def settle (s0 s1 : State) : State :=
  { s1 with
    measSeq := (measDefaulted ++ measOther).foldl (bumpSeq s0 s1) s1.measSeq
    srSeq := if srNow s0 = srNow s1 then s1.srSeq else seqNext s1.srSeq
    statusDue := s1.statusDue || decide (statusKey s0 ≠ statusKey s1) }

/-- A change of a path's NODE closes its session, and on CAN its transfer (R480, R490, R499). -/
def renode (s0 s1 : State) : State :=
  let d := s1.dict
  let d := if nodeOf s0 = nodeOf s1 then d
    else { d with xferCan := none, sesCan := { d.sesCan with isOpen := false } }
  { s1 with dict := if s0.fy.address = s1.fy.address then d
                    else { d with sesFerry := { d.sesFerry with isOpen := false } } }

/-- A command with effect `f` at instant `t`; without supplies the engine does nothing (log 21). -/
def act (t : Nat) (f : State → State) (s : State) : Host.Outcome State Fault Refusal :=
  let s' := s.advance t
  .next (settle s (renode s (if s'.pw.dev = .off then s' else f s')))

/-- A new result of a measurement object with a schedule: the subindices from `first` on are latched together (R495). -/
def publishFrom (idx first : Nat) (vals : List (List Byte)) (s : State) : State :=
  { s with
    measSeq := aput s.measSeq idx (match afind s.measSeq idx with | some n => seqNext n | none => 1)
    measVal := ((upTo vals.length).zip vals).foldl (fun l p => aput l (okey idx (p.1 + first)) p.2) s.measVal }

/-- A new result whose values are subindices 1, 2, ... -/
def publish (idx : Nat) (vals : List (List Byte)) (s : State) : State := publishFrom idx 1 vals s

/-- Measurements restart: READY 0 everywhere (R495). -/
def measClear (s : State) : State := { s with measSeq := [], measVal := [] }

/-- The end of BOOT gives the defaulted objects their first result (R495). -/
def measFirst (s : State) : State :=
  { s with measSeq := measDefaulted.foldl (fun l i => if (afind l i).isSome then l else aput l i 1) s.measSeq }

/-- HB: half periods in us of the square wave, 0 for low; it does not toggle for 100 ms from a missed service on, after which the
core has served again unless it has missed anew (R410; DESIGN CHOICE, log 189), nor without the ticks of TB10 (R426). -/
def hbHalf (s : State) : Nat :=
  if s.saf.helmMissed.any (fun a => decide (s.now < a + 100000000000)) || s.saf.selfFault || !ticks s 14 10 then 0
  else match s.pw.dev with
    | .quiet | .ready | .lit =>
      match s.saf.state with
      | .normal => 500
      | .degraded => 500
      | .limp => 2000
      | _ => 0
    | _ => 0

end Sys2Proof.Machine
end

