-- ==== Sys2Proof/Machine/Operands.lean ====
section
/-!
DEFINITION. The operand forms the commands share: dictionary writes with the checks of Table 18.7 in their order, the
power and timebase of the block that serves an object, and the fields of CAN frames.
-/

namespace Sys2Proof.Machine

/-! ## Abort codes (Table 18.7) -/

/-- UNKNOWN_CMD. -/
def abUnknown : Nat := 0x01010001
/-- SEQUENCE. -/
def abSequence : Nat := 0x01010002
/-- NO_TRANSFER. -/
def abNoTransfer : Nat := 0x01010003
/-- TIMEOUT. -/
def abTimeout : Nat := 0x01010004
/-- REPLACED. -/
def abReplaced : Nat := 0x01010005
/-- TRANSFER_CRC. -/
def abCrc : Nat := 0x01010006
/-- BROADCAST. -/
def abBroadcast : Nat := 0x01010007
/-- NO_OBJECT. -/
def abNoObject : Nat := 0x01020001
/-- NO_SUBINDEX. -/
def abNoSub : Nat := 0x01020002
/-- READ_ONLY. -/
def abReadOnly : Nat := 0x01020003
/-- WRITE_ONLY. -/
def abWriteOnly : Nat := 0x01020004
/-- LENGTH. -/
def abLength : Nat := 0x01020005
/-- VALUE_RANGE. -/
def abRange : Nat := 0x01030001
/-- PRESENT_STATE. -/
def abState : Nat := 0x01030002
/-- NO_DATA. -/
def abNoData : Nat := 0x01030003
/-- NO_POWER. -/
def abPower : Nat := 0x01030004
/-- SESSION. -/
def abSession : Nat := 0x01040001
/-- FACTORY. -/
def abFactory : Nat := 0x01040002
/-- LOCKOUT. -/
def abLockout : Nat := 0x01040003
/-- NVM. -/
def abNvm : Nat := 0x01050001
/-- NOT_SERVED. -/
def abNotServed : Nat := 0x01050002

/-! ## Power and timebase of a block (R426, R439) -/

/-- A block has power and timebase (R439). -/
def blockOn (s : State) (b : Nat) : Bool := blockPowered s b && blockTimed s b

/-- The block of Table 16.2 that serves an object (log 23). -/
def servedBy (idx : Nat) : Nat :=
  match idx / 256 with
  | 0x20 => 5 | 0x21 => 5 | 0x22 => 0 | 0x23 => 0 | 0x24 => 2 | 0x25 => 3 | 0x26 => 3 | 0x27 => 4 | 0x28 => 8 | 0x29 => 6
  | 0x2A => 8 | 0x2B => 13 | 0x2C => 7 | 0x2D => 14 | 0x2E => 14 | 0x2F => 10 | 0x30 => 8 | 0xF0 => 14 | _ => 11

/-- An index is a measurement object: it has subindex 0 (R68). -/
def isMeas (idx : Nat) : Bool := (objFind idx 0).isSome

/-- A bus error: source 0xC8, logged, counted (R439, R440). -/
def busError (addr : Nat) (isWrite : Bool) (s : State) : State :=
  raiseSrc 0xC8 (leBytes 4 addr ++ leBytes 1 (b2n isWrite)) { s with pw := { s.pw with busErrors := s.pw.busErrors + 1 } }

/-! ## Sessions (R498, R499) -/

/-- The session record of a path. -/
def sess (s : State) (p : Path) : Sess := match p with | .can => s.dict.sesCan | .ferry => s.dict.sesFerry

/-- Sets the session record of a path. -/
def setSess (p : Path) (x : Sess) (s : State) : State :=
  match p with
  | .can => { s with dict := { s.dict with sesCan := x } }
  | .ferry => { s with dict := { s.dict with sesFerry := x } }

/-- A safety session is open on a path. -/
def sessOpen (s : State) (p : Path) : Bool := (sess s p).isOpen

/-- A write that needs the session restarts session.timeout (R499). -/
def touchSess (p : Path) (s : State) : State :=
  if sessOpen s p then setSess p { sess s p with lastWrite := s.now } s else s

/-- The path's session closes (R499); a challenge that was read stays valid (R498). -/
def closeSess (p : Path) (s : State) : State := setSess p { sess s p with isOpen := false } s

/-! ## Object writes (R491) -/

/-- The dictionary server runs and serves an object: all of them once BOOT has ended, a few from the boot ROM (R467). -/
def served (s : State) (idx : Nat) : Bool :=
  let rom := s.mg.bootRom && (idx = 0x1000 || idx = 0x1010 || idx = 0x2F20)
  match s.pw.dev with
  | .quiet => !s.mg.haltMgmt || rom
  | .ready => !s.mg.haltMgmt || rom
  | .lit => !s.mg.haltMgmt || rom
  | .boot => rom
  | _ => false

/-- Orders 2 to 7 of Table 18.7 for a write: none to go on, or the abort code. The boot ROM, which serves no session, asks for
none (R467, R507; log 208). -/
def wrCheck (s : State) (p : Path) (idx sub : Nat) : Option Nat :=
  match objFind idx sub with
  | none => some (if objIndex idx then abNoSub else abNoObject)
  | some r =>
    if r.acc = .ro then some abReadOnly
    else if r.acc = .rwf && !s.saf.factory && !(sub = 1 && s.saf.testen) then some abFactory
    else if r.acc = .rws && !sessOpen s p && !s.mg.bootRom then some abSession
    else if r.acc = .wo && !blockOn s (servedBy idx) then some abPower
    else none

/-- The abort for a value of the wrong length: LENGTH, but for a protected layer record above 256 KiB the value range
(R201, R491). -/
def lenAbort (idx : Nat) : Nat := if idx = 0x2520 then abRange else abLength

/-- A write of an object: the checks of Table 18.7 in order, then the handler of the object. Answers the abort code, 0
for done. -/
def wr (p : Path) (idx sub : Nat) (data : List Byte) (h : List Byte → State → Nat × State) (s : State) : Nat × State :=
  match wrCheck s p idx sub with
  | some c => (c, if c = abPower then busError (okey idx sub) true s else s)
  | none =>
    match objFind idx sub with
    | none => (abNoObject, s)
    | some r =>
      if !lenOk r.ty data.length then (lenAbort idx, s)
      else if !valueOk r data then (abRange, s)
      else h data (if r.acc = .rws then touchSess p s else s)

/-! ## CRC units (R458 to R460) -/

/-- A unit is named by a window whose mode is not OFF (R460). -/
def unitNamed (s : State) (u : Nat) : Bool :=
  (upTo 16).any (fun w => s.objN (0x2710 + w) 1 ≠ 0 && s.objN (0x2710 + w) 3 = u)

/-- The parameters of crc.config of a unit. -/
def unitCfg (s : State) (u : Nat) : CrcParams :=
  { width := s.objN (0x2F40 + u) 1, poly := s.objN (0x2F40 + u) 2, init := s.objN (0x2F40 + u) 3, xorout := s.objN (0x2F40 + u) 4
    refin := bitOf (s.objN (0x2F40 + u) 5) 0, refout := bitOf (s.objN (0x2F40 + u) 5) 1 }

/-- The width a unit computes with (R458); for a WIDTH outside 1 to 32 the spec states none: a free value of its range, DESIGN
CHOICE, log 179. -/
def unitWidth (w : Nat) : Nat := if 1 ≤ w && w ≤ 32 then w else (Config.crcWidth w).val + 1

/-- The parameters a unit computes with: those of its registers, into which a window's composition start loads crc.config (R458,
R460). -/
def unitParams (s : State) (u : Nat) : CrcParams :=
  let x := nth s.mg.crc u {}
  { width := unitWidth (bitsOf x.ctrl 5 0), poly := x.poly, init := x.init, xorout := x.xorout, refin := bitOf x.ctrl 6
    refout := bitOf x.ctrl 7 }

/-- Changes a unit. -/
def modUnit (u : Nat) (f : CrcUnit → CrcUnit) (s : State) : State := { s with mg := { s.mg with crc := modNth s.mg.crc u f } }

/-- A computation ends: RESULT, RSEQ and the interrupt (R460, Table 17.4). -/
def unitFinish (u : Nat) (s : State) : State :=
  let p := unitParams s u
  irqPurser (38 + u) (modUnit u (fun x =>
    { x with started := false, result := crcFinish p x.value, rseq := (x.rseq + 1) % 65536 }) s)

/-- Bytes fed to a unit. -/
def unitFeed (u : Nat) (bs : List Byte) (s : State) : State :=
  let p := unitParams s u
  modUnit u (fun x => { x with value := bs.foldl (crcByte p) x.value }) s

/-- A snooped stream feeds the units that select it (R459): sources 1 SURF, 2 QUAY_TAP, 3 FERRY, 4 MRAM_READ, 5 DOMAIN. -/
def snoop (src : Nat) (sel : Option Nat) (bs : List Byte) (s : State) : State :=
  (upTo 8).foldl (fun s u =>
    let x := nth s.mg.crc u {}
    if x.started && !x.taken && bitsOf x.ctrl 11 8 = src && sel.all (· == bitsOf x.ctrl 23 16) then unitFeed u bs s else s) s

/-- The end of a stream whose extent finishes the computation by itself (R459). -/
def snoopEnd (src : Nat) (sel : Option Nat) (s : State) : State :=
  (upTo 8).foldl (fun s u =>
    let x := nth s.mg.crc u {}
    if x.started && !x.taken && bitsOf x.ctrl 11 8 = src && sel.all (· == bitsOf x.ctrl 23 16) then unitFinish u s else s) s

/-- A handler of a DOMAIN: the bytes of the complete transfer feed the CRC units that snoop it, which finishes them (R459). -/
def fedH (h : List Byte → State → Nat × State) (data : List Byte) (s : State) : Nat × State :=
  let r := h data s
  if r.1 = 0 then (0, snoopEnd 5 none (snoop 5 none data r.2)) else r

/-! ## Exceptions of a core (R439, R443, R444) -/

/-- Code of a core. -/
def coreIdx (c : CoreId) : Nat := match c with | .helm => 0 | .purser => 1

/-- An exception of a core on a load or store: the address and the direction are captured (R439, R443, R444; log 178). -/
def coreException (e : CoreExc) (c : CoreId) (addr : Nat) (isWrite : Bool) (s : State) : State :=
  { s with mg := { s.mg with exc := modNth s.mg.exc (coreIdx c) (fun _ => some e)
                             mtval := modNth s.mg.mtval (coreIdx c) (fun _ => addr % 2 ^ 32)
                             faultWrite := modNth s.mg.faultWrite (coreIdx c) (fun _ => isWrite) } }

/-- The access-fault exception of a core (R439, R444). -/
def accessFault (c : CoreId) (addr : Nat) (isWrite : Bool) (s : State) : State := coreException .accessFault c addr isWrite s

/-- What a core reads where it gets nothing is 0 (R439, R447). -/
def readZero (c : CoreId) (isWrite : Bool) (s : State) : State := if isWrite then s else send (.service c 0) s

/-- A core's access to a register of a block that is off or untimed: a read gives 0, a write is dropped, and the bus error of
the core is raised (R439). -/
def coreBusError (c : CoreId) (addr : Nat) (isWrite : Bool) (s : State) : State :=
  busError addr isWrite (readZero c isWrite (accessFault c addr isWrite s))

/-- The answer of the latest object access, kept in the model's own field (log 10). -/
def answered (x : Nat × State) : State := { x.2 with dict := { x.2.dict with answer := x.1 } }

/-- The dictionary server serves an object over a path: the boot ROM over CAN alone, and of 0x1010 the subindex 2 alone
(R467, R507). -/
def servedAt (s : State) (p : Path) (idx sub : Nat) : Bool :=
  served s idx && !(s.mg.bootRom && (p == .ferry || (idx == 0x1010 && sub != 2)))

/-- A command that is a write of an object; nothing happens where the object is not served. -/
def objWrite (t : Nat) (p : Path) (idx sub : Nat) (data : List Byte) (h : List Byte → State → Nat × State) (s : State) :
    Host.Outcome State Fault Refusal :=
  act t (fun s => if servedAt s p idx sub then answered (wr p idx sub data h s) else s) s

/-- The handler of an object that is only stored. -/
def storeH (idx sub : Nat) (data : List Byte) (s : State) : Nat × State := (0, s.setObj idx sub data)

/-- A handler that cannot be refused. -/
def doH (f : State → State) (_ : List Byte) (s : State) : Nat × State := (0, f s)

/-! ## CAN frames (R474, R479) -/

/-- FUNC of an identifier. -/
def canFunc (f : CanFrame) : Nat := f.id % 2048 / 128

/-- NODE of an identifier. -/
def canNode (f : CanFrame) : Nat := f.id % 128

/-- A field of the data. -/
def canField (f : CanFrame) (off n : Nat) : Nat := leField f.data off n

/-- The controller receives frames: joined, powered, not bus-off, with the ticks of its timebase (R426, R476 to R478, R535). -/
def canListens (s : State) : Bool := vcanOk s && s.can.joined && !s.can.busOff && clockOn s && ticks s 9 6

/-- A frame is received: a base frame in FD format, or of a function that takes classical frames (R474). -/
def canHears (s : State) (f : CanFrame) : Bool :=
  canListens s && decide (f.id < 2048) && (f.fd || canFunc f == 0 || canFunc f == 1)

/-- A frame has been accepted. -/
def rxCount (s : State) : State := { s with can := { s.can with rxFrames := s.can.rxFrames + 1 } }

end Sys2Proof.Machine
end

