-- ==== Sys2Proof/Machine/Time.lean ====
section
/-!
DEFINITION. Network time (chapter 14): sync samples, the servo, domains and their selection, holdover, pulses on TP0 to
TP3 and captures on TC0 and TC1.
-/

namespace Sys2Proof.Machine

/-- Units of 2^-32 ps in a time of `ps` picoseconds. -/
def psU (ps : Int) : Int := ps * 4294967296

/-- Domain record d. -/
def domOf (s : State) (d : Nat) : DomSt := nth s.tim.doms d {}

/-- Changes domain record d. -/
def modDom (d : Nat) (f : DomSt → DomSt) (s : State) : State :=
  { s with tim := { s.tim with doms := modNth s.tim.doms d f } }

/-- The outlier limit of a domain (R368). -/
def outlierLimit (d : Nat) : Int := if d = 0 then psU 1000000 else psU 200000000

/-- The bound of Table 14.3 on a selected domain's offset, without the path-delay error. -/
def lockBound (d : Nat) : Int := if d = 0 then psU 20000 else psU 2000000

/-- The lock condition of Table 14.2: the selected domain's last 8 accepted samples lie within the bound; the other's last 8
samples were accepted without an outlier. -/
def lockCond (d : Nat) (sel : Bool) (x : DomSt) : Bool :=
  if sel then decide (8 ≤ x.hist.length) && (x.hist.take 8).all (fun th => decide ((th.natAbs : Int) ≤ lockBound d))
  else decide (8 ≤ x.clean)

/-- Works out ACQUIRING or LOCKED again (R369). -/
def relock (d : Nat) (s : State) : State :=
  let sel := decide (s.tim.selected = d + 1)
  modDom d (fun x =>
    if x.st = 1 || x.st = 2 then
      if lockCond d sel x then { x with st := 2, lockedSince := if x.st = 2 then x.lockedSince else some s.now }
      else { x with st := 1, lockedSince := none }
    else x) s

/-- The frequency term in force (R361). -/
def freqTerm (s : State) : Int := if onKeeper s then s.clk.fKeeper else s.clk.fLink

/-- s reduced so that c keeps its bound (R361). -/
def fitS (f sT : Int) : Int := clampI sT (-4294967 - f) (4294967 - f)

/-- The rate correction c = f + s is set; offsets move at the old rate up to now (R361). -/
def setRate (f sT : Int) (s : State) : State :=
  let s := foldPred s
  let sF := fitS f sT
  { s with clk := { s.clk with sTerm := sF, sFull := sT, c := f + sF } }

/-- The phase term the servo takes for an offset (R361): the full rate from 10 us on, below it a free value that never
has the sign of the offset. -/
def servoPhase (s : State) (th : Int) : Int :=
  let m : Int := if psU 10000000 ≤ (th.natAbs : Int) then 858993 else ((Config.servoS s.free % 858994 : Nat) : Int)
  m * (-(sgn th))

/-- The frequency term the servo takes at an accepted sample: free within the bound on c (R361). -/
def servoFreq (s : State) : Int := clampI (Config.servoF s.free) (-4294967) 4294967

/-- The servo after an accepted sample of the selected domain. -/
def servo (th : Int) (s : State) : State :=
  let f := servoFreq s
  let s' := setRate f (servoPhase s th) s
  let s' := if onKeeper s then { s' with clk := { s'.clk with fKeeper := f } } else { s' with clk := { s'.clk with fLink := f } }
  s'.tickFree

/-- The phase term alone is chosen again, for a new selected domain (R370). -/
def servoSwitch (th : Int) (s : State) : State := (setRate (freqTerm s) (servoPhase s th) s).tickFree

/-- TB2 changed source: the frequency term of the new source applies, and the phase term is reduced only as far as that term
asks (R361). -/
def rateSource (s : State) : State := setRate (freqTerm s) s.clk.sFull s

/-- UNALIGNED follows the offset of the selected domain (R371). -/
def updAligned (th : Int) (s : State) : State :=
  let on := decide (psU 10000000000 < (th.natAbs : Int))
  setCause 0xB0 on (leBytes 8 (unsext 64 (thetaNs th))) { s with tim := { s.tim with unaligned := on } }

/-- Holdover begins or ends (R372, Table 14.7). -/
def updHoldover (s : State) : State :=
  let on := s.clk.valid && (s.tim.bothChanged || (match selDom s with | none => true | some d => d.st == 3))
  let s := setCause 0xB1 on [] { s with tim := { s.tim with holdover := on } }
  if on then setRate (freqTerm s) 0 s else s

/-- The next pulse of a PERIODIC pin at or after a local time in ns (R379, R380). -/
def periodicFrom (p : TpSt) (nowFix : Nat) : Nat :=
  let st := p.start.toNs
  let nowNs := ceilDiv nowFix 4294967296
  if nowNs ≤ st || p.period = 0 then 0 else ceilDiv (nowNs - st) p.period

/-- Changes pin n. -/
def modTp (n : Nat) (f : TpSt → TpSt) (s : State) : State := { s with tim := { s.tim with tp := modNth s.tim.tp n f } }

/-- The local clock as a step that is set will leave it (R362). -/
def steppedFix (s : State) : Nat := ((s.clk.fix : Int) + s.clk.step.getD 0).toNat

/-- Pulses after a step: a late ONESHOT fires at once, a PERIODIC goes on from its first start not passed and gives none
twice; a pulse in progress keeps its width (R380, log 175). -/
def tpAfterStep (s : State) : State :=
  let fix := steppedFix s
  let late := fun (p : TpSt) => p.mode == 1 && !p.active && decide (p.start.toNs * 4294967296 < fix)
  { s with tim := { s.tim with
      tpLate := s.tim.tpLate + BitVec.ofNat 32 (s.tim.tp.countP late)
      tp := s.tim.tp.map (fun p =>
        let p := { p with upAt := p.upAt + s.clk.step.getD 0, armedAt := p.armedAt + s.clk.step.getD 0 }
        if late p then { p with active := true, upAt := fix, count := p.count + 1 }
        else if p.mode = 2 then { p with m := max p.m (periodicFrom p fix) }
        else p) } }

/-- Items of a schedule that a step of `by_` passes over: absolute ones, not begun, whose start lies before the stepped clock
(R383). -/
def passItems (s : State) (m : Mode) (p base : Nat) (l : List Placed) : List Placed :=
  l.filter (fun x => !((itemCfg m x.item).base ≠ 0 && decide (s.now < base + x.start * p) && decide (localAt s (base + x.start * p) < steppedFix s)))

/-- A periodic timer goes on from the first multiple at or after the stepped clock (R454); a multiple that has fired lies before
its compare value. -/
def Tmr.stepped (fix : Nat) (x : Tmr) : Tmr :=
  let cmp := x.sec * 1000000000 + x.ns
  let now := ceilDiv fix 4294967296
  if x.enable && x.periodic && decide (0 < x.period) && decide (cmp < now) then
    let n := cmp + ceilDiv (now - cmp) x.period * x.period
    { x with sec := n / 1000000000, ns := n % 1000000000 }
  else x

/-- The timers of both cores after a step (R454). -/
def timersStep (s : State) : State :=
  let fix := steppedFix s
  { s with mg := { s.mg with tmrH := s.mg.tmrH.map (Tmr.stepped fix), tmrP := s.mg.tmrP.map (Tmr.stepped fix) } }

/-- The clock is set to be stepped by - θ at the next tick (R362): what compares with it is worked out for the clock to
come. -/
def clockStep (th : Int) (s : State) : State :=
  let s := foldPred s
  let s : State := { s with
    clk := { s.clk with step := some (-(roundFree 1 th 1000)) }
    tim := { s.tim with steps := s.tim.steps + 1, doms := s.tim.doms.map (fun d => { d with pred := d.pred - th }) } }
  let s : State := { s with frm := { s.frm with
    oneShotFrom := [0, 0, 0, 0, 0, 0], items := passItems s s.frm.mode (tickPs s) s.frm.frameAt s.frm.items
    snap := s.frm.snap.map (fun x => { x with items := passItems s x.mode x.p x.at_ x.items }) } }
  timersStep (tpAfterStep (setRate (freqTerm s) 0 s))

/-- Domain d becomes the selected one without a step (R370). -/
def switchDom (d : Nat) (s : State) : State :=
  let s := foldPred { s with tim := { s.tim with selected := d + 1, switches := s.tim.switches + 1, bothChanged := false } }
  let s := relock (1 - d) (relock d s)
  let th := (domOf s d).pred
  updHoldover (updAligned th (servoSwitch th s))

/-- The preferred domain for a first selection (R370). -/
def firstPref (s : State) : Nat := if s.objN 0x2C00 1 = 1 then 1 else 0

/-- After a change of a domain's state: a switch that R370 asks for. -/
def reselect (changed : Bool) (s : State) : State :=
  match s.tim.selected with
  | 0 => updHoldover s
  | k + 1 =>
    if ((domOf s k).st = 3 || changed) && (domOf s (1 - k)).st = 2 then switchDom (1 - k) s else updHoldover s

/-- An accepted sample of domain d: its record (R368, R369). -/
def acceptDom (d : Nat) (th : Int) (master interval : Nat) (cap : Time80) (fresh : Bool) (s : State) : State :=
  relock d (modDom d (fun x =>
    { x with
      st := if x.st = 2 && !fresh then 2 else 1
      theta := th, pred := th, predAt := s.now, master := master, interval := interval, last := cap, lastAt := s.now
      hist := if fresh then [th] else (th :: x.hist).take 8, clean := if fresh then 1 else min 8 (x.clean + 1), outs := []
      lockedSince := if fresh then none else x.lockedSince }) s)

/-- Domain d changes its master in this sample within one interval of the other domain's change, which leaves neither to be
selected (Table 14.7). DEDUCED: the interval is the one this sample announces (log 174). -/
def bothChange (d interval : Nat) (s : State) : Bool :=
  (domOf s (1 - d)).changedAt.any (fun a => decide (s.now ≤ a + interval * 1000000000))

/-- A step is set and no tick of TB2 has come since, the first one where the clock is not valid yet (R362, R370). -/
def firstTick (s : State) : Bool := s.clk.step.isSome && !s.clk.valid

/-- The first step, by the sample of domain d (R362, R370). -/
def firstStep (d : Nat) (th : Int) (s : State) : State :=
  let s := { s with tim := { s.tim with selected := d + 1, firstTh := th, firstTp := (s.tim.tp, s.tim.tpLate), firstTmr := (s.mg.tmrH, s.mg.tmrP), stepArmed := false } }
  updHoldover (updAligned 0 (relock d (clockStep th s)))

/-- The preferred domain's sample of the same tick takes the first step over (R370). -/
def firstAgain (d : Nat) (th : Int) (s : State) : State :=
  let s := { s with mg := { s.mg with tmrH := s.tim.firstTmr.1, tmrP := s.tim.firstTmr.2 } }
  let s := { s with tim := { s.tim with
    selected := d + 1, tp := s.tim.firstTp.1, tpLate := s.tim.firstTp.2, steps := s.tim.steps - 1
    doms := s.tim.doms.map (fun x => { x with pred := x.pred + s.tim.firstTh }) } }
  let s := modDom d (fun x => { x with pred := th }) s
  updHoldover (relock (1 - d) (relock d (clockStep th s)))

/-- An accepted sample of the selected domain acts on the clock: the step the host has armed, the servo, or in the holdover
of two changed masters nothing but UNALIGNED (R361, R362, R371, Table 14.7). -/
def selSample (th : Int) (s : State) : State :=
  if s.tim.stepArmed then
    updHoldover (updAligned 0 (clockStep th { s with tim := { s.tim with stepArmed := false } }))
  else if s.tim.bothChanged then updHoldover (updAligned th s)
  else updAligned th (servo th s)

/-- A sync sample of domain d with offset θ (R363, R368 to R372). -/
def sample (d : Nat) (th : Int) (master interval : Nat) (cap : Time80) (s : State) : State :=
  let s := foldPred s
  let x := domOf s d
  let live := x.st = 1 || x.st = 2
  let dev := th - x.pred
  let out := live && decide (outlierLimit d < (dev.natAbs : Int))
  let outs := (dev :: x.outs).take 4
  let lasting := out && outs.length = 4 &&
    outs.all (fun a => outs.all (fun b => decide (((a - b).natAbs : Int) ≤ outlierLimit d)))
  if out && !lasting then
    let s := modDom d (fun x => { x with outs := outs, clean := 0 }) s
    let s := relock d { s with tim := { s.tim with outliers := s.tim.outliers + 1 } }
    noteEvent 0x10C (leBytes 1 d ++ leBytes 8 (unsext 64 (thetaNs th))) s
  else
    let changed := x.st ≠ 0 && (lasting || x.master ≠ master)
    let s := acceptDom d th master interval cap (x.st = 0 || x.st = 3 || changed) s
    let s := if changed then
        modDom d (fun x => { x with changedAt := some s.now }) { s with tim := { s.tim with masterChanges := s.tim.masterChanges + 1 } }
      else s
    if !s.clk.valid && s.clk.step.isNone then firstStep d th s
    else if firstTick s && s.tim.selected ≠ d + 1 && firstPref s = d then firstAgain d th s
    else if s.clk.step.isSome then s
    else
      let both := changed && bothChange d interval s
      let s := reselect (changed && decide (s.tim.selected = d + 1)) s
      let s :=
        if both && (domOf s 0).st ≠ 2 && (domOf s 1).st ≠ 2 then updHoldover { s with tim := { s.tim with bothChanged := true } }
        else if s.tim.selected = d + 1 && s.tim.bothChanged then updHoldover { s with tim := { s.tim with bothChanged := false } }
        else s
      if s.tim.selected = d + 1 then selSample th s else s

/-- CAN_SYNC: the local time at the start-of-frame edge is captured (R366, R367). -/
def execCanSync (t : Nat) (f : CanFrame) (s : State) : Host.Outcome State Fault Refusal :=
  act t (fun s =>
    if canHears s f && canFunc f == 1 && canNode f == 0 && s.objB 0x2C00 4 && decide (2 ≤ f.data.length) &&
        canField f 0 1 == 1 && (f.data.drop 2).all (· == 0) then
      irqHelm 48 (rxCount { s with tim := { s.tim with canSync := some (canField f 1 1, s.now, s.clk.fix * 1000) } })
    else s) s

/-- CAN_FOLLOW: a domain B sample with the last SYNC capture, or a discard (R366, R367). -/
def execCanFollow (t : Nat) (f : CanFrame) (s : State) : Host.Outcome State Fault Refusal :=
  act t (fun s =>
    if canHears s f && f.fd && canFunc f == 1 && canNode f == 0 && s.objB 0x2C00 4 && canField f 0 1 == 2 then
      let s := rxCount s
      let ok := decide (f.data.length = 24) && canField f 14 2 == 0 && decide (10 ≤ canField f 2 2) && decide (canField f 2 2 ≤ 10000)
      match s.tim.canSync with
      | some (seq, at_, cap) =>
        if ok && canField f 1 1 == seq && decide (s.now ≤ at_ + 100000000000) then
          let tm : Int := psU (((canField f 8 6 * 1000000000 + canField f 4 4 + s.objN 0x2C00 3) * 1000 : Nat) : Int)
          sample 1 (cap - tm) (canField f 16 8) (canField f 2 2) (ofNs (cap / psU 1000).toNat) s
        else { s with tim := { s.tim with discards := s.tim.discards + 1 } }
      | none => { s with tim := { s.tim with discards := s.tim.discards + 1 } }
    else s) s

/-- A domain becomes LOST (R369, R370). -/
def loseDom (d : Nat) (s : State) : State :=
  if (domOf s d).st = 1 || (domOf s d).st = 2 then
    reselect false (modDom d (fun x => { x with st := 3, hist := [], outs := [], lockedSince := none }) s)
  else s

/-- The loss timer of a domain has run out: 3 intervals, as last announced, without an accepted sample (R369). -/
def lossDue (s : State) (d : Nat) : Bool :=
  let x := domOf s d
  decide (x.lastAt + 3 * x.interval * 1000000000 ≤ s.now)

/-- DOMAIN_LOSS: 3 intervals without an accepted sample (R369). -/
def execDomainLoss (t : Nat) (d : Dom) (s : State) : Host.Outcome State Fault Refusal :=
  act t (fun s =>
    let d := match d with | .a => 0 | .b => 1
    if lossDue s d then loseDom d s else s) s

/-- DOMAIN_RETURN: the preferred domain has been LOCKED for 10 s (R370). -/
def execDomainReturn (t : Nat) (s : State) : Host.Outcome State Fault Refusal :=
  act t (fun s =>
    let pref := s.objN 0x2C00 1
    if pref < 2 && s.tim.selected ≠ 0 && s.tim.selected ≠ pref + 1 && (domOf s pref).st = 2 &&
        (domOf s pref).lockedSince.any (fun a => decide (a + 10000000000000 ≤ s.now)) then switchDom pref s else s) s

/-- TIME_STEP_WRITE: a step is armed (R362). -/
def timeStepH (_ : List Byte) (s : State) : Nat × State := (0, { s with tim := { s.tim with stepArmed := true } })

/-- TIME_STEP_WRITE. -/
def execTimeStepWrite (t : Nat) (p : Path) (v : Nat) (s : State) : Host.Outcome State Fault Refusal :=
  objWrite t p 0x2C00 5 (leBytes 1 v) timeStepH s

/-- A write of time.b_enable: 0 makes domain B LOST (R369). -/
def bEnableH (data : List Byte) (s : State) : Nat × State :=
  let s := s.setObj 0x2C00 4 data
  (0, if leNat data = 0 then loseDom 1 s else s)

/-- The handler of tp.mode: the pin's configuration takes effect as one set, or the write is refused (R379). -/
def tpModeH (n : Nat) (data : List Byte) (s : State) : Nat × State :=
  let i := 0x2C10 + n
  let mode := leNat data
  let period := s.objN i 3
  let width := s.objN i 4
  let source := s.objN i 6
  let bad := period % 2 = 1 || period < 1000 || 1000000000000 < period || width % 2 = 1 ||
    (mode = 2 && period ≤ width) || (mode = 3 && 1 < source) || (mode = 4 && 5 < source)
  if bad then (abRange, s)
  else
    let s := s.setObj i 1 data
    let s := modTp n (fun p =>
      let q : TpSt := { p with mode := mode, start := s.objT i 2, period := period, width := width
                               activeLow := s.objB i 5, source := source, active := false, m := 0
                               armedAt := s.clk.fix }
      { q with m := if mode = 2 then periodicFrom q s.clk.fix else 0 }) s
    (0, s)

/-- TP_MODE_WRITE. -/
def execTpModeWrite (t : Nat) (p : Path) (n : Fin 4) (v : Nat) (s : State) : Host.Outcome State Fault Refusal :=
  objWrite t p (0x2C10 + n.val) 1 (leBytes 1 v) (tpModeH n.val) s

/-- The off-window or probe slot that a WINDOW pin follows is in progress (Table 14.5). -/
def tpWindow (s : State) (p : TpSt) : Bool :=
  match s.frm.inItem with
  | some (.offStart w) => p.source == w
  | some (.probeStart q) => p.source == 4 + q
  | _ => false

/-- Programmed time of the pulse a pin in ONESHOT or PERIODIC mode may start now, in 2^-32 ns: of PERIODIC the first pulse not
given that no earlier tick could have started (R378). -/
def tpTime (s : State) (p : TpSt) : Nat :=
  if p.mode = 2 then (p.start.toNs + (max p.m (periodicFrom p ((s.clk.fix : Int) + 1 - clkInc (nomInc s) s.clk.c).toNat)) * p.period) * 4294967296
  else p.start.toNs * 4294967296

/-- This is the first tick of TB2 at or after a programmed time, or after the configuration took effect with the time past
(R378). -/
def tpTick (s : State) (p : TpSt) (a : Nat) : Bool :=
  decide (a ≤ s.clk.fix) &&
  (if (a : Int) < p.armedAt then decide ((s.clk.fix : Int) ≤ p.armedAt + clkInc (nomInc s) s.clk.c)
   else decide (s.clk.fix < a + clkInc (nomInc s) s.clk.c))

/-- The pin may start a pulse now: in ONESHOT and PERIODIC mode once the clock is VALID, at the first tick at or after the
programmed time; in LAUNCH mode at a frame boundary or gate launch; in WINDOW mode in an occurrence of its window (R375, R377,
R378). -/
def tpDue (s : State) (p : TpSt) : Bool :=
  match p.mode with
  | 1 => s.clk.valid && tpTick s p (tpTime s p)
  | 2 => s.clk.valid && tpTick s p (tpTime s p)
  | 3 => if p.source = 0 then s.frm.frameAt = s.now else s.arr.gateAt = s.now
  | 4 => tpWindow s p
  | _ => false

/-- The pulse in progress is over: it has had its width from its programmed start, or the window it follows has ended
(R377, R378). -/
def tpOver (s : State) (p : TpSt) : Bool :=
  if p.mode = 4 then !tpWindow s p else decide (p.upAt + (p.width * 4294967296 : Nat) ≤ (s.clk.fix : Int))

/-- The pin goes to its active level (R377, R378). -/
def tpStart (n : Nat) (s : State) : State :=
  modTp n (fun p =>
    let a := tpTime s p
    { p with
      active := true, count := p.count + 1
      upAt := if p.mode = 1 || p.mode = 2 then max a p.armedAt else s.clk.fix
      m := if p.mode = 2 then (a / 4294967296 - p.start.toNs) / max 1 p.period + 1 else p.m }) s

/-- TP_PULSE_START. -/
def execTpPulseStart (t : Nat) (n : Fin 4) (s : State) : Host.Outcome State Fault Refusal :=
  act t (fun s =>
    let p := nth s.tim.tp n.val {}
    if tpDue s p && !p.active then tpStart n.val s else s) s

/-- TP_PULSE_END: the pin returns to its inactive level; a completed ONESHOT returns to OFF (R377, R379). -/
def execTpPulseEnd (t : Nat) (n : Fin 4) (s : State) : Host.Outcome State Fault Refusal :=
  act t (fun s =>
    let p := nth s.tim.tp n.val {}
    if p.active && tpOver s p then
      let s := modTp n.val (fun p => { p with active := false, mode := if p.mode = 1 then 0 else p.mode }) s
      if p.mode = 1 then s.setObj (0x2C10 + n.val) 1 [0] else s
    else s) s

/-- The level of pin n (R377). -/
def tpLevel (s : State) (n : Nat) : Bool :=
  let p := nth s.tim.tp n {}
  p.active != p.activeLow

/-- Offers a captured edge to the pattern engines as a PIN trigger (R354, R381). -/
def pinTrigger (n : Nat) (falling : Bool) (s : State) : State :=
  { s with pat :=
      let hit := fun (e : Eng) => leField e.prog 16 1 == 2 && leField e.prog 17 1 == n + 2 * b2n falling && !e.prog.isEmpty
      let takes := fun (e : Eng) => e.st == .armed || e.st == .waiting ||
        ((e.st == .running || e.st == .done) && bitOf (leField e.prog 5 1) 1)
      { s.pat with
        trigIgnored := s.pat.trigIgnored + BitVec.ofNat 32 (s.pat.eng.countP (fun e => hit e && (!takes e || e.latched)))
        eng := s.pat.eng.map (fun e => if hit e && takes e then { e with latched := true } else e) } }

/-- TC_CAPTURE: an edge of a pulse of `width` ns is stamped and offered as a PIN trigger (R381, R382). -/
def execTcCapture (t : Nat) (n : Fin 2) (falling : Bool) (width : Nat) (s : State) : Host.Outcome State Fault Refusal :=
  act t (fun s =>
    let sel := s.objN (0x2C20 + n.val) 1
    let c := nth s.tim.tc n.val {}
    let soon := match c.lastAt with | some a => decide (s.now < a + 40000) | none => false
    if (sel = 3 || sel = (if falling then 2 else 1)) && decide (20 ≤ width) && !soon && clockOn s then
      let e : TcEntry := { sec := s.clk.sec, ns := s.clk.ns, frac := s.clk.frac / 65536, seq := c.seq, edge := b2n falling
                           flags := b2n s.clk.valid + 2 * b2n (onKeeper s) + 4 * b2n s.tim.holdover }
      let c' := if c.fifo.length < 16 then
          { c with fifo := c.fifo ++ [e], seq := (c.seq + 1) % 65536, lastAt := some s.now }
        else { c with overflows := c.overflows + 1, lastAt := some s.now }
      irqPurser (60 + n.val) (pinTrigger n.val falling { s with tim := { s.tim with tc := modNth s.tim.tc n.val (fun _ => c') } })
    else s) s

/-- The handler of tc.ack (R382). -/
def tcAckH (n : Nat) (data : List Byte) (s : State) : Nat × State :=
  match (nth s.tim.tc n {}).fifo with
  | e :: rest =>
    if leNat data = e.seq then (0, { s with tim := { s.tim with tc := modNth s.tim.tc n (fun c => { c with fifo := rest }) } })
    else (abState, s)
  | [] => (abState, s)

/-- TC_ACK. -/
def execTcAck (t : Nat) (p : Path) (n : Fin 2) (v : Nat) (s : State) : Host.Outcome State Fault Refusal :=
  objWrite t p (0x2C20 + n.val) 4 (leBytes 2 v) (tcAckH n.val) s

end Sys2Proof.Machine
end

