-- ==== Sys2Proof/Machine/Clock.lean ====
section
/-!
DEFINITION. Timebases, the keeper oscillator, the clock monitor and the supply monitors (chapter 16, R33, R515).
-/

namespace Sys2Proof.Machine

/-! ## Calibration records (R285) -/

/-- A calibration of type k completes with a value and a status; OUT_OF_RANGE and NO_GAP are the cause of source
0x58 + k (Table 15.2). -/
def calDone (k : Nat) (value : Int) (status : Nat) (s : State) : State :=
  setCause (0x58 + k) (status = 3 || status = 4) (leBytes 1 status) (calPut k value status s)

/-! ## Switching (R417 to R420) -/

/-- A position of `n` ticks of `p0` ps in ticks of `p1` ps (R72). -/
def convTicks (p0 p1 : Nat) (n : Int) : Int := (n * p0 + p1 / 2) / p1

/-- Positions of the frame in progress go from ticks of one source to ticks of the other (R418, R420). -/
def convFrame (p0 p1 : Nat) (s : State) : State :=
  let cv := fun n : Nat => (convTicks p0 p1 (n : Int)).toNat
  { s with
    frm := { s.frm with e := convTicks p0 p1 s.frm.e, fPrime := cv s.frm.fPrime
                        items := s.frm.items.map (fun i => { i with start := cv i.start, stop := cv i.stop }) }
    arr := { s.arr with rampTicks := cv s.arr.rampTicks, u := cv s.arr.u } }

/-- TBn takes a source: 0 normal, 1 keeper, 2 none, and TB11 the one of TB4 (Table 1.7). Positions held in ticks of TB3's
source follow it (R418, R420). -/
def setTbSrc (n src : Nat) (stop : Bool) (s : State) : State :=
  let p0 := tickPs s
  let put := fun (n : Nat) (x : Tb) =>
    { x with src := modNth x.src n (fun _ => src), stopped := modNth x.stopped n (fun _ => stop) }
  let s := { s with tb := if n = 4 then put 11 (put 4 s.tb) else put n s.tb }
  if p0 = tickPs s then s else convFrame p0 (tickPs s) s

/-- TBn runs from a source from now on: 0 normal, 1 keeper. Its stop, if it had stopped, is over (R418, R420). -/
def runFrom (n src : Nat) (s : State) : State :=
  let old := nth s.tb.src n 2
  if old = src then s
  else
    let s := setCause (0xF0 + n) false [] (setTbSrc n src false s)
    match n with
    | 2 => rateSource { s with clk := { s.clk with phase := 0 } }
    | 3 => { s with sup := { s.sup with unqualified := true } }
    | 4 => setCause 0xFB false [] s
    | 6 => if src = 1 && s.tb.keeper ≠ .qualified then { s with can := { s.can with joined := false } } else s
    | _ => s

/-- A counted switch of TBn; one back to TB0 leaves its instant (R418, R441). -/
def switchTb (src : Nat) (s : State) (n : Nat) : State :=
  if nth s.tb.src n 2 = src then s
  else
    runFrom n src { s with tb := { s.tb with
      switches := s.tb.switches + 1
      backAt := modNth s.tb.backAt n (fun _ => if src = 0 then some s.now else none) } }

/-- The timebases with a fallback of their own (Table 1.7); TB11 follows TB4. -/
def fallbackTbs : List Nat := [2, 3, 4, 6, 7, 8, 12]

/-- A switch of TBn without handshake: counted in tb.forced too, and source 0xB4 raised with its number (R419). -/
def forceTb (src : Nat) (s : State) (n : Nat) : State :=
  if nth s.tb.src n 2 = src then s
  else raiseSrc 0xB4 (leBytes 1 n) (switchTb src { s with tb := { s.tb with forced := s.tb.forced + 1 } } n)

/-- The handshake of TBn's switch back to TB0 is still in progress: the keeper's tick that it completes and the period of
TB0 after it (R418, R441; DEDUCED, log 187). -/
def switchingBack (s : State) (n : Nat) : Bool := (nth s.tb.backAt n none).any (fun a => decide (s.now < a + 17625))

/-- TBn goes to the keeper: without handshake where TB0 shows no edge or is lost during the switch back to it (R418, R419,
R441). -/
def leaveTb0 (noEdge : Bool) (s : State) (n : Nat) : State :=
  if noEdge || switchingBack s n then forceTb 1 s n else switchTb 1 s n

/-- The timebases that return to TB0 as soon as it is qualified (Table 16.1). -/
def earlyTbs : List Nat := [2, 6, 7, 8]

/-- The timebases that return at a frame boundary (Table 16.1). -/
def lateTbs : List Nat := [3, 4, 12]

/-- Every timebase with a fallback goes to the keeper (R417, R424). -/
def allToKeeper (noEdge : Bool) (s : State) : State :=
  fallbackTbs.foldl (leaveTb0 noEdge) { s with tb := { s.tb with tb0 := false, backPending := false } }

/-- TB0 is qualified: the first group returns at once, the second at a frame boundary (R417, Table 16.1). -/
def qualifyTb0 (s : State) : State :=
  earlyTbs.foldl (switchTb 0) { s with tb := { s.tb with tb0 := true, backPending := true } }

/-- The timebases that return at a frame boundary return (Table 16.1). -/
def returnLate (s : State) : State :=
  lateTbs.foldl (switchTb 0) { s with tb := { s.tb with backPending := false } }

/-- TBn stops without a fallback (R420). -/
def stopTb (n : Nat) (s : State) : State :=
  let s := setTbSrc n 2 true s
  let s := if n = 2 then { s with clk := { s.clk with phase := 0 } } else s
  let s := if n = 4 then setCause 0xFB true [] s else s
  setCause (0xF0 + n) true [] s

/-- A timebase that runs stops (R420). -/
def haltTb (s : State) (n : Nat) : State := if nth s.tb.src n 2 = 2 then s else stopTb n s

/-- TB0 and TB1 end with the link; the other timebases go to the keeper (R417, R420). -/
def loseTb0 (s : State) : State :=
  let s := { s with tb := { s.tb with offered := false, goodAligns := 0 } }
  [0, 1].foldl haltTb (if s.tb.tb0 then allToKeeper false s else s)

/-- TB0 is offered when FL0 is entered (R100, R417, Table 16.1). -/
def offerTb0 (s : State) : State :=
  qualifyTb0 (runFrom 1 0 (runFrom 0 0 { s with tb := { s.tb with offered := true, goodAligns := 0 } }))

/-- FORCED_SWITCH: TBn's source shows no edge, so its switch is made without handshake (R419). -/
def execForcedSwitch (t : Nat) (tb : Fin 13) (toKeeper : Bool) (s : State) : Host.Outcome State Fault Refusal :=
  act t (fun s =>
    let src := if toKeeper then 1 else 0
    if fallbackTbs.contains tb.val && (toKeeper || s.tb.tb0) then forceTb src s tb.val else s) s

/-- TIMEBASE_STOPPED (R420). -/
def execTimebaseStopped (t : Nat) (tb : Fin 13) (s : State) : Host.Outcome State Fault Refusal :=
  act t (stopTb tb.val) s

/-! ## The keeper (R421 to R423) -/

/-- The cause of source 0xB3 ends: one source has qualified (R424). -/
def endNoSource (s : State) : State := setCause 0xB3 false [] s

/-- The keeper becomes QUALIFIED (R423). -/
def keeperQualify (s : State) : State :=
  if s.tb.keeper = .unqualified then endNoSource { s with tb := { s.tb with keeper := .qualified } } else s

/-- The keeper returns to UNQUALIFIED (R423); the CAN controller stops taking part unless TB6 runs from TB0 (R476). -/
def keeperUnqualify (s : State) : State :=
  if s.tb.keeper = .qualified then
    let s := { s with tb := { s.tb with keeper := .unqualified, agree := 0, canGood := 0 } }
    if nth s.tb.src 6 2 = 0 then s else { s with can := { s.can with joined := false } }
  else s

/-- P of R422: keeper period in 2^-32 ns from a span of `tm` ps with c periods of 1/64. -/
def keeperP (tm c : Nat) : Nat := (tm * 64 * 4294967296 + 500 * c) / (1000 * c)

/-- d of R422: frequency error in 2^-16. -/
def keeperD (tm c : Nat) : Int := (((c * 15625 * 65536) / (64 * tm) : Nat) : Int) - 65536

/-- KT of R422. -/
def keeperTrim (kt d : Int) : Int := clampI (kt - clampI (d / 2) (-256) 256) (-19661) 19661

/-- A KEEPER measurement (R422, R423): the period, the trim, the run of bad measurements, the calibration record and the
measurement object. `ref`: 1 markers, 2 CAN. -/
def keeperMeasure (tm c ref : Nat) (s : State) : State :=
  if c = 0 || tm = 0 then s
  else
    let d := keeperD tm c
    let kt := keeperTrim s.tb.kt d
    let need := s.tb.kt - clampI (d / 2) (-256) 256
    let bad := decide (1311 < d.natAbs)
    let run := if bad then min 2 (s.tb.badRun + 1) else 0
    let good := if ref = 2 && !bad then min 3 (s.tb.canGood + 1) else 0
    let old := s.tb.kt
    let s := foldPred s
    let s := { s with tb := { s.tb with p := keeperP tm c, kt := kt, reference := ref, measured := true, lastMeas := s.now
                                        badRun := run, canGood := good } }
    let s := if run = 2 then keeperUnqualify s else s
    let s := if good = 3 then keeperQualify s else s
    let s := calDone 2 kt (if need ≠ kt then 3 else if kt = old then 1 else 2) s
    publish 0x2E03 [leBytes 1 s.tb.keeper.code, leBytes 2 (unsext 16 s.tb.kt), leBytes 8 s.tb.p, leBytes 1 s.tb.reference,
      leBytes 1 s.tb.agree] s

/-- KEEPER_STARTED: 4,096 periods counted (R421). -/
def execKeeperStarted (t : Nat) (s : State) : Host.Outcome State Fault Refusal :=
  act t (fun s =>
    if s.tb.keeper = .starting then
      { s with tb := { s.tb with keeper := .unqualified, lastMeas := s.now }, clk := { s.clk with phase := 0 } }
    else s) s

/-- KEEPER_PERIOD_FAULT: 4 consecutive periods out of range; TB5 is declared stopped (R421). -/
def execKeeperPeriodFault (t : Nat) (s : State) : Host.Outcome State Fault Refusal := act t (stopTb 5) s

/-- KEEPER_TIMEOUT: 10 s without a measurement (R423). -/
def execKeeperTimeout (t : Nat) (s : State) : Host.Outcome State Fault Refusal :=
  act t (fun s => if s.tb.lastMeas + 10000000000000 ≤ s.now then keeperUnqualify s else s) s

/-- Nominal arbitration bit time in ps (Table 18.1). -/
def canBitPs (s : State) : Nat := if s.can.arbRate = 0 then 2000000 else 1000000

/-- CAN_START_OF_FRAME: a span of `bits` nominal bits in which the keeper gave c periods of 1/64 (R422). -/
def execCanStartOfFrame (t : Nat) (bits c : Nat) (s : State) : Host.Outcome State Fault Refusal :=
  act t (fun s =>
    if !s.tb.offered && clockOn s && s.tb.keeper ≠ .starting then keeperMeasure (bits * canBitPs s) c 2 s else s) s

/-- Ticks of TB0 expected in a window of the monitor (R424). -/
def monitorE (p : Nat) : Nat := (512 * p + 2147483648) / 4294967296

/-- The window agrees (R424). -/
def monitorAgrees (n p : Nat) : Bool := decide (((n : Int) - monitorE p).natAbs ≤ monitorE p / 50)

/-- MONITOR_WINDOW: 1,024 keeper periods with n ticks of TB0, or no edge for 3 keeper periods (R424). -/
def execMonitorWindow (t : Nat) (n : Nat) (noEdge : Bool) (s : State) : Host.Outcome State Fault Refusal :=
  act t (fun s =>
    if !(s.tb.offered && s.tb.measured) then s
    else if monitorAgrees n s.tb.p && !noEdge then
      let s := { s with tb := { s.tb with agree := min 3 (s.tb.agree + 1) } }
      if s.tb.agree = 3 then keeperQualify s else s
    else
      let s := { s with tb := { s.tb with agree := 0, goodAligns := 0 } }
      let ctx := leBytes 4 n
      if s.tb.keeper = .qualified then
        raiseSrc 0xB2 ctx (allToKeeper noEdge { s with tb := { s.tb with monitorTrips := s.tb.monitorTrips + 1 } })
      else setCause 0xB3 true ctx { s with tb := { s.tb with unqualTrips := s.tb.unqualTrips + 1 } }) s

/-! ## Supply monitors (R33, R515) -/

/-- VCC_LOW: below 0.69 V for 10 us; a fault in READY and LIT, noted by the monitor in QUIET too (R33). -/
def execVccLow (t : Nat) (s : State) : Host.Outcome State Fault Refusal :=
  act t (fun s =>
    let s := if running s then { s with pw := { s.pw with vccOk := false } } else s
    if s.pw.dev = .ready || s.pw.dev = .lit then setCause 0xB5 true [] s else s) s

/-- VCC_MONITOR_CLEAR: at or above 0.70 V for 1 ms (R33). -/
def execVccMonitorClear (t : Nat) (s : State) : Host.Outcome State Fault Refusal :=
  act t (fun s => setCause 0xB5 false [] { s with pw := { s.pw with vccOk := true } }) s

/-- Rail r is out of its thresholds, or between them again (R515). -/
def setRail (r : Fin 6) (out : Bool) (s : State) : State :=
  { s with pw := { s.pw with railOut := (s.pw.railOut &&& ~~~BitVec.twoPow 6 r.val) ||| (if out then BitVec.twoPow 6 r.val else 0) } }

/-- RAIL_TRIP: rail r of VCE, VSER, VNV, VIO, VAON, VCAN has been out of its thresholds for 10 µs (R515, R535). -/
def execRailTrip (t : Nat) (r : Fin 6) (s : State) : Host.Outcome State Fault Refusal :=
  act t (fun s => setCause (0xB8 + r.val) true [] (setRail r true s)) s

/-- RAIL_RECOVER: between the thresholds for 1 ms (R515). -/
def execRailRecover (t : Nat) (r : Fin 6) (s : State) : Host.Outcome State Fault Refusal :=
  act t (fun s => setCause (0xB8 + r.val) false [] (setRail r false s)) s

end Sys2Proof.Machine
end

