-- ==== Sys2Proof/Machine/Symbols.lean ====
section
/-!
DEFINITION. The coding of the Ferry lanes below the block (R101 to R104, R108 to R110): bits, scrambler, Gray symbols,
precoding and the transmit FFE, with what the receiver does to undo them.
-/

namespace Sys2Proof.Machine

/-- Bits of a payload in transmission order: byte 0 first, bit 0 of each byte first (R108). -/
def payloadBits (bs : List Byte) : List Bool := bs.flatMap (fun b => (List.range 8).map (fun i => b.toNat.testBit i))

/-- Bits of a block header in transmission order: 01 for data, 10 for control (R108). -/
def headerBits (ctl : Bool) : List Bool := [ctl, !ctl]

/-- What a header says: data, control, or nothing valid (R108). -/
def headerOf (a b : Bool) : Option Bool := if a = b then none else some a

/-- The state of a scrambler after a bit: bit k of the state was sent k + 1 bits earlier (R109). -/
def scrShift (st : BitVec 58) (b : Bool) : BitVec 58 := (st <<< 1) ||| (if b then 1#58 else 0#58)

/-- What x^58 + x^39 + 1 adds to a bit (R109). -/
def scrTaps (st : BitVec 58) : Bool := (st.getLsbD 38).xor (st.getLsbD 57)

/-- Payload bits scrambled, with the scrambler's state after them (R109). -/
def scramble : BitVec 58 → List Bool → List Bool × BitVec 58
  | st, [] => ([], st)
  | st, d :: l =>
    let b := d.xor (scrTaps st)
    let r := scramble (scrShift st b) l
    (b :: r.1, r.2)

/-- Received bits descrambled, with the state after them (R109). -/
def descramble : BitVec 58 → List Bool → List Bool × BitVec 58
  | st, [] => ([], st)
  | st, b :: l =>
    let r := descramble (scrShift st b) l
    (b.xor (scrTaps st) :: r.1, r.2)

/-- Gray index of a pair of bits, the first the more significant (R101). -/
def grayIndex (a b : Bool) : Fin 4 :=
  match a, b with
  | false, false => 0
  | false, true => 1
  | true, true => 2
  | true, false => 3

/-- The pair of bits of a Gray index (R101). -/
def grayPair (g : Fin 4) : Bool × Bool :=
  match g with
  | 0 => (false, false)
  | 1 => (false, true)
  | 2 => (true, true)
  | 3 => (true, false)

/-- Gray indices of bits taken in pairs (R101). -/
def graySymbols : List Bool → List (Fin 4)
  | a :: b :: l => grayIndex a b :: graySymbols l
  | _ => []

/-- Bits of Gray indices (R101). -/
def grayBits (l : List (Fin 4)) : List Bool := l.flatMap (fun g => [(grayPair g).1, (grayPair g).2])

/-- Level of a symbol index (Table 4.2). -/
def symLevel (g : Fin 4) : Int := 2 * (g.val : Int) - 3

/-- Precoded indices, with p_prev after them (R102). -/
def precode : Fin 4 → List (Fin 4) → List (Fin 4) × Fin 4
  | p, [] => ([], p)
  | p, g :: l =>
    let q := g - p
    let r := precode q l
    (q :: r.1, r.2)

/-- Indices recovered from decided ones, with q_prev after them (R102). -/
def deprecode : Fin 4 → List (Fin 4) → List (Fin 4) × Fin 4
  | q, [] => ([], q)
  | q, x :: l =>
    let r := deprecode x l
    ((x + q) :: r.1, r.2)

/-- c(0) (R104). -/
def Taps.main (c : Taps) : Int := 48 - c.pre.natAbs - c.post.natAbs

/-- Output of the FFE for a symbol between two others, in units of A / 144 (R104). -/
def Taps.out (c : Taps) (before now after : Int) : Int := c.pre * after + c.main * now + c.post * before

/-- Levels sent on a lane, with the outputs that they complete: the output of a symbol is known with the symbol after it
(R104). -/
def TxLane.drive (c : Taps) : TxLane → List Int → List Int × TxLane
  | x, [] => ([], x)
  | x, v :: l =>
    let r := TxLane.drive c { x with before := x.last, last := v } l
    (c.out x.before x.last v :: r.1, r.2)

/-- Symbol indices of a block at rate: scrambled payload behind its header, Gray mapping, precoding where it is on (R110). -/
def TxLane.encode (pre ctl : Bool) (payload : List Byte) (x : TxLane) : List (Fin 4) × TxLane :=
  let s := scramble x.scr (payloadBits payload)
  let g := graySymbols (headerBits ctl ++ s.1)
  if pre then
    let p := precode x.prev g
    (p.1, { x with scr := s.2, prev := p.2 })
  else (g, { x with scr := s.2 })

/-- A block sent at rate: its levels and the outputs of the FFE (R110). -/
def TxLane.block (c : Taps) (pre ctl : Bool) (payload : List Byte) (x : TxLane) : (List Int × List Int) × TxLane :=
  let e := x.encode pre ctl payload
  let lv := e.1.map symLevel
  let d := e.2.drive c lv
  ((lv, d.1), d.2)

/-- A block sent at 0.5 GBd: each bit one symbol, -3 or +3, scrambled as any payload, without precoding (R103, R109). -/
def TxLane.slowBlock (payload : List Byte) (x : TxLane) : (List Int × List Int) × TxLane :=
  let s := scramble x.scr (payloadBits payload)
  let lv := (headerBits true ++ s.1).map (fun b => if b then 3 else -3)
  let d := TxLane.drive {} { x with scr := s.2 } lv
  ((lv, d.1), d.2)

/-- What a receiver makes of the symbol indices of a block at rate: header and payload bits (R110). -/
def RxLane.decode (pre : Bool) (sym : List (Fin 4)) (x : RxLane) : (Option Bool × List Bool) × RxLane :=
  let q := deprecode x.prev sym
  let bits := grayBits (if pre then q.1 else sym)
  match bits with
  | a :: b :: l =>
    let d := descramble x.scr l
    ((headerOf a b, d.1), { scr := d.2, prev := q.2 })
  | _ => ((none, []), { x with prev := q.2 })

/-- A receive lane after a block that has come decoded: the bits and indices it saw are those that decode to the block
(R102, R109, R110). -/
def RxLane.hear (slow pre ctl : Bool) (payload : List Byte) (x : RxLane) : RxLane :=
  let e := scramble x.scr (payloadBits payload)
  let g := graySymbols (headerBits ctl ++ e.1)
  let q := if pre then (precode x.prev g).1 else g
  { scr := e.2, prev := if slow then x.prev else q.getLastD x.prev, fresh := false }

/-! ## Sending -/

/-- How a sending joins the one before it on the lanes. -/
inductive Joint where
  /-- The two adjoin: slots follow slots without a gap (R111). -/
  | adjoins
  /-- A fill that is not recorded stands between: repeated training slots. -/
  | fill
  /-- The first symbol at rate of a training or fast retrain follows (R102). -/
  | rate
  /-- The idle pattern of FL1 stands between on lane 0, idle on the others (R126). -/
  | idle
deriving DecidableEq, Repr

/-- A symbol level of an unrecorded fill. -/
def fillLevel (k n lane : Nat) : Int := symLevel (Config.lineSymbol k n lane)

/-- A transmit lane as a sending finds it: carried on where the two adjoin; what an unrecorded fill has left in it is free,
but for p_prev, which is 0 at the first symbol at rate of a training or fast retrain (R102; log 151). -/
def startLane (j : Joint) (n l : Nat) (x : TxLane) : TxLane :=
  match j with
  | .adjoins => x
  | .fill => { scr := Config.lineScr n l, prev := Config.linePrev n l, before := fillLevel 1 n l, last := fillLevel 0 n l }
  | .rate => { scr := Config.lineScr n l, prev := 0, before := fillLevel 1 n l, last := fillLevel 0 n l }
  | .idle => if l = 0 then { x with before := fillLevel 1 n l, last := fillLevel 0 n l } else { x with before := 0, last := 0 }

/-- The transmit lanes ready for a sending. The byte stream begins anew on lane 0 after any sending but one that adjoins
(R111). -/
def joinLanes (j : Joint) (p : Phy) : Phy :=
  if j = .adjoins then p
  else { p with tx := (upTo 4).map (fun l => startLane j p.n l (nth p.tx l {})), txUnit := 0, n := p.n + 1 }

/-- One block sent on a lane (R103, R110). -/
def sendBlock (x : TxSet) (slow ctl : Bool) (p : Phy) (b : Nat × List Byte) : Phy :=
  let t := nth p.tx b.1 {}
  let r := if slow then t.slowBlock b.2 else t.block x.taps x.precode ctl b.2
  { p with
    tx := modNth p.tx b.1 (fun _ => r.2)
    sent := { lane := b.1, slow := slow, ctl := ctl, payload := b.2, levels := r.1.1, outs := r.1.2 } :: p.sent }

/-- Blocks sent in order, each with its lane. -/
def sendBlocks (x : TxSet) (slow ctl : Bool) (l : List (Nat × List Byte)) (p : Phy) : Phy := l.foldl (sendBlock x slow ctl) p

/-- A control block of a lane from its bytes 0 to 13: LANE set, check added (R112, Table 4.6). -/
def ctlBlock (bs : List Byte) (lane : Nat) : List Byte :=
  let b := modNth bs 1 (fun _ => BitVec.ofNat 8 lane)
  b ++ leBytes 2 (crcOf crcHdr b)

/-- The units of 16 bytes of a byte stream, the last one filled with zeros. -/
def units : Nat → List Byte → List (List Byte)
  | 0, _ => []
  | n + 1, bs => (bs.take 16 ++ List.replicate (16 - (bs.take 16).length) 0) :: units n (bs.drop 16)

/-- The lanes of successive units of the stream over the lanes in force: in a data slot lane n carries the (n + 1)th 16
bytes (R111). -/
def dataLanes (lanes first : Nat) (bs : List Byte) : List (Nat × List Byte) :=
  let us := units ((bs.length + 15) / 16) bs
  (upTo us.length).map (fun k => ((first + k) % max 1 lanes, nth us k []))

/-- A period of the idle pattern of FL1, at P0 and without precoding (R126). -/
def idlePattern : List Int := [-3, -3, 3, 3]

/-- The idle pattern begins on lane 0, its first period recorded (R126). -/
def sendIdle (p : Phy) : Phy :=
  let r := (nth p.tx 0 {}).drive {} idlePattern
  { p with
    tx := modNth p.tx 0 (fun _ => r.2)
    sent := { lane := 0, slow := false, ctl := true, payload := [], levels := idlePattern, outs := r.1 } :: p.sent }

/-! ## Receiving -/

/-- A lane acquires block lock: the bits it saw before are free, and it ignores the payload of the next block (R109,
R114). -/
def lockRx (l : Nat) (p : Phy) : Phy :=
  { p with
    rx := modNth p.rx l (fun _ => { scr := Config.lineScr p.n (4 + l), prev := Config.linePrev p.n (4 + l), fresh := true })
    n := p.n + 1 }

/-- Blocks received in order, each with its lane (R110). -/
def hearBlocks (slow pre ctl : Bool) (l : List (Nat × List Byte)) (p : Phy) : Phy :=
  { p with rx := l.foldl (fun rx b => modNth rx b.1 (RxLane.hear slow pre ctl b.2)) p.rx }

/-- Slot k of a run that begins with a control block: SLOT of a training block counts on, with its CHECK (Table 4.6). -/
def slotAfter (blk : List Byte) (k : Nat) : List Byte :=
  if 0x10 ≤ leField blk 0 1 then
    let b := modNth (blk.take 14) 10 (· + BitVec.ofNat 8 k)
    b ++ leBytes 2 (crcOf crcHdr b)
  else blk

end Sys2Proof.Machine
end

