-- ==== Sys2Proof/Machine/Lanes.lean ====
section
/-!
DEFINITION. The Ferry lanes (chapter 4): training, fast retrain, link power states, block lock and alignment markers.
-/

namespace Sys2Proof.Machine

/-- Ferry receive is fully on: its domain is ON (R30, R128). -/
def rxOn (s : State) : Bool := nth s.pw.doms 4 0 == 2

/-- Changes the lane block. -/
def modLane (f : Lane → Lane) (s : State) : State := { s with lane := f s.lane }

/-! ## What leaves on the lanes -/

/-- Control slots of type `ty` leave on the lanes driven, with bytes 0 to 13 of the lane 0 block of slot k (R111). -/
def sendSlots (ty n : Nat) (slow : Bool) (j : Joint) (bytes : Nat → List Byte) (s : State) : State :=
  let l := (upTo n).flatMap (fun k => (upTo s.lane.txOn).map (fun i => (i, ctlBlock (bytes k) i)))
  { send (.slot ty n) s with phy := sendBlocks s.lane.txNow slow true l (joinLanes j s.phy) }

/-- Slots of a type that only announces: SYNC, EI1, EI2 (Table 4.5). -/
def sendPlain (ty n : Nat) (j : Joint) (s : State) : State :=
  sendSlots ty n false j (fun _ => leBytes 1 ty ++ (upTo 13).map (fun i => Config.ctlFill (i + 1) s.phy.n)) s

/-- Bytes 0 to 13 of a training block: bytes 0x00 to 0x09 with SLOT and the reserved ones (Table 4.6). -/
def tsBytes (blk : List Byte) (slot : Nat) : List Byte := blk ++ leBytes 1 slot ++ [0, 0, 0]

/-- The first slots of the training block in force leave, of type `ty`; the transmitter goes on with it as txMode says.
At 0.5 GBd for TS1 and TS2 (R103). -/
def sendTs (ty n : Nat) (j : Joint) (s : State) : State :=
  sendSlots ty n (ty < 0x12) j
    (fun k => tsBytes (leBytes 1 ty ++ s.lane.txBlk.drop 1) (Config.slotFirst s.phy.n + k)) s

/-- Bytes 0 to 13 of this engine's ALIGN block with a COUNT (Table 4.6). -/
def alignBytes (s : State) (count : Nat) : List Byte :=
  [2, 0] ++ leBytes 1 s.lane.lanes ++ leBytes 1 s.lane.rate ++ leBytes 1 (b2n s.lane.txNow.precode) ++ [0, 0, 0] ++
  leBytes 4 count ++ [0, 0]

/-- This engine's ALIGN slot (R116). -/
def sendAlign (count : Nat) (s : State) : State :=
  let l := (upTo s.lane.lanes).map (fun i => (i, ctlBlock (alignBytes s count) i))
  { send (.marker count) s with phy := sendBlocks s.lane.txNow false true l s.phy }

/-- Bytes of the packet stream leave in data slots (R111). -/
def sendStream (bs : List Byte) (s : State) : State :=
  let l := dataLanes s.lane.lanes s.phy.txUnit bs
  { s with phy := { sendBlocks s.lane.txNow false false l s.phy with txUnit := (s.phy.txUnit + l.length) % max 1 s.lane.lanes } }

/-- Bytes of the packet stream have come in data slots (R110, R111). -/
def hearStream (bs : List Byte) (s : State) : State :=
  let l := dataLanes s.lane.lanes s.phy.rxUnit bs
  { s with phy := { hearBlocks false s.lane.rxPrecode false l s.phy with
    rxUnit := (s.phy.rxUnit + l.length) % max 1 s.lane.lanes } }

/-- A header word from its fields, with HCHK (Table 5.1). -/
def mkHdr (ty addr len seq : Nat) (up retry : Bool) : Nat :=
  let v := ty + 16 * addr + 1024 * len + 1048576 * seq + 68719476736 * b2n up + 137438953472 * b2n retry
  v + 281474976710656 * crcOf crcHdr (leBytes 6 v)

/-- A packet of the engine leaves: header, payload, trailer, padding of zeros (R131, R133). -/
def sendPacket (h : Nat) (payload : List Byte) (s : State) : State :=
  let c := crcOf crcIeee (leBytes 8 h ++ payload)
  sendStream (leBytes 8 h ++ payload ++ leBytes 4 c ++ [0, 0, 0, 0]) (send (.packet h payload c) s)

/-- A received packet leaves with a payload and a trailer; its header and padding stay (R136). -/
def sendOn (k : Packet) (payload : List Byte) (trailer : BitVec 32) (s : State) : State :=
  sendStream (leBytes 8 k.hdr.toNat ++ payload ++ leBytes 4 trailer.toNat ++ leBytes 4 k.pad.toNat)
    (send (.forward k.hdr payload trailer) s)

/-- The IDLE packet open in the output leaves: as received where nothing has replaced a part of it, else one of the units
left, all zeros (R137, R153). -/
def flushIdle (s : State) : State :=
  let s1 := { s with fy := { s.fy with idle := none } }
  match s.fy.idle with
  | none => s
  | some (_, some k) => sendOn k k.payload k.trailer s1
  | some (n, none) => if n = 0 then s1 else sendPacket (mkHdr 0 0 (n - 1) 0 false false) (List.replicate (16 * (n - 1)) 0) s1

/-! ## What arrives on the lanes -/

/-- Receive lanes read: those of the set in force, of the training's set before it, lane 0 and any other one in reach
before TS1 has named a set (R99, R119). -/
def rxLanes (s : State) : Nat :=
  match s.lane.st with
  | .slow => if s.lane.tsPar.isSome then s.lane.tgtLanes else 4
  | _ => s.lane.lanes

/-- The receiver takes blocks: a training, FL0, FL1 or a fast retrain (R112). -/
def receives (s : State) : Bool :=
  rxOn s && (s.lane.st = .slow || s.lane.st = .atRate || s.lane.st = .fl0 || s.lane.st = .fl1 || s.lane.st = .retrain)

/-- A block of type `ty` (R112). -/
def isType (ty : Nat) (blk : List Byte) : Bool := leField blk 0 1 == ty

/-- A control block passes: 16 bytes, a listed type, the check (R112, Table 4.5). -/
def ctlGood (blk : List Byte) : Bool :=
  decide (blk.length = 16) && [1, 2, 3, 4, 0x10, 0x11, 0x12, 0x13].contains (leField blk 0 1) &&
  crcOf crcHdr (blk.take 14) == leField blk 14 2

/-- A control block passes its check and is of type `ty` (R112). -/
def ctlOk (ty : Nat) (blk : List Byte) : Bool := ctlGood blk && isType ty blk

/-- A control block that fails its check is counted and ignored (R112). -/
def ctlError (l : Nat) (s : State) : State := modLane (fun x => { x with ctlErrors := modNth x.ctlErrors l (· + 1) }) s

/-- A block of a control slot with an invalid header, which stands as no bytes, is counted on its lane (R113). -/
def headError (l : Nat) (s : State) : State := modLane (fun x => { x with badHeaders := modNth x.badHeaders l (· + 1) }) s

/-- Lanes on which a control slot is read. -/
def slotLanes (blks : List (List Byte)) (s : State) : Nat := min (rxLanes s) blks.length

/-- The blocks of a control slot, lane by lane, are checked: invalid headers and failing blocks are counted, but no block
that a lane ignores after its lock (R109, R112, R113). -/
def ctlCount (blks : List (List Byte)) (s : State) : State :=
  (upTo (slotLanes blks s)).foldl (fun s i =>
    if (nth blks i []).isEmpty then headError i s
    else if (nth s.phy.rx i {}).fresh || ctlGood (nth blks i []) then s
    else ctlError i s) s

/-- The receive lanes follow the blocks of n slots of a type (R102, R109). -/
def hearSlots (slow : Bool) (blks : List (List Byte)) (n : Nat) (s : State) : State :=
  let l := (upTo n).flatMap (fun k => (upTo (slotLanes blks s)).filterMap (fun i =>
    if (nth blks i []).isEmpty then none else some (i, slotAfter (nth blks i []) k)))
  { s with phy := hearBlocks slow s.lane.rxPrecode true l s.phy }

/-- Control slots have come: what they leave in the counters and on the receive lanes. -/
def takeSlots (slow : Bool) (blks : List (List Byte)) (n : Nat) (s : State) : State :=
  if receives s then hearSlots slow blks n (ctlCount blks s) else s

/-- Slots of n that are read: not the first one after a block lock, whose payload is ignored (R109). -/
def readSlots (blks : List (List Byte)) (n : Nat) (s : State) : Nat :=
  if receives s && (upTo (slotLanes blks s)).any (fun i => (nth s.phy.rx i {}).fresh) then n - 1 else n

/-- The lane 0 block of a slot; nothing where the slot is ignored for an invalid header (R113). -/
def slotBlk (blks : List (List Byte)) (s : State) : List Byte :=
  if receives s && (upTo (slotLanes blks s)).any (fun i => (nth blks i []).isEmpty) then [] else nth blks 0 []

/-- The blocks of a slot on the first `n` lanes are good blocks of type `ty`, identical apart from LANE (R111). -/
def slotOk (ty n : Nat) (blks : List (List Byte)) : Bool :=
  (upTo n).all (fun i =>
    ctlOk ty (nth blks i []) && modNth ((nth blks i []).take 14) 1 (fun _ => 0) == modNth ((nth blks 0 []).take 14) 1 (fun _ => 0))

/-- A slot of a type that only announces has arrived whole on the lanes read. -/
def plainOk (ty : Nat) (blks : List (List Byte)) (s : State) : Bool := (upTo (rxLanes s)).all (fun i => ctlOk ty (nth blks i []))

/-- Source 0x11: a training failure with its four actions (R122). -/
def trainFail (code : Nat) (s : State) : State :=
  raiseSrc 0x11 (leBytes 1 code) (modLane (fun x =>
    { x with st := .down, failReason := code, trainFailures := x.trainFailures + 1, idleFrom := some s.now, step := 0
             txOn := 0, txMode := .idle, rxReady := false, ts1Run := 0, ts2Run := 0, ts4Run := 0, retrainFails := 0
             tsPar := none, lock := [false, false, false, false] }) s)

/-- The receiver returns to DETECT: only training is accepted, and the address is lost (R124, R143). -/
def toDetect (s : State) : State :=
  let s := setCause 0x14 false [] { s with fy := { s.fy with address := 63, overflow := false, hunt := false, cands := [], idle := none, head := none } }
  modLane (fun x =>
    { x with st := .detect, idleFrom := none, step := 0, txOn := 0, txMode := .idle, rxReady := false, ts1Run := 0
             ts2Run := 0, ts4Run := 0, syncSlots := 0, refusedGen := none, retrainFails := 0, tsPar := none
             lock := [false, false, false, false] }) s

/-- The signal, the CDR or the lock is lost (R123): transmitters idle, TB0 ends, no byte reaches the packet layer. Out of
FL0 without a preceding EI slot, or out of an exit of FL1 that has begun (R129), it is the link-down event: counted, and
the link-loss timeout starts. After an EI slot, or in FL1, it is no such event (log 157); a fast retrain goes on until its
1 ms ends (R125). -/
def linkDown (s : State) : State :=
  if s.lane.st = .fl0 || s.lane.st = .fl1 || s.lane.st = .retrain then
    let event := (s.lane.st = .fl0 && s.lane.ei1Run = 0 && s.lane.ei2Run = 0) || (s.lane.st = .fl1 && s.lane.exitFl1)
    let s := modLane (fun x =>
      { x with st := if x.st = .retrain then .retrain else .down, step := if x.st = .retrain then 6 else 0
               txOn := 0, txMode := .idle, rxReady := false, frozen := false, ei1Run := 0, ei2Run := 0
               exitFl1 := false, syncSlots := 0, markers := [], firstAlign := true, ts4Run := 0
               linkDowns := if event then x.linkDowns + 1 else x.linkDowns
               downAt := if event then some s.now else x.downAt }) s
    closeSess .ferry (loseTb0 { s with fy := { s.fy with hunt := false, cands := [], idle := none, head := none }, dict := { s.dict with xferFerry := none } })
  else s

/-- The transmit settings as the objects give them (Table 4.3). -/
def txWritten (s : State) : TxSet :=
  let p := s.objN 0x2200 3
  let (a, b) : Int × Int := match p with
    | 0 => (0, 0) | 1 => (0, -4) | 2 => (0, -8) | 3 => (0, -12) | 4 => (-2, -6) | 5 => (-4, -8) | 6 => (-4, -12) | 7 => (-6, -14)
    | _ => (s.objI16 0x2200 4, s.objI16 0x2200 5)
  { precode := s.objB 0x2200 6, preset := p, taps := { pre := a, post := b } }

/-- A training block of this engine, bytes 0x00 to 0x09 of Table 4.6, with the settings it takes at rate. -/
def trainBlk (s : State) (ty lanes rate refuse hops rHop rReason : Nat) : List Byte :=
  leBytes 1 ty ++ [0] ++ leBytes 1 lanes ++ leBytes 1 rate ++ leBytes 1 (b2n s.lane.txRate.precode + 2 * refuse) ++
  leBytes 1 hops ++ leBytes 1 rHop ++ leBytes 1 rReason ++ leBytes 1 s.lane.txRate.preset ++ leBytes 1 s.lane.gen

/-- TS1 starts on `n` lanes: at 0.5 GBd, P0 and no precoding (R103); the written settings are taken for the training
(R130). -/
def startTs1 (n lanes rate refuse up rHop rReason : Nat) (s : State) : State :=
  let s := modLane (fun x => { x with txOn := n, txMode := .ts1, txNow := {}, txRate := txWritten s }) s
  sendTs 0x10 1 .fill (modLane (fun x => { x with txBlk := trainBlk s 0x10 lanes rate refuse up rHop rReason }) s)

/-- TS3 starts at the rate in force on the lanes in force, with the settings of this training or retrain. -/
def startTs3 (s : State) : State :=
  let s := modLane (fun x => { x with txOn := x.lanes, txMode := .ts3, txNow := x.txRate }) s
  sendTs 0x12 1 .rate (modLane (fun x => { x with
    txBlk := trainBlk s 0x12 x.lanes x.rate 0 (min 255 (x.hops + 1)) 0 0 }) s)

/-- A fast retrain begins: steps 6 to 8 of Table 4.7 at the rate and lanes in force, from the stored adaptation (R125). -/
def startRetrain (s : State) : State :=
  let s := { s with pw := { s.pw with doms := modNth s.pw.doms 4 (fun d => if d = 1 then 2 else d) } }
  modLane (fun x => { x with
    st := .retrain, step := 6, stepAt := s.now, txMode := .idle, txOn := 0, ts4Run := 0, rxReady := false, syncSlots := 0
    adaptAt := s.now, txRate := txWritten s, lock := [false, false, false, false] }) s

/-- A fast retrain can begin: out of FL0 or in FL2, no 2 ms idle, adaptation stored, the device awake (R124, R125, R128). -/
def mayRetrain (s : State) : Bool :=
  (s.lane.st = .down || s.lane.st = .fl2) && s.lane.idleFrom.isNone && s.lane.adapted &&
  (rxOn s || (s.lane.st = .fl2 && active s && nth s.pw.doms 4 0 == 1))

/-- Link loss ends with FL0 (R411): source 0x10 where the timeout had not expired, the cause of 0x05 gone. -/
def linkRegained (s : State) : State :=
  let s := if s.lane.downAt.isSome then raiseSrc 0x10 [] (modLane (fun x => { x with downAt := none }) s) else s
  setCause 0x05 false [] s

/-- FL0 is entered after training or fast retrain (step 8 of Table 4.7). -/
def enterFl0 (delay : Nat) (s : State) : State :=
  let s := sendPlain 1 2 .fill (modLane (fun x => { x with txOn := x.lanes }) s)
  let s := modLane (fun x =>
    { x with st := .fl0, step := 0, markerDelay := delay, txMode := .data, firstAlign := true, upFrom := s.now
             frozen := false, ei1Run := 0, ei2Run := 0, exitFl1 := false, retrainFails := 0, adaptAt := s.now }) s
  linkRegained (offerTb0 { s with phy := { s.phy with rxUnit := 0 } })

/-- SIGNAL_DETECT: step 1 of Table 4.7 begins in DETECT; at the rate in force a fast retrain does (R124, R128). -/
def execSignalDetect (t : Nat) (s : State) : Host.Outcome State Fault Refusal :=
  act t (fun s =>
    if s.lane.st = .detect && s.lane.idleFrom.isNone && rxOn s then
      modLane (fun x => { x with st := .slow, step := 1, stepAt := s.now, lock := [false, false, false, false], ts1Run := 0, ts2Run := 0
                                 ts4Run := 0, cause2 := 2, tsPar := none }) s
    else if mayRetrain s then startRetrain s
    else s) s

/-- BLOCK_LOCK: 64 valid headers in a row (R114). In a fast retrain the CDR of FI0 has lock and TS3 starts (R125). -/
def execBlockLock (t : Nat) (lane : Fin 4) (s : State) : Host.Outcome State Fault Refusal :=
  act t (fun s =>
    if rxOn s && decide (lane.val < rxLanes s) then
      let had := nth s.lane.lock lane.val false
      let s := modLane (fun x => { x with
        lock := modNth x.lock lane.val (fun _ => true)
        step := if x.st = .slow && x.step = 1 && lane = 0 then 2 else x.step
        stepAt := if x.st = .slow && x.step = 1 && lane = 0 then s.now else x.stepAt }) s
      let s := { s with phy := if had then s.phy else lockRx lane.val s.phy }
      if s.lane.st = .retrain && s.lane.txMode = .idle && lane = 0 then startTs3 s else s
    else s) s

/-- A lane loses block lock (R114), which in FL0 takes the link down (R123); more than 4 losses within 1 s raise the
lane's source (Table 15.2). -/
def lockLoss (l : Nat) (s : State) : State :=
  let near := ((nth s.saf.laneLoss l []).filter (fun a => decide (s.now < a + 1000000000000))).take 4
  let s := modLane (fun x => { x with
    lock := modNth x.lock l (fun _ => false), lockLosses := modNth x.lockLosses l (· + 1)
    rxReady := x.rxReady && (x.st = .fl0 || x.st = .fl1)
    step := if x.st ≠ .fl0 && x.st ≠ .fl1 && 6 < x.step then 6 else x.step }) s
  let s := { s with saf := { s.saf with laneLoss := modNth s.saf.laneLoss l (fun _ => s.now :: near) } }
  let s := if 4 ≤ near.length then raiseSrc (0x18 + l) [] s else s
  if (s.lane.st = .fl0 && l < s.lane.lanes) || (s.lane.st = .fl1 && l = 0) then linkDown s else s

/-- BLOCK_LOCK_LOSS: 16 of 64 blocks with invalid headers, `bad` of which no packet has brought to the count yet (R113).
A lane outside the set in force is ignored (R99). -/
def execBlockLockLoss (t : Nat) (lane : Fin 4) (bad : Nat) (s : State) : Host.Outcome State Fault Refusal :=
  act t (fun s =>
    if rxOn s && decide (lane.val < rxLanes s) && nth s.lane.lock lane.val false then
      lockLoss lane.val (modLane (fun x => { x with badHeaders := modNth x.badHeaders lane.val (· + BitVec.ofNat 32 (min 16 bad)) }) s)
    else s) s

/-- Refusal code of a training, 0 to accept (R120). Of RATE and LANES both refused, RATE is recorded: DESIGN CHOICE,
log 158. -/
def trainRefusal (s : State) (lanes rate : Nat) : Nat :=
  if s.objN 0x2200 1 < rate then 5
  else if s.objN 0x2200 2 < lanes || !([1, 2, 4].contains lanes) then 6
  else 0

/-- What keeps step 2 from its end: a LANE byte, the skew, SLOT numbers that differ, or a lane without block lock; 0 for
nothing (R119, R122). SLOT numbers that differ are recorded as SKEW: DESIGN CHOICE, log 184. -/
def step2Cause (s : State) (lanes : Nat) (blks : List (List Byte)) (skew : List Nat) : Nat :=
  if (upTo lanes).any (fun i => !(nth s.lane.lock i false)) then 2
  else if (upTo lanes).any (fun i => decide (leField (nth blks i []) 1 1 ≠ i)) then 3
  else if (skew.take lanes).any (fun k => decide (64000 < k)) ||
      (upTo lanes).any (fun i => decide (leField (nth blks i []) 10 1 ≠ leField (nth blks 0 []) 10 1)) then 4
  else 0

/-- What a good TS1 on lane 0 gives: HOPS, GEN, LANES and RATE; a change of the last three begins a new run, and step 2 again
(R119). -/
def takeTs1 (blk : List Byte) (s : State) : State :=
  let par := (leField blk 2 1, leField blk 3 1, leField blk 9 1)
  modLane (fun x => { x with
    hops := leField blk 5 1, gen := par.2.2, rxPrecode := bitOf (leField blk 4 1) 0, tgtLanes := par.1, tgtRate := par.2.1
    tsPar := some par, ts2Run := 0
    ts1Run := if x.tsPar = some par then x.ts1Run else 0
    step := if x.tsPar = some par then x.step else 2
    stepAt := if x.tsPar.isNone || x.tsPar = some par then x.stepAt else s.now
    refusedGen := if x.refusedGen = some par.2.2 then x.refusedGen else none }) s

/-- TS1: n slots that begin with `blks`, lane by lane: parameters checked, refused, or followed after 16 good ones (steps 2
to 4 of Table 4.7, R120). With lock, LANE bytes and deskew done step 2 and its bound are over and step 3 waits for the 16. -/
def execTs1 (t : Nat) (blks : List (List Byte)) (skew : List Nat) (n : Nat) (s : State) : Host.Outcome State Fault Refusal :=
  act t (fun s =>
    let blk := slotBlk blks s
    let n0 := n
    let n := readSlots blks n s
    let s := takeSlots true blks n0 s
    if !(s.lane.st = .slow && 2 ≤ s.lane.step && s.lane.step ≤ 4 && rxOn s) || n = 0 then s
    else if !ctlOk 0x10 blk then modLane (fun x => { x with ts1Run := 0, ts2Run := 0 }) s
    else
      let s := takeTs1 blk s
      let lanes := s.lane.tgtLanes
      let up := min 255 (s.lane.hops + 1)
      let refused := bitOf (leField blk 4 1) 1
      let code := trainRefusal s lanes s.lane.tgtRate
      if code ≠ 0 then
        startTs1 1 lanes s.lane.tgtRate 1 up (if refused then leField blk 6 1 else up) (if refused then leField blk 7 1 else code)
          (modLane (fun x => { x with failReason := code, refusedGen := some s.lane.gen, ts1Run := 0, step := 3 }) s)
      else
        let c := step2Cause s lanes blks skew
        let run := if c = 0 && slotOk 0x10 lanes blks then min 16 (s.lane.ts1Run + n) else 0
        let s := modLane (fun x => { x with
          ts1Run := run, cause2 := if c = 0 then 2 else c, step := if x.step = 2 && c = 0 then 3 else x.step }) s
        if run = 16 && s.lane.step ≠ 4 then
          startTs1 lanes lanes s.lane.tgtRate (b2n refused) up (leField blk 6 1) (leField blk 7 1)
            (modLane (fun x => { x with step := 4, stepAt := s.now, trainedSkew := skew.take 4 }) s)
        else s) s

/-- TS2: after 8 the engine sends 16 TS2, goes to the target rate and sends TS3 (step 5 of Table 4.7). -/
def execTs2 (t : Nat) (blks : List (List Byte)) (n : Nat) (s : State) : Host.Outcome State Fault Refusal :=
  act t (fun s =>
    let blk := slotBlk blks s
    let n0 := n
    let n := readSlots blks n s
    let s := takeSlots true blks n0 s
    if !(s.lane.st = .slow && s.lane.step = 4 && rxOn s) || n = 0 then s
    else if !ctlOk 0x11 blk then modLane (fun x => { x with ts2Run := 0 }) s
    else if s.lane.refusedGen.isSome then s
    else
      let run := min 8 (s.lane.ts2Run + n)
      let s := modLane (fun x => { x with ts2Run := run, ts1Run := 0, rxPrecode := bitOf (leField blk 4 1) 0 }) s
      if run = 8 then
        startTs3 (modLane (fun x => { x with
          st := .atRate, step := 6, stepAt := s.now, rate := x.tgtRate, lanes := x.tgtLanes, adaptAt := s.now
          lock := [false, false, false, false], ts4Run := 0, rxReady := false, syncSlots := 0 })
          (sendTs 0x11 16 .fill s))
      else s) s

/-- TS3 at the rate in force: a fast retrain starts, out of FL2 included, and the engine's own TS3 with it (R125, R128). -/
def execTs3 (t : Nat) (blks : List (List Byte)) (s : State) : Host.Outcome State Fault Refusal :=
  act t (fun s =>
    let blk := slotBlk blks s
    let n := readSlots blks 1 s
    let s := takeSlots false blks 1 s
    if n = 0 then s
    else if !ctlOk 0x12 blk then (if s.lane.st = .atRate || s.lane.st = .retrain then modLane (fun x => { x with ts4Run := 0 }) s else s)
    else
      let s := if mayRetrain s && leField blk 3 1 = s.lane.rate then startRetrain s else s
      if rxOn s && (s.lane.st = .atRate || s.lane.st = .retrain) then
        let s := modLane (fun x => { x with rxPrecode := bitOf (leField blk 4 1) 0, ts4Run := if x.step = 8 then x.ts4Run else 0 }) s
        if s.lane.st = .retrain && s.lane.txMode = .idle then startTs3 s else s
      else s) s

/-- TS4 is sent once the receiver is ready and 8 TS4 have come (step 7 of Table 4.7). -/
def tryTs4 (s : State) : State :=
  if s.lane.rxReady && s.lane.ts4Run = 8 && s.lane.step = 7 then
    let s := modLane (fun x => { x with txOn := x.lanes, txNow := x.txRate }) s
    sendTs 0x13 1 .fill (modLane (fun x => { x with
      step := 8, txMode := .ts4, txBlk := trainBlk s 0x13 x.lanes x.rate 0 (min 255 (x.hops + 1)) 0 0 }) s)
  else s

/-- TS4. -/
def execTs4 (t : Nat) (blks : List (List Byte)) (n : Nat) (s : State) : Host.Outcome State Fault Refusal :=
  act t (fun s =>
    let blk := slotBlk blks s
    let n0 := n
    let n := readSlots blks n s
    let s := takeSlots false blks n0 s
    if !(rxOn s && (s.lane.st = .atRate || s.lane.st = .retrain)) || n = 0 then s
    else if !ctlOk 0x13 blk then modLane (fun x => { x with ts4Run := if x.step = 8 then x.ts4Run else 0 }) s
    else tryTs4 (modLane (fun x => { x with ts4Run := min 8 (x.ts4Run + n), rxPrecode := bitOf (leField blk 4 1) 0 }) s)) s

/-- Per-lane results over the lanes in force. -/
def perLane {α : Type} (n : Nat) (old new : List α) : List α := new.take (min n 4) ++ old.drop (new.take (min n 4)).length

/-- A value moves towards another by no more than a limit. -/
def towards (lim : Nat) (old new : Int) : Int := if new < old then max new (old - lim) else min new (old + lim)

/-- The CTLE codes, DFE taps and eye heights of the lanes in force take the values found, by at most one code step and one
DFE least-significant step per 10 us since the last adaptation (R106). The CTLE and each tap of a lane adapt on their own,
each within the limit: DESIGN CHOICE, log 182. -/
def adaptLanes (ctle : List Nat) (dfe : List (List Int)) (eye : List Nat) (s : State) : State :=
  let steps := (s.now - s.lane.adaptAt) / 10000000
  modLane (fun x => { x with
    ctle := perLane x.lanes x.ctle ((upTo 4).map (fun i => (towards steps ((nth x.ctle i 0 : Nat) : Int) (min 15 (nth ctle i 0) : Nat)).toNat))
    dfe := perLane x.lanes x.dfe ((upTo 4).map (fun i => (upTo 3).map (fun k =>
      towards (steps * Config.dfeStep) (nth (nth x.dfe i []) k 0) (nth (nth dfe i []) k 0))))
    eye := perLane x.lanes x.eye eye, adaptAt := s.now }) s

/-- ADAPTATION_COMPLETE: step 6 of Table 4.7 done on every lane in force. -/
def execAdaptationComplete (t : Nat) (ctle : List Nat) (dfe : List (List Int)) (eye : List Nat) (skew : List Nat) (s : State) :
    Host.Outcome State Fault Refusal :=
  act t (fun s =>
    if rxOn s && s.lane.step = 6 && (s.lane.st = .atRate || s.lane.st = .retrain) &&
        (skew.take s.lane.lanes).all (fun k => decide (k ≤ 64000)) then
      let s := adaptLanes ctle dfe eye s
      let s := if s.lane.txMode = .idle then startTs3 s else s
      let s := { s with phy := ((upTo s.lane.lanes).filter (fun i => !(nth s.lane.lock i false))).foldl (fun p i => lockRx i p) s.phy }
      tryTs4 (modLane (fun x => { x with
        step := 7, rxReady := true, adapted := true, trainedSkew := perLane x.lanes x.trainedSkew skew
        lock := (upTo 4).map (fun i => decide (i < x.lanes)) }) s)
    else s) s

/-- Bound of a step of Table 4.7, in ms. -/
def stepBound (k : Nat) : Nat := match k with | 1 => 1 | 2 => 1 | 6 => 4 | _ => 100

/-- TRAINING_TIMEOUT: the bound of the step in progress (Table 4.7, Table 4.8). Step 2 that ends without one good TS1 is
recorded as LANE_MISSING: DESIGN CHOICE, log 183. -/
def execTrainingTimeout (t : Nat) (s : State) : Host.Outcome State Fault Refusal :=
  act t (fun s =>
    if !spanOver s s.lane.stepAt (stepBound s.lane.step * 1000000000) then s
    else match s.lane.st, s.lane.step with
    | .slow, 1 => trainFail 1 s
    | .slow, 2 => trainFail s.lane.cause2 s
    | .slow, 4 => trainFail 7 s
    | .atRate, 6 => trainFail 8 s
    | .atRate, 7 => trainFail 9 s
    | _, _ => s) s

/-- ELECTRICAL_IDLE_END: 2 ms of idle end and DETECT follows (R122). -/
def execElectricalIdleEnd (t : Nat) (s : State) : Host.Outcome State Fault Refusal :=
  act t (fun s => if s.lane.idleFrom.any (fun a => spanOver s a 2000000000) then toDetect s else s) s

/-- The transmitters leave the idle pattern of FL1 for what the SYNC or ALIGN slot that ends it brings (R127). -/
def leaveIdle (s : State) : State :=
  if s.lane.txMode = .idlePattern then
    { modLane (fun x => { x with txOn := x.lanes, txMode := .data, txNow := x.txRate }) s with phy := joinLanes .idle s.phy }
  else s

/-- SYNC: n slots on every lane in force: FL1 ends (R127), or those before the first data slot of a training arrive
(Table 4.7). In FL1 a SYNC slot that is not good on every lane yet only begins the exit (R129). -/
def execSync (t : Nat) (blks : List (List Byte)) (n : Nat) (s : State) : Host.Outcome State Fault Refusal :=
  act t (fun s =>
    let blk := slotBlk blks s
    let whole := plainOk 1 blks s && blk ≠ []
    let s := takeSlots false blks n s
    match s.lane.st with
    | .fl1 =>
      if whole then
        let s := leaveIdle s
        let s := modLane (fun x => { x with
          st := .fl0, frozen := false, ei1Run := 0, ei2Run := 0, exitFl1 := false, upFrom := s.now, adaptAt := s.now
          lock := (upTo 4).map (fun i => decide (i < x.lanes)) }) { s with phy := { s.phy with rxUnit := 0 } }
        sendPlain 1 n .adjoins s
      else if ctlOk 1 (nth blks 0 []) then modLane (fun x => { x with exitFl1 := true }) s
      else s
    | .atRate | .retrain =>
      if whole && s.lane.step = 8 then modLane (fun x => { x with syncSlots := x.syncSlots + n }) s else s
    | _ => s) s

/-- FL0_ENTRY: the first data slot after 2 SYNC slots or more of a training. -/
def execFl0Entry (t : Nat) (delay : Nat) (s : State) : Host.Outcome State Fault Refusal :=
  act t (fun s => if s.lane.st = .atRate && s.lane.step = 8 && 2 ≤ s.lane.syncSlots then enterFl0 delay s else s) s

/-- FAST_RETRAIN_COMPLETE (R125). -/
def execFastRetrainComplete (t : Nat) (delay : Nat) (s : State) : Host.Outcome State Fault Refusal :=
  act t (fun s =>
    if s.lane.st = .retrain && s.lane.step = 8 && 2 ≤ s.lane.syncSlots then
      enterFl0 delay (modLane (fun x => { x with fastRetrains := x.fastRetrains + 1 }) s)
    else s) s

/-- FAST_RETRAIN_FAILED: not complete in 1 ms; the third in a row is failure 0x0A (R125). -/
def execFastRetrainFailed (t : Nat) (s : State) : Host.Outcome State Fault Refusal :=
  act t (fun s =>
    if s.lane.st = .retrain && spanOver s s.lane.stepAt 1000000000 then
      if s.lane.retrainFails = 2 then trainFail 0x0A s
      else modLane (fun x => { x with st := .down, step := 0, txOn := 0, txMode := .idle, rxReady := false
                                      retrainFails := x.retrainFails + 1 }) s
    else s) s

/-- LINK_DOWN (R123). -/
def execLinkDown (t : Nat) (s : State) : Host.Outcome State Fault Refusal := act t linkDown s

/-- NO_SIGNAL_TIMEOUT: 1 ms without signal on FI0 (R124). The 2 ms of idle are completed first (Table 4.9). -/
def execNoSignalTimeout (t : Nat) (s : State) : Host.Outcome State Fault Refusal :=
  act t (fun s => if rxOn s && s.lane.idleFrom.isNone && s.lane.st ≠ .detect && s.lane.st ≠ .fl2 then toDetect (linkDown s) else s) s

/-- EI1: n slots; after 4 in a row they are forwarded and the link is in FL1, lane 0 with the idle pattern at P0 (R126). -/
def execEi1 (t : Nat) (blks : List (List Byte)) (n : Nat) (s : State) : Host.Outcome State Fault Refusal :=
  act t (fun s =>
    let whole := plainOk 3 blks s && slotBlk blks s ≠ []
    let s := takeSlots false blks n s
    if s.lane.st = .fl0 && whole then
      let run := min 4 (s.lane.ei1Run + n)
      let s := modLane (fun x => { x with ei1Run := run }) s
      if run = 4 then
        let s := modLane (fun x => { x with st := .fl1, frozen := true, txOn := 1, txMode := .idlePattern, txNow := {}
                                            exitFl1 := false, firstAlign := true, lock := [true, false, false, false] })
          (sendPlain 3 4 .adjoins (flushIdle s))
        { s with phy := sendIdle s.phy }
      else s
    else s) s

/-- FL2: transmitters off, only signal detect on FI0, TB0 over without a link-down (R128). -/
def enterFl2 (s : State) : State :=
  let s := { s with pw := { s.pw with doms := modNth s.pw.doms 4 (fun d => if d = 2 then 1 else d) } }
  loseTb0 (modLane (fun x => { x with st := .fl2, step := 0, txOn := 0, txMode := .off, ei2Run := 0, ei1Run := 0, rxReady := false
                                      firstAlign := true, markers := [], downAt := none, lock := [false, false, false, false] }) s)

/-- A marker older than 2 s is not kept. -/
def keepMarkers (s : State) (l : List Marker) : List Marker := l.filter (fun m => decide (s.now < m.at_ + 2000000000000))

/-- Span between two markers in ps (R422). -/
def markerSpan (rate : Nat) : Nat := 1064960 * (match rate with | 0 => 500 | 1 => 250 | _ => 125)

/-- Block time in ps (Table 4.1). -/
def blockPs (rate : Nat) : Nat := match rate with | 0 => 32500 | 1 => 16250 | _ => 8125

/-- The lanes in force whose skew has moved by more than a block time from the trained value (R118). -/
def movedLanes (s : State) (skew : List Nat) : List Nat :=
  (upTo s.lane.lanes).filter (fun i =>
    decide (blockPs s.lane.rate < (((nth skew i 0 : Nat) : Int) - ((nth s.lane.trainedSkew i 0 : Nat) : Int)).natAbs))

/-- A good marker is captured, its COUNT checked, the keeper measured over the span from its predecessor of c periods of
1/64, and the engine's own marker sent (R116 to R118, R422). -/
def goodMarker (blk : List Byte) (skew : List Nat) (c : Nat) (s : State) : State :=
  let count := leField blk 8 4
  let follows := s.lane.count.any (fun k => (k + 1) % 4294967296 == count)
  let jump := !s.lane.firstAlign && !follows
  let used := skew.take s.lane.lanes
  let m : Marker := { count := count, at_ := s.now, time := s.clk.fix * 1000 }
  let span := !s.lane.firstAlign && follows
  let s := sendAlign count s
  let s := modLane (fun x => { x with
    count := some count, firstAlign := false, rxPrecode := bitOf (leField blk 4 1) 0
    markerJumps := if jump then x.markerJumps + 1 else x.markerJumps
    markers := m :: keepMarkers s x.markers
    skew := min 65535 (used.foldl max 0 - used.foldl min (nth used 0 0)) }) s
  let s := irqHelm 49 s
  let good := if span then min 3 (s.tb.goodAligns + 1) else 1
  let s := { s with tb := { s.tb with goodAligns := good } }
  let s := if span then keeperMeasure (markerSpan s.lane.rate) c 1 s else s
  let s := if good = 3 then endNoSource (if s.tb.tb0 || s.lane.st ≠ .fl0 then s else qualifyTb0 s) else s
  (movedLanes s skew).foldl (fun s l => lockLoss l s) s

/-- ALIGN: the slot is judged by its lane 0 block, whose header is the reference instant (R117). In FL1 it begins the exit,
ahead of the SYNC slots that were due with it (R129). Before FL0 only its COUNT is kept: no capture is held of it (R364). -/
def execAlign (t : Nat) (blks : List (List Byte)) (skew : List Nat) (c : Nat) (s : State) : Host.Outcome State Fault Refusal :=
  act t (fun s =>
    let blk := slotBlk blks s
    let s := takeSlots false blks 1 s
    if s.lane.st ≠ .fl0 && s.lane.st ≠ .fl1 then
      if receives s && ctlOk 0x02 blk then modLane (fun x => { x with count := some (leField blk 8 4) }) s else s
    else if blk = [] then s
    else if !ctlOk 0x02 blk then
      if s.lane.st = .fl1 then s
      else { s with lane := { s.lane with markerErrors := s.lane.markerErrors + 1 }, tb := { s.tb with goodAligns := 0 } }
    else goodMarker blk skew c (if s.lane.st = .fl1 then leaveIdle (modLane (fun x => { x with exitFl1 := true }) s) else s)) s

/-- FERRY_RX: 1 s of FL0 in which every lane has adapted from the data (R106, R285); the largest CTLE change is at least
the one that the codes show. -/
def execFerryRx (t : Nat) (ctle : List Nat) (dfe : List (List Int)) (eye : List Nat) (change : Nat) (s : State) :
    Host.Outcome State Fault Refusal :=
  act t (fun s =>
    if s.lane.st = .fl0 then
      let was := s.lane.ctle
      let s := adaptLanes ctle dfe eye s
      let moved := (upTo s.lane.lanes).foldl (fun a i => max a (((nth s.lane.ctle i 0 : Nat) : Int) - (nth was i 0 : Nat)).natAbs) change
      calDone 5 moved (if moved = 0 then 1 else 2) s
    else s) s

end Sys2Proof.Machine
end

