-- ==== Sys2Proof/Machine/Journal.lean ====
section
/-!
DEFINITION. The MRAM journal (R461 to R463) and what follows a change of the protected store (R464, R465).
-/

namespace Sys2Proof.Machine

/-- The failed-pixel table as the latest transaction, open or waiting, leaves it (R278, R462). -/
def tableNow (s : State) : List FailEntry :=
  let pick := fun (acc : List FailEntry) (j : JTarget) => match j with | .table e => e | _ => acc
  let base := match s.nv.jrnl with
    | some j => if j.done then s.nv.table else pick s.nv.table j.target
    | none => s.nv.table
  s.nv.jrnlWait.foldl pick base

/-- An entry of the failed-pixel table as Table 10.4 lays it out (R278). -/
def FailEntry.bytes (e : FailEntry) : List Byte :=
  leBytes 2 e.x ++ leBytes 2 e.y ++ leBytes 1 e.cls ++ leBytes 1 e.func ++ leBytes 2 e.sweep

/-- What a transaction writes, as bytes. DESIGN CHOICE: the failed-pixel table is written whole, a saved object as its value; of
the boot record's layout nothing is stated, so its bytes are free values (log 200). -/
def JTarget.bytes : JTarget → List Byte
  | .saved _ d => d
  | .table e => e.flatMap FailEntry.bytes
  | .custData d => d
  | _ => []

/-- Payload of a transaction in units of 64 bytes (R462). -/
def JTarget.units (j : JTarget) : Nat := max 1 (ceilDiv j.bytes.length 64)

/-- The payload of a transaction: its bytes, filled up with free values to whole units (R462, log 200). -/
def JTarget.payload (j : JTarget) : List Byte :=
  j.bytes ++ (upTo (64 * j.units - j.bytes.length)).map (fun i => BitVec.ofNat 8 (Config.jrnlFill i))

/-- Target offset of a transaction: the start of its area of Table 17.6 and a free place in it (R461, R462, log 200). -/
def JTarget.off : JTarget → Nat
  | .saved k _ => 0xB00000 + Config.jrnlPlace k % 0x40000
  | .restore => 0xB00000 + Config.jrnlPlace 65536 % 0x40000
  | .table _ => 0xB00000 + Config.jrnlPlace 65537 % 0x40000
  | .custData _ => 0xC40000 + Config.jrnlPlace 65538 % 0x100000
  | _ => 0xDC0000

/-- A transaction is open (R462). -/
def jrnlOpen (s : State) : Bool := s.nv.jrnl.any (fun j => !j.done)

/-- limp.state of each pattern is the cause of its source (Table 15.2, R396). -/
def limpCauses (s : State) : State :=
  (upTo 4).foldl (fun s n => setCause (0x90 + n) (limpState s (n + 1) ≠ 1) [] s) s

/-- The static-limp bits copied from limp pattern 1, and the VALID patterns copied into the limp loader's buffer (R23, R396,
R397). -/
def copySl (s : State) : State :=
  { s with diag := { s.diag with slBits := if limpState s 1 = 1 then limpRec s 1 else [] }
           saf := { s.saf with limpBuf := (upTo 4).map (fun n => if limpState s (n + 1) = 1 then limpRec s (n + 1) else []) } }

/-- The new copy of the protected store is loaded (R465): its layer into the idle bank (R203), its patterns into the limp
buffer (R396), its map for the next frame launch (R65). -/
def protLoad (s : State) : State :=
  let c := nth s.nv.copies s.nv.copy {}
  let s := setCause 0xC5 false [] { s with nv := { s.nv with psBad := false } }
  let s := { s with comp := { s.comp with idleRec := some c.layer, protState := if c.layer.isEmpty then 0 else 2 }
                    arr := { s.arr with mapNew := true }
                    mg := { s.mg with psResult := 0 } }
  limpCauses (copySl s)

/-- The new copy does not read back as the manifest has it: source 0xC5, and nothing of it is loaded (R465). -/
def protReadBad (s : State) : State :=
  limpCauses (setCause 0xC5 true [] { s with
    nv := { s.nv with psBad := true }, mg := { s.mg with psResult := 4 }, comp := { s.comp with protState := 4 } })

/-- The payload reaches its target (R462); `readOk`: a new copy of the protected store reads back as its manifest has it
(R465). -/
def jrnlApply (readOk : Bool) (j : JTarget) (s : State) : State :=
  match j with
  | .saved k d => { s with nv := { s.nv with saved := aput s.nv.saved k d } }
  | .restore => { s with nv := { s.nv with saved := [] } }
  | .table e => { s with nv := { s.nv with table := e } }
  | .custData d => { s with nv := { s.nv with custData := d } }
  | .bank b r => { s with nv := { s.nv with bank := b, rollFw := r } }
  | .cust r => { s with nv := { s.nv with rollCust := r, custValid := true } }
  | .sessKey k => { s with nv := { s.nv with sessKey := some k } }
  | .key n k => if n = 1 then { s with nv := { s.nv with keyCust := some k } } else { s with nv := { s.nv with keyPst := some k } }
  | .copy c =>
    let s := { s with nv := { s.nv with copy := c } }
    if readOk then protLoad s else protReadBad s

/-- The next waiting transaction begins with the programming of its header unit, unless one is open, MRAM is PREPARED or the
cores are halted (R332, R432, R462). -/
def jrnlKick (s : State) : State :=
  if jrnlOpen s || prepared s (.block 12) || s.mg.haltMgmt then s
  else
    match s.nv.jrnlWait with
    | [] => s
    | j :: rest =>
      { s with
        nv := { s.nv with jrnl := some { target := j, seq := s.nv.jrnlSeq.toNat, off := j.off, crc := crcOf crcIeee j.payload
                                         units := 0, payload := j.units, done := false }
                          jrnlWait := rest } }

/-- A change of the MRAM is asked for (R462). -/
def jrnlAsk (j : JTarget) (s : State) : State := jrnlKick { s with nv := { s.nv with jrnlWait := s.nv.jrnlWait ++ [j] } }

/-- The header unit has been programmed: the SEQ is used and the transaction counted (R462). -/
def jrnlHeader (s : State) : State :=
  { s with nv := { s.nv with jrnlSeq := s.nv.jrnlSeq + 1 }, mg := { s.mg with journalTx := s.mg.journalTx + 1 } }

/-- One more unit of the open transaction is programmed: header, payload, commit, copy to the target, done (R462). -/
def jrnlUnit (readOk : Bool) (s : State) : State :=
  match s.nv.jrnl with
  | none => s
  | some j =>
    if j.done then s
    else
      let u := j.units + 1
      let s := { s with nv := { s.nv with jrnl := some { j with units := u } } }
      let s := if u = 1 then jrnlHeader s else s
      let s := if u = 2 + 2 * j.payload then jrnlApply readOk j.target s else s
      if u = 3 + 2 * j.payload then jrnlKick { s with nv := { s.nv with jrnl := some { j with units := u, done := true } } } else s

/-- A unit may be programmed: the cores run, or it is the one in progress at their halt, within 20 us (R332). -/
def unitRuns (s : State) : Bool := !s.mg.haltMgmt || s.mg.haltUnit.any (fun a => decide (s.now ≤ a + 20000000))

/-- MRAM_PROGRAM_DONE (R461); `readOk` as in `jrnlApply`. -/
def execMramProgramDone (t : Nat) (readOk : Bool) (s : State) : Host.Outcome State Fault Refusal :=
  act t (fun s =>
    if blockPowered s 12 && unitRuns s then
      let s := jrnlUnit readOk s
      irqHelm 63 { s with mg := { s.mg with haltUnit := none } }
    else s) s

/-- The newest transaction is completed or rolled back at boot (R463). DEDUCED: one whose header unit is torn is none, since a torn
unit fails its own CRC (R462, log 200). -/
def jrnlResolve (s : State) : State :=
  match s.nv.jrnl with
  | none => s
  | some j =>
    if j.done then s
    else if j.units = 0 then { s with nv := { s.nv with jrnl := none } }
    else if 2 + j.payload ≤ j.units then jrnlApply true j.target { s with nv := { s.nv with jrnl := some { j with done := true } } }
    else
      raiseSrc 0xC9 (leBytes 4 j.seq)
        { s with nv := { s.nv with jrnl := none }, mg := { s.mg with journalRollbacks := s.mg.journalRollbacks + 1 } }

end Sys2Proof.Machine
end

