-- ==== Sys2Proof/Machine/Policy.lean ====
section
/-!
DEFINITION. The failure policies of functions and the causes that follow the failed-pixel table (R280 to R283).
-/

namespace Sys2Proof.Machine

/-- function.maskable, shed_order and min_flux as written (R69). -/
def fsetWritten (s : State) (f : Nat) : FuncSet := ⟨s.objB (0x2010 + f) 2, s.objN (0x2010 + f) 3, s.objN (0x2010 + f) 4⟩

/-- The settings of function f in force since the last frame launch (R69). -/
def fsetIn (s : State) (f : Nat) : FuncSet := match s.arr.fset[f]? with | some x => x | none => fsetWritten s f

/-- What the policy of a function is judged with: the table, the map, its settings (R281 to R283). -/
structure PolView where
  table : List FailEntry
  ovf : Bool
  map : List Byte
  pol : Nat → PolSet
  maskable : Nat → Bool

/-- Entries of function f under a map (R283, R294). -/
def polEntries (v : PolView) (f : Nat) : List FailEntry := v.table.filter (fun e => mapNib v.map e.x e.y == f)

/-- An entry lies in a critical rectangle (R295). -/
def inCrit (e : FailEntry) (r : Nat) : Bool :=
  let (x0, y0, x1, y1) := (r % 65536, r / 65536 % 65536, r / 4294967296 % 65536, r / 281474976710656 % 65536)
  decide (x0 ≤ e.x) && decide (e.x ≤ x1) && decide (y0 ≤ e.y) && decide (e.y ≤ y1)

/-- The SWITCH_OFF condition of function f (R281, R283). -/
def offCond (v : PolView) (f : Nat) : Bool :=
  let p := v.pol f
  let es := polEntries v f
  decide (1 ≤ f) && bitOf p.policy 1 &&
  (v.ovf || decide (p.limit < es.length) || es.any (fun e => p.crit.any (inCrit e)))

/-- The FALLBACK condition of function f (R282, R283). -/
def fbCond (v : PolView) (f : Nat) : Bool := decide (1 ≤ f) && v.maskable f && (polEntries v f).any (fun e => e.cls == 4)

/-- The view with the settings and the map in force. -/
def viewNow (s : State) : PolView :=
  { table := tableNow s, ovf := s.diag.tableOvf, map := s.arr.map, pol := polIn s, maskable := fun f => (fsetIn s f).maskable }

/-- The causes of the sources that follow the table (R280 to R283). -/
def polCauses (s : State) : State :=
  let v := viewNow s
  let s := setCause 0x51 v.ovf [] s
  let s := setCause 0x52 (v.table.any (fun e => e.cls == 4)) [] s
  let s := setCause 0x53 (v.table.any (fun e => inFootprint s.comp.footRec e.x e.y)) [] s
  ((upTo 16).drop 1).foldl (fun s f =>
    setCause (0x70 + f) (fbCond v f) (leBytes 1 f) (setCause (0x60 + f) (offCond v f) (leBytes 1 f) s)) s

/-- State of function f at a frame launch under a view, from its state before (R282, R283). -/
def polNext (s : State) (v : PolView) (f : Nat) : Nat :=
  let cur := nth s.arr.policy f 0
  if fbCond v f then 3
  else if cur = 3 && bmGet s.saf.latched (0x70 + f) then 3
  else if offCond v f then 2
  else if cur = 2 && bmGet s.saf.latched (0x60 + f) then 2
  else 0

end Sys2Proof.Machine
end

