-- ==== Sys2Proof/Machine/Power.lean ====
section
/-!
DEFINITION. Device and power states (chapter 16): power-up, the two-phase entry to QUIET and STANDBY, wake and the start
of an exit.
-/

namespace Sys2Proof.Machine

/-! ## Domains (R427) -/

/-- A domain reaches a state: 0 OFF, 1 SIGNAL_DETECT, 2 ON; the cause of its source ends. -/
def setDom (v : Nat) (s : State) (i : Nat) : State :=
  setCause (0xE0 + i) false [] { s with pw := { s.pw with doms := modNth s.pw.doms i (fun _ => v) } }

/-- Several domains reach a state. -/
def setDoms (l : List Nat) (v : Nat) (s : State) : State := l.foldl (setDom v) s

/-- The domains of orders 7 to 10 of Table 16.3. -/
def upperDoms : List Nat := [6, 7, 8, 9, 10, 11, 12, 13, 15]

/-- DOMAIN_BOUND_MISS (R427). -/
def execDomainBoundMiss (t : Nat) (i : Fin 16) (s : State) : Host.Outcome State Fault Refusal :=
  act t (fun s =>
    setCause (0xE0 + i.val) true [] { s with pw := { s.pw with
      doms := modNth s.pw.doms i.val (fun _ => 3), domFailures := modNth s.pw.domFailures i.val (· + 1) } }) s

/-! ## OFF and power-up (R428, R517) -/

/-- What a loss of every volatile state leaves: MRAM with diag.table_ovf, which stays set until the table is cleared (R280),
identity, the time of the model, its queue and its trace. The test access port has its own reset (R534, log 180). -/
def coldState (s : State) : State :=
  { State.reset with
    pw := { State.reset.pw with testPort := s.pw.testPort, boundary := s.pw.boundary }
    now := s.now, grade := s.grade, uid := s.uid, hwRev := s.hwRev, nv := { s.nv with jrnlWait := [] }, free := s.free
    out := s.out, pending := s.pending, diag := { State.reset.diag with tableOvf := s.diag.tableOvf } }

/-- RSTN_LOW: low for 10 us (R428, R517). -/
def execRstnLow (t : Nat) (s : State) : Host.Outcome State Fault Refusal := act t coldState s

/-- VAON_LOSS: below the power-on range (R515). -/
def execVaonLoss (t : Nat) (s : State) : Host.Outcome State Fault Refusal :=
  act t (fun s => coldState { s with pw := { s.pw with testPort := false, boundary := 0 } }) s

/-- BOOT begins: the domains of orders 1 to 5 of Table 16.3 (R427, R428), the first sample of the channels (R407), TESTEN
(R413). -/
def startBoot (testen lenA lenB fbClosed : Bool) (s : State) : State :=
  let s := { (coldState s) with
    pw := { State.reset.pw with dev := .boot, testPort := s.pw.testPort, boundary := s.pw.boundary, doms := [2, 2, 2, 2, 1, 0, 0, 0, 0, 0, 0, 0, 0, 0, 2, 0] }
    saf := { State.reset.saf with testen := testen, releaseAt := s.now, lenA := lenA, lenB := lenB, discFb := fbClosed
                                  startTest := !lenA && !lenB } }
  if lenA && lenB then raiseSrc 0x02 [] s else s

/-- POWER_UP: from OFF with every supply in range and RSTN high. -/
def execPowerUp (t : Nat) (testen : Bool) (lenA lenB : Bool) (fbClosed : Bool) (s : State) : Host.Outcome State Fault Refusal :=
  let s := s.advance t
  .next (if s.pw.dev = .off then startBoot testen lenA lenB fbClosed s else s)

/-! ## Exit (R435 to R438, R536) -/

/-- A change to READY from QUIET falls due: steps 4 and 5 of Table 16.7, or it waits for VCC (R536). -/
def beginReady (s : State) : State :=
  if s.pw.vccOk then
    setDoms ([4, 5] ++ upperDoms) 2
      { s with pw := { s.pw with seq := .exiting, target := .ready, exiting := true, pendingReady := false } }
  else { s with pw := { s.pw with seq := .exiting, target := .ready, pendingReady := true } }

/-- The exit of Table 16.7 begins: from QUIET at step 4, from STANDBY with a boot (steps 1 to 3). -/
def beginExit (s : State) : State :=
  let s := { s with pw := { s.pw with exitFrom := s.now } }
  match s.pw.dev with
  | .quiet => beginReady s
  | .standby =>
    setDoms [14, 3, 1, 2] 2 { s with pw := { s.pw with dev := .boot, seq := .exiting, target := .ready, rebooting := true } }
  | _ => s

/-- The VCC monitor's reading is noted. -/
def noteVcc (ok : Bool) (s : State) : State := { s with pw := { s.pw with vccOk := ok } }

/-- VCC_RECOVERED: a pending change proceeds (R536). -/
def execVccRecovered (t : Nat) (s : State) : Host.Outcome State Fault Refusal :=
  act t (fun s => let s := noteVcc true s; if s.pw.pendingReady then beginReady s else s) s

/-- The selective-wake decoder matches a frame, with VCAN present (R477, R535). -/
def wakeMatch (s : State) (f : CanFrame) : Bool :=
  let mask := s.objN 0x1012 2
  let dm := s.objN 0x1012 4
  vcanOk s && !f.fd && decide (f.id < 2048) &&
  (upTo 11).all (fun i => bitOf mask i || bitOf f.id i == bitOf (s.objN 0x1012 1) i) &&
  decide (f.data.length = s.objN 0x1012 3) &&
  (dm == 0 || (upTo 64).any (fun i => bitOf dm i && decide (i / 8 < f.data.length) && bitOf (leNat f.data) i))

/-- The state the wake logic works for: the one in force, or the one a sequence leads to. -/
def wakeDev (s : State) : Dev := if s.pw.wakeArmed && s.pw.seq ≠ .exiting && s.pw.seq ≠ .idle then s.pw.target else s.pw.dev

/-- Bit of an enabled wake event in power.wake_enable (R435); none where it is not enabled or does not match. -/
def wakeBit (s : State) (w : Wake) : Option Nat :=
  let en := s.objN 0x2E00 2
  let edge := s.objN 0x2E00 3
  match w with
  | .can f => if bitOf en 0 && wakeDev s = .standby && wakeMatch s f then some 0 else none
  | .pin r => if bitOf en 1 && (edge = 2 || (edge = 0 && r) || (edge = 1 && !r)) then some 1 else none
  | .len => if bitOf en 2 then some 2 else none
  | .fi0 => if bitOf en 3 && wakeDev s = .quiet then some 3 else none

/-- A wake event is kept while its keeper tick lasts: a command accepted in that tick counts as before it (R437). -/
def keepWake (w : Wake) (s : State) : State :=
  { s with pw := { s.pw with recent := w :: (if tickOf s.pw.recentAt = tickOf s.now then s.pw.recent else []), recentAt := s.now } }

/-- WAKE_EVENT: latched in a sequence of entry, or the exit begins (R437). In READY and LIT, and in an exit, nothing waits
for it: it is recorded in power.wake_cause (R436, log 186). -/
def execWakeEvent (t : Nat) (w : Wake) (vccOk : Bool) (s : State) : Host.Outcome State Fault Refusal :=
  act t (fun s =>
    let s := if s.pw.seq = .idle then keepWake w s else s
    match wakeBit s w with
    | none => s
    | some b =>
      match s.pw.seq with
      | .preparing | .retryWait | .committing =>
        let l := if bitOf s.pw.wakeLatch b then s.pw.wakeLatch else s.pw.wakeLatch + 2 ^ b
        noteVcc vccOk { s with pw := { s.pw with wakeLatch := l, wakeCause := l } }
      | .idle =>
        let s := { s with pw := { s.pw with wakeCause := if s.pw.dev = .boot then s.pw.wakeCause else 2 ^ b } }
        if s.pw.dev = .quiet || s.pw.dev = .standby then beginExit (noteVcc vccOk s) else s
      | .exiting =>
        if s.pw.dev = .boot || bitOf s.pw.wakeCause b then s
        else { s with pw := { s.pw with wakeCause := s.pw.wakeCause + 2 ^ b } }) s

/-! ## Entry (R430 to R434) -/

/-- The blocks asked to prepare (R431). -/
def prepList (s : State) : List PrepBlock :=
  let upper : List PrepBlock := [.block 1, .block 2, .block 3, .block 4, .block 5, .block 6, .block 13, .block 15]
  let lower : List PrepBlock := [.block 0, .block 7, .block 8, .block 9, .block 10, .block 11, .block 12]
  (if s.pw.dev = .quiet then [] else upper) ++ (if s.pw.target = .standby then lower ++ [.irqHelm, .irqPurser] else []) ++
  [.dictServer, .updatePath, .block 14]

/-- A shared source is pending, or claimed and not completed (Table 16.6). -/
def sharedBusy (q : Irq) : Bool := (q.pend ||| q.svc) >>> 32 ≠ 0

/-- Reason for which a block refuses, 0 to grant (Table 16.6). -/
def refusal (s : State) (b : PrepBlock) : Nat :=
  let sb := s.pw.target = .standby
  match b with
  | .irqHelm => if sb && sharedBusy s.mg.irqH then 1 else 0
  | .irqPurser => if sb && sharedBusy s.mg.irqP then 1 else 0
  | .dictServer => if s.dict.xferFerry.isSome || (sb && s.dict.xferCan.isSome) then 3 else 0
  | .updatePath => if sb && (s.mg.updState = 1 || s.mg.updState = 2) then 4 else 0
  | .block i =>
    if i = 12 then (if sb && jrnlOpen s then 2 else 0)
    else if i = 1 then (if s.fy.insert.isEmpty then 0 else 5)
    else if i = 14 then (if s.saf.discStep = 0 then 0 else 6)
    else 0

/-- power.refuse_block of a block (log 23). -/
def prepCode (b : PrepBlock) : Nat :=
  match b with
  | .block i => i.val | .irqHelm => 10 | .irqPurser => 11 | .dictServer => 11 | .updatePath => 11

/-- Every PREPARED block is released: journal starts and the disconnect check that waited go ahead (R432, R433). -/
def release (s : State) : State :=
  let s := jrnlKick { s with pw := { s.pw with answered := [] } }
  if s.saf.discDeferred then closeDisc { s with saf := { s.saf with discDeferred := false } } else s

/-- The entry has failed (R433, R437). -/
def entryFailed (s : State) : State :=
  event 0x10A 255 [] { s with pw := { s.pw with
    seq := .idle, result := 2, failures := s.pw.failures + 1, wakeArmed := false, wakeLatch := 0
    wakesAbsorbed := if s.pw.wakeLatch = 0 then s.pw.wakesAbsorbed else s.pw.wakesAbsorbed + 1 } }

/-- A block has refused (R433). -/
def refuse (b : PrepBlock) (code : Nat) (s : State) : State :=
  let s := release { s with pw := { s.pw with refuseBlock := prepCode b, refuseReason := code, refusals := s.pw.refusals + 1 } }
  let s := noteEvent 0x10E (leBytes 1 (prepCode b) ++ leBytes 1 code) s
  if s.pw.repeats = 3 then entryFailed s else { s with pw := { s.pw with seq := .retryWait, refusedAt := s.now } }

/-- Events under moderation enter the pending-events set when the engine enters STANDBY (R503). -/
def holdAcc (p : Path) (s : State) : State :=
  let accs := (evPath s p).acc
  let s := accs.foldl (fun s a => holdEvent p a s) s
  setEvPath p { evPath s p with acc := [] } s

/-- STANDBY keeps what AON holds: the Tollgate, the keeper, the wake logic, the pending-events sets (Table 1.8). A sensor's
substitution lasts with its cause and its status bit (R328); the causes of UNALIGNED and HOLDOVER end with the clock
(R371, R372, R375). -/
def standbyLoss (s : State) : State :=
  let s := holdAcc .ferry (holdAcc .can s)
  let s := setCause 0xB1 false [] (setCause 0xB0 false [] s)
  { (coldState s) with
    saf := s.saf, pw := s.pw, tb := s.tb, objs := s.objs
    th := { State.reset.th with broken := s.th.broken, subst := s.th.subst }
    dict := { State.reset.dict with evCan := s.dict.evCan, evFerry := s.dict.evFerry, eventSeq := s.dict.eventSeq } }

/-- 4 EI2 slots are forwarded and the transmitters go off (R128). -/
def passEi2 (s : State) : State := enterFl2 (sendPlain 4 4 .adjoins (flushIdle s))

/-- The transmitters go off: behind the EI2 slots received, in FL0, else without (step 6 of Table 16.5). -/
def dropTx (s : State) : State :=
  if s.lane.st = .detect || s.lane.st = .fl2 then s
  else if s.lane.st = .fl0 && s.pw.ei2Seen = 4 then passEi2 s
  else if s.lane.adapted then enterFl2 s
  else toDetect (enterFl2 s)

/-- The state is entered (steps 6 to 8 of Table 16.5); a latched wake acts at once (R437). -/
def enterLow (s : State) : State :=
  let s := dropTx s
  let s := setDom (if s.pw.target = .quiet then 1 else 0) (setDom 0 s 5) 4
  let s := closeSess .ferry (closeSess .can s)
  let s := { s with pw := { s.pw with dev := s.pw.target, seq := .idle, entries := s.pw.entries + 1, result := 1
                                      answered := [], committed := false, wakeArmed := false } }
  let s := if s.pw.dev = .standby then standbyLoss (setDoms [1, 2, 3, 14] 0 s) else jrnlKick s
  if s.pw.wakeLatch ≠ 0 then
    beginExit { s with pw := { s.pw with wakeCause := s.pw.wakeLatch, wakeLatch := 0 } }
  else s

/-- Commit: array blanked, hold lines released, DISC_EN dropped, PHG at 0, the upper domains off (R431, R434). -/
def commitEntry (s : State) : State :=
  let s := supplyRest (dropDisc (setHold false (blank s)))
  let s := { s with saf := { s.saf with discStep := 0, discOnly4 := false, discDeferred := false }
                    pw := { s.pw with seq := .committing, committed := true, committedAt := s.now } }
  let s := setDoms upperDoms 0 s
  if s.pw.ei2Seen = 4 then enterLow s else s

/-- The answer to the command waits in the insertion queue: the request follows it (Table 16.5, step 2). -/
def answerWaits (s : State) : Bool :=
  s.fy.insert.any (fun o => o.ptype == 4 && leField o.payload 8 1 == 0x82 && leField o.payload 10 3 == 0x012E00)

/-- PREPARE_ANSWER: a block that is asked grants or refuses as its state says (R432, R433), once the request has been made. -/
def execPrepareAnswer (t : Nat) (b : PrepBlock) (s : State) : Host.Outcome State Fault Refusal :=
  act t (fun s =>
    if s.pw.seq = .preparing && !answerWaits s && (prepList s).contains b && !prepared s b then
      let r := refusal s b
      if r ≠ 0 then refuse b r s
      else
        let s := { s with pw := { s.pw with answered := s.pw.answered ++ [b] } }
        if (prepList s).all (prepared s) then commitEntry s else s
    else s) s

/-- PREPARE_RETRY: 10 ms after a refusal (R433); an earlier one does nothing (log 176). -/
def execPrepareRetry (t : Nat) (s : State) : Host.Outcome State Fault Refusal :=
  act t (fun s =>
    if s.pw.seq = .retryWait && spanOver s s.pw.refusedAt 10000000000 then
      { s with pw := { s.pw with seq := .preparing, repeats := s.pw.repeats + 1, answered := [] } }
    else s) s

/-- EI2_WAIT_TIMEOUT: 1.0 ms after commit (R431); an earlier one does nothing (log 176). -/
def execEi2WaitTimeout (t : Nat) (s : State) : Host.Outcome State Fault Refusal :=
  act t (fun s => if s.pw.seq = .committing && spanOver s s.pw.committedAt 1000000000 then enterLow s else s) s

/-- EI2: n slots. After 4 in a row they are forwarded and the link is in FL2; in an entry only after the commit, where those
of before are forwarded too (R128, R431, R434). -/
def execEi2 (t : Nat) (blks : List (List Byte)) (n : Nat) (s : State) : Host.Outcome State Fault Refusal :=
  act t (fun s =>
    let whole := plainOk 4 blks s && slotBlk blks s ≠ []
    let s := takeSlots false blks n s
    if s.lane.st = .fl0 && whole then
      let run := min 4 (s.lane.ei2Run + n)
      let s := modLane (fun x => { x with ei2Run := run }) s
      if run = 4 then
        match s.pw.seq with
        | .preparing | .retryWait => { s with pw := { s.pw with ei2Seen := 4 } }
        | .committing => enterLow { s with pw := { s.pw with ei2Seen := 4 } }
        | _ => passEi2 s
      else s
    else s) s

/-- The sequence of entry starts (step 1 of Table 16.5); enabled wake events of this keeper tick are latched (R437). -/
def startEntry (target : Dev) (s : State) : State :=
  let s := { s with pw := { s.pw with
    seq := .preparing, target := target, answered := [], repeats := 0, committed := false, ei2Seen := 0
    pendingReady := false, wakeArmed := true, wakeLatch := 0 } }
  let ws := if tickOf s.pw.recentAt = tickOf s.now then s.pw.recent else []
  let l := (upTo 4).foldl (fun l b => if ws.any (fun w => decide (wakeBit s w = some b)) then l + 2 ^ b else l) 0
  lineHelm 62 true { s with pw := { s.pw with wakeLatch := l, wakeCause := if l = 0 then s.pw.wakeCause else l } }

/-- LIT to READY (R429): asserted hold lines are released, pending forced pulses cancelled (R267), and in HOLD DISC_EN drops. -/
def litToReady (s : State) : State :=
  let s := setHold false { s with pw := { s.pw with dev := .ready }, diag := { s.diag with pulses := [] } }
  if s.saf.state = .hold then dropDisc s else s

/-- power.command (R430): refused in a sequence, for the state in force, LIT outside READY, and a change between
READY and LIT with VCC below 0.70 V (R33; DEDUCED, log 191). -/
def powerCmd (v : Nat) (s : State) : Nat × State :=
  let busy := s.pw.seq ≠ .idle
  match v with
  | 1 =>
    if busy && !s.pw.pendingReady then (abState, s)
    else if s.objN 0x2E00 2 % 8 = 0 then (abState, { s with pw := { s.pw with refuseReason := 7, refuseBlock := 255 } })
    else (0, startEntry .standby s)
  | 2 => if busy || s.pw.dev = .quiet then (abState, s) else (0, startEntry .quiet s)
  | 3 =>
    if busy || s.pw.dev = .ready then (abState, s)
    else if s.pw.dev = .lit then (if s.pw.vccOk then (0, litToReady s) else (abState, s))
    else (0, beginReady { s with pw := { s.pw with exitFrom := s.now } })
  | 4 =>
    if busy || s.pw.dev ≠ .ready || !s.pw.vccOk || causeOn s 0xB5 then (abState, s)
    else (0, { s with pw := { s.pw with dev := .lit } })
  | _ => (abRange, s)

/-- The handler of power.command. -/
def powerH (data : List Byte) (s : State) : Nat × State := powerCmd (leNat data) s

/-- COMMAND_STANDBY. -/
def execCommandStandby (t : Nat) (p : Path) (s : State) : Host.Outcome State Fault Refusal :=
  objWrite t p 0x2E00 1 [1] powerH s

/-- COMMAND_QUIET. -/
def execCommandQuiet (t : Nat) (p : Path) (s : State) : Host.Outcome State Fault Refusal :=
  objWrite t p 0x2E00 1 [2] powerH s

/-- COMMAND_READY; `vccOk`: what the VCC monitor reads. -/
def execCommandReady (t : Nat) (p : Path) (vccOk : Bool) (s : State) : Host.Outcome State Fault Refusal :=
  objWrite t p 0x2E00 1 [3] (fun d s => powerH d (noteVcc vccOk s)) s

/-- COMMAND_LIT; `vccOk`: what the VCC monitor reads (R33). -/
def execCommandLit (t : Nat) (p : Path) (vccOk : Bool) (s : State) : Host.Outcome State Fault Refusal :=
  objWrite t p 0x2E00 1 [4] (fun d s => powerH d (noteVcc vccOk s)) s

/-- What the boundary register drives on a pin while the port is out of reset, for a pin that is an output: DISC_EN and PHG
are low whatever it holds. DESIGN CHOICE: HB and TP follow it from the scan on, as under EXTEST; no command selects an instruction
of the port (R534, log 180). -/
def scanDrive (s : State) (p : ScanPin) : Option Bool :=
  if !s.pw.testPort then none
  else match p with
    | .discEn => some false
    | .phg _ => some false
    | .hb => some (s.pw.boundary.getLsbD (scanPins.idxOf p))
    | .tp _ => some (s.pw.boundary.getLsbD (scanPins.idxOf p))
    | _ => none

/-- The level of DISC_EN: low while the port is out of reset, whatever the Tollgate commands (R534). -/
def discPin (s : State) : Bool := s.saf.discEn && !s.pw.testPort

/-- The level of a pin as the boundary register captures it: what drives it, or for a pin whose level nothing in the state holds a
free value (R17, R534, log 180). -/
def pinLevel (s : State) (p : ScanPin) : Bool :=
  let free := Config.pinFree s.free (scanPins.idxOf p)
  (scanDrive s p).getD (match p with
    | .lenA => s.saf.lenA | .lenB => s.saf.lenB | .sreset => s.saf.srLevel
    | .discEn => discPin s | .discFb => s.saf.discFb
    | .tp n => tpLevel s n.val
    | .phg n => nth s.sup.phg n.val false && !s.pw.railOut.getLsbD 3
    | .testen => s.saf.testen
    | .rstn => true
    | .hb | .wake | .tc _ => free)

/-- The cells as one scan captures them, pin by pin. -/
def scanCapture (s : State) : BitVec 19 :=
  BitVec.ofNat 19 (scanPins.foldr (fun p v => b2n (pinLevel s p) + 2 * v) 0)

/-- TAP_RESET_EXIT: DISC_EN and every PHG line are held low, whatever the boundary register holds; the feedback then disagrees
with the command (Table 19.16). The scan captures the pins and shifts them out on TDO while `cells`, what the test system sends,
comes in (R17, R534, log 180). -/
def execTapResetExit (t : Nat) (cells : BitVec 19) (s : State) : Host.Outcome State Fault Refusal :=
  act t (fun s =>
    let s := (send (.tdo (scanCapture s)) s).tickFree
    supplyRest { s with pw := { s.pw with testPort := true, boundary := cells }
                        saf := { s.saf with discAt := if s.saf.discStep = 0 then s.now else s.saf.discAt } }) s

end Sys2Proof.Machine
end

