-- ==== Sys2Proof/Machine/Mgmt.lean ====
section
/-!
DEFINITION. The management subsystem (chapter 17): interrupt controllers, timers, the customer services, CRC units, the
log, boot, the update path and the protected store.
-/

namespace Sys2Proof.Machine

/-! ## Interrupt controllers (R450 to R453) -/

/-- TARGET[i] of a core: its bits of sources 32 i to 32 i + 31 (Table 17.3, R450). -/
def targetReg (c : CoreId) (i : Nat) : Nat := (upTo 32).foldl (fun v j => if irqTarget c (32 * i + j) then v + 2 ^ j else v) 0

/-- The controller of a core. -/
def irqOf (s : State) (c : CoreId) : Irq := match c with | .helm => s.mg.irqH | .purser => s.mg.irqP

/-- Sets the controller of a core. -/
def setIrq (c : CoreId) (q : Irq) (s : State) : State :=
  match c with
  | .helm => { s with mg := { s.mg with irqH := q } }
  | .purser => { s with mg := { s.mg with irqP := q } }

/-- A core has been at work: its mcycle has counted on by the handshakes completed, a free value, and it is not in WFI (R443,
log 202). -/
def coreRan (c : CoreId) (s : State) : State :=
  let s := setIrq c { irqOf s c with wfi := false } s
  { s with mg := { s.mg with mcycle := modNth s.mg.mcycle (coreIdx c) (fun n => (n + Config.handshakes s.free) % 2 ^ 64) } }.tickFree

/-- A source is presented (R450); a PREPARED controller presents no shared one (R432). -/
def irqPresented (q : Irq) (hold : Bool) (i : Nat) : Bool :=
  let p := alook q.prio i 0 % 16
  bmGet q.pend i && bmGet q.en i && decide (0 < p) && decide (q.thr % 16 < p) && !(hold && decide (32 ≤ i))

/-- Of the sources that meet a test the winner: highest priority, then lowest ID (R450). -/
def irqBest (q : Irq) (ok : Nat → Bool) : Option Nat :=
  (upTo 256).foldl (fun best i =>
    if ok i then
      match best with
      | none => some i
      | some b => if alook q.prio b 0 % 16 < alook q.prio i 0 % 16 then some i else best
    else best) none

/-- The winner among the presented sources (R450). -/
def irqWinner (q : Irq) (hold : Bool) : Option Nat := irqBest q (irqPresented q hold)

/-- What the core has written to its controller's registers. -/
def Irq.written (q : Irq) (g : IrqCfg) : Irq := { q with prio := g.prio, en := g.en, thr := g.thr, mod := g.mod }

/-- The source a claim delivers after the core's writes: one that had been presented before a mask write was acknowledged is
delivered although it is masked now (R452). -/
def claimWinner (q : Irq) (cfg : Option IrqCfg) (hold : Bool) : Option Nat :=
  match cfg with
  | none => irqWinner q hold
  | some g =>
    let shown := if g.before then none else irqWinner q hold
    let q := q.written g
    irqBest q (fun i => irqPresented q hold i || shown == some i)

/-- The level sources whose input an event asserts and the end of service releases (log 16). -/
def eventLevels : List Nat := [47, 50, 62, 64]

/-- Customer sources of Table 17.4. -/
def customerSource (i : Nat) : Bool :=
  i = 3 || i = 4 || (32 ≤ i && i ≤ 36) || (38 ≤ i && i ≤ 46) || (52 ≤ i && i ≤ 61)

/-- CLAIM, after what the core has written to the controller's registers. -/
def execClaim (t : Nat) (c : CoreId) (cfg : Option IrqCfg) (s : State) : Host.Outcome State Fault Refusal :=
  act t (fun s =>
    let s := coreRan c s
    let q := irqOf s c
    let hold := prepared s (match c with | .helm => PrepBlock.irqHelm | .purser => PrepBlock.irqPurser)
    let win := claimWinner q cfg hold
    let q := match cfg with | some g => q.written g | none => q
    match win with
    | none => send (.service c 0) (setIrq c q s)
    | some i =>
      let s := setIrq c { q with pend := bmClr q.pend i, svc := bmSet q.svc i } s
      let cust := c = .purser && s.mg.custState = 2 && (afind s.mg.custAttach i).isSome
      let s := if cust then { s with mg := { s.mg with custClaims := i :: s.mg.custClaims } } else s
      send (.service c (i + 2147483648)) s) s

/-- The end of service of a source (R451, R453). -/
def Irq.complete (q : Irq) (i : Nat) : Irq :=
  if !bmGet q.svc i then q
  else
    let full := match q.acc.find? (fun a => a.1 == i) with | some a => decide (alook q.mod i 0 % 256 ≤ a.2.1) | none => false
    let q := { q with svc := bmClr q.svc i, acc := if full then q.acc.filter (fun a => a.1 ≠ i) else q.acc }
    let edge := bmGet q.again i
    let q := { q with again := bmClr q.again i }
    let q := if eventLevels.contains i && !edge then { q with lines := bmClr q.lines i } else q
    if full || edge || bmGet q.lines i then { q with pend := bmSet q.pend i } else q

/-- The firmware of the Purser core is idle: no request is being served, and no source of its own is presented or in service
(R449). -/
def firmwareIdle (s : State) : Bool :=
  s.dict.queue.isEmpty && s.dict.canQueue.isEmpty &&
  (upTo 64).all (fun i => customerSource i || !(irqPresented s.mg.irqP false i || bmGet s.mg.irqP.svc i))

/-- YIELD returns where the firmware is idle again (R449). DEDUCED: it has no result, so what is returned reads 0 (log 204). -/
def yieldBack (s : State) : State :=
  if s.mg.custYield && firmwareIdle s then send (.service .purser 0) { s with mg := { s.mg with custYield := false } } else s

/-- The core goes into WFI: the handler has ended, nothing is in service, and no interrupt that is enabled is pending. DESIGN
CHOICE: no command carries an instruction, so a core counts as waiting from there until it is seen at work (R443, log 202). -/
def intoWfi (c : CoreId) (s : State) : State :=
  let q := irqOf s c
  if q.svc == 0 && q.pend &&& q.en == 0 then setIrq c { q with wfi := true } s else s

/-- COMPLETE. -/
def execComplete (t : Nat) (c : CoreId) (id : Fin 256) (s : State) : Host.Outcome State Fault Refusal :=
  act t (fun s =>
    let s := coreRan c s
    let s := setIrq c ((irqOf s c).complete id.val) s
    intoWfi c (if c = .purser then yieldBack { s with mg := { s.mg with custClaims := s.mg.custClaims.filter (· ≠ id.val) } } else s)) s

/-- The hold-off of a moderated source can be over: timed from the first event accumulated, on TB5 in the core's SLEEP set
(R425, R453; log 176). -/
def holdoffOver (s : State) (c : CoreId) (id : Nat) : Bool :=
  let q := irqOf s c
  bitOf (s.objN (0x2E1A + coreIdx c) 2) 5 &&
  q.acc.any (fun a => a.1 == id && spanOver s a.2.2 (alook q.mod id 0 / 256 % 65536 * 1000000))

/-- MODERATION_HOLDOFF: the moderation timer ends WFI (R443), and the source becomes pending with what has accumulated, or at COMPLETE while in service (R453). -/
def execModerationHoldoff (t : Nat) (c : CoreId) (id : Fin 256) (s : State) : Host.Outcome State Fault Refusal :=
  act t (fun s =>
    let q := irqOf s c
    if holdoffOver s c id.val then
      let q := { q with acc := q.acc.filter (fun a => a.1 ≠ id.val), wfi := false }
      setIrq c (if bmGet q.svc id.val then { q with again := bmSet q.again id.val } else { q with pend := bmSet q.pend id.val }) s
    else s) s

/-- An edge at a core's controller. -/
def irqEdge (c : CoreId) (id : Nat) (s : State) : State := match c with | .helm => irqHelm id s | .purser => irqPurser id s

/-! ## Timers and time unit (R454, R455) -/

/-- Timers of a core. -/
def tmrs (s : State) (c : CoreId) : List Tmr := match c with | .helm => s.mg.tmrH | .purser => s.mg.tmrP

/-- Changes a timer. -/
def setTmr (c : CoreId) (k : Nat) (f : Tmr → Tmr) (s : State) : State :=
  match c with
  | .helm => { s with mg := { s.mg with tmrH := modNth s.mg.tmrH k f } }
  | .purser => { s with mg := { s.mg with tmrP := modNth s.mg.tmrP k f } }

/-- A timer set to compare with a time in ns. -/
def Tmr.at_ (x : Tmr) (n : Nat) : Tmr := { x with sec := n / 1000000000, ns := n % 1000000000 }

/-- TIMER_FIRE: the local time has reached the compare value, and the core has the ticks of TB2 (R426); a periodic timer that a step of the clock has carried past
whole periods goes on from the first multiple not passed (R454). -/
def execTimerFire (t : Nat) (c : CoreId) (k : Fin 4) (s : State) : Host.Outcome State Fault Refusal :=
  act t (fun s =>
    let x := nth (tmrs s c) k.val {}
    let cmp := x.sec * 1000000000 + x.ns
    let now := s.time.toNs
    if !x.enable || !ticks s (10 + coreIdx c) 2 || now < cmp then s
    else if x.periodic && 0 < x.period then
      let due := if cmp + x.period ≤ now then cmp + ceilDiv (now - cmp) x.period * x.period else cmp
      if due ≤ now then
        irqEdge c (1 + k.val) (setTmr c k.val (fun x => { (x.at_ (due + x.period)) with fired := true }) s)
      else setTmr c k.val (fun x => x.at_ due) s
    else irqEdge c (1 + k.val) (setTmr c k.val (fun x => { x with fired := true, enable := false }) s)) s

/-- TMR_CTRL_WRITE: ENABLE, PERIODIC and a 1 written to FIRED, with the compare value and the period (Table 17.5). -/
def execTmrCtrlWrite (t : Nat) (c : CoreId) (k : Fin 4) (ctrl : Nat) (sec ns period : Nat) (s : State) :
    Host.Outcome State Fault Refusal :=
  act t (fun s =>
    setTmr c k.val (fun x =>
      { x with sec := sec % 2 ^ 48, ns := ns % 2 ^ 30, period := period % 2 ^ 32, enable := bitOf ctrl 0, periodic := bitOf ctrl 1
               fired := x.fired && !bitOf ctrl 2 }) s) s

/-- TNOW_READ. -/
def execTnowRead (t : Nat) (s : State) : Host.Outcome State Fault Refusal :=
  act t (fun s =>
    send (.service .purser s.clk.ns)
      { s with mg := { s.mg with tnowSec := s.clk.sec, tnowValid := s.clk.valid, tnowNs := s.clk.ns } }) s

/-! ## Log (R455, R466) -/

/-- LOG_APPEND: a customer entry. -/
def execLogAppend (t : Nat) (code : Byte) (ctx : List Byte) (s : State) : Host.Outcome State Fault Refusal :=
  act t (fun s => if blockOn s 11 then logAdd (0x200 + code.toNat) 255 false ctx s else s) s

/-- LOG_WRITE: the oldest entry of the queue goes to the ring and, of class HOLD or DARK, to the pinned log. -/
def execLogWrite (t : Nat) (s : State) : Host.Outcome State Fault Refusal :=
  act t (fun s =>
    match s.mg.logQueue with
    | [] => s
    | e :: rest =>
      if !blockPowered s 12 then s
      else
        let e := { e with seq := s.nv.logSeq.toNat }
        let pin := e.cls = 3 || e.cls = 4
        let room := decide (s.nv.pinned.length < 256)
        let s := { s with
          mg := { s.mg with logQueue := rest }
          nv := { s.nv with ring := (e :: s.nv.ring).take 8192, logSeq := s.nv.logSeq + 1
                            pinned := if pin && room then s.nv.pinned ++ [e] else s.nv.pinned
                            pinOvf := s.nv.pinOvf || (pin && !room) } }
        if pin && !room then setCause 0xCA true [] s else s) s

/-- The handler of log.pin_clear. -/
def pinClearH (_ : List Byte) (s : State) : Nat × State :=
  (0, setCause 0xCA false [] { s with nv := { s.nv with pinned := [], pinOvf := false } })

/-- PIN_CLEAR. -/
def execPinClear (t : Nat) (p : Path) (v : Nat) (s : State) : Host.Outcome State Fault Refusal :=
  objWrite t p 0x2F10 8 (leBytes 1 v) pinClearH s

/-! ## Watchdog of the Purser core (R446) and access faults (R439, R444, R447, R448) -/

/-- PURSER_WATCHDOG_SERVICE. -/
def execPurserWatchdogService (t : Nat) (s : State) : Host.Outcome State Fault Refusal :=
  act t (fun s => { s with mg := { s.mg with purserWd := s.now, wdWarned := s.mg.wdWarned % 2 } }) s

/-- The Purser core's watchdog has been running for a time (R446): its firmware runs, and no service has come (log 176). -/
def purserLate (s : State) (ps : Nat) : Bool := running s && !s.mg.haltMgmt && spanOver s s.mg.purserWd ps

/-- WATCHDOG_WARNING: edge source 5 of the core, 20 ms before its watchdog expires (Table 17.4), once for each service
missed. -/
def execWatchdogWarning (t : Nat) (c : CoreId) (s : State) : Host.Outcome State Fault Refusal :=
  act t (fun s =>
    let b := coreIdx c
    if !running s || s.mg.haltMgmt || (c = .purser && !purserLate s 80000000000) then s
    else irqEdge c 5 { s with mg := { s.mg with wdWarned := if bitOf s.mg.wdWarned b then s.mg.wdWarned else s.mg.wdWarned + 2 ^ b } }) s

/-- The customer image is stopped: what it claimed is completed (R448). -/
def stopCustomer (s : State) : State :=
  if s.mg.custState = 2 then
    let q := s.mg.custClaims.foldl Irq.complete s.mg.irqP
    { s with mg := { s.mg with irqP := q, custState := 3, custClaims := [], custAttach := [], custYield := false } }
  else s

/-- An update fails (R470). -/
def updFail (reason : Nat) (s : State) : State :=
  raiseSrc 0xC6 (leBytes 1 reason) { s with mg := { s.mg with updState := 4, updReason := reason } }

/-- PURSER_WATCHDOG_EXPIRY: 100 ms without a service (R446, Table 17.12). -/
def execPurserWatchdogExpiry (t : Nat) (s : State) : Host.Outcome State Fault Refusal :=
  act t (fun s =>
    if !purserLate s 100000000000 then s
    else
    let s := stopCustomer (raiseSrc 0xC2 [] s)
    let s := linePurser 46 false { s with
      mg := { s.mg with purserRestarts := s.mg.purserRestarts + 1, purserWd := s.now, wdWarned := s.mg.wdWarned % 2, mbx := none
                        srCopy := srNow s, srSeqRead := s.srSeq }
      dict := { s.dict with xferCan := none, xferFerry := none, canQueue := [] } }
    if s.mg.updState = 1 || s.mg.updState = 2 || s.mg.updState = 3 then updFail 7 s else s) s

/-- A trap of the customer image: the firmware stops it (R448). -/
def customerTrap (addr : Nat) (isWrite : Bool) (s : State) : State :=
  let s := accessFault .purser addr isWrite (stopCustomer s)
  raiseSrc 0xC7 (leBytes 4 addr) { s with mg := { s.mg with custTraps := s.mg.custTraps + 1 } }

/-- CUSTOMER_TRAP (R448). -/
def execCustomerTrap (t : Nat) (addr : Nat) (s : State) : Host.Outcome State Fault Refusal :=
  act t (fun s => if s.mg.custState = 2 then customerTrap addr false s else s) s

/-! ## Customer services (R449) -/

/-- A service returns a result to the customer image, which must be running. -/
def service (f : State → Nat × State) (s : State) : State :=
  if s.mg.custState = 2 then
    let (r, s) := f s
    send (.service .purser r) { s with mg := { s.mg with svcResult := r } }
  else s

/-- VERSION. -/
def execVersion (t : Nat) (s : State) : Host.Outcome State Fault Refusal := act t (service (fun s => (s.mg.fwVersion, s))) s

/-- ATTACH. -/
def execAttach (t : Nat) (src : Fin 256) (addr : Nat) (s : State) : Host.Outcome State Fault Refusal :=
  act t (service (fun s =>
    if customerSource src.val then (0, { s with mg := { s.mg with custAttach := aput s.mg.custAttach src.val addr } }) else (1, s))) s

/-- YIELD. -/
def execYield (t : Nat) (s : State) : Host.Outcome State Fault Refusal :=
  act t (fun s => if s.mg.custState = 2 then yieldBack { s with mg := { s.mg with custYield := true } } else s) s

/-- Customer data waits to be written. -/
def custSaving (s : State) : Bool :=
  jrnlHas (fun j => match j with | .custData _ => true | _ => false) s

/-- SAVE: up to 16 KiB go to the journal; 1 while an earlier save has not ended (R449). -/
def execSave (t : Nat) (data : List Byte) (s : State) : Host.Outcome State Fault Refusal :=
  act t (service (fun s => if custSaving s || 16384 < data.length then (1, s) else (0, jrnlAsk (.custData data) s))) s

/-- SR_SNAP: the region is frozen and the sequence of the copy returned (R457). -/
def execSrSnap (t : Nat) (s : State) : Host.Outcome State Fault Refusal :=
  act t (fun s =>
    if blockOn s 11 then
      send (.service .purser (s.srSeq + 2147483648)) { s with mg := { s.mg with srCopy := srNow s, srSeqRead := s.srSeq } }
    else s) s

/-! ## CRC units (R458 to R460) -/

/-- A write that the Purser core may not make: dropped, with an access fault (R460). -/
def unitFault (u : Nat) (off : Nat) (s : State) : State := accessFault .purser (0x40002000 + 64 * u + off) true s

/-- A write of PRESET 1 to 3 loads the parameters of a unit (R458). -/
def unitPreset (u n : Nat) (s : State) : State :=
  let set := fun (p : CrcParams) => modUnit u (fun x =>
    { x with poly := p.poly, init := p.init, xorout := p.xorout
             ctrl := x.ctrl / 256 * 256 + p.width + 64 * b2n p.refin + 128 * b2n p.refout }) s
  match n with
  | 1 => set crcIeee | 2 => set crcHdr | 3 => set crcCast | _ => s

/-- CRC_START: CTRL written with START, after POLY, INIT and XOROUT; a PRESET in the same write is loaded first. -/
def execCrcStart (t : Nat) (u : Fin 8) (ctrl poly init xorout : Nat) (s : State) : Host.Outcome State Fault Refusal :=
  act t (fun s =>
    if !blockOn s 11 then s
    else if unitNamed s u.val then unitFault u.val 0 s
    else
      let s := modUnit u.val (fun x => { x with ctrl := ctrl % 2 ^ 28, poly := poly % 2 ^ 32, init := init % 2 ^ 32
                                                xorout := xorout % 2 ^ 32 }) s
      let s := unitPreset u.val (bitsOf ctrl 27 24) s
      let p := unitParams s u.val
      modUnit u.val (fun x => { x with started := true, value := crcStart p }) s) s

/-- CRC_FINISH. -/
def execCrcFinish (t : Nat) (u : Fin 8) (s : State) : Host.Outcome State Fault Refusal :=
  act t (fun s => if !blockOn s 11 then s else if unitNamed s u.val then unitFault u.val 0 s else unitFinish u.val s) s

/-- CRC_PRESET: presets 1 to 3 (R458). -/
def execCrcPreset (t : Nat) (u : Fin 8) (n : Nat) (s : State) : Host.Outcome State Fault Refusal :=
  act t (fun s =>
    if !blockOn s 11 then s
    else if unitNamed s u.val then unitFault u.val 0 s
    else unitPreset u.val n (modUnit u.val (fun x => { x with ctrl := x.ctrl % 2 ^ 24 + 2 ^ 24 * (n % 16) }) s)) s

/-- CRC_DATA: VALUE written, where it is, then DATA (R458). A write of DATA feeds a unit whose source is
WRITES between START and FINISH (R459). -/
def execCrcData (t : Nat) (u : Fin 8) (value : Option Nat) (data : List Byte) (s : State) : Host.Outcome State Fault Refusal :=
  act t (fun s =>
    if !blockOn s 11 then s
    else
      let s := match value with | some v => modUnit u.val (fun x => { x with value := v % 2 ^ 32 }) s | none => s
      let x := nth s.mg.crc u.val {}
      if x.started && !x.taken && bitsOf x.ctrl 11 8 = 0 then unitFeed u.val data s else s) s

/-- RINFO_READ: RESULT and its sequence are latched (R460). -/
def execRinfoRead (t : Nat) (u : Fin 8) (s : State) : Host.Outcome State Fault Refusal :=
  act t (fun s =>
    if !blockOn s 11 then s
    else
      let x := nth s.mg.crc u.val {}
      let s := modUnit u.val (fun x => { x with latched := x.result, latchedSeq := x.rseq }) s
      send (.service .purser (x.rseq + 65536 * b2n x.started + 131072 * b2n (Config.crcActive s.free))) s.tickFree) s

/-! ## The address map of the Purser core (R447) -/

/-- A region of Table 17.1: its address and size, and whether the firmware may read and write it and the customer context may. -/
structure MapRegion where
  base : Nat
  size : Nat
  fwRead : Bool
  fwWrite : Bool
  custRead : Bool
  custWrite : Bool
deriving DecidableEq, Repr

/-- Table 17.1; what the customer context may reach of a region in part is in `customerPart`. -/
def regions : List MapRegion :=
  [⟨0x00000000, 0x10000, true, false, false, false⟩, ⟨0x10000000, 0x1000000, true, false, true, false⟩,
   ⟨0x20000000, 0x40000, true, true, false, false⟩, ⟨0x20040000, 0x80000, true, true, true, true⟩,
   ⟨0x28000000, 0x40000, true, true, false, false⟩, ⟨0x40000000, 0x1000, true, true, true, true⟩,
   ⟨0x40001000, 0x1000, true, true, true, true⟩, ⟨0x40002000, 0x1000, true, true, true, true⟩,
   ⟨0x40003000, 0x1000, true, true, true, true⟩, ⟨0x40004000, 0x1000, true, true, true, true⟩,
   ⟨0x40005000, 0x1000, false, true, false, true⟩, ⟨0x40006000, 0x1000, false, true, false, false⟩,
   ⟨0x40010000, 0x10000, true, false, true, false⟩, ⟨0x50000000, 0x1000000, true, true, false, false⟩]

/-- The part of a region that the customer context reaches (Table 17.1): of the MRAM window the customer area; of the interrupt
controller the registers of the customer sources, with CLAIM and COMPLETE (DEDUCED from R448, log 205); timers 2 and 3, and the
time unit for reading; the CRC units that no window names. -/
def customerPart (s : State) (addr : Nat) (isWrite : Bool) : Bool :=
  let o := addr % 0x1000
  match addr / 0x1000 with
  | 0x40000 =>
    if o < 0x100 then customerSource o
    else if 0x200 ≤ o && o < 0x600 then customerSource ((o - 0x200) / 4)
    else decide (0x100 ≤ o) && decide (o < 0x16C) && !(decide (0x160 ≤ o) && decide (o < 0x164))
  | 0x40001 => (decide (0x40 ≤ o) && decide (o < 0x80)) || (decide (0x80 ≤ o) && decide (o < 0x8C) && !isWrite)
  | 0x40002 => !unitNamed s (o / 64)
  | p => if p / 0x1000 = 0x10 then decide (0x10C40000 ≤ addr) && decide (addr < 0x10D40000) else true

/-- The Purser core may make an access in a context (R447). DEDUCED: an access of the firmware outside its column is one to an
address not listed (log 205). -/
def purserMay (s : State) (customer : Bool) (addr : Nat) (isWrite : Bool) : Bool :=
  match regions.find? (fun r => decide (r.base ≤ addr) && decide (addr < r.base + r.size)) with
  | none => false
  | some r =>
    if customer then (if isWrite then r.custWrite else r.custRead) && customerPart s addr isWrite
    else if isWrite then r.fwWrite else r.fwRead

/-- An access of the Purser core outside its map: it reads 0, a write is dropped, and the access fault is raised; the firmware
stops a customer image whose access it was (R447, R448). -/
def accessDenied (customer : Bool) (addr : Nat) (isWrite : Bool) (s : State) : State :=
  let s := readZero .purser isWrite s
  if customer && s.mg.custState = 2 then customerTrap addr isWrite s else accessFault .purser addr isWrite s

/-- A write of PE_AUTOARM: pattern.autoarm of engine e (R456). -/
def autoarmWrite (c : CoreId) (e : Nat) (on : Bool) (s : State) : State :=
  if c ≠ .purser then s
  else if blockOn s 13 then s.setObj (0x2B10 + e) 3 (leBytes 1 (b2n on))
  else coreBusError .purser (0x40004014 + 0x40 * e) true s

/-- CORE_ACCESS_FAULT: what a load or store of a core meets: a block without power or timebase, an uncorrectable word, an address
that the map of the Purser core does not let it reach or one not aligned, or a disagreement of the Helm pair, which blocks the
access; a single-bit error is corrected and counted, a read of the MRAM window feeds the units that snoop it, and a write of
PE_AUTOARM acts as the object (R443 to R445, R447, R456, R459, R461). Of the Helm core no map is given. -/
def execCoreAccessFault (t : Nat) (c : CoreId) (a : AccessTarget) (addr : Nat) (isWrite : Bool) (s : State) :
    Host.Outcome State Fault Refusal :=
  act t (fun s =>
    let s := coreRan c s
    let mram := fun (bs : List Byte) (s : State) => if c = .purser && blockOn s 12 then snoop 4 none bs s else s
    match a with
    | .block b => if blockOn s b.val then s else coreBusError c addr isWrite s
    | .sramSingle => { s with mg := { s.mg with sramCorrected := s.mg.sramCorrected + 1 } }
    | .mramSingle bs => mram bs { s with mg := { s.mg with mramCorrected := s.mg.mramCorrected + 1 } }
    | .misaligned => coreException .misaligned c addr isWrite s
    | .mramRead bs => mram bs s
    | .sram => raiseSrc 0xC3 (leBytes 4 addr) (accessFault c addr isWrite s)
    | .mram => raiseSrc 0xC4 (leBytes 4 addr) (accessFault c addr isWrite s)
    | .mapped cust => if c = .purser && !purserMay s cust addr isWrite then accessDenied cust addr isWrite s else s
    | .lockstep => if c = .helm then raiseSrc 0xC0 [] s else s
    | .autoarm e on => autoarmWrite c e.val on s) s

/-! ## Images (R468 to R470) -/

/-- Reason for which an image fails, 0 for none (R468, R469, Table 17.11; of ENTRY, log 209). -/
def imageReason (s : State) (cust : Bool) (im : List Byte) : Nat :=
  let body := leField im 12 4
  let maxBody := if cust then 1048576 - 16384 - 128 else 3145728 - 128
  let key := if cust then s.nv.keyCust else some Config.voesqueKey
  let counter := if cust then s.nv.rollCust else s.nv.rollFw
  if im.length < 128 || im.length ≠ 128 + body then 1
  else if leField im 0 4 ≠ 0x49424E31 || leField im 4 1 ≠ b2n cust || leField im 6 2 ≠ 128 || body = 0 || maxBody < body || body ≤ leField im 16 4 ||
      !bitOf (leField im 20 1) s.grade || 4 ≤ leField im 20 1 || !((im.drop 21).take 11).all (· == 0) then 2
  else if sha256 (im.drop 128) ≠ (im.drop 32).take 32 then 3
  else match key with
    | none => 6
    | some k => if !ecdsaOk k ((im.drop 64).take 64) (im.take 64) then 4 else if leField im 5 1 < counter then 5 else 0

/-- OPEN_FW and OPEN_CUSTOMER (R470); a PREPARED update path refuses them (R432). -/
def updOpen (cust : Bool) (s : State) : Nat × State :=
  if prepared s .updatePath then (abState, s)
  else if s.mg.updState = 1 || s.mg.updState = 2 || s.mg.updState = 3 then (abState, updFail 7 s)
  else
    let s := if cust then stopCustomer s else s
    let s := { s with mg := { s.mg with updState := 1, updCustomer := cust, updImage := [], updReceived := 0
                                        custState := if cust then 0 else s.mg.custState }
                      nv := if cust then { s.nv with custImage := [], custValid := false }
                        else { s.nv with banks := modNth s.nv.banks (1 - s.nv.bank) (fun _ => []) } }
    (0, s)

/-- VERIFY (R470). -/
def updVerify (s : State) : Nat × State :=
  if s.mg.updState ≠ 1 then (abState, updFail 7 s)
  else
    let r := imageReason s s.mg.updCustomer s.mg.updImage
    (0, if r = 0 then { s with mg := { s.mg with updState := 3 } } else updFail r s)

/-- ACTIVATE (R470). -/
def updActivate (s : State) : Nat × State :=
  if s.mg.updState ≠ 3 then (abState, updFail 7 s)
  else
    let roll := leField s.mg.updImage 5 1
    let s := { s with mg := { s.mg with updState := 5, custState := if s.mg.updCustomer then 1 else s.mg.custState } }
    (0, if s.mg.updCustomer then jrnlAsk (.cust (max s.nv.rollCust roll)) s
      else jrnlAsk (.bank (1 - s.nv.bank) (max s.nv.rollFw roll)) s)

/-- ABORT: to IDLE from any state before ACTIVATE (R470). -/
def updAbort (s : State) : Nat × State :=
  if s.mg.updState = 5 then (abState, updFail 7 s)
  else (0, { s with mg := { s.mg with updState := 0, updImage := [], updReceived := 0 } })

/-- REBOOT: as after RSTN; refused in LIT (R470). -/
def updReboot (s : State) : Nat × State :=
  if s.pw.dev = .lit then (abState, s)
  else (0, startBoot s.saf.testen s.saf.lenA s.saf.lenB s.saf.discFb s)

/-- The handler of update.control. -/
def updateH (data : List Byte) (s : State) : Nat × State :=
  match leNat data with
  | 1 => updOpen false s
  | 2 => updOpen true s
  | 3 => updVerify s
  | 4 => updActivate s
  | 5 => updAbort s
  | 6 => updReboot s
  | _ => (abRange, s)

/-- OPEN_FW. -/
def execOpenFw (t : Nat) (p : Path) (s : State) : Host.Outcome State Fault Refusal := objWrite t p 0x2F20 1 [1] updateH s

/-- OPEN_CUSTOMER. -/
def execOpenCustomer (t : Nat) (p : Path) (s : State) : Host.Outcome State Fault Refusal := objWrite t p 0x2F20 1 [2] updateH s

/-- VERIFY. -/
def execVerify (t : Nat) (p : Path) (s : State) : Host.Outcome State Fault Refusal := objWrite t p 0x2F20 1 [3] updateH s

/-- ACTIVATE. -/
def execActivate (t : Nat) (p : Path) (s : State) : Host.Outcome State Fault Refusal := objWrite t p 0x2F20 1 [4] updateH s

/-- ABORT_UPDATE. -/
def execAbortUpdate (t : Nat) (p : Path) (s : State) : Host.Outcome State Fault Refusal := objWrite t p 0x2F20 1 [5] updateH s

/-- REBOOT. -/
def execReboot (t : Nat) (p : Path) (s : State) : Host.Outcome State Fault Refusal := objWrite t p 0x2F20 1 [6] updateH s

/-- The handler of update.image: the bytes are appended (R470). -/
def imageH (data : List Byte) (s : State) : Nat × State :=
  if s.mg.updState ≠ 1 then (abState, updFail 7 s)
  else
    let im := s.mg.updImage ++ data
    if 128 ≤ im.length && 128 + leField im 12 4 < im.length then (abState, updFail 1 s)
    else
      (0, { s with mg := { s.mg with updImage := im, updReceived := im.length % 2 ^ 32 }
                   nv := if s.mg.updCustomer then { s.nv with custImage := im }
                     else { s.nv with banks := modNth s.nv.banks (1 - s.nv.bank) (fun _ => im) } })

/-- UPDATE_IMAGE_WRITE. -/
def execUpdateImageWrite (t : Nat) (p : Path) (data : List Byte) (s : State) : Host.Outcome State Fault Refusal :=
  objWrite t p 0x2F20 2 data (fedH imageH) s

/-- A key slot is held, or is being written. -/
def slotHeld (s : State) (n : Nat) : Bool :=
  (if n = 1 then s.nv.keyCust.isSome else s.nv.keyPst.isSome) ||
    jrnlHas (fun j => match j with | .key m _ => m == n | _ => false) s

/-- The handler of key slot n (R471). -/
def keyH (n : Nat) (data : List Byte) (s : State) : Nat × State :=
  if slotHeld s n then (abState, s) else (0, jrnlAsk (.key n data) s)

/-- KEY_WRITE. -/
def execKeyWrite (t : Nat) (p : Path) (slot : Fin 2) (data : List Byte) (s : State) : Host.Outcome State Fault Refusal :=
  objWrite t p 0x2F38 (slot.val + 1) data (fedH (keyH (slot.val + 1))) s

/-! ## Protected store: commit (R465) -/

/-- The manifest of a copy. -/
def manifest (c : Prot) : List Byte :=
  ([c.map, c.layer] ++ c.limp).flatMap (fun r => leBytes 4 r.length ++ r)

/-- The handler of pstore.commit. -/
def pstoreCommitH (_ : List Byte) (s : State) : Nat × State :=
  if !s.mg.psStaged || s.mg.psVerifying || copying s || prepared s .updatePath then (abState, s)
  else (0, { s with mg := { s.mg with psVerifying := true }, comp := { s.comp with protState := 1 } })

/-- PSTORE_COMMIT. -/
def execPstoreCommit (t : Nat) (p : Path) (v : Nat) (s : State) : Host.Outcome State Fault Refusal :=
  objWrite t p 0x2F30 2 (leBytes 1 v) pstoreCommitH s

/-- Staging is discarded (R465); the newest record is at FAULT (DEDUCED, log 167). -/
def pstoreFail (result : Nat) (s : State) : State :=
  raiseSrc 0xC6 (leBytes 1 result) { s with
    mg := { s.mg with psStaged := false, psVerifying := false, psResult := result }
    comp := { s.comp with protState := 4 } }

/-- PSTORE_VERIFY_DONE (R465): the signature over the manifest of staging is checked, and staging becomes the copy in
force through the journal. -/
def execPstoreVerifyDone (t : Nat) (s : State) : Host.Outcome State Fault Refusal :=
  act t (fun s =>
    if !s.mg.psVerifying then s
    else
      match s.nv.keyPst with
      | none => pstoreFail 3 s
      | some k =>
        if ecdsaOk k s.mg.psSig (manifest (nth s.nv.copies (1 - s.nv.copy) {})) then
          jrnlAsk (.copy (1 - s.nv.copy)) { s with mg := { s.mg with psStaged := false, psVerifying := false } }
        else pstoreFail 2 s) s

/-! ## Boot (R467) -/

/-- Every object takes its saved value or its default (R494). -/
def loadObjs (s : State) : State :=
  s.nv.saved.foldl (fun s kv => s.setObj (kv.1 / 256) (kv.1 % 256) kv.2) { s with objs := [] }

/-- The bit rates come into force at a boot (R475). -/
def canRates (s : State) : State :=
  { s with can := { s.can with arbRate := s.objN 0x1010 3, dataRate := s.objN 0x1010 4 } }

/-- BOOT_START: the boot record is read and the journal resolved, after which the objects take their values (R463, R467,
R494); a source that it raises takes its class from the values saved before. -/
def execBootStart (t : Nat) (s : State) : Host.Outcome State Fault Refusal :=
  act t (fun s =>
    if s.pw.dev = .boot then
      let s := canRates (loadObjs (jrnlResolve (loadObjs s)))
      { s with mg := { s.mg with bankTried := false, bootRom := false } }
    else s) s

/-- The record in force goes into the bank in force of the Square, the map and the static-limp bits into force (R23, R65,
R203). -/
def loadProt (s : State) : State :=
  let c := nth s.nv.copies s.nv.copy {}
  copySl { s with
    comp := { s.comp with bankRec := c.layer, bankPoison := [], idleRec := none, footRec := c.layer
                          protState := if s.nv.psBad then 4 else if c.layer.isEmpty then 0 else 3 }
    arr := { s.arr with map := c.map, mapNew := false } }

/-- The customer image is verified and entered (step 5 of Table 17.10). -/
def startCustomer (s : State) : State :=
  if !s.nv.custValid then { s with mg := { s.mg with custState := 0 } }
  else if !s.objB 0x2F00 6 then { s with mg := { s.mg with custState := 1 } }
  else
    let r := imageReason s true s.nv.custImage
    if r = 0 then { s with mg := { s.mg with custState := 2 } }
    else raiseSrc 0xC6 (leBytes 1 r) { s with mg := { s.mg with custState := 4 } }

/-- A temperature source becomes valid: its samples discarded, its cold-start margin begins (R323, R329). -/
def sensorValid (ntc : Bool) (s : State) : State :=
  if ntc then { s with th := { s.th with ntc := [], validAt := modNth s.th.validAt 1 (fun _ => some s.now) } }
  else { s with th := { s.th with diode := [], arrS := [], arrHist := [], validAt := modNth s.th.validAt 0 (fun _ => some s.now) } }

/-- The sources become valid at boot and on each entry to READY (R329). -/
def sensorsValid (s : State) : State :=
  let s := sensorValid true (sensorValid false s)
  { s with th := { s.th with ctl := [], validAt := modNth s.th.validAt 2 (fun _ => some s.now) } }

/-- The image is verified and the cores start: the copy in force is loaded and judged, the sensors become valid, the customer
image is verified, and the Purser core finds the state of the safety registers (R273, R329, R457, R465, R467). -/
def coresStart (version : Nat) (chk : BootCheck) (s : State) : State :=
  let s := { s with
    nv := { s.nv with psBad := !chk.psOk, factoryBad := chk.districts }
    mg := { s.mg with fwVersion := version % 2 ^ 32, purserWd := s.now, wdWarned := 0, haltMgmt := false, haltUnit := none, restarting := false }
    saf := { s.saf with helmMissed := none } }
  let s := sensorsValid (loadProt s)
  let s := setCause 0x54 (!s.nv.factoryBad.isEmpty) [] { s with diag := { s.diag with baseBad := s.nv.factoryBad } }
  let s := setCause 0xC5 s.nv.psBad [] (polCauses s)
  let s := measFirst (startCustomer (limpCauses s))
  { s with mg := { s.mg with srCopy := srNow s, srSeqRead := s.srSeq } }

/-- The Helm firmware runs: BOOT ends, QUIET is entered or passed (Table 16.4, Table 17.10). -/
def bootDone (version : Nat) (chk : BootCheck) (s : State) : State :=
  let cont := s.pw.rebooting || s.objN 0x2E00 4 = 3
  let s := { s with
    pw := { s.pw with dev := .quiet, seq := .idle, rebooting := false, exitFrom := if s.pw.rebooting then s.pw.exitFrom else s.now } }
  let s := coresStart version chk (if nth s.pw.doms 4 0 = 0 then setDom 1 s 4 else s)
  if cont then beginReady s else s

/-- The other bank becomes the bank in force through the journal (R467). -/
def otherBank (s : State) : State := raiseSrc 0xC6 [] (jrnlAsk (.bank (1 - s.nv.bank) s.nv.rollFw) s)

/-- Neither bank verifies: the boot ROM answers, DISC_EN is low (R467). -/
def romStays (s : State) : State := dropDisc { s with mg := { s.mg with bootRom := true } }

/-- IMAGE_VERIFY_DONE: the bank in force, or the other one, has been verified (R467); `chk`: what the checks of the stored data
at the boot have found (R273, R465). -/
def execImageVerifyDone (t : Nat) (ok : Bool) (version : Nat) (vccOk : Bool) (chk : BootCheck) (s : State) : Host.Outcome State Fault Refusal :=
  act t (fun s =>
    if !(s.pw.dev = .boot || s.mg.restarting) || s.mg.bootRom then s
    else
      let s := noteVcc vccOk s
      if ok then
        let s' := if s.mg.bankTried then otherBank { s with mg := { s.mg with haltMgmt := false } } else s
        if s.pw.dev = .boot then bootDone version chk s' else coresStart version chk s'
      else if !s.mg.bankTried && s.nv.rollFw ≤ leField (nth s.nv.banks (1 - s.nv.bank) []) 5 1 then
        { s with mg := { s.mg with bankTried := true } }
      else romStays s) s

end Sys2Proof.Machine
end

