-- ==== Sys2Proof/Machine/Can.lean ====
section
/-!
DEFINITION. The CAN FD controller, node numbers, events, sessions and saved values (chapter 18).
-/

namespace Sys2Proof.Machine

/-! ## Node numbers and the identity service (R479 to R482) -/

/-- A frame of the identity service from the host with an operation, to an engine whose dictionary server or boot ROM runs
(R467, R481). -/
def identFrame (s : State) (f : CanFrame) (op : Nat) : Bool :=
  canHears s f && served s 0x1000 && f.fd && canFunc f == 6 && decide (f.data.length = 16) && canField f 0 1 == op

/-- The IDENT reply (Table 18.3). -/
def identMsg (s : State) : List Byte :=
  [0x82] ++ leBytes 1 s.grade ++ leBytes 1 s.fy.address ++
  leBytes 1 (b2n (s.objN 0x1010 1 ≠ 0) + 2 * b2n s.can.collision) ++ leBytes 4 s.mg.fwVersion ++ leBytes 8 s.uid

/-- IDENT under the node number in force. -/
def sendIdent (s : State) : State := canSend (6 * 128 + nodeOf s) true (identMsg s) s

/-- The UID lies in the range of an IDENTIFY_RANGE (Table 18.3). -/
def inRange (s : State) (f : CanFrame) : Bool :=
  let plen := canField f 2 1
  plen == 0 || (decide (plen ≤ 64) && decide (canField f 8 8 ≤ s.uid) && decide (s.uid < canField f 8 8 + 2 ^ (64 - plen)))

/-- IDENTIFY_RANGE. -/
def execIdentifyRange (t : Nat) (f : CanFrame) (s : State) : Host.Outcome State Fault Refusal :=
  act t (fun s =>
    if identFrame s f 1 && canNode f == 0 then
      let s := rxCount s
      if inRange s f && !(bitOf (canField f 1 1) 0 && nodeOf s ≠ 0) then
        canSend (6 * 128) true (padTo 16 [0x81]) s
      else s
    else s) s

/-- ASSIGN. -/
def execAssign (t : Nat) (f : CanFrame) (s : State) : Host.Outcome State Fault Refusal :=
  act t (fun s =>
    if identFrame s f 2 && canNode f == 0 then
      let s := rxCount s
      let n := canField f 1 1
      if canField f 8 8 = s.uid && n ≤ 127 then
        let s := { s with can := { s.can with assigned := n } }
        if n = 0 then s else sendIdent s
      else s
    else s) s

/-- QUERY. -/
def execQuery (t : Nat) (f : CanFrame) (s : State) : Host.Outcome State Fault Refusal :=
  act t (fun s =>
    if identFrame s f 3 && (canNode f == 0 || canNode f == nodeOf s) then
      let s := rxCount s
      if nodeOf s ≠ 0 then sendIdent s else s
    else s) s

/-- NODE_COLLISION (R482). -/
def execNodeCollision (t : Nat) (s : State) : Host.Outcome State Fault Refusal :=
  act t (fun s =>
    if nodeOf s ≠ 0 && canListens s then
      setCause 0xD1 true (leBytes 1 (nodeOf s))
        { s with can := { s.can with collision := true, collisionAt := s.now, collisions := s.can.collisions + 1 } }
    else s) s

/-- COLLISION_CLEAR: 2 s without a collision (R482; log 176). -/
def execCollisionClear (t : Nat) (s : State) : Host.Outcome State Fault Refusal :=
  act t (fun s =>
    if s.can.collision && spanOver s s.can.collisionAt 2000000000000 then
      setCause 0xD1 false [] { s with can := { s.can with collision := false } }
    else s) s

/-! ## Controller states (R476 to R478) -/

/-- BUS_OFF: a controller that takes part in the bus stops. -/
def execBusOff (t : Nat) (s : State) : Host.Outcome State Fault Refusal :=
  act t (fun s =>
    if !canListens s then s
    else
      setCause 0xD0 true [] (closeSess .can { s with
        can := { s.can with busOff := true, busOffs := s.can.busOffs + 1, tecErr := 255 }
        dict := { s.dict with xferCan := none } })) s

/-- BUS_OFF_RECOVERY: 128 times 11 recessive bits. -/
def execBusOffRecovery (t : Nat) (s : State) : Host.Outcome State Fault Refusal :=
  act t (fun s =>
    if s.can.busOff then setCause 0xD0 false [] { s with can := { s.can with busOff := false, tecErr := 0, recErr := 0 } } else s) s

/-- CAN_JOIN: 11 recessive bits with TB6 from TB0 or a QUALIFIED keeper (R476). -/
def execCanJoin (t : Nat) (s : State) : Host.Outcome State Fault Refusal :=
  act t (fun s =>
    if vcanOk s && clockOn s && ticks s 9 6 && (nth s.tb.src 6 2 = 0 || s.tb.keeper = .qualified) then { s with can := { s.can with joined := true } } else s) s

/-- HEARTBEAT_MESSAGE: each comm.heartbeat_period (R504; log 176). -/
def execHeartbeatMessage (t : Nat) (s : State) : Host.Outcome State Fault Refusal :=
  act t (fun s =>
    if running s && nodeOf s ≠ 0 && s.objN 0x1010 6 ≠ 0 && canUp s &&
        s.can.hbAt.all (fun a => spanOver s a (s.objN 0x1010 6 * 1000000000)) then
      let flags := b2n s.clk.valid + 2 * b2n s.can.collision + 4 * b2n (s.fy.address = 63) +
        8 * b2n (s.dict.sesCan.isOpen || s.dict.sesFerry.isOpen)
      let d := leBytes 1 s.pw.dev.code ++ leBytes 1 s.saf.state.code ++ leBytes 1 flags ++ leBytes 1 s.fy.address ++
        leBytes 2 s.dict.eventSeq.toNat ++ leBytes 1 s.can.hbCount ++ [0]
      canSend (7 * 128 + nodeOf s) false d { s with can := { s.can with hbCount := (s.can.hbCount + 1) % 256, hbAt := some s.now } }
    else s) s

/-! ## Events (R503) -/

/-- EVENT_MODERATION: the hold-off of a moderated code ends (log 176). -/
def execEventModeration (t : Nat) (p : Path) (code : Nat) (s : State) : Host.Outcome State Fault Refusal :=
  act t (fun s =>
    let e := evPath s p
    match e.acc.find? (fun a => a.code == code && spanOver s a.since (modWord s code / 256 % 65536 * 1000000)) with
    | some a => sendEvent p a (setEvPath p { e with acc := e.acc.filter (fun a => a.code ≠ code) } s)
    | none => s) s

/-- Bitmap of 36 bytes over event codes 0x000 to 0x11F (Table 18.10). -/
def codeMap (codes : List Nat) : List Byte :=
  (upTo 36).map (fun i => BitVec.ofNat 8 ((upTo 8).foldl (fun a b => if codes.contains (8 * i + b) then a + 2 ^ b else a) 0))

/-- SUMMARY: one message replaces the events held (R503). -/
def execSummary (t : Nat) (p : Path) (s : State) : Host.Outcome State Fault Refusal :=
  act t (fun s =>
    let e := evPath s p
    if e.codes.isEmpty || !evReady s p then s
    else
      let n := s.dict.eventSeq + 1
      let a : EvAcc := { code := 0x100, num := 1, eseq := n.toNat, cls := 255, time := s.time, since := s.now, first := n.toNat
                         ctx := leBytes 2 e.first ++ leBytes 2 e.last ++ codeMap e.codes }
      sendEvent p a (setEvPath p { e with codes := [], first := 0, last := 0 }
        { s with dict := { s.dict with eventSeq := n, summaries := s.dict.summaries + 1 } })) s

/-! ## Saved values (R494) -/

/-- Every persist object, by index and subindex. -/
def persistObjs : List (Nat × Nat) :=
  [0x10, 0x20, 0x21, 0x22, 0x23, 0x24, 0x25, 0x26, 0x27, 0x28, 0x29, 0x2A, 0x2B, 0x2C, 0x2D, 0x2E, 0x2F, 0x30].flatMap (fun pg =>
    (objPage (256 * pg)).flatMap (fun r => if r.persist then (upTo (r.hi + 1 - r.lo)).map (fun i => (r.lo + i, r.sub)) else []))

/-- The handler of comm.save: one transaction for each persist object. -/
def saveH (_ : List Byte) (s : State) : Nat × State :=
  if s.pw.seq ≠ .idle then (abState, s)
  else (0, persistObjs.foldl (fun a k => jrnlAsk (.saved (okey k.1 k.2) (s.obj k.1 k.2)) a) s)

/-- COMM_SAVE. -/
def execCommSave (t : Nat) (p : Path) (v : Nat) (s : State) : Host.Outcome State Fault Refusal :=
  objWrite t p 0x1013 1 (leBytes 1 v) saveH s

/-- The handler of comm.restore. -/
def restoreH (_ : List Byte) (s : State) : Nat × State :=
  if s.pw.seq ≠ .idle then (abState, s) else (0, jrnlAsk .restore s)

/-- COMM_RESTORE. -/
def execCommRestore (t : Nat) (p : Path) (v : Nat) (s : State) : Host.Outcome State Fault Refusal :=
  objWrite t p 0x1013 2 (leBytes 1 v) restoreH s

/-! ## Sessions (R497 to R500) -/

/-- The path's lockout runs. -/
def lockedOut (s : State) (p : Path) : Bool := (sess s p).lockUntil.isSome

/-- A read of session.challenge: 16 new random bytes (R498); LOCKOUT during a lockout (R500). -/
def challengeRead (p : Path) (s : State) : Nat × State :=
  if lockedOut s p then (abLockout, s)
  else
    let c := (upTo 16).map (fun i => Config.randomByte (16 * s.free + i))
    (0, (setSess p { sess s p with challenge := some (c, s.now) } s).tickFree)

/-- SESSION_CHALLENGE. -/
def execSessionChallenge (t : Nat) (p : Path) (s : State) : Host.Outcome State Fault Refusal :=
  act t (fun s => if served s 0x1020 then answered (challengeRead p s) else s) s

/-- The response a challenge calls for (R498). -/
def wanted (s : State) (p : Path) (key chal : List Byte) : List Byte :=
  hmac256 key (chal ++ leBytes 8 s.uid ++
    (match p with | .can => [0] ++ leBytes 1 (nodeOf s) | .ferry => [1] ++ leBytes 1 s.fy.address))

/-- A failed response (R500). -/
def respFailed (p : Path) (s : State) : State :=
  let x := sess s p
  let x' : Sess := { x with challenge := none, fails := if x.fails = 2 then 0 else x.fails + 1
                            lockUntil := if x.fails = 2 then some (s.now + 60000000000000) else x.lockUntil }
  raiseSrc 0xD2 [] (setSess p x' { s with dict := { s.dict with failures := s.dict.failures + 1 } })

/-- The handler of session.response on a path. -/
def responseH (p : Path) (data : List Byte) (s : State) : Nat × State :=
  match s.nv.sessKey with
  | none => (abState, s)
  | some key =>
    match (sess s p).challenge with
    | some (c, at_) =>
      if s.now ≤ at_ + 10000000000000 && data = wanted s p key c then
        (0, setSess p { sess s p with isOpen := true, lastWrite := s.now, challenge := none, fails := 0 }
          { s with mg := { s.mg with psStaged := false } })
      else (0, respFailed p s)
    | none => (0, respFailed p s)

/-- SESSION_RESPONSE. -/
def execSessionResponse (t : Nat) (p : Path) (data : List Byte) (s : State) : Host.Outcome State Fault Refusal :=
  objWrite t p 0x1020 2 data (fedH (responseH p)) s

/-- The handler of session.close. -/
def sessionCloseH (p : Path) (_ : List Byte) (s : State) : Nat × State := (0, closeSess p s)

/-- SESSION_CLOSE. -/
def execSessionClose (t : Nat) (p : Path) (v : Nat) (s : State) : Host.Outcome State Fault Refusal :=
  objWrite t p 0x1020 3 (leBytes 1 v) (sessionCloseH p) s

/-- A session key is held, or is being written. -/
def sessKeyHeld (s : State) : Bool :=
  s.nv.sessKey.isSome || jrnlHas (fun j => match j with | .sessKey _ => true | _ => false) s

/-- The handler of session.key (R497). -/
def sessionKeyH (data : List Byte) (s : State) : Nat × State :=
  if sessKeyHeld s || s.saf.lenA || s.saf.lenB then (abState, s) else (0, jrnlAsk (.sessKey data) s)

/-- SESSION_KEY. -/
def execSessionKey (t : Nat) (p : Path) (data : List Byte) (s : State) : Host.Outcome State Fault Refusal :=
  objWrite t p 0x1020 6 data (fedH sessionKeyH) s

/-- SESSION_TIMEOUT (R499). -/
def execSessionTimeout (t : Nat) (p : Path) (s : State) : Host.Outcome State Fault Refusal :=
  act t (fun s =>
    if sessOpen s p && decide ((sess s p).lastWrite + s.objN 0x1020 5 * 1000000000000 ≤ s.now) then closeSess p s else s) s

/-- LOCKOUT_END: 60 s after the lockout began (R500; log 176). -/
def execLockoutEnd (t : Nat) (p : Path) (s : State) : Host.Outcome State Fault Refusal :=
  act t (fun s =>
    if (sess s p).lockUntil.any (fun a => decide (a ≤ s.now)) then setSess p { sess s p with lockUntil := none } s else s) s

/-! ## State commands (R505) -/

/-- STATE_COMMAND: a write of power.command without an answer. -/
def execStateCommand (t : Nat) (f : CanFrame) (vccOk : Bool) (s : State) : Host.Outcome State Fault Refusal :=
  act t (fun s =>
    if canHears s f && canFunc f == 0 && (canNode f == 0 || canNode f == nodeOf s) && decide (f.data.length = 8) &&
        canField f 0 1 == 1 && (f.data.drop 2).all (· == 0) && served s 0x2E00 then
      let (code, s) := wr .can 0x2E00 1 ((f.data.drop 1).take 1) powerH (noteVcc vccOk (rxCount s))
      if code = 0 then s else event 0x10B 255 (leBytes 4 code) s
    else s) s

end Sys2Proof.Machine
end

