-- ==== Sys2Proof/Machine/Packets.lean ====
section
/-!
DEFINITION. Ferry packets and the ring (chapter 5): headers, consumption, forwarding, hunt, errors and retries, the
CHAIN and TIME packets, and the packets the engine inserts.
-/

namespace Sys2Proof.Machine

/-! ## Header and trailer (R131 to R133) -/

/-- Bits hi to lo of a header. -/
def hdrBits (h : BitVec 64) (hi lo : Nat) : Nat := bitsOf h.toNat hi lo

/-- HCHK is right (R132). -/
def hdrOk (h : BitVec 64) : Bool := crcOf crcHdr (leBytes 6 h.toNat) == hdrBits h 63 48

/-- TYPE of a packet. -/
def kTy (k : Packet) : Nat := hdrBits k.hdr 3 0

/-- ADDR of a packet. -/
def kAddr (k : Packet) : Nat := hdrBits k.hdr 9 4

/-- LEN of a packet. -/
def kLen (k : Packet) : Nat := hdrBits k.hdr 19 10

/-- SEQ of a packet. -/
def kSeq (k : Packet) : Nat := hdrBits k.hdr 35 20

/-- RETRY of a packet. -/
def kRetry (k : Packet) : Bool := hdrBits k.hdr 37 37 == 1

/-- Field of a payload. -/
def kF (k : Packet) (off n : Nat) : Nat := leField k.payload off n

/-- Bytes off to off + n - 1 of a payload are 0. -/
def kZero (k : Packet) (off n : Nat) : Bool := ((k.payload.drop off).take n).all (· == 0)

/-- The CRC of header and payload (R133). -/
def kCrc (k : Packet) : Nat := crcOf crcIeee (leBytes 8 k.hdr.toNat ++ k.payload)

/-- The trailer passes and no byte came errored (R155). -/
def kPass (k : Packet) : Bool := !k.errored && k.trailer.toNat == kCrc k

/-- A failure that came from upstream: the trailer is the complement (R155). -/
def kPassedOn (k : Packet) : Bool := !k.errored && k.trailer.toNat == 4294967295 - kCrc k

/-- Counts a packet that fails (R155). -/
def countFail (k : Packet) (s : State) : State :=
  if kPassedOn k then { s with fy := { s.fy with crcPassed := s.fy.crcPassed + 1 } }
  else { s with fy := { s.fy with crcErrors := s.fy.crcErrors + 1 } }

/-- Sends a packet on (R136, R155). -/
def forwardK (k : Packet) (s : State) : State :=
  sendOn k k.payload (if kPass k then k.trailer else BitVec.ofNat 32 (4294967295 - kCrc k)) (flushIdle s)

/-- Opens an IDLE packet of n units in the output, in place of a packet consumed or as received (R135, R137). -/
def openIdle (n : Nat) (raw : Option Packet) (s : State) : State :=
  let s := flushIdle s
  { s with fy := { s.fy with idle := some (n, raw) } }

/-- Local time of the arrival of a packet's header (R151). -/
def headTime (s : State) (k : Packet) : Time80 :=
  match s.fy.head with | some (h, t, _) => if h = k.hdr then t else s.time | none => s.time

/-- COUNT of the last good marker before a packet's header (R150). -/
def headCount (s : State) (k : Packet) : Option Nat :=
  match s.fy.head with | some (h, _, c) => if h = k.hdr then c else s.lane.count | none => s.lane.count

/-! ## Who takes a packet (Table 5.3, R143) -/

/-- A packet whose header has been received in normal handling. -/
def kHere (s : State) (k : Packet) : Bool :=
  s.lane.st = .fl0 && !s.fy.hunt && hdrOk k.hdr && decide (k.payload.length = 16 * kLen k)

/-- The engine consumes the packet. -/
def consumes (s : State) (k : Packet) : Bool :=
  hdrBits k.hdr 36 36 == 0 && kTy k != 0 &&
  (if s.fy.address = 63 then kAddr k == 63 && (kTy k == 5 || (kTy k == 6 && kF k 0 1 == 1))
   else kAddr k == s.fy.address || kAddr k == 63)

/-- A command of its own takes the packet when it is consumed: SURF, MASK, the four FRAME operations, DICT, TIME, ENUM,
ECHO and STATUS_REQ, PROBE. What is left to the header's own command has no meaning of its own; an OP 0x01 to the engine's
own address is of these, for Table 5.8 sends ENUM to ADDR 63 (DESIGN CHOICE, log 160). -/
def hasRow (k : Packet) : Bool :=
  match kTy k with
  | 1 => true
  | 2 => kF k 0 1 == 1 || kF k 0 1 == 2
  | 3 => decide (1 ≤ kF k 0 1) && decide (kF k 0 1 ≤ 4)
  | 4 => true
  | 5 => true
  | 6 => (kF k 0 1 == 1 && kAddr k == 63) || kF k 0 1 == 3 || kF k 0 1 == 5
  | 7 => true
  | _ => false

/-! ## Answers, NACKs, row errors (R148, R156, R157) -/

/-- A NACK: sent, counted, its SEQ remembered; the first for one SEQ is a first failure, the third raises packet-lasting (R156,
R157, R388). -/
def nack (ty seq cause : Nat) (s : State) : State :=
  let l := if ty = 3 then s.fy.nackFrame else s.fy.nackDict
  let n := min 3 (alook l seq 0 + 1)
  let l' := ((seq, n) :: l.filter (fun p => p.1 ≠ seq)).take 8
  let s := answerPacket 1 ty seq ([0x82, BitVec.ofNat 8 cause] ++ leBytes 2 seq) { s with fy := { s.fy with
    nacksSent := s.fy.nacksSent + 1
    nackFrame := if ty = 3 then l' else s.fy.nackFrame, nackDict := if ty = 3 then s.fy.nackDict else l' } }
  let ctx := leBytes 1 ty ++ leBytes 2 seq
  if n = 1 then transientSrc 0x12 ctx s else if n = 3 && alook l seq 0 < 3 then raiseSrc 0x12 ctx s else s

/-- The stored answer of an executed packet is remembered with its SEQ (R156). -/
def rememberDone (ty seq : Nat) (payload : List Byte) (s : State) : State :=
  if ty = 3 then { s with fy := { s.fy with doneFrame := ((seq, payload) :: s.fy.doneFrame).take 8 } }
  else { s with fy := { s.fy with doneDict := ((seq, payload) :: s.fy.doneDict).take 8 } }

/-- A FRAME ACK with its STATUS and the SEQ of the descriptor concerned (Table 5.6). -/
def frameAck (seq status fseq : Nat) (s : State) : State :=
  let p := [0x81, BitVec.ofNat 8 status] ++ leBytes 2 seq ++ leBytes 4 fseq ++ List.replicate 8 0
  answerPacket 1 3 seq p (rememberDone 3 seq p s)

/-- An entry stands for a row of a slot. -/
def rowHit (l : List (Nat × Nat × Bool)) (slot row : Nat) (whole : Bool) : Bool :=
  l.any (fun e => e.1 == slot && (whole || e.2.2 || e.2.1 == row))

/-- A row error (R157): an entry, or ROW_OVF on a full list; lasting when the previous frame period had one, else a
first failure (R388). -/
def rowError (slot row : Nat) (whole probe : Bool) (s : State) : State :=
  let lasting := rowHit s.fy.rowPrev slot row whole
  let s :=
    if s.fy.rowPend.length < 64 then
      { s with statusDue := true
               fy := { s.fy with
                 rowPend := s.fy.rowPend ++ [{ slot := slot, row := row, whole := whole, sent := 0, lasting := lasting, probe := probe }]
                 rowCur := (slot, row, whole) :: s.fy.rowCur, rowErrors := s.fy.rowErrors + 1 } }
    else { s with fy := { s.fy with rowOvf := true, rowOverflows := s.fy.rowOverflows + 1 } }
  let ctx := leBytes 1 slot ++ leBytes 2 row
  if lasting then raiseSrc 0x13 ctx s else transientSrc 0x13 ctx s

/-- A consumed packet fails its trailer (Table 5.10). The whole slot is reported for every MODE but 0, a reserved one as
read too: DESIGN CHOICE, log 185. -/
def failedPacket (k : Packet) (s : State) : State :=
  let s := countFail k s
  match kTy k with
  | 1 => rowError (kF k 0 1) (if kF k 1 1 = 0 then kF k 2 2 else 0) (kF k 1 1 ≠ 0) false s
  | 7 => rowError (kF k 0 1) (if kF k 1 1 = 0 then kF k 2 2 else 0) (kF k 1 1 ≠ 0) true s
  | 3 => nack 3 (kSeq k) 1 s
  | 4 => nack 4 (kSeq k) 1 s
  | 5 => { s with fy := { s.fy with staleTime := s.fy.staleTime + 1 } }
  | _ => s

/-- The first copy of a DICT request is still executing: it waits in the queue, or for the customer image (R159). -/
def dictRuns (seq : Nat) (s : State) : Bool :=
  s.dict.queue.any (fun q => q.1 == seq) || s.mg.mbx.any (fun m => decide (m.path = .ferry) && m.seq == seq)

/-- A RETRY of an executed packet: its stored answer is sent again, where it had one (R156, R159). -/
def retryAnswer (k : Packet) (s : State) : Option State :=
  if !kRetry k then none
  else if kTy k = 4 && dictRuns (kSeq k) s then some s
  else
    match afind (if kTy k = 3 then s.fy.doneFrame else s.fy.doneDict) (kSeq k) with
    | some p =>
      let s := { s with fy := { s.fy with duplicates := s.fy.duplicates + 1 } }
      some (if p.isEmpty then s else answerPacket (if kTy k = 3 then 1 else 3) (kTy k) (kSeq k) p s)
    | none => none

/-- A RETRY that passes while its SEQ stands in the NACKed list is a transient (R157). -/
def retryTransient (k : Packet) (s : State) : State :=
  let l := if kTy k = 3 then s.fy.nackFrame else s.fy.nackDict
  if kRetry k && (afind l (kSeq k)).isSome then
    let l' := adel l (kSeq k)
    transientSrc 0x12 (leBytes 1 (kTy k) ++ leBytes 2 (kSeq k)) { s with fy := { s.fy with
      transients := s.fy.transients + 1
      nackFrame := if kTy k = 3 then l' else s.fy.nackFrame, nackDict := if kTy k = 3 then s.fy.nackDict else l' } }
  else s

/-- A packet is consumed with effect (Table 5.12). -/
def took (s : State) : State := { s with fy := { s.fy with consumed := s.fy.consumed + 1 } }

/-- A consumed packet at its effect instant (R134, R139, R140, R155, R156, R438). `bad` says that the payload is malformed,
`silent` that a good packet needs no answer, `full` that a queue of its own is full. While a FRAME packet has its effect
the place of its answer is kept (R139). -/
def consume (k : Packet) (bad silent full : Bool) (body : State → State) (s : State) : State :=
  let ask := kTy k == 3 || kTy k == 4
  let rsv := hdrBits k.hdr 47 38 ≠ 0
  let good := kPass k && !rsv && !bad
  let busy (s : State) : State := { s with fy := { s.fy with busyDrops := s.fy.busyDrops + 1 } }
  if !(kHere s k && consumes s k) then s else
  let s := snoop 3 none (leBytes 8 k.hdr.toNat ++ k.payload) s
  if s.pw.exiting && !(kTy k == 4 || kTy k == 5 || kTy k == 6) then
    { s with pw := { s.pw with earlyDrops := s.pw.earlyDrops + 1 } }
  else if ask && !queueFree s && !(silent && good) then busy (if kPass k then s else countFail k s)
  else if !kPass k then failedPacket k s
  else
    let s := if ask && good then retryTransient k s else s
    match if ask then retryAnswer k s else none with
    | some s' => s'
    | none =>
      if rsv || bad then
        if ask then nack (kTy k) (kSeq k) 2 s else { s with fy := { s.fy with malformed := s.fy.malformed + 1 } }
      else if full then busy s
      else serving (kTy k == 3) body s

/-- A good header of a packet of a listed type without reserved bits (R154). -/
def candHdr (h : BitVec 64) : Bool := hdrOk h && decide (hdrBits h 3 0 < 8) && hdrBits h 47 38 == 0

/-- First 8 bytes of each unit of a stretch of stream, as header words. -/
def unitHeads (k : Packet) : List (BitVec 64) :=
  (units (k.payload.length / 16 + 1) (leBytes 8 k.hdr.toNat ++ k.payload ++ leBytes 4 k.trailer.toNat ++ leBytes 4 k.pad.toNat)).map
    (fun u => BitVec.ofNat 64 (leField u 0 8))

/-- A unit has passed in hunt: each candidate waits for one unit less, and the unit becomes a candidate (R154). -/
def huntUnit (l : List Nat) (h : BitVec 64) (ok : Bool) : List Nat :=
  (l.filter (fun n => decide (0 < n))).map (· - 1) ++ (if ok && candHdr h then [hdrBits h 19 10] else [])

/-- The units of a stretch pass in hunt; the first lies in an invalid block where `bad` says so. -/
def huntUnits (bad : Bool) (l : List Nat) (hs : List (BitVec 64)) : List Nat :=
  (hs.drop 1).foldl (fun l h => huntUnit l h true) (huntUnit l (hs.headD 0) (!bad))

/-- A header confirms a candidate LEN + 1 units before it (R154). -/
def confirms (s : State) (h : BitVec 64) : Bool := s.fy.cands.contains 0 && candHdr h

/-- Each invalid block header is counted on its lane (R113). -/
def badHeads (l : List (Fin 4)) (s : State) : State :=
  modLane (fun x => { x with badHeaders := l.foldl (fun c i => modNth c i.val (· + 1)) x.badHeaders }) s

/-- A header in normal handling (R134 to R137): a packet that is forwarded leaves here, one for this engine alone makes
room for an IDLE packet of its LEN, and one that no other command takes is dropped here. -/
def takeHeader (k : Packet) (s : State) : State :=
  let s := { s with fy := { s.fy with head := some (k.hdr, s.time, s.lane.count) } }
  if !kHere s k then s
  else if kTy k = 0 then openIdle (kLen k + 1) (some k) s
  else if consumes s k then
    let s := if kAddr k ≠ 63 then openIdle (kLen k + 1) none s
      else if kTy k == 6 && kF k 0 1 == 1 then s else forwardK k s
    if hasRow k then s else consume k true false false id s
  else forwardK k (if kPass k then s else countFail k s)

/-- PACKET_HEADER: a header is checked and the packet's handling decided (R134 to R137, R154). A header that fails, or lies
in an invalid block, or whose LEN runs into a packet already known, begins a hunt; in hunt every unit goes on unchanged and
becomes a candidate where it holds a good header. `bad` lists the lanes of the packet's invalid block headers (R113). -/
def execPacketHeader (t : Nat) (k : Packet) (badBlock : Bool) (bad : List (Fin 4)) (s : State) : Host.Outcome State Fault Refusal :=
  act t (fun s =>
    if s.lane.st ≠ .fl0 then s
    else
      let s := hearStream (leBytes 8 k.hdr.toNat ++ k.payload ++ leBytes 4 k.trailer.toNat ++ leBytes 4 k.pad.toNat) s
      let s := badHeads bad (modLane (fun x => { x with ei1Run := 0, ei2Run := 0 }) s)
      let huntOn (l : List Nat) (s : State) : State :=
        let s := sendOn k k.payload k.trailer (flushIdle s)
        { s with fy := { s.fy with hunt := true, cands := huntUnits badBlock l (unitHeads k) } }
      if s.fy.hunt && !(confirms s k.hdr && !badBlock) then huntOn s.fy.cands s
      else if badBlock || !hdrOk k.hdr || decide (k.payload.length < 16 * kLen k) then
        huntOn [] { s with fy := { s.fy with hunts := s.fy.hunts + 1 } }
      else takeHeader k { s with fy := { s.fy with hunt := false, cands := [] } }) s

/-- HUNT_CONFIRM: the candidate is confirmed by a second good header; normal handling resumes with that packet (R154). -/
def execHuntConfirm (t : Nat) (hdr : BitVec 64) (s : State) : Host.Outcome State Fault Refusal :=
  act t (fun s =>
    if s.lane.st = .fl0 && s.fy.hunt && confirms s hdr then
      { s with fy := { s.fy with hunt := false, cands := [] } }
    else s) s

/-- TIME_PACKET: a sync sample of domain A when MARKER is the COUNT of the last good ALIGN slot before the packet's header,
else stale (R150, R364). -/
def execTimePacket (t : Nat) (k : Packet) (s : State) : Host.Outcome State Fault Refusal :=
  act t (fun s =>
    if kTy k ≠ 5 then s
    else consume k (kLen k ≠ 2 || !kZero k 0x1A 6) false false (fun s =>
      if headCount s k ≠ some (kF k 0 4) then { s with fy := { s.fy with staleTime := s.fy.staleTime + 1 } }
      else
        match s.lane.markers.find? (fun m => m.count == kF k 0 4) with
        | some m =>
          if decide (kF k 0x0A 4 ≤ 999999999) && decide (1 ≤ kF k 0x18 2) && decide (kF k 0x18 2 ≤ 1000) &&
              decide (s.now ≤ m.at_ + 2000000000000) then
            let tm : Int := ((kF k 4 6 * 1000000000 + kF k 0x0A 4) * 4294967296 + kF k 0x0E 2 * 65536 : Nat) * 1000 +
              psU (s.objN 0x2C00 2)
            sample 0 (m.time - tm) (kF k 0x10 8) (kF k 0x18 2) (ofNs (m.time / psU 1000).toNat) (took s)
          else { s with tim := { s.tim with discards := s.tim.discards + 1 } }
        | none => { s with tim := { s.tim with discards := s.tim.discards + 1 } }) s) s

/-- The three actions of a change of address (R146). -/
def newAddress (a : Nat) (s : State) : State :=
  let s := { s with
    statusDue := true
    fy := { s.fy with address := a, identPend := true, doneDict := [], doneFrame := [], nackDict := [], nackFrame := []
                      insert := s.fy.insert.filter (fun o => o.prec == 2) } }
  ownPacket 4 6 0 ([0x04, BitVec.ofNat 8 s.grade, 0, 0, 0, 0, 0, 0] ++ leBytes 8 s.uid) s

/-- ENUM: the engine takes its address or stays unaddressed, and the packet goes on with the new COUNT (R144 to R146). -/
def execEnum (t : Nat) (k : Packet) (s : State) : Host.Outcome State Fault Refusal :=
  act t (fun s =>
    if !(kTy k == 6 && kF k 0 1 == 1 && kAddr k == 63 && kHere s k && consumes s k) then s
    else if !kPass k || kLen k ≠ 1 || !kZero k 4 12 || 2 ≤ kF k 2 1 || hdrBits k.hdr 47 38 ≠ 0 then
      forwardK k (consume k true false false id s)
    else
      consume k false false false (fun s =>
        let c := kF k 1 1
        let a := if c < 62 then c + 1 else 63
        let ovf := if c < 62 then kF k 2 1 else 1
        let p := [0x01, BitVec.ofNat 8 (if c < 62 then c + 1 else 62), BitVec.ofNat 8 ovf] ++ k.payload.drop 3
        let s := sendOn k p (BitVec.ofNat 32 (kCrc { k with payload := p })) (flushIdle (took s))
        let s := if a ≠ s.fy.address then newAddress a s else s
        setCause 0x14 (62 ≤ c) [] { s with fy := { s.fy with enumGen := kF k 3 1, overflow := decide (62 ≤ c) } }) s) s

/-- ECHO: the TAG goes back with the local time of arrival; a full queue leaves it unanswered (R139, R151). -/
def execEcho (t : Nat) (k : Packet) (s : State) : Host.Outcome State Fault Refusal :=
  act t (fun s =>
    if !(kTy k == 6 && kF k 0 1 == 3) then s
    else consume k (kLen k ≠ 2 || !kZero k 1 7 || !kZero k 0x1A 6) false (!queueFree s)
      (fun s => ownPacket 2 6 (kSeq k)
        ([3, 0, 0, 0, 0, 0, 0, 0] ++ (k.payload.drop 8).take 8 ++ (headTime s k).bytes ++ List.replicate 6 0) (took s)) s) s

/-- STATUS_REQ: a STATUS packet is owed (R152). -/
def execStatusReq (t : Nat) (k : Packet) (s : State) : Host.Outcome State Fault Refusal :=
  act t (fun s =>
    if !(kTy k == 6 && kF k 0 1 == 5) then s
    else consume k (kLen k ≠ 1 || !kZero k 1 15) false false (fun s => took { s with statusDue := true }) s) s

/-- STATUS_PERIOD: a STATUS packet is owed each ferry.status_period (R152; log 176). -/
def execStatusPeriod (t : Nat) (s : State) : Host.Outcome State Fault Refusal :=
  act t (fun s =>
    if spanOver s s.fy.periodAt (s.objN 0x2300 4 * 1000000000) then
      { s with statusDue := true, fy := { s.fy with periodAt := s.now } }
    else s) s

/-! ## Own packets (R137 to R139) -/

/-- Row-error entries a STATUS packet carries: those sent once before, and at most 8 for the first time (R157). -/
def statusRows (l : List RowErr) : List RowErr :=
  l.filter (fun e => e.sent == 1) ++ (l.filter (fun e => e.sent == 0)).take 8

/-- Bytes of a row-error entry (Table 5.9). -/
def rowEntryBytes (e : RowErr) : List Byte :=
  leBytes 1 e.slot ++ leBytes 1 (b2n e.lasting + 2 * b2n e.probe + 4 * b2n e.whole) ++ leBytes 2 e.row

/-- Payload of a STATUS packet (Table 5.9). -/
def statusPayload (s : State) : List Byte :=
  let rows := statusRows s.fy.rowPend
  [0x02] ++ leBytes 1 (statusFlags s) ++ leBytes 1 s.saf.state.code ++ leBytes 1 (b2n (s.pw.dev = .lit)) ++
  leBytes 2 s.fy.statusSeq.toNat ++ leBytes 2 s.dict.eventSeq.toNat ++ leBytes 4 s.frm.launchedSeq ++
  leBytes 4 s.surf.retiredSeq ++ leBytes 2 s.arr.k ++ leBytes 1 s.frm.queue.length ++ leBytes 1 rows.length ++
  leBytes 4 s.frm.late.toNat ++ padTo 64 (rows.flatMap rowEntryBytes) ++ List.replicate 8 0

/-- First entries not yet sent are marked, those sent twice leave the list (R157). -/
def rowsSent : Nat → List RowErr → List RowErr
  | _, [] => []
  | n, e :: l =>
    if e.sent = 1 then rowsSent n l
    else match n with
      | 0 => e :: rowsSent 0 l
      | k + 1 => { e with sent := 1 } :: rowsSent k l

/-- An own packet leaves in place of the first units of the open IDLE packet (R132, R137). -/
def sendOwn (o : Own) (s : State) : State :=
  let m := o.payload.length / 16 + 1
  let left := (match s.fy.idle with | some (n, _) => n | none => m) - m
  sendPacket (mkHdr o.ptype o.addr (m - 1) o.seq true false) o.payload
    { s with fy := { s.fy with idle := if left = 0 then none else some (left, none), inserted := s.fy.inserted + 1 } }

/-- The queued packet of the highest precedence, the oldest first (R139). -/
def nextOwn (l : List Own) : Option Own :=
  (upTo 6).findSome? (fun p => l.find? (fun o => o.prec == p))

/-- A STATUS packet leaves (R139, R152, R157). -/
def sendStatus (s : State) : State :=
  let left := rowsSent 8 s.fy.rowPend
  let o : Own := { prec := 5, ptype := 6, addr := s.fy.address, seq := 0, payload := statusPayload s }
  sendOwn o { s with
    statusDue := !left.isEmpty
    fy := { s.fy with statusSeq := s.fy.statusSeq + 1, statusAt := some s.now, identPend := false, rowPend := left
                      rowOvf := s.fy.rowOvf && !left.isEmpty } }

/-- The IDLE packet of `n` units in the output: the one open, or the next one of the stream (R137). -/
def atIdle (n : Nat) (s : State) : State :=
  if s.fy.idle.any (fun x => x.1 == n) then s else openIdle n none s

/-- OWN_PACKET_INSERT: an own packet replaces an IDLE packet of `units` units if it fits; an IDLE packet of the units left
follows it (R137, R139, R152). -/
def execOwnPacketInsert (t : Nat) (units : Nat) (s : State) : Host.Outcome State Fault Refusal :=
  act t (fun s =>
    if s.lane.st ≠ .fl0 || s.fy.hunt then s
    else
      let s := atIdle units s
      match nextOwn s.fy.insert with
      | some o =>
        if o.payload.length / 16 + 1 ≤ units then
          sendOwn o { s with fy := { s.fy with insert := eraseFirst (fun x => decide (x = o)) s.fy.insert } }
        else s
      | none =>
        let spaced := match s.fy.statusAt with | some a => decide (a + 100000000 ≤ s.now) | none => true
        if s.statusDue && decide (7 ≤ units) && (spaced || s.fy.identPend) then sendStatus s else s) s

end Sys2Proof.Machine
end

