-- ==== Sys2Proof/Machine/Surface.lean ====
section
/-!
DEFINITION. Surface memory, slots, palettes and the error code (chapter 6): memory as a sparse list in one canonical form,
the acceptance of writes, the slot states, the ready check and the scrubber.
-/

namespace Sys2Proof.Machine

/-! ## The store (R161, R163) -/

/-- Bytes of surface memory. -/
def surfBytes : Nat := 0x1800000

/-- The undefined area an address lies in, if any: its tag (R177). -/
def undefTag (undef : List (Nat × Nat × Nat)) (a : Nat) : Option Nat :=
  (undef.find? (fun u => decide (u.1 ≤ a) && decide (a < u.2.1))).map (fun u => u.2.2)

/-- What an address reads as when the list does not hold it: 0, or a free value where a configure left the content
undefined (log 6). -/
def memDflt (undef : List (Nat × Nat × Nat)) (a : Nat) : Byte :=
  match undefTag undef a with | some tag => Config.undefByte tag a | none => 0

/-- Reads one byte. -/
def memGet (mem : List Host.Cell) (undef : List (Nat × Nat × Nat)) (a : Nat) : Byte :=
  match afind mem a with | some v => v | none => memDflt undef a

/-- Writes one byte; the value an unlisted address outside the undefined areas reads as leaves the list. -/
def memPut (undef : List (Nat × Nat × Nat)) (mem : List Host.Cell) (a : Nat) (v : Byte) : List Host.Cell :=
  if (undefTag undef a).isSome then aput mem a v else aset mem a v 0

/-- Writes bytes from an address upwards. -/
def memWrite (undef : List (Nat × Nat × Nat)) : List Host.Cell → Nat → List Byte → List Host.Cell
  | mem, _, [] => mem
  | mem, a, v :: vs => memWrite undef (memPut undef mem a v) (a + 1) vs

/-- Cells outside an area. -/
def memDrop (mem : List Host.Cell) (a b : Nat) : List Host.Cell := mem.filter (fun c => decide (c.1 < a) || decide (b ≤ c.1))

/-- The canonical form: addresses rise strictly and an entry outside the undefined areas is not 0. -/
def Memory.wf (undef : List (Nat × Nat × Nat)) : List Host.Cell → Bool
  | [] => true
  | [(a, v)] => (undefTag undef a).isSome || decide (v ≠ 0)
  | (a, v) :: (b, w) :: l =>
    ((undefTag undef a).isSome || decide (v ≠ 0)) && decide (a < b) && Memory.wf undef ((b, w) :: l)

/-- A byte of surface memory. -/
def surfRd (s : State) (a : Nat) : Byte := memGet s.surf.mem s.surf.undef a

/-- Changes the surface block. -/
def modSurf (f : Surf → Surf) (s : State) : State := { s with surf := f s.surf }

/-- First byte of the flatten cache (R161). -/
def cacheBase (s : State) : Nat := surfBytes - 65536 * s.objN 0x2400 1

/-! ## Slots (R166) -/

/-- Slot n. -/
def slotOf (s : State) (n : Nat) : Slot := nth s.surf.slots n {}

/-- Changes slot n. -/
def modSlot (n : Nat) (f : Slot → Slot) (s : State) : State :=
  { s with surf := { s.surf with slots := modNth s.surf.slots n f } }

/-- COMPRESSED. -/
def Slot.compressed (x : Slot) : Bool := x.flags % 2 == 1

/-- PREMULT. -/
def Slot.premult (x : Slot) : Bool := bitOf x.flags 1

/-- RELEASE_PENDING. -/
def Slot.pending (x : Slot) : Bool := bitOf x.sflags 0

/-- POISONED. -/
def Slot.poisoned (x : Slot) : Bool := bitOf x.sflags 1

/-- CHECKING: a ready check runs. -/
def Slot.checking (x : Slot) : Bool := bitOf x.sflags 2

/-- SFLAGS from its flags (Table 6.2). -/
def mkSflags (pending poisoned checking : Bool) : Nat := b2n pending + 2 * b2n poisoned + 4 * b2n checking

/-- Geometry of a slot's surface. -/
def Slot.geom (x : Slot) : Geom := ⟨x.base, x.size, x.width, x.height, x.stride, x.format, x.compressed⟩

/-- Ready content (R179). -/
def Slot.ready (x : Slot) : Bool := x.state == 2 || x.state == 3 || x.state == 4

/-- The slot has an area and an address lies in it. -/
def Slot.holds (x : Slot) (a : Nat) : Bool := x.state ≠ 0 && decide (x.base ≤ a) && decide (a < x.base + x.size)

/-- The 32 bytes of a slot descriptor (Table 6.2). -/
def Slot.bytes (x : Slot) : List Byte :=
  leBytes 4 x.base ++ leBytes 4 x.size ++ leBytes 2 x.width ++ leBytes 2 x.height ++ leBytes 2 x.stride ++
  leBytes 1 x.format ++ leBytes 1 x.flags ++ leBytes 1 x.palette ++ leBytes 1 x.state ++ leBytes 1 x.pins ++
  leBytes 1 x.sflags ++ leBytes 4 x.ones ++ leBytes 4 x.retSeq ++ leBytes 2 x.gen.toNat ++ leBytes 1 x.check ++ [0]

/-- The 64-bit word at an address is poisoned. -/
def wordPoisoned (s : State) (a : Nat) : Bool := s.surf.poison.contains (a / 8)

/-- Gate bit of a BP1 slot at (x, y); 0 in a poisoned word (R164, R167). -/
def probeBit (s : State) (k : Slot) (x y : Nat) : Bool :=
  let a := k.base + y * k.stride + x / 8
  !wordPoisoned s a && (surfRd s a).getLsbD (x % 8)

/-- 1 bits of row y at x < WIDTH (R175). -/
def rowOnes (s : State) (k : Slot) (y : Nat) : Nat := (upTo k.width).foldl (fun n x => n + b2n (probeBit s k x y)) 0

/-- ONES of the whole area (R175). -/
def areaOnes (s : State) (k : Slot) : Nat := (upTo k.height).foldl (fun n y => n + rowOnes s k y) 0

/-- ONES of a BP1 slot follows what a change does to one of its rows (R175). -/
def recount (n y : Nat) (s0 s1 : State) : State :=
  let k := slotOf s0 n
  if k.format = 7 && y < k.height then
    modSlot n (fun k => { k with ones := k.ones + rowOnes s1 (slotOf s0 n) y - rowOnes s0 (slotOf s0 n) y }) s1
  else s1

/-! ## Error code (R163, R165) -/

/-- A word is found with two or more bits in error: poisoned, counted, its slots flagged, source 0x20 + domain raised. -/
def poisonWord (w : Nat) (s : State) : State :=
  if s.surf.poison.contains w then s
  else
    let s1 := modSurf (fun x => { x with poison := w :: x.poison, eccPoisoned := x.eccPoisoned + 1 }) s
    let s2 := (upTo 256).foldl (fun u n =>
      let k := slotOf s n
      if k.holds (8 * w) then
        let u := modSlot n (fun k => { k with sflags := mkSflags k.pending true k.checking }) u
        let y := (8 * w - k.base) / k.stride
        if k.format = 7 && decide (y < k.height) then
          modSlot n (fun k => { k with ones := k.ones + rowOnes s1 (slotOf s n) y - rowOnes s (slotOf s n) y }) u
        else u
      else u) s1
    raiseSrc (0x20 + min 3 (8 * w / 0x600000)) (leBytes 4 (8 * w)) s2

/-- A read of a word finds some of its bits in error (R163). A word already poisoned sets no flag again, that of a slot
configured over it since included: DESIGN CHOICE, log 163. -/
def eccRead (w errors : Nat) (s : State) : State :=
  if s.surf.poison.contains w || errors = 0 then s
  else if errors = 1 then modSurf (fun x => { x with eccCorrected := x.eccCorrected + 1 }) s
  else poisonWord w s

/-- The words found in error among those that a read touches, each with its bits in error. -/
def eccReads (p : Nat → Bool) (ecc : List (Nat × Nat)) (s : State) : State :=
  ecc.foldl (fun s e => if p e.1 then eccRead e.1 e.2 s else s) s

/-- A write of n bytes at `a` replaces only a part of the word, which it therefore reads (R163). -/
def partWord (a n w : Nat) : Bool :=
  decide (a < 8 * w + 8) && decide (8 * w < a + n) && !(decide (a ≤ 8 * w) && decide (8 * w + 8 ≤ a + n))

/-- SCRUB: the scrubber reads a word of a slot area or of the flatten cache (R165). -/
def execScrub (t : Nat) (word errors : Nat) (s : State) : Host.Outcome State Fault Refusal :=
  act t (fun s =>
    if active s && decide (8 * word < surfBytes) &&
        (decide (cacheBase s ≤ 8 * word) || s.surf.slots.any (fun k => k.holds (8 * word))) then
      eccRead word errors s
    else s) s

/-! ## The flatten cache loses its content (R208) -/

/-- The slots of a run. -/
def Run.slots (r : Run) : List Nat := r.layers.map (fun l => leField l.1 0 1)

/-- The flatten cache becomes empty (R208, R209). -/
def cacheEmpty (s : State) : State :=
  { s with comp := { s.comp with cache := .empty, cacheRun := none
                                 job := s.comp.job.map (fun j => { j with fill := false, useCache := false })
                                 curJob := s.comp.curJob.map (fun j => { j with fill := false, useCache := false }) } }

/-- The cache is emptied when its run uses a slot for which `p` holds. -/
def cacheTouch (p : Nat → Bool) (s : State) : State :=
  if s.comp.cacheRun.any (fun r => r.slots.any p) then cacheEmpty s else s

/-! ## Writing a slot (R174, R175) -/

/-- The first check of Table 6.5 that fails: reason and the counter's place, 1 rej_free, 2 rej_pinned, 3 rej_shape. -/
def surfReject (k : Slot) (probe : Bool) (mode row col nbytes : Nat) (offset : Nat) : Option (Nat × Nat) :=
  let bpp := match k.format with | 0 => 2 | 2 => 2 | 3 => 3 | _ => 1
  let px := match k.format with | 4 => 2 * nbytes | 7 => 8 * nbytes | _ => nbytes / bpp
  let lim := match k.format with | 4 => 2 * ((k.width + 1) / 2) | 7 => 8 * ((k.width + 7) / 8) | _ => k.width
  if k.state = 0 then some (1, 1)
  else if k.state = 3 then some (2, 2)
  else if (probe && k.format ≠ 7) || (mode = 0 && k.compressed) || (mode = 1 && k.format = 7) then some (3, 3)
  else if mode = 0 && (decide (k.height ≤ row) || nbytes % bpp ≠ 0 || (k.format = 4 && col % 2 ≠ 0) ||
      (k.format = 7 && col % 8 ≠ 0) || decide (lim < col + px)) then some (4, 3)
  else if mode = 1 && decide (k.size < offset + nbytes) then some (4, 3)
  else none

/-- Bytes written into surface memory; a word replaced whole is no longer poisoned (R163). -/
def surfWrite (a : Nat) (bs : List Byte) (s : State) : State :=
  modSurf (fun x => { x with
    mem := memWrite x.undef x.mem a bs
    poison := x.poison.filter (fun w => !(decide (a ≤ 8 * w) && decide (8 * w + 8 ≤ a + bs.length))) }) s

/-- An accepted write moves a slot on: READY and RETIRED to FILLING, a running check cancelled (R175, R177). -/
def writeState (n : Nat) (s : State) : State :=
  cacheTouch (· == n) (modSlot n (fun k =>
    { k with state := 1, check := if k.checking then 9 else k.check, sflags := mkSflags k.pending k.poisoned false }) s)

/-- The snapshot still governs its launch: no safety state has been entered since that the launch would break (R24, R25). -/
def snapHolds (x : Snap) (s : State) : Bool :=
  if x.limp then s.saf.state = .limp else if x.ret then s.saf.pendingReturn else hostBeam s

/-- A frame launch of this instant waits behind the command in progress, and it will launch a new descriptor (R90, R184). -/
def launchWaits (s : State) : Bool :=
  s.frm.snap.any (fun x => x.new && x.pops && snapHolds x s) && !s.frm.windowOpen &&
  s.pending.any (fun c => match c with | .frameLaunch t => decide (t ≤ s.now) | _ => false)

/-- A slot as a write at this instant meets it: FREE where the frame launch of the same instant releases its last pin with
RELEASE_PENDING set, for the release comes first (Table 6.8). -/
def slotAtWrite (s : State) (n : Nat) : Slot :=
  let x := slotOf s n
  if launchWaits s && s.frm.cur.any (fun d => d.pins.contains n) && x.pins = 1 && x.pending then { x with state := 0 } else x

/-- A SURF or PROBE packet with a good sub-header at its effect instant (R174, R175); `ecc` lists the words in error that
it finds where it replaces only a part of a word. The widths of SLOT, reason, ROW or OFFSET and SEQ in the event's context are a
byte, a byte, 4 bytes and 2: DESIGN CHOICE, log 195. -/
def surfPacket (probe : Bool) (k : Packet) (ecc : List (Nat × Nat)) (s : State) : State :=
  let n := kF k 0 1
  let mode := kF k 1 1
  let nb := kF k 6 2
  let x := slotAtWrite s n
  let row := kF k 2 2
  let col := kF k 4 2
  let off := kF k 2 4
  match surfReject x probe mode row col nb off with
  | some (reason, c) =>
    event 0x101 255 (leBytes 1 n ++ leBytes 1 reason ++ leBytes 4 (if mode = 0 then row else off) ++ leBytes 2 (kSeq k))
      (modSurf (fun v => { v with
        rejFree := if c = 1 then v.rejFree + 1 else v.rejFree
        rejPinned := if c = 2 then v.rejPinned + 1 else v.rejPinned
        rejShape := if c = 3 then v.rejShape + 1 else v.rejShape }) s)
  | none =>
    let a := if mode = 0 then x.base + row * x.stride + pixByte x.format col else x.base + off
    let bs := (k.payload.drop 8).take nb
    let s := eccReads (partWord a nb) ecc s
    let s := took (if probe then s else snoop 1 (some n) bs s)
    writeState n (recount n row s (surfWrite a bs s))

/-- A malformed sub-header (R147). -/
def surfMalformed (k : Packet) : Bool :=
  decide (k.payload.length < 16) || decide (2 ≤ kF k 1 1) || kF k 6 2 = 0 ||
  decide (16 * kLen k < 8 + kF k 6 2) || !kZero k (8 + kF k 6 2) k.payload.length

/-- SURF: a surface write is accepted or rejected (R174). -/
def execSurf (t : Nat) (k : Packet) (ecc : List (Nat × Nat)) (s : State) : Host.Outcome State Fault Refusal :=
  act t (fun s => if kTy k ≠ 1 then s else consume k (surfMalformed k) false false (surfPacket false k ecc) s) s

/-- PROBE_PACKET: probe pattern data is accepted, with ONES, or rejected (R174, R175). -/
def execProbePacket (t : Nat) (k : Packet) (ecc : List (Nat × Nat)) (s : State) : Host.Outcome State Fault Refusal :=
  act t (fun s => if kTy k ≠ 7 then s else consume k (surfMalformed k) false false (surfPacket true k ecc) s) s

/-! ## Slot commands (R176 to R178) -/

/-- A configure's descriptor fields (Table 6.2), from the 24 bytes written. -/
def cfgSlot (d : List Byte) : Slot :=
  { base := leField d 4 4, size := leField d 8 4, width := leField d 12 2, height := leField d 14 2
    stride := leField d 16 2, format := leField d 18 1, flags := leField d 19 1, palette := leField d 20 1 }

/-- Two areas overlap. -/
def overlap (a n b m : Nat) : Bool := decide (a < b + m) && decide (b < a + n) && decide (0 < n) && decide (0 < m)

/-- The first cause of Table 6.7 that refuses a configure; 0 for none. -/
def cfgCheck (s : State) (d : List Byte) : Nat :=
  let n := leField d 0 1
  let x := cfgSlot d
  let old := slotOf s n
  if leField d 1 3 ≠ 0 || leField d 21 3 ≠ 0 || 7 < x.format || 4 ≤ x.flags || (x.premult && x.format ≠ 2 && x.format ≠ 3) ||
      (x.compressed && x.format = 7) then 1
  else if (if x.format = 4 || x.format = 5 then decide (32 ≤ x.palette) else x.palette ≠ 0) ||
      x.width = 0 || 4096 < x.width || x.height = 0 || 2048 < x.height ||
      (if x.compressed then x.stride ≠ 0 else x.stride % 8 ≠ 0 || x.stride < rowBytes x.format x.width) then 2
  else if x.base % 64 ≠ 0 || x.size % 64 ≠ 0 || x.size < 64 ||
      (if x.compressed then decide (x.size < 4 * tilesAcross x.width * tilesAcross x.height)
        else decide (x.size < x.stride * x.height)) ||
      cacheBase s < x.base + x.size then 3
  else if (upTo 256).any (fun m => m ≠ n && (slotOf s m).state ≠ 0 &&
      overlap x.base x.size (slotOf s m).base (slotOf s m).size) then 4
  else if 0 < old.pins then 5
  else if old.checking then 6
  else 0

/-- A result code is left in slot.result (R176). -/
def slotResult (code : Nat) (s : State) : State := modSurf (fun x => { x with result := code }) s

/-- An accepted configure: descriptor set, content of the area undefined, ONES counted with the area read under R163, whose
words in error are free values (R175, R177; log 194). -/
def configure (d : List Byte) (s : State) : State :=
  let n := leField d 0 1
  let x := cfgSlot d
  let s := s.tickFree
  let s := modSurf (fun v => { v with
    mem := memDrop v.mem x.base (x.base + x.size)
    undef := (x.base, x.base + x.size, s.free) ::
      v.undef.filter (fun u => !(decide (x.base ≤ u.1) && decide (u.2.1 ≤ x.base + x.size))) }) s
  let gen := (slotOf s n).gen + 1
  let y : Slot := { x with state := 1, gen := gen, retSeq := (slotOf s n).retSeq }
  let s := modSlot n (fun _ => y) s
  if y.format = 7 then
    let tag := s.free
    let s := eccReads (fun _ => true) ((upTo (y.size / 8)).map (fun i => (y.base / 8 + i, Config.upset tag (y.base / 8 + i)))) s.tickFree
    modSlot n (fun k => { k with ones := areaOnes s y }) s
  else s

/-- Handler of slot.configure. -/
def configureH (d : List Byte) (s : State) : Nat × State :=
  match cfgCheck s d with
  | 0 => (0, slotResult 0 (configure d s))
  | c => (if leField d 1 3 ≠ 0 || leField d 21 3 ≠ 0 then abRange else abState, slotResult c s)

/-- SLOT_CONFIGURE: a write of slot.configure (R177). -/
def execSlotConfigure (t : Nat) (p : Path) (data : List Byte) (s : State) : Host.Outcome State Fault Refusal :=
  objWrite t p 0x2410 1 data (fedH configureH) s

/-- READY of slot n: the slot is ready, or the check of a compressed slot starts (R176, R177). -/
def slotReady (n : Nat) (s : State) : Nat × State :=
  let k := slotOf s n
  if k.state ≠ 1 || k.checking then (abState, slotResult 6 s)
  else if k.compressed then (0, slotResult 0 (modSlot n (fun k => { k with sflags := mkSflags k.pending k.poisoned true }) s))
  else (0, slotResult 0 (modSlot n (fun k => { k with state := if k.pins = 0 then 2 else 3, check := 0 }) s))

/-- RELEASE of slot n (R177). -/
def slotRelease (n : Nat) (s : State) : Nat × State :=
  let k := slotOf s n
  if k.state = 0 || k.checking then (abState, slotResult 6 s)
  else if 0 < k.pins then
    (0, slotResult 0 (modSurf (fun x => { x with releaseDeferred := x.releaseDeferred + 1 })
      (modSlot n (fun k => { k with sflags := mkSflags true k.poisoned k.checking }) s)))
  else (0, slotResult 0 (modSlot n (fun k => { k with state := 0 }) s))

/-- Handler of slot.command (R176). -/
def slotCommandH (d : List Byte) (s : State) : Nat × State :=
  let v := leNat d
  if 65536 ≤ v then (abRange, slotResult 1 s)
  else match v / 256 with
    | 1 => slotReady (v % 256) s
    | 2 => slotRelease (v % 256) s
    | _ => (abRange, slotResult 1 s)

/-- SLOT_READY: the READY command of slot.command (R177). -/
def execSlotReady (t : Nat) (p : Path) (v : Nat) (s : State) : Host.Outcome State Fault Refusal :=
  objWrite t p 0x2410 2 (leBytes 4 (256 + v % 256 + 65536 * (v / 65536))) slotCommandH s

/-- SLOT_RELEASE: the RELEASE command of slot.command (R177). -/
def execSlotRelease (t : Nat) (p : Path) (v : Nat) (s : State) : Host.Outcome State Fault Refusal :=
  objWrite t p 0x2410 2 (leBytes 4 (512 + v % 256 + 65536 * (v / 65536))) slotCommandH s

/-- SLOT_CHECK_END: the ready check of a compressed slot ends with its outcome (R173); `ecc` lists the words of the area it
found in error. A poisoned word is decoded as stored: DESIGN CHOICE, log 164. -/
def execSlotCheckEnd (t : Nat) (n : Fin 256) (ecc : List (Nat × Nat)) (s : State) : Host.Outcome State Fault Refusal :=
  act t (fun s =>
    let k := slotOf s n.val
    if !k.checking then s
    else
      let s := eccReads (fun w => k.holds (8 * w)) ecc s
      let c := areaCheck (surfRd s) k.base k.size k.format k.width k.height
      modSlot n.val (fun k => { k with
        sflags := mkSflags k.pending k.poisoned false, check := c
        state := if c ≠ 0 then 1 else if k.pins = 0 then 2 else 3 }) s) s

/-! ## Pins (R180 to R182) -/

/-- A pin is taken (R177). -/
def takePin (n : Nat) (s : State) : State :=
  modSlot n (fun k => { k with pins := k.pins + 1, state := if k.state = 2 || k.state = 4 then 3 else k.state }) s

/-- A pin is released with the SEQ of its descriptor (R177, R182). A slot that becomes FREE ends its ready check without an
outcome in CHECK: DESIGN CHOICE, log 165. -/
def releasePin (seq n : Nat) (s : State) : State :=
  let k := slotOf s n
  if k.pins = 0 then s
  else if 1 < k.pins then modSlot n (fun k => { k with pins := k.pins - 1, retSeq := seq }) s
  else
    let st := if k.pending then 0 else if k.state = 3 then 4 else k.state
    modSurf (fun x => { x with retirements := if st = 0 || st = 4 then x.retirements + 1 else x.retirements })
      (modSlot n (fun k => { k with
        pins := 0, retSeq := seq, state := st
        sflags := mkSflags false k.poisoned (k.checking && !k.pending) }) s)

/-- All pins of a descriptor are released together (R182). -/
def releasePins (d : Desc) (s : State) : State :=
  modSurf (fun x => { x with retiredSeq := d.seq }) (d.pins.foldl (fun s n => releasePin d.seq n s) s)

/-- Every slot is FREE and surface memory has lost its content: entry to READY (R31, R177). -/
def surfLost (s : State) : State :=
  cacheEmpty (modSurf (fun x => { x with
    mem := [], undef := [], poison := [], palettes := [], slots := x.slots.map (fun k => { gen := k.gen }) }) s)

/-! ## Cache size and palettes (R162, R169, R209) -/

/-- Handler of surf.cache_size: refused while a slot area overlaps the new cache region or a cache-continuing descriptor
is queued or in force (R162, R209). -/
def cacheSizeH (d : List Byte) (s : State) : Nat × State :=
  let base := surfBytes - 65536 * leNat d
  if s.surf.slots.any (fun k => k.state ≠ 0 && decide (base < k.base + k.size)) ||
      s.frm.queue.any (fun x => x.contd) || s.frm.cur.any (fun x => x.contd) then (abState, s)
  else (0, cacheEmpty (s.setObj 0x2400 1 d))

/-- CACHE_SIZE_WRITE: a write of surf.cache_size (R162, R209). -/
def execCacheSizeWrite (t : Nat) (p : Path) (v : Nat) (s : State) : Host.Outcome State Fault Refusal :=
  objWrite t p 0x2400 1 (leBytes 1 v) cacheSizeH s

/-- Palette n: 256 entries and KEY; all 0 and no key while nothing is written (R169). -/
def paletteOf (s : State) (n : Nat) : List Byte :=
  match afind s.surf.palettes n with | some p => p | none => List.replicate 512 0 ++ [255, 255]

/-- Handler of palette.data (R169, R208). -/
def paletteH (n : Nat) (d : List Byte) (s : State) : Nat × State :=
  let uses := fun (k : Slot) => (k.format = 4 || k.format = 5) && k.palette = n
  if d.length = 514 && 256 ≤ leField d 512 2 && leField d 512 2 ≠ 65535 then (abRange, s)
  else if s.surf.slots.any (fun k => decide (0 < k.pins) && uses k) then (abState, s)
  else (0, cacheTouch (fun m => uses (slotOf s m)) (modSurf (fun x => { x with palettes := aput x.palettes n d }) s))

/-- PALETTE_WRITE: a write of palette.data (R169). -/
def execPaletteWrite (t : Nat) (p : Path) (n : Fin 32) (data : List Byte) (s : State) : Host.Outcome State Fault Refusal :=
  objWrite t p (0x2420 + n.val) 1 data (fedH (paletteH n.val)) s

end Sys2Proof.Machine
end

