-- ==== Sys2Proof/Machine/Tollgate.lean ====
section
/-!
DEFINITION. The Tollgate (chapter 15): clears, reset requests, light enable, the disconnect switch, the limp patterns,
factory mode and fault injection.
-/

namespace Sys2Proof.Machine

/-! ## Clears (R401) -/

/-- The substitution of a broken sensor's reading ends once the source is no longer broken and its status bit is clear;
the source becomes valid anew (R328, R329). `i`: 0 diode, 1 NTC, 2 control sensor. -/
def endSubst (i : Nat) (s : State) : State :=
  if nth s.th.subst i false && !nth s.th.broken i false && !bmGet s.saf.latched (0xA4 + i) then
    let th := { s.th with subst := modNth s.th.subst i (fun _ => false), validAt := modNth s.th.validAt i (fun _ => some s.now) }
    { s with th := match i with
        | 0 => { th with diode := [], arrS := [], arrHist := [] }
        | 1 => { th with ntc := [] }
        | _ => { th with ctl := [] } }
  else s

/-- The substitutions that a cleared status bit ends. -/
def endSubsts (s : State) : State := endSubst 2 (endSubst 1 (endSubst 0 s))

/-- Result code of a clear of one source on a path: 0 DONE, 1 CAUSE_PRESENT, 2 NOT_LATCHED, 3 SESSION, 4 NO_SOURCE. -/
def clearCode (s : State) (p : Path) (id : Nat) : Nat :=
  if !hasSource id then 4
  else if !bmGet s.saf.latched id then 2
  else if causeOn s id || id = 0 then 1
  else if 2 ≤ classOf s id && !sessOpen s p then 3
  else 0

/-- The latched bit of a source is cleared. -/
def unlatch (id : Nat) (s : State) : State :=
  { s with saf := { s.saf with latched := bmClr s.saf.latched id, floorUp := bmClr s.saf.floorUp id } }

/-- A refused clear: its result code, its count, and the abort it is answered with (R401). -/
def refuseClear (code : Nat) (s : State) : Nat × State :=
  (if code = 3 then abSession else abState,
   { s with saf := { s.saf with clearResult := code, clearsRefused := s.saf.clearsRefused + 1 } })

/-- The handler of tollgate.clear. -/
def clearH (p : Path) (data : List Byte) (s : State) : Nat × State :=
  let id := leNat data
  let c := clearCode s p id
  if c = 0 then
    let s := if 2 ≤ classOf s id then touchSess p s else s
    (0, endSubsts (unlatch id { s with saf := { s.saf with clearResult := 0 } }))
  else refuseClear c s

/-- TOLLGATE_CLEAR. -/
def execTollgateClear (t : Nat) (p : Path) (v : Nat) (s : State) : Host.Outcome State Fault Refusal :=
  objWrite t p 0x2D11 1 (leBytes 1 v) (clearH p) s

/-- The handler of tollgate.clear_all: what qualifies is cleared; with nothing cleared it is refused once (R401). -/
def clearAllH (p : Path) (_ : List Byte) (s : State) : Nat × State :=
  let ok := (upTo 256).filter (fun i => clearCode s p i == 0)
  if ok.isEmpty then
    refuseClear (if s.saf.latched = 0 then 2 else if (upTo 256).any (fun i => clearCode s p i == 3) then 3 else 1) s
  else
    let s := if ok.any (fun i => decide (2 ≤ classOf s i)) then touchSess p s else s
    (0, endSubsts (ok.foldl (fun s i => unlatch i s) { s with saf := { s.saf with clearResult := 0 } }))

/-- CLEAR_ALL. -/
def execClearAll (t : Nat) (p : Path) (v : Nat) (s : State) : Host.Outcome State Fault Refusal :=
  objWrite t p 0x2D11 2 (leBytes 1 v) (clearAllH p) s

/-! ## Reset requests (R392, R402 to R404) -/

/-- The request against the safety state (R392). -/
def moveDown (s : State) : State :=
  let tgt := targetClass s
  if decide (s.saf.state.code ≤ 1) || s.saf.pendingReturn then ignoreReset s
  else if 2 ≤ tgt then resetLow tgt s
  else if s.saf.selfFault then ignoreReset s
  else
    let s := startReload (acceptReset s)
    { s with saf := { s.saf with pendingReturn := true } }

/-- A reset request of an enabled source: bit 0 SRESET, bit 1 dictionary (R404, R406). -/
def resetRequest (src : Nat) (s : State) : State :=
  if !bitOf (s.objN 0x2D00 5) src then s
  else
    let s := noteEvent 0x10D (leBytes 1 src) s
    let s := if s.saf.discrepLatch && s.saf.bothOffSeen then
        updPermission { s with saf := { s.saf with discrepLatch := false, bothOffSeen := false } } else s
    moveDown s

/-- The handler of tollgate.reset: 0x5A starts the sequence, 0xA5 within 100 ms issues a request, any other write ends it
(R403). -/
def tollgateResetH (data : List Byte) (s : State) : Nat × State :=
  let v := leNat data
  let armed := match s.saf.resetArm with | some a => decide (s.now ≤ a + 100000000000) | none => false
  let s' := { s with saf := { s.saf with resetReg := v, resetArm := if v = 0x5A then some s.now else none } }
  (0, if v = 0xA5 && armed then resetRequest 1 s' else s')

/-- RESET_ARM: the write of 0x5A. -/
def execResetArm (t : Nat) (p : Path) (s : State) : Host.Outcome State Fault Refusal :=
  objWrite t p 0x2D11 3 [0x5A] tollgateResetH s

/-- RESET_CONFIRM: the write of 0xA5. -/
def execResetConfirm (t : Nat) (p : Path) (s : State) : Host.Outcome State Fault Refusal :=
  objWrite t p 0x2D11 3 [0xA5] tollgateResetH s

/-- SRESET_RISE: a filtered rising edge; from an armed input it starts a pulse (R402). -/
def execSresetRise (t : Nat) (s : State) : Host.Outcome State Fault Refusal :=
  act t (fun s =>
    { s with saf := { s.saf with srLevel := true, srAt := s.now, srArmed := false, srDone := !s.saf.srArmed } }) s

/-- SRESET has been high for a time, as the keeper may time it, its filter of 0.5 ms allowed for (R402). -/
def sresetFor (s : State) (ps : Nat) : Bool := s.saf.srLevel && decide (s.saf.srAt + keeperLeast s ps ≤ s.now + 500000000)

/-- SRESET_REQUEST: 10 ms high; one request for the pulse (R402). -/
def execSresetRequest (t : Nat) (s : State) : Host.Outcome State Fault Refusal :=
  act t (fun s =>
    if sresetFor s 10000000000 && !s.saf.srDone && keeperRuns s then resetRequest 0 { s with saf := { s.saf with srDone := true } } else s) s

/-- SRESET_JAM: more than 5 s high (R402). -/
def execSresetJam (t : Nat) (s : State) : Host.Outcome State Fault Refusal :=
  act t (fun s => if sresetFor s 5000000000000 && keeperRuns s then setCause 0x04 true [] s else s) s

/-- SRESET_ARM: 50 ms low; the input is armed and a jam ends (R402). -/
def execSresetArm (t : Nat) (s : State) : Host.Outcome State Fault Refusal :=
  act t (fun s => setCause 0x04 false [] { s with saf := { s.saf with srLevel := false, srArmed := true, srDone := false } }) s

/-! ## Light enable (R405 to R407) -/

/-- LEN_CHANGE: a filtered channel reads on or off. -/
def execLenChange (t : Nat) (channelB : Bool) (on : Bool) (s : State) : Host.Outcome State Fault Refusal :=
  act t (fun s =>
    let s := { s with saf := if channelB then { s.saf with lenB := on } else { s.saf with lenA := on } }
    let off := !s.saf.lenA && !s.saf.lenB
    let s := { s with saf := { s.saf with
        disagreeAt := if s.saf.lenA = s.saf.lenB then none else some (s.saf.disagreeAt.getD s.now)
        startTest := s.saf.startTest || off, bothOffSeen := s.saf.bothOffSeen || (off && s.saf.discrepLatch) } }
    let s := if off && s.saf.state = .hold then dropDisc s else s
    updPermission s) s

/-- The shortest disagreement that can fault: T_disc less 1 ms and 1 % of it, or three quarters of it less 1 ms while the keeper
is untrimmed (R406). -/
def discLeast (s : State) : Nat :=
  let t := s.objN 0x2D00 1 * 1000000000
  if trimmed s then t - (1000000000 + t / 100) else t * 3 / 4 - 1000000000

/-- DISCREPANCY_TIMEOUT: the channels disagree longer than T_disc (R406). -/
def execDiscrepancyTimeout (t : Nat) (s : State) : Host.Outcome State Fault Refusal :=
  act t (fun s =>
    if s.saf.lenA ≠ s.saf.lenB && keeperRuns s && s.saf.disagreeAt.any (fun a => decide (a + discLeast s ≤ s.now)) then
      updPermission (raiseSrc 0x01 [] { s with saf := { s.saf with
        discrepLatch := true, bothOffSeen := false, discrepancies := s.saf.discrepancies + 1 } })
    else s) s

/-! ## Disconnect switch (R408, R409) -/

/-- DISC_FB_CHANGE: with the switch open the control engine holds every PHG line at 0 (R300). -/
def execDiscFbChange (t : Nat) (closed : Bool) (s : State) : Host.Outcome State Fault Refusal :=
  act t (fun s =>
    let s := { s with saf := { s.saf with discFb := closed, discAt := if s.saf.discStep = 0 then s.now else s.saf.discAt } }
    let s := if closed then s else supplyStop s
    keepDisc (discRun s)) s

/-- T_fb has run at the step of the check, or since the pins came to disagree (R408, R409). -/
def fbTimeOver (s : State) : Bool := bandOver s s.saf.discAt (s.objN 0x2D00 2 * 1000000000)

/-- DISC_FB_TIMEOUT: T_fb ends at a step of the check, which fails unless DISC_FB reads as it must, or with DISC_FB
disagreeing with DISC_EN. -/
def execDiscFbTimeout (t : Nat) (s : State) : Host.Outcome State Fault Refusal :=
  act t (fun s =>
    let s := discRun s
    if !fbTimeOver s then s
    else if s.saf.discStep ≠ 0 then
      setCause 0x03 true (leBytes 1 s.saf.discStep) (keepDisc { s with saf := { s.saf with discStep := 0, discOnly4 := false } })
    else if s.saf.discFb ≠ s.saf.discEn then setCause 0x03 true [] s
    else s) s

/-! ## Watchdogs, link loss, self-check, hold lines -/

/-- BLANKING_TIMEOUT: R393 not acknowledged within 10 us. -/
def execBlankingTimeout (t : Nat) (s : State) : Host.Outcome State Fault Refusal := act t (raiseSrc 0xDB []) s

/-- HELM_WATCHDOG (R410). -/
def execHelmWatchdog (t : Nat) (s : State) : Host.Outcome State Fault Refusal :=
  act t (fun s => if running s then raiseSrc 0xC1 [] { s with saf := { s.saf with helmMissed := some s.now } } else s) s

/-- A command that waits is the entry to FL0, in the tick of TB5 that is now (R411). -/
def fl0Now (s : State) (c : Instr) : Bool :=
  match c with
  | .fl0Entry t _ => s.lane.st = .atRate && tickOf t == tickOf s.now
  | .fastRetrainComplete t _ => s.lane.st = .retrain && tickOf t == tickOf s.now
  | _ => false

/-- LINK_LOSS_TIMEOUT: tollgate.link_timeout after the link went down, unless FL0 has been regained: where the entry to
FL0 waits in the same tick of TB5, FL0 prevails (R411). -/
def execLinkLossTimeout (t : Nat) (s : State) : Host.Outcome State Fault Refusal :=
  act t (fun s =>
    if s.lane.downAt.any (fun a => bandOver s a (s.objN 0x2D00 3 * 1000000000)) && !s.pending.any (fl0Now s) then setCause 0x05 true [] { s with lane := { s.lane with downAt := none } } else s) s

/-- The collector's own fault (R412): hold lines asserted, or DISC_EN dropped in READY (R429); the state HOLD. -/
def selfFault (s : State) : State :=
  let s := raiseSrc 0 [] { s with saf := { s.saf with selfFault := true } }
  if lit s then setHold true s else if active s then dropDisc s else s

/-- SELF_FAULT. -/
def execSelfFault (t : Nat) (s : State) : Host.Outcome State Fault Refusal := act t selfFault s

/-- HOLD_LINE_READBACK: what a half reads back against what is commanded (R389). -/
def execHoldLineReadback (t : Nat) (south : Bool) (asserted : Bool) (s : State) : Host.Outcome State Fault Refusal :=
  act t (fun s =>
    let cmd := if south then s.saf.holdS else s.saf.holdN
    setCause (if south then 0xD9 else 0xD8) (asserted ≠ cmd) [] s) s

/-! ## The class table (R386) -/

/-- A class table keeps every floor, 0xFF without a source and HOLD for source 0x00 (R386, R389). -/
def classesOk (s : State) (data : List Byte) : Bool :=
  (upTo 256).all (fun i =>
    let c := (nth data i 255).toNat
    match faultRow i with
    | none => c == 255
    | some _ => decide (floorNow s i ≤ c) && decide (c ≤ 4) && (i != 0 || c == 3))

/-- The lowest latched source of a class. -/
def firstLatched (s : State) (c : Nat) : Nat :=
  ((upTo 256).find? (fun i => bmGet s.saf.latched i && classOf s i == c)).getD 255

/-- The handler of tollgate.class; a class raised for a latched source may raise the state at once (R391). -/
def classH (data : List Byte) (s : State) : Nat × State :=
  if classesOk s data then
    let s := s.setObj 0x2D10 3 data
    (0, retarget (firstLatched s (targetClass s)) s)
  else (abRange, s)

/-- CLASS_WRITE. -/
def execClassWrite (t : Nat) (p : Path) (data : List Byte) (s : State) : Host.Outcome State Fault Refusal :=
  objWrite t p 0x2D10 3 data (fedH classH) s

/-! ## Protected store: staging (R464) and the limp patterns (R394 to R397) -/

/-- The copy in force of the protected store. -/
def protNow (s : State) : Prot := nth s.nv.copies s.nv.copy {}

/-- The staging copy as the next record write finds it (R464). -/
def staging (s : State) : Prot := if s.mg.psStaged then nth s.nv.copies (1 - s.nv.copy) {} else protNow s

/-- Bytes one tile of 8 x 8 nibbles takes in the smallest plane record with B = 4 (R172; log 24). -/
def tileCoded (vs : List Nat) : Nat :=
  let lo := vs.foldl min 15
  let d := vs.foldl max 0 - lo
  if d = 0 then 2 else if d < 2 then 10 else if d < 4 then 18 else if d < 8 then 26 else 33

/-- Coded bytes of a function map: a tile table and one record a tile; 0 for an absent one (R464). -/
def mapCoded (map : List Byte) : Nat :=
  if map.isEmpty then 0
  else (upTo 32768).foldl (fun a i =>
    a + 4 + tileCoded ((upTo 64).map (fun k => mapNib map (8 * (i % 256) + k % 8) (8 * (i / 256) + k / 8)))) 0

/-- Coded bytes of a copy: its records and a u32 length for each (R464). -/
def protCoded (c : Prot) : Nat :=
  24 + mapCoded c.map + c.layer.length + (c.limp.map List.length).foldl (· + ·) 0

/-- A record write into staging (R464): refused without room, while the update path is PREPARED (R472), and from a commit until
its result (R465). -/
def stage (c : Prot) (s : State) : Nat × State :=
  if prepared s .updatePath || s.mg.psVerifying || copying s then (abState, s)
  else if 524288 < protCoded c then (abRange, { s with mg := { s.mg with psResult := 1 } })
  else (0, { s with nv := { s.nv with copies := modNth s.nv.copies (1 - s.nv.copy) (fun _ => c) }
                    mg := { s.mg with psStaged := true } })

/-- A rectangle of a limp pattern: X0, Y0, X1, Y1, WORD (Table 15.4). -/
def limpRect (r : List Byte) (i : Nat) : Nat × Nat × Nat × Nat × Nat :=
  let o := 16 + 12 * i
  (leField r o 2, leField r (o + 2) 2, leField r (o + 4) 2, leField r (o + 6) 2, leField r (o + 8) 2)

/-- Rectangles of a pattern. -/
def limpCount (r : List Byte) : Nat := leField r 1 1

/-- The word of a pattern at a pixel: that of the last rectangle that contains it (R395). -/
def limpWord (r : List Byte) (x y : Nat) : Nat :=
  (upTo (limpCount r)).foldl (fun w i =>
    let (x0, y0, x1, y1, v) := limpRect r i
    if x0 ≤ x && x ≤ x1 && y0 ≤ y && y ≤ y1 then v else w) 0

/-- The layout of Table 15.4. -/
def limpLayout (r : List Byte) : Bool :=
  leField r 0 1 == 1 && decide (1 ≤ limpCount r) && decide (limpCount r ≤ 64) &&
  decide (r.length = 16 + 12 * limpCount r) && ((r.drop 2).take 14).all (· == 0) &&
  (upTo (limpCount r)).all (fun i =>
    let (x0, y0, x1, y1, w) := limpRect r i
    decide (x0 ≤ x1) && decide (x1 ≤ 2047) && decide (y0 ≤ y1) && decide (y1 ≤ 1023) && decide (w < 16384) &&
    leField r (16 + 12 * i + 10) 2 == 0)

/-- Sum of a function over the pixels of a row. -/
def sumRow (f : Nat → Nat) : Nat := (upTo 2048).foldl (fun a x => a + f x) 0

/-- Total light of a pattern in LO units (R396). -/
def limpLight (r : List Byte) : Nat := (upTo 1024).foldl (fun a y => a + sumRow (fun x => wLight (limpWord r x y))) 0

/-- The handler of limp.pattern n, 1 to 4 (R396). -/
def limpH (n : Nat) (data : List Byte) (s : State) : Nat × State :=
  if limpLayout data && decide (limpLight data ≤ 15728640000) then
    stage { staging s with limp := modNth (staging s).limp (n - 1) (fun _ => data) } s
  else (abRange, s)

/-- LIMP_PATTERN_WRITE. -/
def execLimpPatternWrite (t : Nat) (p : Path) (n : Fin 4) (data : List Byte) (s : State) : Host.Outcome State Fault Refusal :=
  objWrite t p (0x2D30 + n.val) 1 data (fedH (limpH (n.val + 1))) s

/-- The handler of function.map (R65, R464). -/
def mapH (data : List Byte) (s : State) : Nat × State := stage { staging s with map := data } s

/-- FUNCTION_MAP_WRITE. -/
def execFunctionMapWrite (t : Nat) (p : Path) (data : List Byte) (s : State) : Host.Outcome State Fault Refusal :=
  objWrite t p 0x2020 1 data (fedH mapH) s

/-- The shadow words of a limp beam: every pixel whose word is not 0, by 2048 y + x (R394). -/
def limpWords (r : List Byte) : List (Nat × Nat) :=
  (upTo 1024).flatMap (fun y => (upTo 2048).filterMap (fun x =>
    let w := limpWord r x y
    if w = 0 then none else some (2048 * y + x, w)))

/-- The sums of a limp pattern, as of one class (R394). -/
def limpSums (s : State) (r : List Byte) : Sums :=
  let seg := fun (j : Nat) => (limpWords r).foldl (fun a e =>
    a + nth s.diag.iHi (keyD e.1) 0 * segLight s.frm.mode.order e.2 j) 0
  { raw := List.replicate 16 (List.replicate 16 0) ++ [(upTo 16).map seg] }

/-- LIMP_LOAD_DONE: the limp loader has filled the shadow words of both halves (R394). -/
def execLimpLoadDone (t : Nat) (s : State) : Host.Outcome State Fault Refusal :=
  act t (fun s =>
    if s.saf.state = .limp && !s.saf.limpLoaded && s.saf.limpPattern ≠ 0 then
      { s with saf := { s.saf with limpLoaded := true, limpSums := limpSums s s.saf.limpIn }
               arr := { s.arr with shadow := limpWords s.saf.limpIn } }
    else s) s

/-! ## Factory mode (R413, R414) -/

/-- Factory mode ends: injected causes go, the cause of 0x06 goes. -/
def factoryEnd (s : State) : State :=
  setCause 0x06 false [] { s with saf := { s.saf with factory := false, testen := false, injected := 0, injectReg := 0, unlockStep := 0 } }

/-- Byte k of the unlock sequence. -/
def unlockByte (k : Nat) : Nat := nth [0x3C, 0xC3, 0x69, 0x96] k 256

/-- The handler of factory.unlock. -/
def unlockH (data : List Byte) (s : State) : Nat × State :=
  let v := leNat data
  let s := { s with saf := { s.saf with unlockReg := v } }
  if s.saf.factory then (0, if v = 0 then factoryEnd s else s)
  else
    let k := s.saf.unlockStep
    let inTime := if k = 0 then decide (s.now ≤ s.saf.releaseAt + 10000000000000) else decide (s.now ≤ s.saf.unlockAt + 1000000000000)
    let all := decide (s.now ≤ s.saf.releaseAt + 10000000000000)
    if v = unlockByte k && inTime && all then
      if k = 3 then
        (0, setCause 0x06 true [] { s with saf := { s.saf with factory := true, unlockStep := 0, unlockAt := s.now } })
      else (0, { s with saf := { s.saf with unlockStep := k + 1, unlockAt := s.now } })
    else (0, { s with saf := { s.saf with unlockStep := if v = 0x3C && all then 1 else 0, unlockAt := s.now } })

/-- FACTORY_UNLOCK. -/
def execFactoryUnlock (t : Nat) (p : Path) (v : Nat) (s : State) : Host.Outcome State Fault Refusal :=
  objWrite t p 0xF010 1 (leBytes 1 v) unlockH s

/-- FACTORY_EXIT: the write of 0x00. -/
def execFactoryExit (t : Nat) (p : Path) (s : State) : Host.Outcome State Fault Refusal :=
  objWrite t p 0xF010 1 [0] unlockH s

/-- An injected cause acts as a real one: through the retry of its block, a first failure first (R388, R414). -/
def inject (id form : Nat) (s : State) : State :=
  let had := bmGet s.saf.causes id
  let raised := fun s =>
    let s := if retried id then transientSrc id [0xF1] s else s
    let s := if floorNow s id ≠ floorOf id then { s with saf := { s.saf with floorUp := bmSet s.saf.floorUp id } } else s
    let s := if id = 0 then selfFault s else raiseSrc id [0xF1] s
    if had then s else { s with saf := { s.saf with causes := bmClr s.saf.causes id } }
  match form with
  | 0 => let s := raised s; { s with saf := { s.saf with injected := bmSet s.saf.injected id } }
  | 1 => transientSrc id [0xF1] (transientSrc id [0xF1] s)
  | _ => raised s

/-- The handler of factory.inject. -/
def injectH (data : List Byte) (s : State) : Nat × State :=
  let v := leNat data
  if !hasSource (v % 256) || 2 < v / 256 then (abRange, s)
  else (0, inject (v % 256) (v / 256) { s with saf := { s.saf with injectReg := v } })

/-- FACTORY_INJECT. -/
def execFactoryInject (t : Nat) (p : Path) (v : Nat) (s : State) : Host.Outcome State Fault Refusal :=
  objWrite t p 0xF010 2 (leBytes 2 v) injectH s

/-- The handler of factory.inject_clear. -/
def injectClearH (_ : List Byte) (s : State) : Nat × State := (0, { s with saf := { s.saf with injected := 0 } })

/-- FACTORY_INJECT_CLEAR. -/
def execFactoryInjectClear (t : Nat) (p : Path) (v : Nat) (s : State) : Host.Outcome State Fault Refusal :=
  objWrite t p 0xF010 3 (leBytes 1 v) injectClearH s

end Sys2Proof.Machine
end

