-- ==== Sys2Proof/Machine/Mask.lean ====
section
/-!
DEFINITION. Glare masks (chapter 8) and the bits of a gate plane (Table 2.5): mask sets, their checks, lifetimes and
expiry, and what a gate plane holds at a pixel.
-/

namespace Sys2Proof.Machine

/-! ## The gate plane (R53) -/

/-- A mask set covers pixel (x, y) (R221). -/
def maskCovers (shapes : List Shape) (margin x y : Nat) : Bool := shapes.any (fun v => shapeCovers v margin x y)

/-- The order of Table 2.5 that decides the gate bit at a pixel, orders 3 and 5 read together outside the footprint. -/
def gateOrder (g : GateRules) (x y : Nat) : Nat :=
  let f := mapNib g.map x y
  if f = 0 then 2
  else if inFootprint g.prot x y then 4
  else if g.dark.contains f then 3
  else if g.maskable.contains f && (g.zeroLevel.contains f || maskCovers g.shapes g.margin x y) then 6
  else if g.maskable.contains f && g.off7 then 7
  else 8

/-- The bit of a gate plane at a pixel (R53, R81, R394). -/
def gateBit (p : GatePlane) (x y : Nat) : Bool :=
  match p with
  | .zero => false
  | .rules g => gateOrder g x y == 4 || gateOrder g x y == 8
  | .probe rows => bitOf (nth rows y 0) x
  | .limp r => limpWord r x y ≠ 0

/-- Pixels a gate plane holds at 0 under rule 6 (R235). -/
def planeCovered (p : GatePlane) : Nat :=
  match p with
  | .rules g => (upTo 1024).foldl (fun a y => a + sumRow (fun x => b2n (gateOrder g x y == 6))) 0
  | _ => 0

/-! ## Mask sets -/

/-- Changes the mask block. -/
def modMask (f : Mask → Mask) (s : State) : State := { s with mask := f s.mask }

/-- Lead of a mask set before a gate launch in ps (R226). -/
def maskLead : Nat := 60000000

/-- Arrival to known in ps (R226). -/
def maskKnown : Nat := 4000000

/-- An instant as the engine records it: the first tick of the TB4 source in use at or after it, on the grid of the launches
(R226). -/
def tickUp (s : State) (a : Nat) : Nat :=
  let p := if nth s.tb.src 4 2 = 0 then 2000 else 15625
  s.frm.frameAt + (a - s.frm.frameAt + p - 1) / p * p

/-- MSEQ a is newer than b (Table 8.3). -/
def mseqNewer (a b : Nat) : Bool :=
  let d := (a + 65536 - b) % 65536
  decide (1 ≤ d) && decide (d ≤ 32767)

/-- A MASK packet's reserved bytes and length against its OP (R218). -/
def maskMalformed (k : Packet) : Bool :=
  kLen k ≠ 1 + 2 * kF k 1 1 || !kZero k 7 9 || (kF k 0 1 == 2 && (kF k 1 1 ≠ 0 || kF k 6 1 ≠ 0))

/-- The shapes of a SET. -/
def maskShapes (k : Packet) : List Shape := (upTo (kF k 1 1)).map (fun i => Shape.parse (k.payload.drop (16 + 32 * i)))

/-- A coordinate lies outside its range (Table 8.3). -/
def shapeRange (v : Shape) : Bool :=
  v.any (fun q => decide (q.1 < -65536) || decide (65536 < q.1) || decide (q.2 < -65536) || decide (65536 < q.2))

/-- The first check of Table 8.3 that a SET fails; 0 for none. -/
def setCheck (k : Packet) (s : State) : Nat :=
  let sh := maskShapes k
  if 32 < kF k 1 1 then 1
  else if kF k 4 2 = 0 || 1000 < kF k 4 2 then 2
  else if 15 < kF k 6 1 && kF k 6 1 ≠ 255 then 3
  else if sh.any shapeRange then 4
  else if sh.any (fun v => !convex v) then 5
  else if s.mask.st ≠ .none && s.mask.cur.any (fun m => !mseqNewer (kF k 2 2) m.mseq) then 6
  else 0

/-- A rejected set: counted, recorded, reported (R219). The context is the reason as a byte, then MSEQ as 2 bytes: DESIGN CHOICE,
log 195. -/
def maskReject (reason mseq : Nat) (s : State) : State :=
  event 0x104 255 (leBytes 1 reason ++ leBytes 2 mseq) (modMask (fun m => { m with
    rejected := m.rejected + 1, rejectReason := reason, rejectMseq := mseq }) s)

/-- The state of the source 0x25 follows EXPIRED (R231). -/
def maskCause (s : State) : State := setCause 0x25 (s.mask.st = .expired) [] s

/-- Source 0x25 as it was before an expiry that did not happen: latched bit, count, log entry and the entry to DEGRADED that it
caused. -/
def unexpire (u : MaskUndo) (s : State) : State :=
  let o := u.saf
  let c := s.saf
  let mine := c.state = .degraded && o.state = .normal && c.entrySource = 0x25 && c.transitions = o.transitions + 1
  let x := { c with latched := if bmGet o.latched 0x25 then c.latched else bmClr c.latched 0x25
                    raises := modNth c.raises 0x25 (fun _ => nth o.raises 0x25 0) }
  { s with
    mg := { s.mg with logQueue := u.logQueue ++ (s.mg.logQueue.drop u.logQueue.length).filter (fun e => e.source ≠ 0x25) }
    saf := if mine then { x with state := o.state, transitions := o.transitions, entrySource := o.entrySource
                                 entryTime := o.entryTime, entryInstant := o.entryInstant } else x }

/-- A packet that arrives in the TB5 tick in which the lifetime has ended keeps the set alive: the expiry did not happen
(R229, Table 8.5); a message that was sent of it stands (log 196). -/
def maskLives (s : State) : State :=
  match s.mask.expiredAt with
  | some u =>
    if s.mask.st = .expired && tickOf s.now = tickOf u.at_ then
      unexpire u (maskCause (modMask (fun x => { x with
        st := .active, dead := u.dead, dim := u.dim, expiries := x.expiries - 1, expiredAt := none }) s))
    else s
  | none => s

/-- A MASK packet has its effect when it is consumed: it is the engine's, passes, and is well formed (R134, R218). -/
def maskHeard (k : Packet) (s : State) : Bool :=
  kTy k == 2 && kHere s k && consumes s k && kPass k && hdrBits k.hdr 47 38 == 0 && !maskMalformed k && !s.pw.exiting

/-- A RENEW that the set in force takes (R219). -/
def renewTakes (k : Packet) (s : State) : Bool :=
  decide (1 ≤ kF k 4 2) && decide (kF k 4 2 ≤ 1000) && s.mask.cur.any (fun m => m.mseq == kF k 2 2)

/-- A SET or RENEW that will be accepted waits in the tick of TB5 that is now (R229). -/
def maskWaits (s : State) (c : Instr) : Bool :=
  match c with
  | .maskSet t k => tickOf t == tickOf s.now && maskHeard k s && kF k 0 1 == 1 && setCheck k s == 0
  | .maskRenew t k => tickOf t == tickOf s.now && maskHeard k s && kF k 0 1 == 2 && renewTakes k s
  | _ => false

/-- MASK_SET: a set is accepted, its lifetime starting at its arrival, or rejected (R219, R229, R232). -/
def execMaskSet (t : Nat) (k : Packet) (s : State) : Host.Outcome State Fault Refusal :=
  act t (fun s =>
    if !(kTy k == 2 && kF k 0 1 == 1) then s
    else consume k (maskMalformed k) false false (fun s =>
      match setCheck k s with
      | 0 =>
        let s := maskLives s
        let m : MaskSet :=
          { mseq := kF k 2 2, shapes := maskShapes k, arrival := tickUp s s.now, lifetime := kF k 4 2
            margin := if kF k 6 1 = 255 then s.objN 0x2600 1 else kF k 6 1 }
        maskCause (modMask (fun x => { x with
          st := .active, known := x.known ++ [m], cur := some m, expiry := s.now + m.lifetime * 1000000000, lifeFrom := s.now
          endFrom := if x.st = .active then x.endFrom else some s.now
          accepted := x.accepted + 1 }) (took s))
      | r => maskReject r (kF k 2 2) s) s) s

/-- MASK_RENEW: the lifetime of the set in force restarts, or the packet is rejected (R219, R232). -/
def execMaskRenew (t : Nat) (k : Packet) (s : State) : Host.Outcome State Fault Refusal :=
  act t (fun s =>
    if !(kTy k == 2 && kF k 0 1 == 2) then s
    else consume k (maskMalformed k) false false (fun s =>
      let s := if renewTakes k s then maskLives s else s
      if kF k 4 2 = 0 || 1000 < kF k 4 2 then maskReject 2 (kF k 2 2) s
      else if s.mask.st ≠ .active || !s.mask.cur.any (fun m => m.mseq == kF k 2 2) then maskReject 7 (kF k 2 2) s
      else modMask (fun x => { x with
        expiry := s.now + kF k 4 2 * 1000000000, lifeFrom := s.now, renewals := x.renewals + 1
        cur := x.cur.map (fun m => { m with lifetime := kF k 4 2 }) }) (took s)) s) s

/-- The lifetime that started last can have ended, as the keeper times it (R229). -/
def maskDue (s : State) : Bool := bandOver s s.mask.lifeFrom (s.mask.expiry - s.mask.lifeFrom)

/-- MASK_EXPIRY: the lifetime ends; the expired policy applies from the next gate window (R230, R231). The end of a lifetime
that a later packet has restarted, or restarts in the same tick, is none (R229). -/
def execMaskExpiry (t : Nat) (s : State) : Host.Outcome State Fault Refusal :=
  act t (fun s =>
    if s.mask.st ≠ .active || !maskDue s || s.pending.any (maskWaits s) then s
    else
      let u : MaskUndo := { at_ := s.now, dim := s.mask.dim, dead := s.mask.dead, saf := s.saf, logQueue := s.mg.logQueue }
      maskCause (modMask (fun x => { x with
        st := .expired, dead := true, dim := true, expiries := x.expiries + 1, expiredAt := some u }) s)) s

/-- The opening of a gate window of launch L: of the sets known in time the last applies; the others, and the one before
where its launch never came, are superseded (R226, R228). -/
def maskTake (l : Nat) (s : State) : State :=
  let known := s.mask.known.filter (fun m => decide (m.arrival + maskLead ≤ l))
  match known.getLast? with
  | none => s
  | some m => modMask (fun x => { x with
      known := x.known.filter (fun m => !decide (m.arrival + maskLead ≤ l)), force := some m
      dead := x.st ≠ .active
      superseded := x.superseded + BitVec.ofNat 32 (known.length - 1 + b2n (x.force.any (fun m => !m.reached))) }) s

/-- A gate launch: latency of the set it first governs, lifetime left, pixels covered (R228, R235). A probe pattern or a limp
plane governs nothing and covers no pixel under rule 6 (R233). -/
def maskLaunch (p : GatePlane) (s : State) : State :=
  let rules := match p with | .rules _ => true | _ => false
  let lat := match s.mask.force with
    | some m => if m.reached || !rules then s.mask.latency else (roundFree 2 (s.now - m.arrival : Nat) 1000).toNat
    | none => s.mask.latency
  let left := if s.mask.st = .active then (roundFree 3 (s.mask.expiry - s.now : Nat) 1000000000).toNat else 0
  let s := modMask (fun x => { x with
    latency := lat, remaining := left, covered := planeCovered p
    force := x.force.map (fun m => { m with reached := m.reached || rules }) }) s
  publish 0x2601 [leBytes 1 (match s.mask.st with | .none => 0 | .active => 1 | .expired => 2),
    leBytes 2 (match s.mask.force with | some m => m.mseq | none => 0),
    leBytes 1 (match s.mask.force with | some m => m.shapes.length | none => 0),
    leBytes 1 (match s.mask.force with | some m => m.margin | none => 0),
    leBytes 2 s.mask.remaining, leBytes 4 s.mask.latency, leBytes 4 s.mask.covered] s

/-- State NONE at entry to READY (R230). -/
def maskNone (s : State) : State :=
  maskCause (modMask (fun x => { x with
    st := .none, known := [], cur := none, force := none, expiry := 0, lifeFrom := 0, expiredAt := none, endFrom := none
    dead := true, dim := true }) s)

end Sys2Proof.Machine
end

