-- ==== Sys2Proof/Machine/Compose.lean ====
section
/-!
DEFINITION. The Square (chapter 7): a descriptor's composition part, its validation and charges, static runs and the
flatten cache, the samples of a composition, and the code of a pixel.
-/

namespace Sys2Proof.Machine

/-! ## Descriptors (R86, R188) -/

/-- A field of a descriptor's header (Table 3.3). -/
def dF (raw : List Byte) (off n : Nat) : Nat := leField raw off n

/-- The composition part of a descriptor. -/
def compPart (raw : List Byte) : List Byte := (raw.drop 32).take (dF raw 0x12 2)

/-- NLAYERS. -/
def nLayers (raw : List Byte) : Nat := leField (compPart raw) 0 1

/-- CFLAGS. -/
def cFlags (raw : List Byte) : Nat := leField (compPart raw) 1 1

/-- MASK: a soft-mask record is present. -/
def hasSoft (raw : List Byte) : Bool := bitOf (cFlags raw) 0

/-- The 32 bytes of record i, the soft mask after the layers (Table 7.1). -/
def recBytes (raw : List Byte) (i : Nat) : List Byte := ((compPart raw).drop (8 + 32 * i)).take 32

/-- Records of a descriptor with their index, the soft mask as index 8. -/
def recList (raw : List Byte) : List (Nat × List Byte) :=
  (upTo (nLayers raw)).map (fun i => (i, recBytes raw i)) ++ (if hasSoft raw then [(8, recBytes raw (nLayers raw))] else [])

/-- Distinct slots a descriptor references (R180). -/
def descSlots (raw : List Byte) : List Nat :=
  ((recList raw).map (fun r => leField r.2 0 1) ++ (if bitOf (dF raw 4 2) 1 then [dF raw 6 1] else []) ++
    (if bitOf (dF raw 4 2) 2 then [dF raw 7 1] else [])).eraseDups

/-- A descriptor's own lengths agree with its length (R86, R148). -/
def descLength (raw : List Byte) : Nat :=
  32 + dF raw 0x12 2 + 4 * ((upTo 16).filter (fun w => bitOf (dF raw 0x14 2) w)).length

/-- The expected value a descriptor carries for check window w, if any (R86). -/
def descExpected (raw : List Byte) (w : Nat) : Option Nat :=
  if bitOf (dF raw 0x14 2) w then
    some (leField raw (32 + dF raw 0x12 2 + 4 * ((upTo w).filter (fun v => bitOf (dF raw 0x14 2) v)).length) 4)
  else none

/-! ## Static runs (R205, R206) -/

/-- Columns or rows a layer covers along one axis, clipped to n pixels: first and past the last. -/
def coverSpan (o : Int) (d n : Nat) : Nat × Nat :=
  let a := clampI (-((8 - o) / 16)) 0 n
  let b := clampI (-((8 - o - 16 * d) / 16)) 0 n
  (a.toNat, b.toNat)

/-- The rectangle a layer covers in the array, as x0, y0, x1, y1 with the ends excluded; none when empty. -/
def coverRect (l : LayerRec) : Option (Nat × Nat × Nat × Nat) :=
  let (x0, x1) := coverSpan l.ox l.dw 2048
  let (y0, y1) := coverSpan l.oy l.dh 1024
  if x0 < x1 && y0 < y1 then some (x0, y0, x1, y1) else none

/-- The smallest rectangle around two. -/
def rectJoin (a b : Option (Nat × Nat × Nat × Nat)) : Option (Nat × Nat × Nat × Nat) :=
  match a, b with
  | some p, some q => some (min p.1 q.1, min p.2.1 q.2.1, max p.2.2.1 q.2.2.1, max p.2.2.2 q.2.2.2)
  | some p, none => some p
  | none, q => q

/-- Length of the static run: layers from the bottom that are STATIC with ready slots (R205). -/
def runLength (s : State) (raw : List Byte) : Nat :=
  ((upTo (nLayers raw)).takeWhile (fun i =>
    let l := LayerRec.parse (recBytes raw i)
    l.isStatic && (slotOf s l.slot).ready)).length

/-- The static run of a descriptor at its commit (R205, R206). -/
def runOf (s : State) (raw : List Byte) : Option Run :=
  let n := runLength s raw
  if n = 0 then none
  else
    let ls := (upTo n).map (fun i => recBytes raw i)
    let r := (ls.map (fun b => coverRect (LayerRec.parse b))).foldl rectJoin none
    let lay := ls.map (fun b => (b, (slotOf s (leField b 0 1)).gen.toNat))
    match r with
    | some (x0, y0, x1, y1) => some ⟨lay, x0, y0, x1 - x0, y1 - y0⟩
    | none => some ⟨lay, 0, 0, 0, 0⟩

/-- Row stride of a run in the flatten cache (R206). -/
def Run.stride (r : Run) : Nat := 8 * ((2 * r.w + 7) / 8)

/-- The run fits the cache (R206). -/
def runFits (s : State) (r : Run) : Bool := decide (r.stride * r.h ≤ 65536 * s.objN 0x2400 1)

/-! ## Commit validation (R210, R211) -/

/-- A slot's format is permitted for a role: 0 beam, 1 symbol, 2 soft mask (Table 7.3). -/
def roleOk (role fmt : Nat) : Bool :=
  match role with
  | 0 => decide (fmt ≤ 3)
  | 1 => fmt == 4 || fmt == 5
  | _ => fmt == 6

/-- Role of a record. -/
def roleOf (i : Nat) (l : LayerRec) : Nat := if i = 8 then 2 else if l.symbol then 1 else 0

/-- Order 1 of Table 7.6 for the header: true when broken. -/
def compFormatBad (raw : List Byte) : Bool :=
  dF raw 0x12 2 ≠ 8 + 32 * (nLayers raw + b2n (hasSoft raw)) || decide (8 < nLayers raw) || decide (8 ≤ cFlags raw) ||
  leField (compPart raw) 2 6 ≠ 0

/-- The first check of Table 7.6, orders 1 to 7, that one record fails; 0 for none. -/
def recFails (s : State) (i : Nat) (b : List Byte) (code : Nat) : Bool :=
  let l := LayerRec.parse b
  let k := slotOf s l.slot
  match code with
  | 0x10 => l.rsv || (i = 8 && (l.symbol || l.isStatic))
  | 0x11 => k.state = 0
  | 0x12 => !roleOk (roleOf i l) k.format
  | 0x13 => decide (l.ox < -65536) || decide (65536 < l.ox) || decide (l.oy < -65536) || decide (65536 < l.oy) ||
      l.dw = 0 || decide (16384 < l.dw) || l.dh = 0 || decide (16384 < l.dh) ||
      (!l.scaled && (l.dw ≠ k.width || l.dh ≠ k.height))
  | 0x14 => decide (l.hstep < 512) || decide (16384 < l.hstep) || decide (l.vstep < 512) || decide (16384 < l.vstep)
  | 0x16 => l.scaled && decide (4096 < sNeed l.dw l.hstep)
  | _ => false

/-- Weight of a record in half pixel-layers (Table 7.7). -/
def recWeight (s : State) (l : LayerRec) : Nat := if l.scaled then 4 else if (slotOf s l.slot).compressed then 3 else 2

/-- Charge of a record at source cost (R211). -/
def recCharge (s : State) (b : List Byte) : Nat :=
  let l := LayerRec.parse b
  recWeight s l * (min l.dw 2048 * min l.dh 1024)

/-- The predecessor in launch order: the tail of the queue, or the frame in force (R211). -/
def predDesc (s : State) : Option Desc := match s.frm.queue.getLast? with | some d => some d | none => s.frm.cur

/-- The descriptor is cache-continuing (R211). -/
def continuing (s : State) (raw : List Byte) : Bool :=
  match runOf s raw, predDesc s with
  | some r, some d => runFits s r && d.run.any (fun q => decide (q.layers = r.layers))
  | _, _ => false

/-- Charges of a descriptor by index 0 to 8, at source cost, a layer whose slot is FILLING at the larger of its own and its
predecessor's (R211). -/
def chargeList (s : State) (raw : List Byte) : List Nat :=
  let prev := match predDesc s with | some d => d.charges | none => []
  (upTo 9).map (fun i =>
    match (recList raw).find? (fun r => r.1 == i) with
    | some (_, b) =>
      let own := recCharge s b
      if (slotOf s (leField b 0 1)).state = 1 then max own (nth prev i 0) else own
    | none => 0)

/-- The sum h of R211. -/
def chargeSum (s : State) (raw : List Byte) : Nat :=
  let n := if continuing s raw then runLength s raw else 0
  let run := if continuing s raw then (match runOf s raw with | some r => 2 * (r.w * r.h) | none => 0) else 0
  let p := ProtHdr.parse s.comp.bankRec
  ((upTo 9).map (fun i => if i < n then 0 else nth (chargeList s raw) i 0)).foldl (· + ·) (run + 3 * (p.width * p.height))

/-- The rate r of R212. -/
def chargeRate (s : State) : Nat := max s.frm.mode.rate (match s.frm.pend with | some m => m.rate | none => 0)

/-- The first check of Table 7.6 that refuses a descriptor: its code and the item of comp.reject_layer. Where no single record
fails the item is 0xFF for COMP_FORMAT of the header, and the third scaled record for SCALERS: DESIGN CHOICE, log 168. -/
def squareCheck (s : State) (raw : List Byte) : Option (Nat × Nat) :=
  if compFormatBad raw then some (0x10, 255)
  else
    let rs := recList raw
    let find := fun code => (rs.find? (fun r => recFails s r.1 r.2 code)).map (fun r => (code, r.1))
    let scaled := rs.filter (fun r => (LayerRec.parse r.2).scaled)
    match find 0x10, find 0x11, find 0x12, find 0x13, find 0x14 with
    | some e, _, _, _, _ => some e
    | none, some e, _, _, _ => some e
    | none, none, some e, _, _ => some e
    | none, none, none, some e, _ => some e
    | none, none, none, none, some e => some e
    | none, none, none, none, none =>
      if 2 < scaled.length then some (0x15, (nth scaled 2 (255, [])).1)
      else match find 0x16 with
        | some e => some e
        | none => if 12000000000000 < chargeSum s raw * chargeRate s then some (0x17, 255) else none

/-- What a refusal by the Square leaves in its objects (R210, R217). comp.reject_samples is held at 65,535 above a U16:
DESIGN CHOICE, log 169. -/
def squareRefused (code item : Nat) (raw : List Byte) (s : State) : State :=
  let load := (roundFree 4 (chargeSum s raw * chargeRate s : Nat) 2000000).toNat
  let need := match (recList raw).find? (fun r => r.1 == item) with
    | some (_, b) => (sNeed (LayerRec.parse b).dw (LayerRec.parse b).hstep).toNat
    | none => 0
  { s with comp := { s.comp with
      rejectLayer := item
      rejectLoad := if code = 0x17 then load else s.comp.rejectLoad
      rejectSamples := if code = 0x16 then min need 65535 else s.comp.rejectSamples } }

/-- An accepted descriptor as the queue holds it: its pins, run and charges, comp.load (R180, R205, R211). -/
def acceptDesc (raw : List Byte) (s : State) : Desc :=
  { raw := raw, seq := dF raw 0 4, pins := descSlots raw, run := runOf s raw, runLen := runLength s raw
    contd := continuing s raw, charges := chargeList s raw }

/-! ## Samples of a composition (R213 to R215) -/

/-- The pattern-engine output in force on a target (R343). -/
def driveOf (s : State) (kind index : Nat) : Option Drive :=
  s.pat.vis.find? (fun d => d.kind == kind && d.index == index)

/-- A layer record with the pattern-engine outputs of its layer (R213, R341). -/
def drivenRec (s : State) (i : Nat) (l : LayerRec) : LayerRec :=
  let l := match driveOf s 1 i with | some d => { l with alpha := d.a.toNat } | none => l
  let l := match driveOf s 2 i with | some d => { l with ox := d.a, oy := d.b } | none => l
  match driveOf s 3 i with | some d => { l with iscale := d.a.toNat } | none => l

/-- The scaling regions as sampled, driven scales included (R199, R213). -/
def regionsNow (s : State) : List Region :=
  (upTo 16).map (fun r =>
    { enable := s.objB (0x2510 + r) 1, x0 := s.objN (0x2510 + r) 2, y0 := s.objN (0x2510 + r) 3, x1 := s.objN (0x2510 + r) 4
      y1 := s.objN (0x2510 + r) 5
      scale := match driveOf s 4 r with | some d => d.a.toNat | none => s.objN (0x2510 + r) 6 })

/-- The beam offset (R316). -/
def beamOffset (s : State) : Int := sext 16 (unsext 16 ((s.sup.lp + 2147483648) / 4294967296))

/-- A record as a composition uses it, from its slot as it stands. -/
def useNow (s : State) (raw : List Byte) (l : LayerRec) : LayerUse :=
  { raw := raw, rel := l, slot := slotOf s l.slot, palette := paletteOf s (slotOf s l.slot).palette, omitted := false }

/-- How record i is composed: from its slot, stale, or omitted (R214): 0, 1 or 2 with the use. Pattern outputs do not act on a
STATIC layer (R205). -/
def useOf (s : State) (i : Nat) (raw : List Byte) : Nat × LayerUse :=
  let l := LayerRec.parse raw
  if (slotOf s l.slot).ready then (0, useNow s raw (if i = 8 || l.isStatic then l else drivenRec s i l))
  else
    match s.comp.prev.bind (fun p => (p.find? (fun e => e.1 == i && !e.2.omitted))) with
    | some (_, u) => (1, u)
    | none => (2, { raw := raw, rel := l, slot := {}, palette := [], omitted := true })

/-- The cached result can be read: the cache is valid for the run (R207). -/
def cacheHas (s : State) (r : Run) : Bool := s.comp.cache = .valid && s.comp.cacheRun.any (fun q => decide (q = r))

/-- The samples and decisions of a composition of descriptor d that starts now (R213 to R215). -/
def sampleJob (d : Desc) (isRepeat : Bool) (s : State) : Job :=
  let uses := (recList d.raw).map (fun r => (r.1, (useOf s r.1 r.2).2))
  let fits := d.run.any (runFits s)
  let cached := fits && d.run.any (cacheHas s)
  { desc := d
    layers := (uses.filter (fun u => u.1 ≠ 8)).map Prod.snd
    regions := regionsNow s, useRegions := bitOf (cFlags d.raw) 2
    useLevel := bitOf (cFlags d.raw) 1, level := beamOffset s
    soft := (uses.find? (fun u => u.1 == 8)).map Prod.snd
    prot := s.comp.bankRec, protPoison := []
    dim := (upTo 16).map (fun f =>
      if s.mask.dim && s.objB (0x2010 + f) 2 && f ≠ 0 && s.objN (0x2610 + f) 1 ≠ 0 then s.objN (0x2610 + f) 1 else 255)
    degrade := (upTo 16).map (fun f => if s.saf.state = .degraded then s.objN (0x2D20 + f) 1 else 255)
    maskable := (upTo 16).filter (fun f => s.objB (0x2010 + f) 2)
    map := s.arr.map, runLen := d.runLen, run := d.run
    useCache := cached, fill := fits && !cached && d.run.isSome, fits := fits
    complete := false, counted := false, isRepeat := isRepeat }

/-! ## The code of a pixel (R187) -/

/-- What a composition reads from. -/
def useSrc (u : LayerUse) : LayerSrc := ⟨u.slot.geom, u.slot.premult, u.palette⟩

/-- A tap that a record reads at a pixel lies in a poisoned word (R164, R197). -/
def usePoisoned (s : State) (u : LayerUse) (x y : Nat) : Bool :=
  !s.surf.poison.isEmpty && (u.rel.reads u.slot.width u.slot.height x y).any (fun q =>
    tapPoisoned (surfRd s) s.surf.poison u.slot.geom q.1 q.2)

/-- One layer over the value below it (R197). -/
def useOver (s : State) (x y c : Nat) (u : LayerUse) : Nat :=
  if u.omitted || !u.rel.covers x y || usePoisoned s u x y then c else blendLayer (surfRd s) u.rel (useSrc u) x y c

/-- The run's result from its source surfaces (R205). -/
def runVal (s : State) (j : Job) (x y : Nat) : Nat := (j.layers.take j.runLen).foldl (useOver s x y) 0

/-- Address of the run's result at a pixel in the flatten cache, if it lies in the rectangle (R206). -/
def cacheAddr (s : State) (j : Job) (x y : Nat) : Option Nat :=
  match j.run with
  | some r =>
    if r.x0 ≤ x && x < r.x0 + r.w && r.y0 ≤ y && y < r.y0 + r.h then
      some (cacheBase s + (y - r.y0) * r.stride + 2 * (x - r.x0))
    else none
  | none => none

/-- The run's result at a pixel by the path of the composition (R207, R208). -/
def runPix (s : State) (j : Job) (x y : Nat) : Nat :=
  if j.useCache then
    match cacheAddr s j x y with
    | some a => if wordPoisoned s a then runVal s j x y else rdLe (surfRd s) a 2
    | none => 0
  else runVal s j x y

/-- G at a pixel: stage 1 of R187. -/
def gPix (s : State) (j : Job) (x y : Nat) : Nat := (j.layers.drop j.runLen).foldl (useOver s x y) (runPix s j x y)

/-- G' after levelling (R198). -/
def levelled (s : State) (j : Job) (x y : Nat) : Nat :=
  if j.useLevel then levelPix (fun v => if 0 ≤ v && v < 1024 then gPix s j x v.toNat else 0) j.level y
  else gPix s j x y

/-- Stage 4 of R187: the soft mask at maskable pixels (R200, R215). -/
def softStage (s : State) (j : Job) (f x y v : Nat) : Nat :=
  match j.soft with
  | none => v
  | some u =>
    if f = 0 || !j.maskable.contains f then v
    else if u.omitted then 0
    else if !u.rel.covers x y then v
    else if usePoisoned s u x y then 0
    else softPix (u.rel.sample u.slot.width u.slot.height x y 255 (fun a b => pixAlpha (surfRd s) u.slot.geom a b)) u.rel.alpha v

/-- The code of a pixel (R187). -/
def codeAt (s : State) (j : Job) (x y : Nat) : Nat :=
  let f := mapNib j.map x y
  let v := levelled s j x y
  let v := if j.useRegions then regionPix j.regions x y v else v
  let v := softStage s j f x y v
  let p := protPix j.prot j.protPoison x y
  if p.2 > 0 then protOver p (f ≠ 0 && j.maskable.contains f) v
  else div255 (div255 (v * nth j.dim f 255) * nth j.degrade f 255)

/-- The 2,048 codes of a row. -/
def codeRow (s : State) (j : Job) (y : Nat) : List Nat := (upTo 2048).map (fun x => codeAt s j x y)

/-! ## The flatten cache during a composition (R207, R208) -/

/-- Bytes of the run's result in one row of its rectangle, padded to the stride. -/
def cacheRowBytes (s : State) (j : Job) (r : Run) (y : Nat) : List Byte :=
  padTo r.stride ((upTo r.w).flatMap (fun i => leBytes 2 (runVal s j (r.x0 + i) y)))

/-- The row of the run's result is written into the cache as a fill goes (R207). -/
def cacheFill (j : Job) (y : Nat) (s : State) : State :=
  match j.run with
  | some r =>
    if j.fill && decide (r.y0 ≤ y) && decide (y < r.y0 + r.h) then
      surfWrite (cacheBase s + (y - r.y0) * r.stride) (cacheRowBytes s j r y) s
    else s
  | none => s

/-- Rows of G that row y needs (R198). -/
def rowsRead (j : Job) (y : Nat) : List Nat :=
  if j.useLevel then
    (([(y : Int) - j.level / 16, (y : Int) - j.level / 16 - 1]).filter (fun v => decide (0 ≤ v) && decide (v < 1024))).map Int.toNat
  else [y]

/-- Poisoned cache words of a row that is read are composed from the sources and written back (R208). -/
def cacheRepair (j : Job) (y : Nat) (s : State) : State :=
  match j.run with
  | some r =>
    if j.useCache && decide (r.y0 ≤ y) && decide (y < r.y0 + r.h) then
      let base := cacheBase s + (y - r.y0) * r.stride
      let bytes := cacheRowBytes s j r y
      (upTo (r.stride / 8)).foldl (fun s i =>
        if wordPoisoned s (base + 8 * i) then
          let s := surfWrite (base + 8 * i) ((bytes.drop (8 * i)).take 8) s
          { s with comp := { s.comp with cacheRepairs := s.comp.cacheRepairs + 1 } }
        else s) s
    else s
  | none => s

/-- Subindices of comp.status (R217). -/
def compStatus (s : State) : List (List Byte) :=
  let r := s.comp.cacheRun
  [leBytes 4 s.comp.composedSeq, leBytes 1 (match s.comp.cache with | .empty => 0 | .valid => 1 | .filling => 2),
   leBytes 1 (match r with | some r => r.layers.length | none => 0), leBytes 4 (match r with | some r => r.stride * r.h | none => 0),
   leBytes 2 (unsext 16 s.comp.levelUsed), leBytes 2 s.comp.staleMask, leBytes 2 s.comp.omittedMask, leBytes 4 s.comp.load]

/-! ## The protected layer (R201) -/

/-- Handler of protected.layer: a good record goes to staging (R201, R464). -/
def layerH (data : List Byte) (s : State) : Nat × State :=
  if protOk data then stage { staging s with layer := data } s else (abRange, s)

/-- PROTECTED_LAYER_WRITE: a write of protected.layer (R201). -/
def execProtectedLayerWrite (t : Nat) (p : Path) (data : List Byte) (s : State) : Host.Outcome State Fault Refusal :=
  objWrite t p 0x2520 1 data (fedH layerH) s

end Sys2Proof.Machine
end

