-- ==== Sys2Proof/Machine/Quay.lean ====
section
/-!
DEFINITION. The Quay (chapter 9) with the rows the Square delivers to it: the start of a composition and of its load, the
line and output buffers of the two halves, correction, predicted currents, check windows, reloads and events.
-/

namespace Sys2Proof.Machine

/-- The row past the last row of a half. -/
def halfEnd (south : Bool) : Nat := if south then 1024 else 512

/-- Composition and loading run: READY or LIT, the safety state NORMAL or DEGRADED, or a return waits (R249, R392). -/
def loadsRun (s : State) : Bool := active s && (hostBeam s || s.saf.pendingReturn)

/-! ## Events (R256) -/

/-- A Quay event: its interrupt, and its event message when enabled. -/
def quayEvent (bit : Nat) (ctx : List Byte) (s : State) : State :=
  let s := irqPurser (32 + bit) s
  if bitOf s.quay.smp.events bit then event (0x106 + bit) 255 ctx s else s

/-! ## Check windows (R251 to R255) -/

/-- A window takes part in a load (R251). -/
def winJoins (w : WinSt) : Bool :=
  w.mode ≠ 0 && decide (w.x0 ≤ w.x1) && decide (w.y0 ≤ w.y1) && decide (w.y0 / 512 = w.y1 / 512)

/-- The composition start of R236 takes the CRC units that windows name: such a unit takes crc.config, a computation of the Purser
core in progress is lost and keeps NOT_READY until a window's FINISH (R460, Table 17.12). -/
def takeUnits (s : State) : State :=
  (upTo 8).foldl (fun s u =>
    if unitNamed s u then
      let p := unitCfg s u
      modUnit u (fun x => { x with
        taken := true, value := crcStart p, poly := p.poly, init := p.init, xorout := p.xorout
        ctrl := x.ctrl / 256 * 256 + p.width + 64 * b2n p.refin + 128 * b2n p.refout }) s
    else modUnit u (fun x => { x with taken := false }) s) s

/-- A window with its configuration and its unit's parameters as they stand (R236). -/
def winSample (s : State) (n : Nat) (w : WinSt) : WinSt :=
  let i := 0x2710 + n
  let p := unitParams s (s.objN i 3)
  let w := { w with
    mode := s.objN i 1, tap := s.objN i 2, unit_ := s.objN i 3, x0 := s.objN i 4, y0 := s.objN i 5, x1 := s.objN i 6
    y1 := s.objN i 7, expected := s.objN i 8, params := p, acc := crcStart p, failed := false }
  { w with valid := winJoins w, status := if winJoins w then w.status else 4 }

/-- A new result of window n: subindices 09 to 0D (R258). -/
def winPublish (n : Nat) (s : State) : State :=
  let w := nth s.quay.win n {}
  publishFrom (0x2710 + n) 9 [leBytes 4 w.result, leBytes 1 w.status, leBytes 4 w.frameSeq, cnt w.mismatches, cnt w.lasting] s

/-- Changes window n. -/
def modWin (n : Nat) (f : WinSt → WinSt) (s : State) : State := modQuay (fun q => { q with win := modNth q.win n f }) s

/-- A window mismatches: its first failure is logged as a transient and calls for the reload, a failure in the reload is
lasting, and a first failure too where the window had not failed before (R255, R388). -/
def winMismatch (n : Nat) (j : Job) (s : State) : State :=
  let w := nth s.quay.win n {}
  let s := modQuay (fun q => { q with retries := q.retries + 1 }) (modWin n (fun w => { w with mismatches := w.mismatches + 1 }) s)
  if !s.quay.retried then
    transientSrc (0x40 + n) (leBytes 1 n)
      (modQuay (fun q => { q with retryPend := true }) (modWin n (fun w => { w with failed := true }) s))
  else
    let s := if w.failed then s else transientSrc (0x40 + n) (leBytes 1 n) s
    let s := modWin n (fun w => { w with status := 6, failed := false, lasting := w.lasting + 1 }) s
    let s := if winOverProt w j.prot then { s with saf := { s.saf with floorUp := bmSet s.saf.floorUp (0x40 + n) } } else s
    raiseSrc (0x40 + n) (leBytes 1 n) s

/-- FINISH of a window on the unit it names: RESULT and RSEQ, and the unit's interrupt (R460). -/
def unitTakes (u r : Nat) (s : State) : State :=
  if (nth s.mg.crc u {}).taken then
    irqPurser (38 + u) (modUnit u (fun x => { x with started := false, result := r, rseq := (x.rseq + 1) % 65536 }) s)
  else s

/-- A window's last row has been tapped (R253, R254). -/
def winDone (n : Nat) (j : Job) (s : State) : State :=
  let w := nth s.quay.win n {}
  let r := crcFinish w.params w.acc
  let s := unitTakes w.unit_ r (snoopEnd 2 (some n) s)
  let s := modWin n (fun w => { w with result := r, frameSeq := j.desc.seq }) s
  let good := fun (e : Nat) => e % 2 ^ w.params.width == r
  let pass := fun (s : State) =>
    if w.failed then transientSrc (0x40 + n) (leBytes 1 n) (modWin n (fun w => { w with status := 5, failed := false }) s)
    else modWin n (fun w => { w with status := 1 }) s
  winPublish n (
    match w.mode with
    | 3 => modWin n (fun w => { w with status := 2 }) s
    | 2 =>
      match descExpected j.desc.raw n with
      | none => modWin n (fun w => { w with status := 3 }) s
      | some e => if good e then pass s else winMismatch n j s
    | _ => if good w.expected then pass s else winMismatch n j s)

/-- One row is tapped by the windows of a tap (R252, R253). -/
def winTap (tap y : Nat) (vals : List Nat) (j : Job) (s : State) : State :=
  (upTo 16).foldl (fun s n =>
    let w := nth s.quay.win n {}
    if w.valid && w.tap = tap && decide (w.y0 ≤ y) && decide (y ≤ w.y1) then
      let bs := (((vals.drop w.x0).take (w.x1 + 1 - w.x0))).flatMap (fun v => leBytes 2 v)
      let s := modWin n (fun w => { w with acc := bs.foldl (crcByte w.params) w.acc }) (snoop 2 (some n) bs s)
      let s := if y = w.y0 then modUnit w.unit_ (fun x => { x with started := x.started || x.taken }) s else s
      if y = w.y1 then winDone n j s else s
    else s) s

/-- The one reload a mismatch calls for (R255). -/
def winRetry (s : State) : State :=
  match s.quay.retryPend, s.comp.job with
  | true, some j => reloadJob j s.quay.repeatCur (modQuay (fun q => { q with retryPend := false, retried := true }) s)
  | _, _ => s

/-! ## The start of a composition (R213, R236) -/

/-- What the Quay corrects the load with (R236); the gain codes as the sampled banks hold them, for its reloads too. -/
def quaySample (s : State) : QSample :=
  { kCool := s.th.kCool, kWarm := s.th.kWarm, bank := s.diag.bank
    table := (tableNow s).map (fun e => (2048 * e.y + e.x, e.cls))
    comp := (upTo 16).filter (fun f => bitOf (polIn s f).policy 0)
    order := s.frm.mode.order, lineMatch := s.objN 0x2700 3, events := s.objN 0x2700 4
    gainA := s.diag.gainA, gainB := s.diag.gainB }

/-- The load of a descriptor begins from no rows (R246 to R248). -/
def startLoad (seq : Nat) (s : State) : State :=
  let s := takeUnits (emptyHalves (gainDrain (modQuay (fun q => { q with loading := false }) s)))
  let s := modQuay (fun q => { q with
    smp := quaySample s, seq := seq, loading := true, complete := false, reload := false, retried := false, retryPend := false
    repeatCur := false, sums := []
    saturated := 0, compensated := 0, flagged := [], flagOvf := false
    win := ((upTo q.win.length).zip q.win).map (fun p => winSample s p.1 p.2) }) s
  let s := { s with sup := { s.sup with needNext := (s.frm.queue.head?).bind (fun d => needStart s d.raw), ipkNext := none } }
  (upTo 16).foldl (fun s n => if (nth s.quay.win n {}).valid then s else winPublish n s) s

/-- The protected bank a composition uses: a record loaded into the idle bank comes into force (R203). -/
def switchBank (s : State) : State :=
  match s.comp.idleRec with
  | some r => { s with comp := { s.comp with bankRec := r, idleRec := none, bankPoison := [], protState := if r.isEmpty then 0 else 3 } }
  | none => { s with comp := { s.comp with bankPoison := [] } }

/-- One record's decision counted and reported, with the pin of a stale layer (R181, R214). -/
def recordUse (seq : Nat) (s : State) (p : Nat × Nat × LayerUse) : State :=
  match p.2.1 with
  | 0 => s
  | 1 =>
    let s := event 0x102 255 (leBytes 4 seq ++ leBytes 1 p.1)
      { s with comp := { s.comp with staleLayers := s.comp.staleLayers + 1, staleMask := s.comp.staleMask + 2 ^ p.1 } }
    let n := p.2.2.rel.slot
    if s.frm.queue.head?.any (fun d => !d.pins.contains n) then
      let s := takePin n s
      { s with frm := { s.frm with queue := s.frm.queue.modify 0 (fun d => { d with pins := d.pins ++ [n] }) } }
    else s
  | _ => event 0x103 255 (leBytes 4 seq ++ leBytes 1 p.1)
      { s with comp := { s.comp with omittedLayers := s.comp.omittedLayers + 1, omittedMask := s.comp.omittedMask + 2 ^ p.1 } }

/-- COMPOSITION_START: the head descriptor's composition starts with its samples (R213, R236). -/
def execCompositionStart (t : Nat) (s : State) : Host.Outcome State Fault Refusal :=
  act t (fun s =>
    match s.frm.queue.head? with
    | none => s
    | some d =>
      if !loadsRun s || s.quay.repeatCur || s.comp.job.any (fun j => j.desc.seq == d.seq) then s
      else
        let s := switchBank s
        let s := if s.mask.st = .active && s.mask.endFrom.any (fun a => decide (a + maskKnown ≤ s.now)) then
            modMask (fun m => { m with dim := false }) s else s
        let j := sampleJob d false s
        let uses := (recList d.raw).map (fun r => (r.1, useOf s r.1 r.2))
        let s := { s with comp := { s.comp with
          staleMask := 0, omittedMask := 0, levelUsed := if j.useLevel then j.level else 0
          cache := if j.fill then .filling else s.comp.cache, cacheRun := if j.fill then d.run else s.comp.cacheRun } }
        let s := uses.foldl (recordUse d.seq) s
        let d' := s.frm.queue.head?.getD d
        startLoad d.seq { s with comp := { s.comp with job := some { j with desc := d' } } }) s

/-! ## Composed rows (R187, R242) -/

/-- The uses of a composition by index, for the next descriptor's stale layers (R214). -/
def jobUses (j : Job) : List (Nat × LayerUse) :=
  (upTo j.layers.length).zip j.layers ++ (match j.soft with | some u => [(8, u)] | none => [])

/-- The last row of both halves has been composed: the composition is complete (R207, R213, R217). A descriptor loaded again
(R249) counts once: DESIGN CHOICE, log 170. -/
def composed (j : Job) (s : State) : State :=
  let filled := j.fill && s.comp.cache = .filling
  let s := { s with comp := { s.comp with
    job := some { j with complete := true, counted := true }
    prev := some (jobUses j), composedSeq := j.desc.seq, cache := if filled then .valid else s.comp.cache
    flattens := if filled && !j.counted then s.comp.flattens + 1 else s.comp.flattens
    fallbackFrames := if j.run.isSome && !j.useCache && !j.counted then s.comp.fallbackFrames + 1 else s.comp.fallbackFrames } }
  publish 0x2500 (compStatus s) s

/-- Words of the protected bank found uncorrectable during the composition in progress (R204). -/
def bankErrors (ws : List Nat) (s : State) : State :=
  if ws.isEmpty then s
  else raiseSrc 0x24 (leBytes 4 (ws.headD 0)) { s with comp := { s.comp with
    bankPoison := ws ++ s.comp.bankPoison, job := s.comp.job.map (fun j => { j with protPoison := ws ++ j.protPoison }) } }

/-- COMPOSE_ROW: the Square delivers the next row of codes of a half when its line buffer has room; `ecc` and `bankErr` are
the words found in error while it reads (R163, R187, R204, R242). -/
def execComposeRow (t : Nat) (south : Bool) (ecc : List (Nat × Nat)) (bankErr : List Nat) (s : State) :
    Host.Outcome State Fault Refusal :=
  act t (fun s =>
    let y := (halfOf s south).nextComp
    if !loadsRun s || !s.quay.loading || !s.comp.job.any (fun j => !j.complete) || decide (halfEnd south ≤ y) ||
        decide (7 ≤ (halfOf s south).lines.length) then s
    else
      let s := bankErrors bankErr (ecc.foldl (fun s e => eccRead e.1 e.2 s) s)
      if !loadsRun s || !s.quay.loading then s
      else
        match s.comp.job with
        | none => s
        | some j =>
          let s := (rowsRead j y).foldl (fun s r => cacheRepair j r s) s
          let codes := codeRow s j y
          let s := cacheFill j y s
          let s := modHalf south (fun h => { h with
            nextComp := y + 1, moved := s.now, lines := if y < h.nextCorr then h.lines else h.lines ++ [(y, codes)] }) s
          let s := urgency south (winTap 0 y codes j s)
          let s := if s.quay.north.nextComp = 512 && s.quay.south.nextComp = 1024 then
              composed ((s.comp.job).getD j) s else s
          winRetry s) s

/-! ## Correction (R238 to R243) -/

/-- Gain code of a pixel in a bank (R237). -/
def gainCode (q : QSample) (bankB : Bool) (key : Nat) : Nat :=
  match afind (if bankB then q.gainB else q.gainA) key with
  | some g => g
  | none => Config.factoryGain key % 1024

/-- A failed pixel gives its light to its neighbours: open or short, in a function with compensation (R239). -/
def isDonor (q : QSample) (map : List Byte) (x y : Nat) : Bool :=
  let c := alook q.table (2048 * y + x) 0
  (c == 1 || c == 2) && q.comp.contains (mapNib map x y)

/-- Codes of rows y - 1, y and y + 1 as the line buffer holds them. -/
def nearCode (prev cur next : List Nat) (dy : Int) (x : Nat) : Nat :=
  nth (if dy < 0 then prev else if dy = 0 then cur else next) x 0

/-- The diagonal neighbours of a pixel in the array and in its half (R239). -/
def diagonals (x y : Nat) : List (Nat × Nat × Int) :=
  ([((x : Int) - 1, (y : Int) - 1, (-1 : Int)), ((x : Int) + 1, (y : Int) - 1, -1), ((x : Int) - 1, (y : Int) + 1, 1),
    ((x : Int) + 1, (y : Int) + 1, 1)].filter (fun p =>
      decide (0 ≤ p.1) && decide (p.1 ≤ 2047) && decide (0 ≤ p.2.1) && decide (p.2.1 ≤ 1023) &&
      decide (p.2.1.toNat / 512 = y / 512))).map (fun p => (p.1.toNat, p.2.1.toNat, p.2.2))

/-- The donor sum of a pixel (R239). -/
def donorSum (q : QSample) (map : List Byte) (prev cur next : List Nat) (x y : Nat) : Nat :=
  if q.table.isEmpty || (afind q.table (2048 * y + x)).isSome then 0
  else (diagonals x y).foldl (fun a d =>
    if isDonor q map d.1 d.2.1 && mapNib map d.1 d.2.1 = mapNib map x y then a + nearCode prev cur next d.2.2 d.1 else a) 0

/-- One pixel corrected: its word, whether it was clamped, whether it received light (R238 to R241). -/
def correctPix (s : State) (map : List Byte) (prev cur next : List Nat) (x y : Nat) : Nat × Bool × Bool :=
  let q := s.quay.smp
  if isDonor q map x y then (0, false, false)
  else
    let d := donorSum q map prev cur next x y
    let kt := if (x + y) % 2 = 0 then q.kCool else q.kWarm
    let r := correct (nth cur x 0) (512 + gainCode q (nth q.bank (districtOf x y) false) (2048 * y + x)) kt d
    (r.word, r.saturated, decide (0 < d))

/-- The first n pixels of a row corrected. -/
def correctRow (s : State) (map : List Byte) (prev cur next : List Nat) (n y : Nat) : List (Nat × Bool × Bool) :=
  (upTo n).map (fun x => correctPix s map prev cur next x y)

/-- Counts of clamped and compensated pixels of corrected pixels (R241). -/
def countRow (ws : List (Nat × Bool × Bool)) (s : State) : State :=
  modQuay (fun q => { q with
    saturated := q.saturated + (ws.filter (fun w => w.2.1)).length
    compensated := q.compensated + (ws.filter (fun w => w.2.2)).length }) s

/-- A pixel needs the codes of the row below: it has a potential donor there. Only a neighbour that gives its light under R239 is
taken as one: DESIGN CHOICE, log 197 (R239, R243). -/
def needsBelow (q : QSample) (map : List Byte) (x y : Nat) : Bool :=
  (diagonals x y).any (fun d =>
    decide (d.2.2 = 1) && isDonor q map d.1 d.2.1 && decide (mapNib map d.1 d.2.1 = mapNib map x y) &&
    (afind q.table (2048 * y + x)).isNone)

/-- A row needs the codes of the row below. -/
def needsNext (q : QSample) (map : List Byte) (y : Nat) : Bool := (upTo 2048).any (fun x => needsBelow q map x y)

/-- A corrected row enters the output buffer; the row above it leaves the line buffer (R242, R247). -/
def rowDone (south : Bool) (y : Nat) (words kept : List Nat) (s : State) : State :=
  urgency south (modHalf south (fun h => { h with
    outs := h.outs ++ [(y, words)], prev := kept, lines := h.lines.filter (fun l => l.1 ≠ y), nextCorr := y + 1
    moved := s.now }) s)

/-- QUAY_ROW_CORRECT: the next row of a half is corrected when its codes, its donors' codes and room are there (R243). -/
def execQuayRowCorrect (t : Nat) (south : Bool) (s : State) : Host.Outcome State Fault Refusal :=
  act t (fun s =>
    let h := halfOf s south
    if !loadsRun s || !s.quay.loading || decide (2 ≤ h.outs.length) then s
    else
      match h.lines, s.comp.job with
      | (y, codes) :: rest, some j =>
        let next := rest.head?
        if y ≠ h.nextCorr || (next.isNone && decide (y + 1 < halfEnd south) && needsNext s.quay.smp j.map y) then s
        else
          let ws := correctRow s j.map h.prev codes (match next with | some r => r.2 | none => []) 2048 y
          rowDone south y (ws.map Prod.fst) codes (countRow ws s)
      | _, _ => s) s

/-- Pixel x of a begun row of a half waits for a code: its own, or one of a donor in the row below (R243, R245). -/
def codeMissing (s : State) (j : Job) (south : Bool) (x y : Nat) : Bool :=
  let h := halfOf s south
  !h.lines.any (fun l => l.1 == y) ||
  (decide (y + 1 < halfEnd south) && needsBelow s.quay.smp j.map x y && !h.lines.any (fun l => l.1 == y + 1))

/-- The wait can have lasted longer than quay.row_timeout, as the keeper times it: nothing has moved in the half for as long, the
time behind a full output buffer not counted (R245). -/
def rowTimedOut (s : State) (south : Bool) : Bool :=
  keeperRuns s && decide ((halfOf s south).moved + keeperLeast s (s.objN 0x2700 2 * 1000000) < s.now)

/-- ROW_UNDERRUN: a begun row has waited too long for a code; its pixels from column x on repeat the last corrected word (R245,
R246). -/
def execRowUnderrun (t : Nat) (south : Bool) (x : Nat) (s : State) : Host.Outcome State Fault Refusal :=
  act t (fun s =>
    let h := halfOf s south
    let y := h.nextCorr
    if !loadsRun s || !s.quay.loading || decide (2 ≤ h.outs.length) || decide (halfEnd south ≤ y) || x = 0 || decide (2048 ≤ x) ||
        !s.comp.job.any (fun j => codeMissing s j south x y) || !rowTimedOut s south then s
    else
      match s.comp.job with
      | none => s
      | some j =>
        let here := h.lines.find? (fun l => l.1 == y)
        let codes := match here with | some l => l.2 | none => (codeRow s j y).take x
        let next := match h.lines.find? (fun l => l.1 == y + 1) with
          | some l => l.2
          | none => if y + 1 < halfEnd south && needsNext s.quay.smp j.map y then codeRow s j (y + 1) else []
        let ws := correctRow s j.map h.prev codes next x y
        let last := (nth ws (x - 1) (0, false, false)).1
        let s := rowDone south y (ws.map Prod.fst ++ List.replicate (2048 - x) last) codes (countRow ws s)
        let s := modQuay (fun q => { q with
          underruns := q.underruns + 1, flagged := if q.flagged.length < 16 then q.flagged ++ [y] else q.flagged
          flagOvf := q.flagOvf || decide (16 ≤ q.flagged.length) }) s
        raiseSrc 0x38 (leBytes 2 y ++ leBytes 2 x) (quayEvent 3 (leBytes 4 s.quay.seq ++ leBytes 2 y ++ leBytes 2 x) s)) s

/-! ## Sending rows (R247, R248) -/

/-- Class of a pixel in the sums of R57: its function, 16 in the protected footprint. -/
def sumClass (j : Job) (x y : Nat) : Nat := if inFootprint j.prot x y then 16 else mapNib j.map x y

/-- The words of a row added to the sums, keyed by class, district and segment (R57, R248). -/
def sumsRow (j : Job) (order y : Nat) (words : List Nat) (sums : List (Nat × Nat)) : List (Nat × Nat) :=
  ((upTo words.length).zip words).foldl (fun a p =>
    if p.2 = 0 then a
    else
      let base := 16 * (128 * sumClass j p.1 y + districtOf p.1 y)
      (upTo 16).foldl (fun a k => aset a (base + k) (alook a (base + k) 0 + segLight order p.2 k) 0) a) sums

/-- The sums weighted with the measured currents of the districts (R57). -/
def sumsOf (s : State) (sums : List (Nat × Nat)) : Sums :=
  { raw := sums.foldl (fun r e =>
      modNth r (e.1 / 2048) (fun l => modNth l (e.1 % 16) (fun v => v + nth s.diag.iHi (e.1 / 16 % 128) 0 * e.2)))
      (List.replicate 17 (List.replicate 16 0)) }

/-! ## Predicted currents (R57, Table 2.6) -/

/-- P_f of class f in mA; class 16 is the protected footprint. -/
def predP (x : Sums) (f : Nat) : Nat := ceilDiv ((nth x.raw f []).foldl (· + ·) 0) 131072000000

/-- Ptot over a set of functions and the protected footprint in mA. -/
def predTotal (x : Sums) (fs : List Nat) : Nat := fs.foldl (fun a f => a + predP x f) (predP x 16)

/-- seg_j over a set of functions and the protected footprint in mA. -/
def predSeg (x : Sums) (fs : List Nat) (j : Nat) : Nat :=
  ceilDiv (fs.foldl (fun a f => a + nth (nth x.raw f []) j 0) (nth (nth x.raw 16 []) j 0)) 8192000000

/-- I_pk in mA. -/
def predPeak (x : Sums) (fs : List Nat) : Nat := (upTo 16).foldl (fun m j => max m (predSeg x fs j)) 0

/-- n16: ramp segments above 16,000 mA. -/
def predN16 (x : Sums) (fs : List Nat) : Nat := (upTo 16).countP (fun j => decide (16000 < predSeg x fs j))

/-- The functions that are LIT under their failure policy (R62, R67). -/
def litFuncs (s : State) : List Nat := ((upTo 16).drop 1).filter (fun f => nth s.arr.policy f 0 == 0)

/-- A row of words is written into the shadow words. -/
def writeShadow (y : Nat) (words : List Nat) (s : State) : State :=
  { s with arr := { s.arr with
      shadow := ((upTo words.length).zip words).foldl (fun l p => aset l (2048 * y + p.1) p.2 0) s.arr.shadow } }

/-- The words of a row added to the need of the next frame (R307, R308). -/
def needRow (y : Nat) (words : List Nat) (s : State) : State :=
  let add := fun a (w : Nat × Nat) =>
    if wDuty w.2 = 0 then a else needMax a (some (districtNeed s (wRange w.2 = 1) (districtOf w.1 y), districtOf w.1 y))
  { s with sup := { s.sup with needNext := ((upTo words.length).zip words).foldl add s.sup.needNext } }

/-- The load is complete: start of blanking. A load again of a frame (R249) that clamps counts again in quay.saturated_frames:
DESIGN CHOICE, log 198 (R241, R247). -/
def loadDone (s : State) : State :=
  let s := modQuay (fun q => { q with
    loading := false, complete := true, loadSums := sumsOf s q.sums, loadLo := q.sums.foldl (fun a e => a + e.2) 0
    lastSeq := q.seq, lastTime := s.time, lastSat := q.saturated, lastComp := q.compensated
    lastCool := q.smp.kCool, lastWarm := q.smp.kWarm
    satFrames := if 0 < q.saturated then q.satFrames + 1 else q.satFrames }) s
  let s := gainDrain s
  let fs := (litFuncs s).filter (fun f => !s.arr.shed.getLsbD f)
  let s := { s with sup := { s.sup with ipkNext := some (predPeak s.quay.loadSums fs) } }
  let q := s.quay
  let s := publish 0x2701 [leBytes 4 q.lastSeq, q.lastTime.bytes, leBytes 4 q.lastSat, leBytes 4 q.lastComp, leBytes 2 q.lastCool,
    leBytes 2 q.lastWarm, leBytes 1 q.flagged.length, leBytes 1 (b2n q.flagOvf)] s
  quayEvent 0 (leBytes 4 q.seq ++ s.time.bytes ++ leBytes 1 (b2n q.reload + 2 * b2n (!q.flagged.isEmpty))) s

/-- The limp loader has the bridge: its pattern is not launched yet, and it goes before every Quay row (R20, R394). -/
def limpHasBridge (s : State) : Bool := s.saf.state = .limp && !s.saf.limpLaunched

/-- ROW_SEND: a whole corrected row crosses the bridge outside gate windows, behind the limp loader (R20, R44, R247). -/
def execRowSend (t : Nat) (south : Bool) (s : State) : Host.Outcome State Fault Refusal :=
  act t (fun s =>
    if !loadsRun s || !s.quay.loading || s.frm.held || limpHasBridge s then s
    else
      match (halfOf s south).outs, s.comp.job with
      | (y, words) :: rest, some j =>
        let full := decide (2 ≤ (halfOf s south).outs.length)
        let s := needRow y words (writeShadow y words s)
        let s := modQuay (fun q => { q with sums := sumsRow j q.smp.order y words q.sums })
          (modHalf south (fun h => { h with
            outs := rest, nextSend := y + 1, moved := if full then s.now else h.moved }) s)
        let s := winTap 1 y words j s
        let s := if s.quay.smp.lineMatch = y then
            quayEvent 1 (leBytes 4 s.quay.seq ++ leBytes 2 y ++ s.time.bytes ++ leBytes 1 (b2n s.quay.reload)) s else s
        if s.quay.retryPend then winRetry s
        else if s.quay.north.nextSend = 512 && s.quay.south.nextSend = 1024 && s.quay.loading then loadDone s
        else s
      | _, _ => s) s

end Sys2Proof.Machine
end

