-- ==== Sys2Proof/Machine/Pattern.lean ====
section
/-!
DEFINITION. Pattern engines (chapter 13): the checks of a program, the easings, the sequencer of a lane, triggers and
states, and the tick of a frame boundary.
-/

namespace Sys2Proof.Machine

/-! ## Programs (R347, R348) -/

/-- NSTEPS of a program. -/
def pgSteps (p : List Byte) : Nat := leField p 1 1

/-- TARGET of a program. -/
def pgTarget (p : List Byte) : Nat := leField p 2 1

/-- INDEX of a program. -/
def pgIndex (p : List Byte) : Nat := leField p 3 1

/-- NLANES of a program. -/
def pgLanes (p : List Byte) : Nat := leField p 4 1

/-- HOLD_AT_END. -/
def pgHold (p : List Byte) : Bool := bitOf (leField p 5 1) 0

/-- RETRIGGER. -/
def pgRetrig (p : List Byte) : Bool := bitOf (leField p 5 1) 1

/-- PHASE. -/
def pgPhase (p : List Byte) : Nat := leField p 6 2

/-- START_A. -/
def pgStartA (p : List Byte) : Int := sext 32 (leField p 8 4)

/-- START_B. -/
def pgStartB (p : List Byte) : Int := sext 32 (leField p 12 4)

/-- TRIG: 0 DICT, 1 TIME, 2 PIN, 3 MARKER. -/
def pgTrig (p : List Byte) : Nat := leField p 16 1

/-- TRIG_ARG. -/
def pgArg (p : List Byte) : Nat := leField p 17 1

/-- TRIG_SEC and TRIG_NS. -/
def pgTime (p : List Byte) : Time80 := ⟨leField p 18 6, leField p 24 4⟩

/-- A field of step i (Table 13.3). -/
def stF (p : List Byte) (i off n : Nat) : Nat := leField p (32 + 16 * i + off) n

/-- Some step has a property. -/
def anyStep (p : List Byte) (f : Nat → Bool) : Bool := (upTo (pgSteps p)).any f

/-- A value lies in its target's range (Table 13.1). -/
def valueIn (target : Nat) (v : Int) : Bool :=
  match target with
  | 1 => decide (0 ≤ v) && decide (v ≤ 255)
  | 2 => decide (-65536 ≤ v) && decide (v ≤ 65536)
  | 5 => decide (0 ≤ v) && decide (v ≤ 1)
  | _ => decide (0 ≤ v) && decide (v ≤ 65535)

/-- VALUE_B or START_B is as its target asks (Table 13.1). -/
def valueBIn (target : Nat) (v : Int) : Bool := if target = 2 then valueIn 2 v else decide (v = 0)

/-- Order 1 of Table 13.4: true when broken. -/
def pgFormatBad (p : List Byte) : Bool :=
  leField p 0 1 ≠ 1 || pgSteps p = 0 || decide (64 < pgSteps p) || decide (p.length ≠ 32 + 16 * pgSteps p) ||
  decide (4 ≤ leField p 5 1) || anyStep p (fun i => decide (4 ≤ stF p i 3 1) || stF p i 15 1 ≠ 0)

/-- Order 3 of Table 13.4. -/
def pgTargetBad (p : List Byte) : Bool :=
  match pgTarget p with
  | 4 => decide (15 < pgIndex p) || pgLanes p = 0 || decide (16 < pgIndex p + pgLanes p) || (pgLanes p = 1 && pgPhase p ≠ 0)
  | 5 => decide (3 < pgIndex p) || pgLanes p ≠ 1 || pgPhase p ≠ 0
  | 0 => true
  | k => decide (5 < k) || decide (7 < pgIndex p) || pgLanes p ≠ 1 || pgPhase p ≠ 0

/-- Order 4 of Table 13.4. -/
def pgValueBad (p : List Byte) : Bool :=
  let t := pgTarget p
  !valueIn t (pgStartA p) || !valueBIn t (pgStartB p) ||
  anyStep p (fun i => !valueIn t (sext 32 (stF p i 4 4)) || !valueBIn t (sext 32 (stF p i 8 4)))

/-- Order 5 of Table 13.4. -/
def pgStepBad (p : List Byte) : Bool :=
  anyStep p (fun i => stF p i 0 2 = 0 || decide (3 < stF p i 2 1) ||
    (stF p i 13 1 ≠ 255 && decide (i < stF p i 13 1)) || (stF p i 13 1 = 255 && stF p i 14 1 ≠ 0))

/-- Order 6 of Table 13.4, for engine e. -/
def pgTriggerBad (e : Nat) (p : List Byte) : Bool :=
  decide (3 < pgTrig p) ||
  (match pgTrig p with
   | 2 => decide (4 ≤ pgArg p)
   | 3 => decide (7 < pgArg p) || pgArg p = e
   | _ => pgArg p ≠ 0) ||
  (if pgTrig p = 1 then decide (999999999 < (pgTime p).ns) else (pgTime p).sec ≠ 0 || (pgTime p).ns ≠ 0) ||
  (decide (1 < pgLanes p) && anyStep p (fun i => bitOf (stF p i 3 1) 1))

/-- The first check of Table 13.4 that fails; 0 for none. -/
def pgCheck (e : Nat) (p : List Byte) : Nat :=
  if pgFormatBad p then 1
  else if leField p 28 4 ≠ crcOf crcIeee (p.take 28 ++ p.drop 32) then 2
  else if pgTargetBad p then 3
  else if pgValueBad p then 4
  else if pgStepBad p then 5
  else if pgTriggerBad e p then 6
  else 0

/-- Engine e. -/
def engOf (s : State) (e : Nat) : Eng := nth s.pat.eng e {}

/-- Changes the pattern block. -/
def modPat (f : Pat → Pat) (s : State) : State := { s with pat := f s.pat }

/-- Changes engine e. -/
def modEng (e : Nat) (f : Eng → Eng) (s : State) : State := modPat (fun p => { p with eng := modNth p.eng e f }) s

/-- Result of installing a program: its reason, 0xFC refused in the present state, 0 done (R348, R456). -/
def pgResult (e : Nat) (p : List Byte) (s : State) : Nat :=
  let x := engOf s e
  if pgCheck e p ≠ 0 then pgCheck e p
  else if !(x.st = .idle || x.st = .stopped || x.st = .done) then 0xFC
  else 0

/-- A program is checked and installed (R348). -/
def pgInstall (e : Nat) (p : List Byte) (s : State) : State :=
  match pgResult e p s with
  | 0 => modEng e (fun x => { x with prog := p, st := .stopped, latched := false, fired := false }) (s.setObj (0x2B10 + e) 1 p)
  | 0xFC => s
  | r => modPat (fun x => { x with loadReason := r, loadEngine := e }) s

/-- Handler of pattern.program. -/
def programH (e : Nat) (data : List Byte) (s : State) : Nat × State :=
  (match pgResult e data s with | 0 => 0 | 0xFC => abState | _ => abRange, pgInstall e data s)

/-- PROGRAM_WRITE: a write of pattern.program (R348). -/
def execProgramWrite (t : Nat) (p : Path) (e : Fin 8) (data : List Byte) (s : State) : Host.Outcome State Fault Refusal :=
  objWrite t p (0x2B10 + e.val) 1 data (fedH (programH e.val)) s

/-- An address range lies in SRAM that the context may write (R456, Table 17.1). -/
def sramOk (customer : Bool) (addr len : Nat) : Bool :=
  (decide (0x20040000 ≤ addr) && decide (addr + len ≤ 0x200C0000)) ||
  (!customer && decide (0x20000000 ≤ addr) && decide (addr + len ≤ 0x20040000))

/-- A write of the Purser core to a register of the pattern engines: a bus error where they have no power or timebase (R439). -/
def peWrite (off : Nat) (f : State → State) (s : State) : State :=
  if !blockOn s 11 then s else if blockOn s 13 then f s else coreBusError .purser (0x40000000 + off) true s

/-- The load of engine e is BUSY: for a time that is not stated, a free value (R456, log 203). -/
def peBusy (s : State) (e : Nat) : Bool := decide (s.now < nth s.mg.peBusy e 0)

/-- PE_LOAD: a program of `len` bytes at an address of SRAM, whose content is `data`, is checked and installed; while BUSY it is dropped with result 0xFE
(R456). -/
def execPeLoad (t : Nat) (e : Fin 8) (addr len : Nat) (customer : Bool) (data : List Byte) (s : State) :
    Host.Outcome State Fault Refusal :=
  act t (fun s =>
    let s := { s with mg := { s.mg with peAddr := if blockOn s 13 && blockOn s 11 then modNth s.mg.peAddr e.val (fun _ => addr) else s.mg.peAddr } }
    let set := fun (r : Nat) (s : State) => { s with mg := { s.mg with peLoadResult := modNth s.mg.peLoadResult e.val (fun _ => r) } }
    peWrite (0x4020 + 0x40 * e.val) (fun s =>
      if peBusy s e.val then set 0xFE s
      else
        let p := padTo (len % 65536) data
        let r := if sramOk customer addr (len % 65536) then pgResult e.val p s else 0xFD
        let s := { set r s with mg := { (set r s).mg with
          peBusy := modNth s.mg.peBusy e.val (fun _ => s.now + Config.peLoadTime s.free) } }
        (if r = 0xFD then s else pgInstall e.val p s).tickFree) s) s

/-! ## Easings (R349, R350) -/

/-- Table 13.5. -/
def expTable : List Nat :=
  [0, 309, 709, 1229, 1902, 2775, 3908, 5377, 7282, 9752, 12956, 17110, 22498, 29485, 38546, 50297, 65536]

/-- The easing e of tick n out of d. -/
def ease (kind n d : Nat) : Nat :=
  let p := 65536 * n / d
  match kind with
  | 0 => 65536
  | 1 => p
  | 2 => p * p * (196608 - 2 * p) / 4294967296
  | _ =>
    if p = 65536 then 65536
    else
      let a := nth expTable (p / 4096) 0
      a + ((nth expTable (p / 4096 + 1) 0 - a) * (p % 4096) + 2048) / 4096

/-- The output between the entry value and the end value (R349). -/
def easeOut (from_ to_ : Int) (e : Nat) : Int := from_ + ((to_ - from_) * e + 32768) / 65536

/-! ## The sequencer of a lane (R351, R352) -/

/-- Step i waits at entry. -/
def stepWaits (p : List Byte) (i : Nat) : Bool := bitOf (stF p i 3 1) 1

/-- A lane enters a step. -/
def enterStep (i : Nat) (x : LaneSt) : LaneSt := { x with step := i, n := 0, run := 0, sA := x.outA, sB := x.outB, released := false }

/-- A lane at the start of its program, with its delay (R352). -/
def laneStart (p : List Byte) (j : Nat) : LaneSt :=
  { delay := pgPhase p * j, cnt := List.replicate (pgSteps p) 0, sA := pgStartA p, sB := pgStartB p, outA := pgStartA p, outB := pgStartB p }

/-- What a lane does when a step's duration is over. -/
def laneNext (p : List Byte) (x : LaneSt) : LaneSt :=
  let i := x.step
  let lc := stF p i 14 1
  if x.run < stF p i 12 1 then { x with run := x.run + 1, n := 0 }
  else if stF p i 13 1 ≠ 255 && (lc = 0 || decide (nth x.cnt i 0 < lc)) then
    enterStep (stF p i 13 1) { x with cnt := modNth x.cnt i (· + 1) }
  else
    let x := { x with cnt := modNth x.cnt i (fun _ => 0) }
    if i + 1 = pgSteps p then { x with ended := true } else enterStep (i + 1) x

/-- One tick of a lane. -/
def laneTick (p : List Byte) (x : LaneSt) : LaneSt :=
  if x.ended then x
  else if 0 < x.delay then { x with delay := x.delay - 1 }
  else if stepWaits p x.step && !x.released then x
  else
    let n := x.n + 1
    let d := stF p x.step 0 2
    let e := ease (stF p x.step 2 1) n d
    let x := { x with n := n, outA := easeOut x.sA (sext 32 (stF p x.step 4 4)) e, outB := easeOut x.sB (sext 32 (stF p x.step 8 4)) e }
    if n = d then laneNext p x else x

/-- A lane that `old` lets run in this tick has entered a step in it. -/
def laneEntered (p : List Byte) (old new : LaneSt) : Bool :=
  decide (old.delay = 0) && (!stepWaits p old.step || old.released) && decide (new.n = 0) && decide (new.run = 0) && !new.ended

/-! ## Triggers (R353, R354) -/

/-- An engine in this state takes a trigger. -/
def engTakes (x : Eng) : Bool :=
  match x.st with
  | .armed => true
  | .waiting => true
  | .running => pgRetrig x.prog
  | .done => pgRetrig x.prog
  | _ => false

/-- A trigger reaches engine e: latched, or ignored and counted. -/
def latch (e : Nat) (s : State) : State :=
  let x := engOf s e
  if engTakes x && !x.latched then modEng e (fun x => { x with latched := true }) s
  else modPat (fun p => { p with trigIgnored := p.trigIgnored + 1 }) s

/-- A TIME trigger is due: armed, not fired since, time valid and reached (R354). -/
def timeDue (s : State) (x : Eng) : Bool :=
  x.st = .armed && !x.fired && pgTrig x.prog = 1 && s.clk.valid && decide ((pgTime x.prog).toNs * 4294967296 ≤ s.clk.fix)

/-- The TIME trigger of engine e fires. -/
def timeFire (e : Nat) (s : State) : State := latch e (modEng e (fun x => { x with fired := true }) s)

/-- TIME_TRIGGER: local time reaches the trigger's time. -/
def execTimeTrigger (t : Nat) (e : Fin 8) (s : State) : Host.Outcome State Fault Refusal :=
  act t (fun s => if active s && timeDue s (engOf s e.val) then timeFire e.val s else s) s

/-! ## Commands (R353, R357) -/

/-- ARM, STOP or TRIGGER for engine e; the abort code, 0 for done. DESIGN CHOICE: an engine that STOP has left STOPPED without a
program refuses ARM (log 75). -/
def engCommand (e cmd : Nat) (s : State) : Nat × State :=
  let x := engOf s e
  match cmd with
  | 1 =>
    if (x.st = .stopped || x.st = .done) && !x.prog.isEmpty then (0, modEng e (fun x => { x with st := .armed, latched := false, fired := false }) s)
    else (abState, s)
  | 2 => (0, modEng e (fun x => { x with st := .stopped, latched := false }) s)
  | _ => if pgTrig x.prog ≠ 0 then (abState, s) else (0, latch e s)

/-- Handler of pattern.command. -/
def engCommandH (e : Nat) (data : List Byte) (s : State) : Nat × State := engCommand e (leNat data) s

/-- A command through the dictionary, or through PE_CMD with its result in PE_CMD_RESULT (R456). -/
def engWrite (t : Nat) (p : Option Path) (e cmd : Nat) (s : State) : Host.Outcome State Fault Refusal :=
  match p with
  | some p => objWrite t p (0x2B10 + e) 2 (leBytes 1 cmd) (engCommandH e) s
  | none => act t (peWrite (0x400C + 0x40 * e) (fun s =>
      let (c, s) := if peBusy s e then (0xFE, s) else engCommand e cmd s
      { s with mg := { s.mg with peCmdResult := modNth s.mg.peCmdResult e (fun _ => if c = 0 then 0 else if c = 0xFE then 0xFE else 0xFC) } })) s

/-- ARM. -/
def execArm (t : Nat) (p : Option Path) (e : Fin 8) (s : State) : Host.Outcome State Fault Refusal := engWrite t p e.val 1 s

/-- STOP. -/
def execStop (t : Nat) (p : Option Path) (e : Fin 8) (s : State) : Host.Outcome State Fault Refusal := engWrite t p e.val 2 s

/-- TRIGGER. -/
def execTrigger (t : Nat) (p : Option Path) (e : Fin 8) (s : State) : Host.Outcome State Fault Refusal := engWrite t p e.val 3 s

/-- The engines named whose trigger source is DICT get a trigger (R354). -/
def triggerSet (v : Nat) (s : State) : State :=
  (upTo 8).foldl (fun s e => if bitOf v e && pgTrig (engOf s e).prog = 0 then latch e s else s) s

/-- Handler of pattern.trigger_set. -/
def triggerSetH (data : List Byte) (s : State) : Nat × State := (0, triggerSet (leNat data) s)

/-- TRIGGER_SET: a write of pattern.trigger_set, or of PE_TRIGGER_SET. -/
def execTriggerSet (t : Nat) (p : Option Path) (v : Nat) (s : State) : Host.Outcome State Fault Refusal :=
  match p with
  | some p => objWrite t p 0x2B00 1 (leBytes 1 v) triggerSetH s
  | none => act t (peWrite 0x4800 (triggerSet (v % 256))) s

/-! ## Ticks (R345, R346, R353) -/

/-- What an engine does with the trigger latched before the tick. -/
def engTrigger (x : Eng) : Eng :=
  if !x.latched then x
  else
    let x := { x with latched := false }
    match x.st with
    | .waiting => { x with st := .running, lanes := x.lanes.map (fun l => { l with released := true }) }
    | _ => { x with st := .running, lanes := (upTo (pgLanes x.prog)).map (laneStart x.prog) }

/-- An engine after one tick, whether it drives its target in it, and the markers its lane 0 emits. -/
def engTick (x0 : Eng) : Eng × Bool × Nat :=
  let x := engTrigger x0
  let fresh := x0.latched && x0.st ≠ .waiting
  match x.st with
  | .running =>
    let lanes := x.lanes.map (laneTick x.prog)
    let l0 := nth x.lanes 0 {}
    let l1 := nth lanes 0 {}
    let mark := b2n (fresh && bitOf (stF x.prog 0 3 1) 0) +
      b2n (laneEntered x.prog l0 l1 && bitOf (stF x.prog l1.step 3 1) 0)
    let done := lanes.all (fun l => l.ended)
    let waits := !l1.ended && stepWaits x.prog l1.step && !l1.released
    ({ x with lanes := lanes, st := if done then (if pgHold x.prog then .done else .stopped) else if waits then .waiting else .running },
     true, mark)
  | .waiting => (x, true, 0)
  | .done => (x, true, 0)
  | _ => (x, false, 0)

/-- An output as the target takes it: OFFWIN_ENABLE is 0 or 1 (R349). -/
def outVal (target : Nat) (v : Int) : Int := if target = 5 && v ≠ 0 then 1 else v

/-- Outputs of an engine that drives its target (Table 13.1). -/
def engDrives (x : Eng) : List Drive :=
  let k := pgTarget x.prog
  ((upTo x.lanes.length).zip x.lanes).map (fun p =>
    { kind := k, index := pgIndex x.prog + p.1, a := outVal k p.2.outA, b := p.2.outB })

/-- The lowest engine keeps each target; whether two engines met on one (R343). -/
def mergeDrives : List (List Drive) → List Drive × Bool
  | [] => ([], false)
  | l :: ls =>
    let (m, c) := mergeDrives ls
    let hit := fun (d : Drive) => l.any (fun e => e.kind == d.kind && e.index == d.index)
    (l ++ m.filter (fun d => !hit d), c || m.any hit)

/-- An engine that runs in this tick has an output with no effect on the descriptor: the layer is absent, or STATIC (R205, R341). -/
def driveIgnored (d : Option Desc) (x0 : Eng) : Bool :=
  let x := engTrigger x0
  x.st = .running && decide (pgTarget x.prog ≤ 3) &&
  d.any (fun d => decide (nLayers d.raw ≤ pgIndex x.prog) || (LayerRec.parse (recBytes d.raw (pgIndex x.prog))).isStatic)

/-- A marker of engine e: counted, its interrupt, and a trigger for the engines that name it (R354, Table 17.4). -/
def emitMarker (e : Nat) (s : State) : State :=
  let s := irqPurser (52 + e) (modPat (fun p => { p with markers := p.markers + 1 }) s)
  (upTo 8).foldl (fun s i =>
    let x := engOf s i
    if !x.prog.isEmpty && pgTrig x.prog = 3 && pgArg x.prog = e then latch i s else s) s

/-- pattern.seq of engine e: its status after a tick (R357). -/
def engPublish (e : Nat) (s : State) : State :=
  let x := engOf s e
  let l := nth x.lanes 0 {}
  publish (0x2B20 + e) [leBytes 1 (match x.st with | .idle => 0 | .stopped => 1 | .armed => 2 | .running => 3 | .waiting => 4 | .done => 5),
    leBytes 1 l.step, leBytes 2 l.n, leBytes 4 (unsext 32 (outVal (pgTarget x.prog) l.outA)),
    leBytes 4 (unsext 32 l.outB), leBytes 4 (leField x.prog 28 4)] s

/-- The tick of a frame boundary, at the opening of its gate window; `next` is the descriptor its outputs reach first. A tick with
outputs of no effect counts once, however many they are (R341, R345, R346). -/
def patTick (next : Option Desc) (s : State) : State :=
  if !ticks s 13 11 then s else
  let s := (upTo 8).foldl (fun s e => if timeDue s (engOf s e) then timeFire e s else s) s
  let rs := s.pat.eng.map engTick
  let out := mergeDrives (rs.map (fun r => if r.2.1 then engDrives r.1 else []))
  let s := modPat (fun p => { p with
    eng := rs.map Prod.fst, visNext := some out.1, ticks := p.ticks + 1
    conflicts := if out.2 then p.conflicts + 1 else p.conflicts
    ignoredOut := if s.pat.eng.any (driveIgnored next) then p.ignoredOut + 1 else p.ignoredOut }) s
  let s := ((upTo 8).zip rs).foldl (fun s r => (upTo r.2.2.2).foldl (fun s _ => emitMarker r.1 s) s) s
  (upTo 8).foldl (fun s e => engPublish e s) s

/-- The outputs computed become visible at the boundary (R346). -/
def patVisible (s : State) : State :=
  match s.pat.visNext with
  | some v => modPat (fun p => { p with vis := v, visNext := none }) s
  | none => s

/-- Entry to READY: every engine goes to IDLE, STOPPED or, with autoarm, ARMED (R355). -/
def patReady (s : State) : State :=
  modPat (fun p => { p with
    vis := [], visNext := none
    eng := (upTo 8).map (fun e =>
      let prog := s.obj (0x2B10 + e) 1
      { prog := prog, st := if prog.isEmpty then .idle else if s.objB (0x2B10 + e) 3 then .armed else .stopped }) }) s

end Sys2Proof.Machine
end

