-- ==== Sys2Proof/Machine/Supply.lean ====
section
/-!
DEFINITION. Supply and motion control (chapter 11): the sample with its block-float stages, the phases, headroom, the
repetitive controller, the profile generator and the faults of the stage.
-/

namespace Sys2Proof.Machine

/-- Changes the supply block. -/
def modSup (f : Sup → Sup) (s : State) : State := { s with sup := f s.sup }

/-- The control engine may switch: DISC_EN asserted, the switch reported closed, the close check passed (R300, R409). -/
def maySwitch (s : State) : Bool :=
  active s && s.saf.discEn && s.saf.discFb && s.saf.closeOk && !s.pw.testPort && blockOn s 6

/-! ## Block-float (R304) -/

/-- A BF16 object as mantissa and exponent (Table 18.8). -/
def bfObj (s : State) (idx sub : Nat) : Int × Nat := (sext 16 (s.objN idx sub), s.objN idx sub / 65536 % 256)

/-- A BF16 value times an integer; a product that is no whole number is rounded freely (log 17). -/
def bfTimes (tag : Nat) (k : Int × Nat) (x : Int) : Int := roundFree tag (k.1 * x * (2 ^ k.2 : Nat)) 4294967296

/-- The mantissa of an integer at exponent E, rounded half up. -/
def bfMant (x : Int) (e : Nat) : Int := (2 * x * 4294967296 + (2 ^ e : Nat)) / (2 * (2 ^ e : Nat))

/-- Every mantissa fits at exponent E. -/
def bfFits (xs : List Int) (e : Nat) : Bool := xs.all (fun x => decide ((bfMant x e).natAbs ≤ 32767))

/-- A stage that holds the values: the smallest exponent that fits, saturated at 63; whether a value did not fit. -/
def bfStore (xs : List Int) : BfStage × Bool :=
  match (upTo 64).find? (bfFits xs) with
  | some e => (⟨e, xs.map (fun x => bfMant x e)⟩, false)
  | none => (⟨63, xs.map (fun x => clampI (bfMant x 63) (-32767) 32767)⟩, true)

/-- Value i of a stage in units of 2^-32. -/
def stageFix (x : BfStage) (i : Nat) : Int := nth x.m i 0 * (2 ^ x.e : Nat)

/-- Saturations are counted and raise the block-float source (R304). -/
def bfSat (hit : Bool) (s : State) : State :=
  if hit then raiseSrc 0x8D [] (modSup (fun u => { u with bfSaturations := u.bfSaturations + 1 }) s) else s

/-! ## Headroom (R307 to R310) -/

/-- A need with margin and drop for a peak current (R307). -/
def fullNeed (s : State) (ipk : Nat) (b : Nat × Nat) : Nat × Nat :=
  (b.1 + s.objN 0x2902 1 + s.objN 0x2902 2 * ipk / 1000000, b.2)

/-- Some pixel of district d has a word with DUTY in the pattern. -/
def limpLights (r : List Byte) (d : Nat) : Bool :=
  (upTo 128).any (fun j => (upTo 128).any (fun i => wDuty (limpWord r (128 * (d % 16) + i) (128 * (d / 16) + j)) ≠ 0))

/-- Districts that hold pixels of a pattern. -/
def limpDistricts (r : List Byte) : List Nat := if r.isEmpty then [] else (upTo 128).filter (limpLights r)

/-- The need of the forced pulses and stuck-on searches that are pending at a frame launch (R307, R308). -/
def pulseNeed (s : State) : Option (Nat × Nat) := needOver s true (s.diag.pulses.map Prod.fst ++ s.diag.search.map Prod.fst)

/-- The need of the limp beam (R310). -/
def limpNeed (s : State) : Option (Nat × Nat) :=
  (needOver s true (limpDistricts s.saf.limpIn)).map (fullNeed s (3 * s.objN 0x2001 1 / 10))

/-- Peak current that the needs reckon with (R307). -/
def needPeak (s : State) : Nat := max s.arr.peak (s.sup.ipkNext.getD 0)

/-- V_hold (R310). -/
def holdNeed (s : State) : Nat :=
  match needOver s false (limpDistricts s.diag.slBits) with
  | some b => clampN (fullNeed s 0 b).1 2800 4600
  | none => 2800

/-- The target of the VLED channel before its clamp, with the district that set it (R308, R310). -/
def vledNeed (s : State) : Option (Nat × Nat) :=
  if !lit s then none
  else match s.saf.state with
    | .dark => none
    | .hold => some (s.sup.vHold, 0)
    | .limp => limpNeed s
    | _ => (needMax (needMax s.sup.needCur s.sup.needNext) s.sup.needPulse).map (fullNeed s (needPeak s))

/-- The target of the VLED channel in mV. -/
def vledTarget (s : State) : Nat := match vledNeed s with | some b => clampN b.1 2800 4600 | none => 2800

/-- The set-point Vsp in mV (R303). -/
def vSet (s : State) : Int := (s.sup.p + 2147483648) / 4294967296

/-- A frame launch: the needs move on, a shortfall or a clamped need is counted and raised, the first as a transient, and
so is its going at the next launch (R388); what is left of the next frame's
need is that of the pending forced pulses (R307 to R309, Table 11.5). -/
def headroom (s : State) : State :=
  let s := if s.saf.state = .limp then s
    else modSup (fun u => { u with needCur := u.needNext, needNext := none, needPulse := pulseNeed s, ipkNext := none }) s
  let need := if !lit s then none
    else if s.saf.state = .limp then limpNeed s
    else (needMax s.sup.needCur s.sup.needPulse).map (fullNeed s s.arr.peak)
  match need with
  | none => modSup (fun u => { u with shortPrev := false, shortTwice := false }) s
  | some b =>
    let s := if 4600 < b.1 then raiseSrc 0x8C (leBytes 2 b.1) (modSup (fun u => { u with clampHigh := u.clampHigh + 1 }) s) else s
    if vSet s < b.1 then
      let was := s.sup.shortPrev
      let s := modSup (fun u => { u with headroomShort := u.headroomShort + 1, shortPrev := true, shortTwice := was }) s
      if was then raiseSrc 0x8B (leBytes 2 b.1) s else transientSrc 0x8B (leBytes 2 b.1) s
    else
      let s := if s.sup.shortPrev && !s.sup.shortTwice then transientSrc 0x8B (leBytes 2 b.1) s else s
      modSup (fun u => { u with shortPrev := false, shortTwice := false }) s

/-! ## Profile generator (R314, R315) -/

/-- One step of a channel towards T: position, velocity, acceleration. -/
def chanStep (tgt p v a : Int) (vm am jm : Nat) : Int × Int × Int :=
  let e := tgt - p
  let tj : Int := max 1 (am / (if jm = 0 then 1 else jm))
  let eb := e - v * tj / 2
  let vs := sgn eb * (min vm (isqrt (2 * am * eb.natAbs)) : Nat)
  let a' := a + clampI (clampI (vs - v) (-am) am - a) (-jm) jm
  let vn := clampI (v + a') (-vm) vm
  let pn := p + vn
  if e = 0 || sgn (tgt - pn) ≠ sgn e then (tgt, 0, 0) else (pn, vn, a')

/-- Limits of a channel from its slew, acceleration and jerk (R315). -/
def chanLimits (slew accel jerk : Nat) : Nat × Nat × Nat :=
  (slew * 4294967296 / 1000, accel * 4294967296 / 1000000, jerk * 4294967296 / 1000000000)

/-- One step of the VLED channel. -/
def vledStep (s : State) : State :=
  let (vm, am, jm) := chanLimits (s.objN 0x2904 1) (s.objN 0x2904 2) (s.objN 0x2904 3)
  let (p, v, a) := chanStep (vledTarget s * 4294967296 : Nat) s.sup.p s.sup.v s.sup.a vm am jm
  modSup (fun u => { u with p := p, v := v, a := a }) s

/-- LEVEL_STEP: one step of the LEVEL channel (R316). -/
def execLevelStep (t : Nat) (s : State) : Host.Outcome State Fault Refusal :=
  act t (fun s =>
    if !active s || !blockOn s 6 || s.sup.mode = .freeRunning || decide (s.sup.levelCnt < 1000) then s
    else
      let (vm, am, jm) := chanLimits (s.objN 0x2905 2) (s.objN 0x2905 3) (s.objN 0x2905 4)
      let (p, v, a) := chanStep (s.objI16 0x2905 1 * 4294967296) s.sup.lp s.sup.lv s.sup.la vm am jm
      modSup (fun u => { u with levelCnt := 0, lp := p, lv := v, la := a }) s) s

/-- The VLED channel starts from the measured voltage (R300). -/
def vledFrom (v : Nat) (s : State) : State := modSup (fun u => { u with p := (v * 4294967296 : Nat), v := 0, a := 0 }) s

/-! ## Repetitive controller (R311 to R313) -/

/-- The table is cleared (R313). -/
def repClear (s : State) : State :=
  modSup (fun u => { u with
    prof := [], profE := 0, w := 0, rep := .cleared, clearPend := false, repClears := u.repClears + 1 }) s

/-- Learning is on (Table 11.4). -/
def learns (s : State) : Bool := s.sup.rep = .fading || s.sup.rep = .learning

/-- Every mantissa halved once for a rise of E (R304). -/
def profHalve (l : List (Nat × Int)) : List (Nat × Int) := (l.map (fun e => (e.1, (e.2 + 1) / 2))).filter (fun e => e.2 ≠ 0)

/-- Mantissas halved n times. -/
def profRise : Nat → List (Nat × Int) → List (Nat × Int)
  | 0, l => l
  | n + 1, l => profRise n (profHalve l)

/-- Mantissa at exponent E + r of the updated bin: m·2^(E-32) + ub·2^(-k) - m·2^(E-32-f), rounded half up (R312). -/
def binMant (m ub : Int) (e k f r : Nat) : Int :=
  let num := m * (2 ^ (e + k + f) : Nat) - (if f = 0 then 0 else m * (2 ^ (e + k) : Nat)) + ub * (2 ^ (32 + f) : Nat)
  let den : Int := (2 ^ (e + k + f + r) : Nat)
  (2 * num + den) / (2 * den)

/-- The bin whose samples have ended is updated while learning is on (R312). -/
def binEnd (s : State) : State :=
  match s.sup.bin with
  | none => s
  | some b =>
    let u := s.sup
    let done := modSup (fun u => { u with bin := none, binSum := 0, binCnt := 0 }) s
    if !learns s || u.binCnt = 0 then done
    else
      let ub := (u.binSum + u.binCnt / 2) / u.binCnt
      let m := alook u.prof b 0
      let mant := binMant m ub u.profE (s.objN 0x2903 2) (s.objN 0x2903 3)
      match (upTo (64 - u.profE)).find? (fun r => decide ((mant r).natAbs ≤ 32767)) with
      | some r => modSup (fun v => { v with profE := u.profE + r, prof := aset (profRise r u.prof) b (mant r) 0 }) done
      | none =>
        let r := 63 - u.profE
        bfSat true (modSup (fun v => { v with profE := 63, prof := aset (profRise r u.prof) b (clampI (mant r) (-32767) 32767) 0 }) done)

/-- The sample that contains a frame boundary may lower E (R304). -/
def profFall (s : State) : State :=
  if !s.sup.boundary then s
  else
    let s := modSup (fun u => { u with boundary := false }) s
    if 0 < s.sup.profE && s.sup.prof.all (fun e => decide (e.2.natAbs ≤ 16383)) then
      modSup (fun u => { u with profE := u.profE - 1, prof := u.prof.map (fun e => (e.1, 2 * e.2)) }) s
    else s

/-- The bin of a sample now (R311). -/
def binNow (s : State) : Option Nat :=
  let b := 2048 * ((s.now - s.frm.frameAt) / tickPs s) / (if s.frm.fPrime = 0 then 1 else s.frm.fPrime)
  if s.frm.fPrime = 0 || 2048 ≤ b then none else some b

/-- A sample moves to its bin (R312). -/
def binMove (s : State) : State :=
  if s.sup.bin = binNow s then s else modSup (fun u => { u with bin := binNow s }) (binEnd s)

/-- ff of R303: w times the table's value, over 64. -/
def feedForward (s : State) : Int :=
  match s.sup.bin with
  | some b => (s.sup.w : Int) * alook s.sup.prof ((b + s.objN 0x2903 4) % 2048) 0 * (2 ^ s.sup.profE : Nat) / (64 * 4294967296)
  | none => 0

/-- The state of the repetitive controller at a frame boundary: consecutive qualifying boundaries are counted whatever the
state, and while supply.rep_enable is 0 the table stays cleared (R313, Table 11.4). -/
def repBoundary (qualifies modeTook : Bool) (s : State) : State :=
  let counts := qualifies && !modeTook
  let s := modSup (fun u => { u with repFrames := if counts then satInc16 u.repFrames else 0 }) s
  if !s.objB 0x2903 1 then s
  else if modeTook then repClear s
  else if !counts then
    modSup (fun u => { u with rep := .waiting, w := if 2 ≤ s.saf.state.code then 0 else u.w }) s
  else
    modSup (fun u =>
      match u.rep with
      | .cleared => { u with rep := .waiting }
      | .waiting => if 16 ≤ u.repFrames then { u with rep := if u.w = 64 then .learning else .fading } else u
      | .fading => { u with w := u.w + 1, rep := if 64 ≤ u.w + 1 then .learning else .fading }
      | .learning => u) s

/-- Handler of supply.rep_clear: cleared at the next sample (R318). -/
def repClearH (_ : List Byte) (s : State) : Nat × State := (0, modSup (fun u => { u with clearPend := true }) s)

/-- REP_CLEAR: a write of supply.rep_clear. -/
def execRepClear (t : Nat) (p : Path) (v : Nat) (s : State) : Host.Outcome State Fault Refusal :=
  objWrite t p 0x2903 5 (leBytes 1 v) repClearH s

/-- Handler of supply.rep_enable: 0 clears the table (R313). -/
def repEnableH (data : List Byte) (s : State) : Nat × State :=
  let s := s.setObj 0x2903 1 data
  (0, if leNat data = 0 then repClear s else s)

/-- Handler of supply.rsense and supply.phase_limit: their product at most 45 mV (R298). -/
def senseLimitH (sub : Nat) (data : List Byte) (s : State) : Nat × State :=
  let s' := s.setObj 0x2900 sub data
  if 45000000 < s'.objN 0x2900 2 * s'.objN 0x2900 3 then (abRange, s) else (0, s')

/-! ## The sample (R303) -/

/-- Phases that share iref: not held after a sense fault (Table 11.5). -/
def sharing (s : State) : List Nat := (upTo s.sup.phases).filter (fun p => nth s.sup.senseHeld p 0 = 0)

/-- H_min in mA: 2 % of 50 mV over rsense (R298). -/
def bandMin (s : State) : Int := roundFree 5 1000000 s.sup.rsense

/-- References and bands of the four phases from iref. -/
def phaseRefs (s : State) (iref : Int) : List Int :=
  let n := (sharing s).length
  let r := if n = 0 then 0 else iref / n
  let on := fun p => (sharing s).contains p
  (upTo 4).map (fun p => if on p then r else 0) ++
  (upTo 4).map (fun p => if on p then max ((s.objN 0x2901 1 : Int) * r / 100) (bandMin s) else 0)

/-- The limit hits of the samples (R302). -/
def limitSample (s : State) : State :=
  let hit := (upTo 4).map (fun p => decide (p < s.sup.phases) &&
    (nth s.sup.limitHit p false || decide ((s.sup.phaseLimit : Int) < nth s.sup.lastI p 0)))
  let run := (upTo 4).map (fun p => if nth hit p false then nth s.sup.limitRun p 0 + 1 else 0)
  let s := modSup (fun u => { u with
    limitHit := [false, false, false, false], limitRun := run
    phaseLimits := if hit.any id then u.phaseLimits + 1 else u.phaseLimits }) s
  (upTo 4).foldl (fun s p => if nth run p 0 = 1001 then raiseSrc (0x82 + p) [] s else s) s

/-- Some phase deviates by more than 25 % from a mean of at least 10 % of full scale (Table 11.5); full scale is 50 mV over
rsense. -/
def imbalanced (s : State) (ph : Nat) : Bool :=
  let n := s.sup.phases
  let sum : Int := (s.sup.lastI.take n).foldl (· + ·) 0
  decide ((5000000 * n : Nat) ≤ sum * s.sup.rsense) && decide (sum < 4 * (n * nth s.sup.lastI ph 0 - sum).natAbs)

/-- The computation of a sample while the engine switches (R303, R304, R312). -/
def sampleLoop (v : Nat) (s : State) : State :=
  let s := if s.sup.mode = .sampled then s else setCause 0x8E false [] (vledFrom v (modSup (fun u => { u with mode := .sampled }) s))
  let imax : Int := (s.sup.phases * s.sup.phaseLimit : Nat)
  let e := vSet s - v
  let acc := clampI (s.sup.acc + bfTimes 6 (bfObj s 0x2901 3) e) (-imax) imax
  let u := bfTimes 7 (bfObj s 0x2901 2) e + acc
  let ff := feedForward s
  let iref := clampI (u + ff) 0 imax
  let es := bfStore [e]
  let fs := bfStore [u, ff, iref]
  let bs := bfStore (phaseRefs s iref)
  let s := modSup (fun x => { x with
    acc := acc, errStage := es.1, ffStage := fs.1, bandStage := bs.1
    binSum := if x.bin.isSome then x.binSum + u else x.binSum, binCnt := if x.bin.isSome then x.binCnt + 1 else x.binCnt }) s
  vledStep (bfSat bs.2 (bfSat fs.2 (bfSat es.2 s)))

/-- An instant lies within 100 ms before now. -/
def recent (s : State) (a : Option Nat) : Bool := match a with | some a => decide (s.now ≤ a + 100000000000) | none => false

/-- The retries that 100 ms without a recurrence have passed: logged as transients where the failure was not lasting. That a phase
run again has passed after as long is stated nowhere: DESIGN CHOICE, log 190 (R317, R388). -/
def retriesPass (s : State) : State :=
  let past := fun (a : Option Nat) => a.isSome && !recent s a
  let s := if past s.sup.ovRestartAt then
      let last := s.sup.ovLasting
      let s := modSup (fun u => { u with ovRestartAt := none, ovLasting := false }) s
      if last then s else transientSrc 0x80 [] s
    else s
  let s := if past s.sup.uvAt then
      let last := s.sup.uvLasting
      let s := modSup (fun u => { u with uvAt := none, uvLasting := false }) s
      if last then s else transientSrc 0x81 [] s
    else s
  (upTo 4).foldl (fun s p =>
    if nth s.sup.senseTried p false && nth s.sup.senseHeld p 0 = 0 && past (some (nth s.sup.senseAt p 0)) then
      transientSrc (0x86 + p) [] (modSup (fun u => { u with senseTried := modNth u.senseTried p (fun _ => false) }) s)
    else s) s

/-- CONTROL_SAMPLE: one sample of the control engine; v in mV, i in mA (R303). -/
def execControlSample (t : Nat) (v : Nat) (i : List Int) (s : State) : Host.Outcome State Fault Refusal :=
  act t (fun s =>
    if !active s || !blockOn s 6 || nth s.tb.src 7 2 = 2 then s
    else
      let s := modSup (fun u => { u with sampleAt := s.now, levelCnt := min 1000 (u.levelCnt + 1), lastV := v, lastI := (upTo 4).map (fun p => nth i p 0) }) s
      let s := if s.sup.clearPend then repClear s else s
      let s := retriesPass s
      let s := binMove (profFall s)
      let s := limitSample s
      let s := if (upTo s.sup.phases).any (imbalanced s) then s else setCause 0x8A false [] s
      if !maySwitch s then setCause 0x8E false [] (supplyStop s)
      else if s.sup.ovTrip then s
      else sampleLoop v s) s

/-! ## Phase switching (R301, R305) -/

/-- A PHG line changes. -/
def setPhg (p : Nat) (on : Bool) (s : State) : State :=
  if nth s.sup.phg p false = on then s
  else modSup (fun u => { u with phg := modNth u.phg p (fun _ => on), phgAt := modNth u.phgAt p (fun _ => s.now) }) s

/-- A PHG line has been at its level for a time in ns. -/
def phgFor (s : State) (p ns : Nat) : Bool := decide (nth s.sup.phgAt p 0 + 1000 * ns ≤ s.now)

/-- The phase may be driven. -/
def phaseRuns (s : State) (p : Nat) : Bool :=
  maySwitch s && s.sup.mode ≠ .off && !s.sup.ovTrip && decide (p < s.sup.phases) && nth s.sup.senseHeld p 0 = 0

/-- The law of R301 for one phase at a current in mA. -/
def phaseLaw (p : Nat) (i : Int) (s : State) : State :=
  if !phaseRuns s p then setPhg p false s
  else if (s.sup.phaseLimit : Int) < i then
    setPhg p false (modSup (fun u => { u with limitHit := modNth u.limitHit p (fun _ => true) }) s)
  else if s.sup.mode ≠ .sampled then s
  else
    let r := stageFix s.sup.bandStage p
    let h := stageFix s.sup.bandStage (4 + p)
    if !nth s.sup.phg p false then
      if i * 4294967296 < r - h && phgFor s p s.sup.minOff then setPhg p true s else s
    else if r + h < i * 4294967296 && phgFor s p s.sup.minOn then setPhg p false s
    else s

/-- PHASE_SWITCH: a phase comparator acts (R301). -/
def execPhaseSwitch (t : Nat) (ph : Fin 4) (i : Int) (s : State) : Host.Outcome State Fault Refusal :=
  act t (fun s => phaseLaw ph.val i s) s

/-- FREE_RUNNING: no sample for 5 us, by the self-timed delay line (R305). -/
def execFreeRunning (t : Nat) (s : State) : Host.Outcome State Fault Refusal :=
  act t (fun s =>
    if maySwitch s && s.sup.mode ≠ .freeRunning && decide (s.sup.sampleAt + 5000000 ≤ s.now) then
      setCause 0x8E true [] (modSup (fun u => { u with mode := .freeRunning, freeRuns := u.freeRuns + 1 }) s)
    else s) s

/-- FREE_RUN_SWITCH: VLED crosses V_hold ± 50 mV and all phases switch together (R305). -/
def execFreeRunSwitch (t : Nat) (v : Nat) (s : State) : Host.Outcome State Fault Refusal :=
  act t (fun s =>
    if !maySwitch s then supplyStop s
    else if s.sup.mode ≠ .freeRunning then s
    else if v + 50 < s.sup.vHold then
      (upTo 4).foldl (fun s p => if phaseRuns s p && phgFor s p s.sup.minOff then setPhg p true s else s) s
    else if s.sup.vHold + 50 < v then
      (upTo 4).foldl (fun s p => if phgFor s p s.sup.minOn then setPhg p false s else s) s
    else s) s

/-! ## Faults of the stage (Table 11.5) -/

/-- VLED_OVERVOLTAGE: above supply.ov_limit for 2 us. -/
def execVledOvervoltage (t : Nat) (v : Nat) (s : State) : Host.Outcome State Fault Refusal :=
  act t (fun s =>
    if !active s || !blockOn s 6 || s.sup.ovTrip || decide (v ≤ s.sup.ovLimit) then s
    else
      let again := recent s s.sup.ovRestartAt
      let s := modSup (fun u => { u with ovTrip := true, ovLasting := again, phg := [false, false, false, false] }) s
      if again then raiseSrc 0x80 (leBytes 2 v) s else transientSrc 0x80 (leBytes 2 v) s) s

/-- OVERVOLTAGE_RESTART: 1 ms after VLED fell below ov_limit - 200 mV. -/
def execOvervoltageRestart (t : Nat) (v : Nat) (s : State) : Host.Outcome State Fault Refusal :=
  act t (fun s =>
    if s.sup.ovTrip && decide (v + 200 < s.sup.ovLimit) then
      let s := modSup (fun u => { u with ovTrip := false, ovRestartAt := some s.now }) s
      if s.sup.mode = .sampled then vledFrom v s else s
    else s) s

/-- VLED_UNDERVOLTAGE: 400 mV below the set-point for 100 us while switching. -/
def execVledUndervoltage (t : Nat) (v : Nat) (s : State) : Host.Outcome State Fault Refusal :=
  act t (fun s =>
    if s.sup.mode ≠ .off && maySwitch s && !s.sup.ovTrip && decide ((v : Int) < vSet s - 400) then
      let again := recent s s.sup.uvAt
      let s := vledFrom v (modSup (fun u => { u with acc := 0, uvAt := some s.now, uvLasting := again }) s)
      if again then raiseSrc 0x81 (leBytes 2 v) s else transientSrc 0x81 (leBytes 2 v) s
    else s) s

/-- SENSE_FAULT: a phase's sense is out of range or does not rise; the phase is held at 0. -/
def execSenseFault (t : Nat) (ph : Fin 4) (s : State) : Host.Outcome State Fault Refusal :=
  act t (fun s =>
    if !active s || !blockOn s 6 || decide (s.sup.phases ≤ ph.val) || nth s.sup.senseHeld ph.val 0 ≠ 0 then s
    else
      let tried := nth s.sup.senseTried ph.val false
      let s := setPhg ph.val false (modSup (fun u => { u with
        senseHeld := modNth u.senseHeld ph.val (fun _ => if tried then 2 else 1), senseAt := modNth u.senseAt ph.val (fun _ => s.now) }) s)
      if tried then setCause (0x86 + ph.val) true [] s else transientSrc (0x86 + ph.val) [] s) s

/-- SENSE_RETRY: 1 ms after a first sense fault the phase runs again. -/
def execSenseRetry (t : Nat) (ph : Fin 4) (s : State) : Host.Outcome State Fault Refusal :=
  act t (fun s =>
    if nth s.sup.senseHeld ph.val 0 = 1 && decide (nth s.sup.senseAt ph.val 0 + 1000000000 ≤ s.now) then
      modSup (fun u => { u with
        senseHeld := modNth u.senseHeld ph.val (fun _ => 0), senseTried := modNth u.senseTried ph.val (fun _ => true)
        senseAt := modNth u.senseAt ph.val (fun _ => s.now) }) s
    else s) s

/-- PHASE_IMBALANCE: a phase current deviates for 1 ms; no action but the source. -/
def execPhaseImbalance (t : Nat) (ph : Fin 4) (s : State) : Host.Outcome State Fault Refusal :=
  act t (fun s =>
    if active s && blockOn s 6 && decide (ph.val < s.sup.phases) && imbalanced s ph.val then setCause 0x8A true (leBytes 1 ph.val) s else s) s

/-! ## Frame boundaries and entry to READY -/

/-- supply.status at a frame boundary (R319). -/
def supPublish (s : State) : State :=
  let u := s.sup
  let iout : Int := u.lastI.foldl (· + ·) 0
  publish 0x2906 [leBytes 2 u.lastV, leBytes 2 (vSet s).toNat, leBytes 2 (vledTarget s),
    leBytes 1 (match vledNeed s with | some b => b.2 | none => 0), leBytes 2 iout.toNat,
    leBytes 2 (stageFix u.ffStage 2 / 4294967296).toNat,
    leBytes 1 (match u.rep with | .cleared => 0 | .waiting => 1 | .fading => 2 | .learning => 3), leBytes 2 u.repFrames,
    leBytes 1 u.w, leBytes 1 u.profE, leBytes 2 (unsext 16 (beamOffset s)),
    leBytes 1 (match u.mode with | .off => 0 | .sampled => 1 | .freeRunning => 2), leBytes 2 u.vHold] s

/-- A frame boundary seen by the control engine (R304, R308, R311, R313). -/
def supBoundary (newFrame qualifies modeTook : Bool) (s : State) : State :=
  let s := repBoundary (qualifies && !s.sup.unqualified) modeTook (binEnd s)
  let s := modSup (fun u => { u with boundary := true, unqualified := false }) s
  let s := if newFrame then headroom s else s
  supPublish s

/-- Entry to READY: power-stage objects in force, table cleared, LEVEL at its target (R298, R313, R316). -/
def supReady (s : State) : State :=
  let s := repClear s
  let s := modSup (fun u => { u with
    phases := s.objN 0x2900 1, rsense := s.objN 0x2900 2, phaseLimit := s.objN 0x2900 3, ovLimit := s.objN 0x2900 4
    minOn := s.objN 0x2900 5, minOff := s.objN 0x2900 6
    lp := s.objI16 0x2905 1 * 4294967296, lv := 0, la := 0, sampleAt := s.now, levelCnt := 0, bin := none, binSum := 0, binCnt := 0
    phg := [false, false, false, false], senseHeld := [0, 0, 0, 0], senseTried := [false, false, false, false]
    limitHit := [false, false, false, false], limitRun := [0, 0, 0, 0], ovTrip := false, ovRestartAt := none, uvAt := none
    needCur := none, needNext := none, needPulse := none, ipkNext := none, shortPrev := false, shortTwice := false
    ovLasting := false, uvLasting := false }) s
  (upTo 4).foldl (fun s p => setCause (0x86 + p) false [] s) (setCause 0x8A false [] (setCause 0x8E false [] s))

end Sys2Proof.Machine
end

