-- ==== Sys2Proof/Machine/Thermal.lean ====
section
/-!
DEFINITION. Temperature and light sensing (chapter 12): the four sources and their filters, thermal levels, throttling,
broken sensors, the control die, and the colour loop.
-/

namespace Sys2Proof.Machine

/-- Changes the thermal block. -/
def modTh (f : Therm → Therm) (s : State) : State := { s with th := f s.th }

/-- The Helm core runs: BOOT has ended and it is not halted (R332). -/
def helmRuns (s : State) : Bool := running s && !s.mg.haltMgmt

/-- A condition that has held since an instant has held for a time in ps. -/
def heldFor (s : State) (dur : Nat) (a : Option Nat) : Bool := match a with | some a => decide (a + dur ≤ s.now) | none => false

/-- The instant since when a condition holds, kept while it holds. -/
def sinceOn (s : State) (on : Bool) (a : Option Nat) : Option Nat := if on then some (a.getD s.now) else none

/-- Dwell of R325 and R326 in ps. -/
def dwell : Nat := 250000000000

/-- One second in ps. -/
def oneSec : Nat := 1000000000000

/-! ## Filters (R323) -/

/-- Puts a value into a rising list. -/
def insI (x : Int) : List Int → List Int
  | [] => [x]
  | y :: l => if x ≤ y then x :: y :: l else y :: insI x l

/-- Median of the samples held, the larger middle one of an even number (R323). -/
def median (l : List Int) : Int := nth (l.foldr insI []) (l.length / 2) 0

/-- The last five samples, newest first. -/
def push5 (x : Int) (l : List Int) : List Int := (x :: l).take 5

/-- Filtered T_arr. -/
def fArr (s : State) : Int := median s.th.arrS

/-- Filtered NTC reading. -/
def fNtc (s : State) : Int := median s.th.ntc

/-- Filtered control-sensor reading. -/
def fCtl (s : State) : Int := median s.th.ctl

/-! ## The Vf map (R321) -/

/-- The diode reading as it stands (R320, R328). -/
def diodeNow (s : State) : Int := if nth s.th.subst 0 false then s.objI16 0x2A00 2 + 16 else s.th.diode.headD 400

/-- The estimates of district d in the last 100 ms. -/
def estNow (s : State) (d : Nat) : List Int :=
  (s.th.est.filter (fun e => e.2.1 == d && decide (s.now ≤ e.1 + 100000000000))).map (fun e => e.2.2)

/-- The mean of the estimates of a district in the last 100 ms plus the map offset (R321). -/
def tdMean (s : State) (d : Nat) : Int :=
  let es := estNow s d
  roundFree 10 (es.foldl (· + ·) 0) es.length + s.th.mapOff

/-- T_d of a district: the mean of the last 100 ms with the map offset; without an estimate in them the value last formed,
moved by the change of the diode reading since; or the diode for a BASELINE_BAD district (R321). -/
def tdMap (s : State) (d : Nat) : Int :=
  if s.diag.baseBad.contains d then diodeNow s
  else if (estNow s d).isEmpty then nth s.th.td d 400 + (diodeNow s - nth s.th.tdDiode d 400)
  else tdMean s d

/-- What T_d of a district will be when its newest estimate is the last one of the 100 ms, and the diode reading it goes with;
it is kept while the district has an estimate. DEDUCED: the previous T_d of a district that has none left is that of its newest
one alone (R321, log 172). -/
def formTd (d : Nat) (s : State) : State :=
  match estNow s d with
  | [] => s
  | e :: _ => modTh (fun t => { t with
      td := modNth t.td d (fun _ => e + t.mapOff), tdDiode := modNth t.tdDiode d (fun _ => diodeNow s) }) s

/-- The same for every district (R321). -/
def formAllTd (s : State) : State :=
  if s.th.est.isEmpty then s else (upTo 128).foldl (fun s d => formTd d s) s

/-- T_d in force: the diode until the first TEMP_MAP since entry to READY (R272). -/
def tdNow (s : State) (d : Nat) : Int := if s.diag.mapDone then tdMap s d else diodeNow s

/-- The highest T_d with its district, the lowest of equals. -/
def hottest (s : State) : Nat × Int :=
  (upTo 128).foldl (fun m d => let v := tdNow s d; if m.2 < v then (d, v) else m) (0, tdNow s 0)

/-! ## The NTC (R322) -/

/-- Source currents in units of 0.5 uA, largest first. -/
def ntcI : List Nat := [100, 10, 1]

/-- The current of a conversion: the largest at which the pin stays at or below 1.10 V. -/
def ntcPick (uv : List Nat) : Nat :=
  match (upTo 3).find? (fun k => decide (nth uv k 0 ≤ 1100000)) with | some k => k | none => 2

/-- 2^80, the unit of the logarithms below. -/
def lnOne : Nat := 2 ^ 80

/-- The terms y^k / k, y^(k+2) / (k+2), … of artanh in units of 2^-80: `p` is y^k, `q` is y squared. -/
def artanhTerms : Nat → Nat → Nat → Nat → Nat
  | 0, _, _, _ => 0
  | f + 1, p, q, k => p / k + artanhTerms f (p * q / lnOne) q (k + 2)

/-- ln (num / den) in units of 2^-80, for a ratio from 1 to 2: twice artanh of (num - den) / (num + den). -/
def lnNear (num den : Nat) : Nat :=
  let y := lnOne * (num - den) / (num + den)
  2 * artanhTerms 32 y (y * y / lnOne) 1

/-- ln (num / den) in units of 2^-80, for a ratio of at least 1: a ln 2 for every halving. -/
def lnFrom : Nat → Nat → Nat → Nat
  | 0, num, den => lnNear num den
  | f + 1, num, den => if 2 * den ≤ num then lnNear 2 1 + lnFrom f num (2 * den) else lnNear num den

/-- ln (num / den) in units of 2^-80, exact to 2^-70 for the ratios an NTC can have. -/
def lnRatio (num den : Nat) : Int := if den ≤ num then (lnFrom 64 num den : Int) else -(lnFrom 64 den num : Int)

/-- T of R322 in 1/16 C from beta and R = num / den in ohms: 16 / (1/298.15 + ln (R / 10 kOhm) / beta) - 4370.4, with 1/298.15 =
20/5963; the rounding to 1/16 C is not stated (logs 8 and 17). -/
def ntcTemp (beta num den : Nat) : Int :=
  let d := 20 * (lnOne * beta : Nat) + 5963 * lnRatio num (10000 * den)
  if num = 0 || d ≤ 0 then Config.ntcCorner beta num den
  else roundFree 33 (10 * (16 * 5963 * (lnOne * beta : Nat)) - 43704 * d) (10 * d).toNat

/-- The reading at a current, from the pin voltages at the three currents in uV. -/
def ntcRead (s : State) (uv : List Nat) (k : Nat) : Int := ntcTemp (s.objN 0x2A00 6) (2 * nth uv k 0) (nth ntcI k 1)

/-- A reading lies in -50 to 160 C. -/
def tempOk (v : Int) : Bool := decide (-800 ≤ v) && decide (v ≤ 2560)

/-! ## Broken sensors (R328) -/

/-- The judgement of source i: 0 diode, 1 NTC, 2 control; a source that breaks raises its source, and its reading is substituted
until it is no longer broken and its status bit is clear. -/
def judge (i : Nat) (b : Bool) (s : State) : State :=
  let rose := b && !nth s.th.broken i false
  let s := modTh (fun t => { t with
    broken := modNth t.broken i (fun _ => b), subst := modNth t.subst i (fun u => u || b)
    sensorFaults := if rose then t.sensorFaults + 1 else t.sensorFaults }) s
  endSubst i (setCause (0xA4 + i) b [] s)

/-- A reading or its substitute. -/
def readOr (s : State) (i : Nat) (sub : Int) (v : Option Int) : Int := if nth s.th.subst i false then sub else v.getD 0

/-- The samples of the diode and of T_arr (R323, R328). -/
def sampleArr (v : Option Int) (s : State) : State :=
  let s := modTh (fun t => { t with diodeRaw := v }) s
  let s := judge 0 (match v with | none => true | some x => !tempOk x || heldFor s oneSec s.th.mapDiffSince) s
  let x := readOr s 0 (s.objI16 0x2A00 2 + 16) v
  let s := modTh (fun t => { t with diode := push5 x t.diode }) s
  modTh (fun t => { t with arrS := push5 (max x (hottest s).2) t.arrS }) s

/-- The sample of the NTC, where one is fitted (R322, R328). -/
def sampleNtc (uv : List Nat) (s : State) : State :=
  if !s.objB 0x2A00 5 then judge 1 false (modTh (fun t => { t with ntc := [], ntcHighSince := none }) s)
  else
    let k := ntcPick uv
    let v := ntcRead s uv k
    let s := modTh (fun t => { t with
      ntcCur := k, ntcHighSince := sinceOn s (decide (s.th.arrS.headD 0 + 240 < v)) t.ntcHighSince }) s
    let s := judge 1 (decide (1150000 < nth uv 2 0) || decide (nth uv 0 0 < 2000) || !tempOk v ||
      heldFor s oneSec s.th.ntcHighSince) s
    modTh (fun t => { t with ntc := push5 (readOr s 1 (s.objI16 0x2A00 8 + 16) (some v)) t.ntc }) s

/-- The sample of the control sensor (R328). -/
def sampleCtl (v : Option Int) (s : State) : State :=
  let s := judge 2 (match v with | none => true | some x => !tempOk x) s
  modTh (fun t => { t with ctl := push5 (readOr s 2 1776 v) t.ctl }) s

/-! ## Levels (R324, R325) -/

/-- Cold-start margin of source i: the diode's and the NTC's end at COLD_START_END; the control sensor's, which has no flag and
no command, ends by the clock (R329, log 91). -/
def margin (s : State) (i : Nat) : Int :=
  if (nth s.th.validAt i none).isNone || (i == 2 && heldFor s oneSec (nth s.th.validAt i none)) then 0 else 80

/-- The threshold of level 1 to 4 in force. -/
def levelThr (s : State) (l : Nat) : Int := s.objI16 0x2A00 l - margin s 0

/-- The causes of the thermal sources follow the level and the NTC warning. -/
def levelCauses (s : State) : State :=
  let l := s.th.level
  setCause 0xA2 (l = 4) [] (setCause 0xA1 (decide (3 ≤ l)) [] (setCause 0xA0 (decide (1 ≤ l) || s.th.ntcWarn) [] s))

/-- A level transition. -/
def toLevel (l : Nat) (s : State) : State := levelCauses (modTh (fun t => { t with level := l, levelAt := some s.now }) s)

/-- The dwell timers of the levels at a sample. -/
def levelTimers (s : State) : State :=
  modTh (fun t => { t with
    upSince := (upTo 4).map (fun i => sinceOn s (decide (levelThr s (i + 1) ≤ fArr s)) (nth t.upSince i none))
    fallSince := (upTo 4).map (fun i => sinceOn s (decide (fArr s < levelThr s (i + 1) - 64)) (nth t.fallSince i none)) }) s

/-- A rise to LIMP or DARK needs no dwell (R325). -/
def levelAtOnce (s : State) : State :=
  let l := if levelThr s 4 ≤ fArr s then 4 else if levelThr s 3 ≤ fArr s then 3 else 0
  if s.th.level < l then toLevel l s else s

/-- THERMAL_LEVEL_CHANGE: a dwell ends; up to the highest level that has held, or down one level (R325). -/
def execThermalLevelChange (t : Nat) (s : State) : Host.Outcome State Fault Refusal :=
  act t (fun s =>
    let l := s.th.level
    let up := (upTo 4).foldl (fun m i => if heldFor s dwell (nth s.th.upSince i none) then i + 1 else m) 0
    if !helmRuns s || (s.th.levelAt.isSome && !heldFor s dwell s.th.levelAt) then s
    else if l < up then toLevel up s
    else if 0 < l && heldFor s dwell (nth s.th.fallSince (l - 1) none) then toLevel (l - 1) s
    else s) s

/-! ## Throttling (R326, R327) -/

/-- Both timers restart from a step. -/
def timersRestart (s : State) : State :=
  modTh (fun t => { t with
    hotSrc := t.hotSrc.map (Option.map (fun _ => s.now)), coolSince := t.coolSince.map (fun _ => s.now) }) s

/-- The timers of the throttle thresholds at a sample. -/
def throttleTimers (s : State) : State :=
  let fitted := s.objB 0x2A00 5
  let ta := s.objI16 0x2A00 2 - margin s 0
  let tn := s.objI16 0x2A00 8 - margin s 1
  let tc := 1760 - margin s 2
  let hot := [decide (ta ≤ fArr s), fitted && decide (tn ≤ fNtc s), decide (tc ≤ fCtl s)]
  let cool := decide (fArr s < ta - 64) && (!fitted || decide (fNtc s < tn - 64)) && decide (fCtl s < tc - 64)
  modTh (fun t => { t with
    hotSrc := (upTo 3).map (fun i => sinceOn s (nth hot i false) (nth t.hotSrc i none)), coolSince := sinceOn s cool t.coolSince }) s

/-- A step for rate, and the rate-limp source (R327); with a step of R326 in the same sample it is one step only (R338). -/
def rateStep (s : State) : State :=
  let r := s.th.rate
  let s := if 80 < r && decide (4 < s.th.n) && (s.th.rateStepAt.isNone || heldFor s dwell s.th.rateStepAt) then
      timersRestart (modTh (fun t => if t.stepAt = some s.now then { t with rateStepAt := some s.now }
        else { t with n := t.n - 1, rateSteps := t.rateSteps + 1, rateStepAt := some s.now }) s)
    else s
  let was := s.th.rateHigh
  let s := modTh (fun t => { t with rateHigh := decide (320 < r) }) s
  if 320 < r && !was then raiseSrc 0xA3 (leBytes 2 (unsext 16 r)) s else s

/-- THROTTLE_STEP_DOWN: a throttle threshold has held for 250 ms (R326). -/
def execThrottleStepDown (t : Nat) (s : State) : Host.Outcome State Fault Refusal :=
  act t (fun s =>
    if helmRuns s && s.th.hotSrc.any (heldFor s dwell) && decide (4 < s.th.n) then
      timersRestart (modTh (fun t => { t with n := t.n - 1, stepsDown := t.stepsDown + 1, stepAt := some s.now }) s)
    else s) s

/-- THROTTLE_STEP_UP: every source has been cool for 1 s (R326). -/
def execThrottleStepUp (t : Nat) (s : State) : Host.Outcome State Fault Refusal :=
  act t (fun s =>
    if helmRuns s && heldFor s oneSec s.th.coolSince && decide (s.th.n < 16) then
      timersRestart (modTh (fun t => { t with n := t.n + 1, stepsUp := t.stepsUp + 1 }) s)
    else s) s

/-- The rate of the array from its filtered value 1 s earlier (R323, R328, R329). -/
def rateTake (s : State) : State :=
  let f := fArr s
  let old := s.th.arrHist.find? (fun e => decide (e.1 + oneSec ≤ s.now))
  let r := if (nth s.th.validAt 0 none).isSome || nth s.th.subst 0 false then 0
    else match old with | some e => f - e.2 | none => 0
  modTh (fun t => { t with
    rate := r, arrHist := (s.now, f) :: (t.arrHist.filter (fun e => decide (s.now < e.1 + oneSec)) ++ old.toList) }) s

/-! ## Control die (R330, R332) -/

/-- The control warning with its dwell and hysteresis, and the halt of both cores at 125 C. -/
def ctlJudge (s : State) : State :=
  let f := fCtl s + margin s 2
  let s := modTh (fun t => { t with
    ctlUpSince := sinceOn s (decide (1760 ≤ f)) t.ctlUpSince, ctlDownSince := sinceOn s (decide (f < 1696)) t.ctlDownSince }) s
  let w := if s.th.ctlWarn then !heldFor s dwell s.th.ctlDownSince else heldFor s dwell s.th.ctlUpSince
  let s := setCause 0xA7 w [] (modTh (fun t => { t with ctlWarn := w }) s)
  if 2000 ≤ f then
    let s := setCause 0xA8 true [] (modTh (fun t => { t with ctlHigh := true, ctlCoolSince := none }) s)
    { s with mg := { s.mg with haltMgmt := true, haltUnit := if jrnlOpen s then some s.now else none } }
  else s

/-- thermal.status (R339). -/
def thPublish (s : State) : State :=
  let t := s.th
  let i16 := fun (v : Int) => leBytes 2 (unsext 16 v)
  publish 0x2A01 [i16 (median t.diode), i16 (fArr s), leBytes 1 (hottest s).1, i16 (fNtc s), i16 (fCtl s), i16 t.rate,
    leBytes 1 t.level, leBytes 1 t.n, leBytes 2 (1000 * t.n),
    leBytes 1 (b2n (nth t.broken 0 false) + 2 * b2n (nth t.broken 1 false) + 4 * b2n (nth t.broken 2 false) +
      8 * b2n (nth t.validAt 0 none).isSome + 16 * b2n (nth t.validAt 1 none).isSome)] s

/-- THERMAL_SAMPLE: every source is sampled, filtered and judged; while both cores are halted only the control sensor is
watched (R323 to R330). -/
def execThermalSample (t : Nat) (diode : Option Int) (ntcUv : List Nat) (ctl : Option Int) (s : State) :
    Host.Outcome State Fault Refusal :=
  act t (fun s =>
    if s.mg.haltMgmt then
      modTh (fun t => { t with ctlCoolSince := sinceOn s (ctl.any (fun c => decide (c < 1760))) t.ctlCoolSince }) s
    else if !helmRuns s then s
    else
      let s := rateTake (sampleCtl ctl (sampleNtc ntcUv (sampleArr diode s)))
      let s := modTh (fun t => { t with
        ntcWarn := s.objB 0x2A00 5 && decide (s.objI16 0x2A00 7 - margin s 1 ≤ fNtc s) }) s
      let s := formAllTd (irqHelm 51 (levelCauses (levelAtOnce (levelTimers s))))
      thPublish (ctlJudge (rateStep (throttleTimers s)))) s

/-- COLD_START_END: the margin of the diode or the NTC ends after 1 s (R329). -/
def execColdStartEnd (t : Nat) (ntc : Bool) (s : State) : Host.Outcome State Fault Refusal :=
  act t (fun s =>
    let i := if ntc then 1 else 0
    if heldFor s oneSec (nth s.th.validAt i none) then modTh (fun t => { t with validAt := modNth t.validAt i (fun _ => none) }) s
    else s) s

/-- The management subsystem's volatile state as a boot leaves it; counters and the log queue stay (log 78). The cores do not run
yet. -/
def mgmtBoot (s : State) : State :=
  { s with
    nv := { s.nv with jrnlWait := [] }
    mg := { s.mg with irqH := {}, irqP := {}, tmrH := [{}, {}, {}, {}], tmrP := [{}, {}, {}, {}], mbx := none, purserWd := s.now
                      wdWarned := 0, updState := 0, updReason := 0, updImage := [], updReceived := 0
                      psVerifying := false, psStaged := false, bankTried := false, bootRom := false, haltUnit := none, restarting := true }
    dict := { s.dict with queue := [], canQueue := [], lastCan := none, lastFerry := none, xferCan := none, xferFerry := none, sesCan := {}, sesFerry := {}, frozenCan := []
                          frozenFerry := [] } }

/-- The objects have taken their saved values: what an object that now reads 0 keeps cleared is cleared; `rep`: supply.rep_enable
before (R313, R335). -/
def objsHold (rep : Bool) (s : State) : State :=
  let s := if rep && !s.objB 0x2903 1 then repClear s else s
  if s.objB 0x2A10 1 then s else modTh (fun t => { t with kCool := 32768, kWarm := 32768, lightState := 0 }) s

/-- MANAGEMENT_RESTART: the control sensor has read below 110 C for 1 s; management boots: the journal is resolved, the objects
take their values, and the image in the bank in force is being verified, which IMAGE_VERIFY_DONE ends (R332, R467). -/
def execManagementRestart (t : Nat) (s : State) : Host.Outcome State Fault Refusal :=
  act t (fun s =>
    if s.mg.haltMgmt && !s.mg.restarting && heldFor s oneSec s.th.ctlCoolSince then
      let s := objsHold (s.objB 0x2903 1) (canRates (loadObjs (jrnlResolve (loadObjs (mgmtBoot (stopCustomer s))))))
      setCause 0xA8 false [] (modTh (fun t => { t with ctlHigh := false, ctlCoolSince := none }) s)
    else s) s

/-- Entry to READY: n is 16 and the sources become valid (R326, R329). -/
def thReady (s : State) : State := modTh (fun t => { t with n := 16 }) (sensorsValid s)

/-! ## The colour loop (R333 to R336) -/

/-- A quotient rounded half up, for a denominator other than 0. -/
def divHalfUp (num den : Int) : Int :=
  let (n, d) := if den < 0 then (-num, -den) else (num, den)
  (2 * n + d) / (2 * d)

/-- A quotient whose rounding is not stated, for a denominator other than 0. -/
def divFree (tag : Nat) (num den : Int) : Int :=
  if den < 0 then roundFree tag (-num) (-den).toNat else roundFree tag num den.toNat

/-- A quotient as a 16-bit value: a free value where it divides by zero or lies outside (log 17). -/
def colourVal (tag : Nat) (num den : Int) : Nat :=
  if den = 0 then Config.colourCorner tag % 65536
  else
    let v := divFree tag num den
    if v < 0 || 65535 < v then Config.colourCorner tag % 65536 else v.toNat

/-- What the loop forms of one second: sums, and s, phi and s_tgt as quotients (R334). -/
structure Light where
  sN : Int
  sD : Int
  pN : Int
  pD : Int
  gN : Int
  gD : Int

/-- Point i of the CCT table: its CCT in K. -/
def cctPoint (i : Nat) : Nat := 3500 + 500 * i

/-- The quantities of R334 from the sums of BLUE and BROAD of a second, dark-subtracted. -/
def lightOf (s : State) (blue broad : Int) : Light :=
  let t := s.objN 0x2A10 2
  let i := (t - 3500) / 500
  let (s0, s1) := ((Config.sharePoint i : Int), (Config.sharePoint (i + 1) : Int))
  { sN := Config.betaC * broad - blue * 65536, sD := ((Config.betaC : Int) - Config.betaW) * broad
    pN := broad * (s.th.kCool + s.th.kWarm : Nat) * 1099511627776, pD := (65536 * Config.eta * s.th.demand : Nat)
    gN := s0 * (500 * t : Nat) + (s1 - s0) * ((t : Int) - cctPoint i) * cctPoint (i + 1), gD := (65536 * 500 * t : Nat) }

/-- CCT of s: the inverse of the table, linear in 10^6 / CCT; a free value off the table's ends (log 17). -/
def cctOf (l : Light) : Nat :=
  let lies := fun i : Nat =>
    let (a, b) := (l.sD * Config.sharePoint i, l.sD * Config.sharePoint (i + 1))
    let x := l.sN * 65536
    a ≠ b && ((decide (a ≤ x) && decide (x ≤ b)) || (decide (b ≤ x) && decide (x ≤ a)))
  match (if l.sD = 0 then none else (upTo 7).find? lies) with
  | none => Config.colourCorner 11 % 65536
  | some i =>
    let d := l.sD * ((Config.sharePoint (i + 1) : Int) - Config.sharePoint i)
    let n := l.sN * 65536 - l.sD * Config.sharePoint i
    colourVal 11 ((cctPoint i * cctPoint (i + 1) : Nat) * d) (cctPoint (i + 1) * d - 500 * n)

/-- A gain moved towards its desired value by at most 0.1 %, within its bounds (R335). -/
def slewGain (k : Nat) (want : Int) : Nat :=
  let m := max 1 (k / 1000)
  (clampI (clampI want ((k : Int) - m) (k + m)) 24576 40960).toNat

/-- c_d of R335. -/
def wantCool (s : State) (l : Light) : Int :=
  let den := l.gD * (l.sD - l.sN) * l.pN
  if l.sD = 0 || l.pD = 0 || den = 0 then Config.colourCorner 12
  else divHalfUp (s.th.kCool * (l.gD - l.gN) * l.sD * l.pD) den

/-- w_d of R335. -/
def wantWarm (s : State) (l : Light) : Int :=
  let den := l.gD * l.sN * l.pN
  if l.sD = 0 || l.pD = 0 || den = 0 then Config.colourCorner 13
  else divHalfUp (s.th.kWarm * l.gN * l.sD * l.pD) den

/-- phi lies below 1 - light.flux_tol. -/
def phiLow (s : State) (l : Light) : Bool :=
  let tol : Int := 100 - s.objN 0x2A10 5
  if l.pD = 0 then false else decide (100 * l.pN < tol * l.pD)

/-- An update of the loop (R335, R336). -/
def lightUpdate (l : Light) (s : State) : State :=
  let (kc, kw) := (slewGain s.th.kCool (wantCool s l), slewGain s.th.kWarm (wantWarm s l))
  let bound := fun k : Nat => k == 24576 || k == 40960
  let lim := bound kc || bound kw
  let top := kc == 40960 || kw == 40960
  let cct := cctOf l
  let out := decide (cct < s.objN 0x2A10 3) || decide (s.objN 0x2A10 4 < cct)
  let low := phiLow s l && top
  let s := modTh (fun t => { t with
    kCool := kc, kWarm := kw, lightState := if lim then 3 else 2, updates := t.updates + 1
    limited := if lim then t.limited + 1 else t.limited, fluxLow := if low then t.fluxLow + 1 else 0
    cctOut := if out then t.cctOut + 1 else 0 }) s
  let s := if low then s else setCause 0xA9 false [] s
  if out then s else setCause 0xAA false [] s

/-- What is reported of a second: s, the CCT of it, and phi (R334). -/
def lightForm (l : Light) (s : State) : State :=
  modTh (fun t => { t with share := colourVal 14 (l.sN * 65536) l.sD, cct := cctOf l, fluxRatio := colourVal 15 (l.pN * 32768) l.pD }) s

/-- COLOUR_LOOP: once per second, from the sums of BLUE and BROAD over the pairs and the frames of the second, less their dark
offsets. DESIGN CHOICE: a second without a frame of the host forms no quantity, and what was reported last stands (R333 to R335,
log 201). -/
def execColourLoop (t : Nat) (blue broad : Int) (s : State) : Host.Outcome State Fault Refusal :=
  act t (fun s =>
    if !active s || !helmRuns s then s
    else
      let b := blue - s.th.darkSum.1
      let w := broad - s.th.darkSum.2
      let l := lightOf s b w
      let s := if s.th.demand = 0 then s else lightForm l s
      let s' := if !s.objB 0x2A10 1 then modTh (fun t => { t with lightState := 0, kCool := 32768, kWarm := 32768 }) s
        else if !hostBeam s || !s.th.litSec then modTh (fun t => { t with lightState := 1 }) s
        else lightUpdate l s
      let s' := modTh (fun t => { t with demand := 0, litSec := false, darkSum := (0, 0) }) s'
      let x := s'.th
      publish 0x2A11 [leBytes 2 x.kCool, leBytes 2 x.kWarm, leBytes 2 x.share, leBytes 2 x.cct, leBytes 2 x.fluxRatio,
        leBytes 1 x.lightState] s') s

/-- Light may be emitted from a gate launch on: LIT, with permission and the close check passed (R405, R409, R429). -/
def lightOn (s : State) : Bool := lit s && s.saf.permission && s.saf.closeOk

/-- A frame's demand in the second: L K, in LO units / 256; full light is 131,056 LO units in every pixel (R334, R335). Each
channel's integral over the frame's RUN intervals is to lose the dark offset in force. DEDUCED: one integral per channel and
frame (R333, log 173). -/
def lightFrame (lo k : Nat) (s : State) : State :=
  if !lit s || !hostBeam s then s
  else modTh (fun t => { t with
    darkSum := (t.darkSum.1 + (t.dark.take 4).foldl (· + ·) 0, t.darkSum.2 + ((t.dark.drop 4).take 4).foldl (· + ·) 0)
    demand := t.demand + lo * k, litSec := t.litSec || lightOn s && decide (256 * 2097152 * 131056 ≤ 20 * (lo * k)) }) s

/-- FLUX_FAULT: phi low for 10 updating seconds with a gain at its upper bound (R336). -/
def execFluxFault (t : Nat) (s : State) : Host.Outcome State Fault Refusal :=
  act t (fun s => if 10 ≤ s.th.fluxLow then setCause 0xA9 true (leBytes 2 s.th.fluxRatio) s else s) s

/-- COLOUR_FAULT: light.cct outside its box for 10 updating seconds (R336). -/
def execColourFault (t : Nat) (s : State) : Host.Outcome State Fault Refusal :=
  act t (fun s => if 10 ≤ s.th.cctOut then setCause 0xAA true (leBytes 2 s.th.cct) s else s) s

/-- Handler of light.loop_enable: 0 sets both gains to 32,768 (R335). -/
def loopEnableH (data : List Byte) (s : State) : Nat × State :=
  let s := s.setObj 0x2A10 1 data
  (0, if leNat data = 0 then modTh (fun t => { t with kCool := 32768, kWarm := 32768, lightState := 0 }) s else s)

end Sys2Proof.Machine
end

