-- ==== Sys2Proof/Machine/Sched.lean ====
section
/-!
DEFINITION. The schedule of frames (chapter 3): the timing mode and its commit, frame and subframe lengths, the placement
of off-windows and probe slots, the fit factor, and the ramp's position.
-/

namespace Sys2Proof.Machine

/-! ## Lengths (R70 to R72) -/

/-- Nominal frame period F of a rate, in ticks of a source of p ps (R70). -/
def frameTicks (p rate : Nat) : Nat :=
  let n := if p = 2000 then 500000000000 else 64000000000
  if rate = 0 then 0 else (n + rate / 2) / rate

/-- Start of subframe i of a frame of n ticks (R71). -/
def subStart (n subs i : Nat) : Nat := n * i / subs

/-- Length U_i of subframe i (R71). -/
def subLen (n subs i : Nat) : Nat := subStart n subs (i + 1) - subStart n subs i

/-- A position in ns in ticks of p ps (R72). -/
def nsTicks (p ns : Nat) : Nat := (1000 * ns + p / 2) / p

/-- 56 us in ticks (R21). -/
def leadTicks (p : Nat) : Nat := nsTicks p 56000

/-! ## Items (R77 to R83) -/

/-- Item i is a probe slot. -/
def isProbe (i : Nat) : Bool := decide (4 ≤ i)

/-- Item i of a mode is a whole-array off-window. -/
def isWhole (m : Mode) (i : Nat) : Bool := !isProbe i && (itemCfg m i).kind == 0

/-- Length of an item up to its end or its end launch, with the padding of R82. -/
def itemSpan (p : Nat) (m : Mode) (i : Nat) : Nat :=
  let n := nsTicks p (itemCfg m i).length
  if isProbe i then max n (leadTicks p) else n

/-- An item with its subframe. -/
structure Spot where
  sub : Nat
  item : Placed

/-- Placement inside a subframe of u ticks, from its start (R78, R82). -/
def placeOk (p : Nat) (m : Mode) (i u off : Nat) : Bool :=
  let l := leadTicks p
  if isWhole m i then decide (off + itemSpan p m i ≤ u)
  else decide (l ≤ off) && decide (off + itemSpan p m i + l ≤ u)

/-- Gate launches of a placed item (R77, R81). -/
def itemLaunches (m : Mode) (x : Placed) : List Nat := if isWhole m x.item then [] else [x.start, x.stop]

/-- Two launches are closer than 56 us (R79). -/
def tooClose (p a b : Nat) : Bool := decide (a < b + leadTicks p) && decide (b < a + leadTicks p)

/-- Two placed items overlap or break the spacing of R79. -/
def clash (p : Nat) (m : Mode) (a b : Placed) : Bool :=
  (decide (a.start < b.stop) && decide (b.start < a.stop)) ||
  (itemLaunches m a).any (fun x => (itemLaunches m b).any (tooClose p x))

/-- An item's own start and end launches break R79. -/
def selfClash (p : Nat) (m : Mode) (x : Placed) : Bool := !isWhole m x.item && tooClose p x.start x.stop

/-- A relative item of a frame of n ticks. -/
def relSpot (p : Nat) (m : Mode) (n i : Nat) : Spot :=
  let c := itemCfg m i
  let a := subStart n m.subframes c.sub + nsTicks p c.offset
  ⟨c.sub, ⟨i, a, a + itemSpan p m i⟩⟩

/-- Ticks covered by intervals taken together, of those in rising order of start: the running end and the sum. -/
def coverStep (acc : Nat × Nat) (x : Nat × Nat) : Nat × Nat :=
  if x.2 ≤ acc.1 then acc else (x.2, acc.2 + (x.2 - max acc.1 x.1))

/-- Puts an interval into a list in rising order of start. -/
def insIv (x : Nat × Nat) : List (Nat × Nat) → List (Nat × Nat)
  | [] => [x]
  | y :: l => if x.1 ≤ y.1 then x :: y :: l else y :: insIv x l

/-- Ticks covered by intervals taken together. -/
def coverTicks (l : List (Nat × Nat)) : Nat := ((l.foldr insIv []).foldl coverStep (0, 0)).2

/-- 8 us in ticks: the calibration claim (R84). -/
def claimTicks (p : Nat) : Nat := nsTicks p 8000

/-- PAUSE and FORCE time Z_i of subframe i (R84). -/
def pauseTicks (p : Nat) (m : Mode) (n : Nat) (spots : List Spot) (claim : Bool) (i : Nat) : Nat :=
  let l := (spots.filter (fun x => x.sub == i && (isWhole m x.item.item || isProbe x.item.item))).map
    (fun x => (x.item.start, x.item.stop))
  coverTicks (if claim && i + 1 == m.subframes then (n - claimTicks p, n) :: l else l)

/-- K_fit (R84). -/
def kFitOf (p : Nat) (m : Mode) (n : Nat) (spots : List Spot) (claim : Bool) : Nat :=
  (upTo m.subframes).foldl (fun k i =>
    let u := subLen n m.subframes i
    min k (if u = 0 then 0 else 256 * (u - pauseTicks p m n spots claim i) / u)) 256

/-- K_prot of a protected record (R60). -/
def kProt (rec_ : List Byte) : Nat := (ProtHdr.parse rec_).kprot

/-! ## The timing mode (R73 to R76) -/

/-- An item's fields as written. -/
def itemShadow (s : State) (idx : Nat) (kind : Nat) : ItemCfg :=
  { kind := kind, base := s.objN idx 3, sub := s.objN idx 4, offset := s.objN idx 5, length := s.objN idx 6
    start := s.objT idx 7, period := s.objN idx 8 }

/-- The shadow timing mode (R73). -/
def modeShadow (s : State) : Mode :=
  { rate := s.objN 0x2104 2, subframes := s.objN 0x2104 1, order := s.objN 0x2000 1
    offs := (upTo 4).map (fun w => itemShadow s (0x2108 + w) (s.objN (0x2108 + w) 2))
    probes := (upTo 2).map (fun q => itemShadow s (0x210C + q) 0) }

/-- Every field of item i lies in its range of Table 3.6. -/
def itemRange (m : Mode) (i : Nat) : Bool :=
  let c := itemCfg m i
  decide (c.kind ≤ 1) && decide (c.base ≤ 1) && decide (c.sub < m.subframes) &&
  decide ((if isProbe i then 50000 else 2000) ≤ c.length) && decide (c.length ≤ 2000000) &&
  (c.period == 0 || (decide (100000 ≤ c.period) && decide (c.period ≤ 4000000000)))

/-- The relative items of a mode. -/
def relItems (m : Mode) : List Nat := (upTo 6).filter (fun i => (itemCfg m i).base == 0)

/-- Some two items of a list in one subframe clash, or one breaks R79 by itself. -/
def anyClash (p : Nat) (m : Mode) : List Spot → Bool
  | [] => false
  | x :: l => selfClash p m x.item || l.any (fun y => x.sub == y.sub && clash p m x.item y.item) || anyClash p m l

/-- The first check of Table 3.1 that a mode fails; 0 for none. -/
def modeCheck (s : State) (m : Mode) : Nat :=
  let p := tickPs s
  if m.rate < 30000 || 240000 < m.rate || !([1, 2, 4, 8].contains m.subframes) then 0x08
  else
    let f := frameTicks p m.rate
    let n := f - f / 200
    if (upTo 6).any (fun i => !itemRange m i) ||
        (relItems m).any (fun i => !placeOk p m i (n / m.subframes) (nsTicks p (itemCfg m i).offset)) then 0x09
    else
      let spots := (relItems m).map (relSpot p m n)
      if anyClash p m spots then 0x0A
      else if kFitOf p m n spots true < max 16 (kProt s.comp.footRec) then 0x0B
      else 0

/-- A mode that follows another needs retiming: frame.rate or frame.subframes differ (R75, R76). -/
def needsRetiming (a b : Mode) : Bool := decide (b.rate ≠ a.rate) || decide (b.subframes ≠ a.subframes)

/-- Handler of frame.mode_commit: the shadow mode becomes pending, with retiming where rate or subframes differ from the
mode in force, or is refused (R73 to R76). -/
def modeCommitH (_ : List Byte) (s : State) : Nat × State :=
  let m := modeShadow s
  match modeCheck s m with
  | 0 =>
    let re := needsRetiming s.frm.mode m
    (0, { modFrm (fun f => { f with pend := some m, retiming := re, modeNew := f.snap.any (fun x => x.kind == .boundary) }) s with
          diag := if re then { s.diag with pulses := [] } else s.diag })
  | c => (0, modFrm (fun f => { f with modeReason := c }) s)

/-- MODE_COMMIT: a write of frame.mode_commit. -/
def execModeCommit (t : Nat) (p : Path) (v : Nat) (s : State) : Host.Outcome State Fault Refusal :=
  objWrite t p 0x2104 3 (leBytes 1 v) modeCommitH s

/-- RETIMING_END: the subframe sequencer is retimed (R75). -/
def execRetimingEnd (t : Nat) (s : State) : Host.Outcome State Fault Refusal :=
  act t (modFrm (fun f => { f with retiming := false })) s

/-- frame.mode_state (R98). -/
def modeState (s : State) : Nat := if s.frm.pend.isNone then 0 else if s.frm.retiming then 2 else 1

/-! ## Placement in a frame (R77, R80, R81) -/

/-- What the items of a frame are placed against. -/
structure Plan where
  p : Nat
  mode : Mode
  n : Nat
  claim : Bool
  floor : Nat

/-- Subframe that holds a position. -/
def subOf (x : Plan) (pos : Nat) : Nat :=
  ((upTo x.mode.subframes).filter (fun i => decide (subStart x.n x.mode.subframes i ≤ pos))).length - 1

/-- An occurrence of item i at a position, placed unless R80 drops it. -/
def placeAt (x : Plan) (spots : List Spot) (i pos : Nat) : Option Spot :=
  let k := subOf x pos
  let sp : Spot := ⟨k, ⟨i, pos, pos + itemSpan x.p x.mode i⟩⟩
  if placeOk x.p x.mode i (subLen x.n x.mode.subframes k) (pos - subStart x.n x.mode.subframes k) &&
      !selfClash x.p x.mode sp.item && !spots.any (fun y => clash x.p x.mode y.item sp.item) &&
      decide (x.floor ≤ kFitOf x.p x.mode x.n (sp :: spots) x.claim) then some sp
  else none

/-- Starts in ns of the occurrences of an absolute item from `a` on and before `b` (R80). -/
def occurrences (c : ItemCfg) (a b : Nat) : List Nat :=
  let t0 := c.start.toNs
  if c.period = 0 then (if a ≤ t0 && t0 < b then [t0] else [])
  else
    let m0 := if a ≤ t0 then 0 else ceilDiv (a - t0) c.period
    let m1 := if b ≤ t0 then 0 else ceilDiv (b - t0) c.period
    (upTo (m1 - m0)).map (fun m => t0 + (m0 + m) * c.period)

/-- Position in ticks after an instant whose local time is `base`, in units of 2^-32 ns, of a local time in ns. -/
def localPos (s : State) (base p t : Nat) : Int :=
  let inc := clkInc (nomInc s) s.clk.c * p
  if inc = 0 then -1 else (2 * ((t * 4294967296 : Nat) - (base : Int)) * (tb2Period s : Nat) + inc) / (2 * inc)

/-- The occurrences of the absolute item i in a frame that begins at local time `base`: placed, or dropped with their count
and event (R80); nothing while the clock is not VALID (R375). -/
def placeAbs (x : Plan) (base : Nat) (acc : List Spot × State) (i : Nat) : List Spot × State :=
  let s := acc.2
  let c := itemCfg x.mode i
  if c.base = 0 || !s.clk.valid then acc
  else
    let b0 := base / 4294967296
    let ts := occurrences c (max (nth s.frm.oneShotFrom i 0) (b0 - 100)) (b0 + 40000000)
    ts.foldl (fun acc t =>
      let pos := localPos acc.2 base x.p t
      if pos < 0 || (x.n : Int) ≤ pos then acc
      else
        let s := modFrm (fun f => { f with oneShotFrom := modNth f.oneShotFrom i (fun _ => t + 1) }) acc.2
        match placeAt x acc.1 i pos.toNat with
        | some sp => (acc.1 ++ [sp], s)
        | none => (acc.1, event 0x105 255 (leBytes 1 i ++ (ofNs t).bytes)
            (modFrm (fun f => { f with dropped := f.dropped + 1 }) s))) acc

/-- The items of a frame: the enabled relative ones, then the enabled absolute ones in order (R80). -/
def placeItems (x : Plan) (base : Nat) (enabled : List Bool) (s : State) : List Spot × State :=
  let on := (upTo 6).filter (fun i => nth enabled i false)
  let rel := (on.filter (fun i => (itemCfg x.mode i).base == 0)).map (relSpot x.p x.mode x.n)
  on.foldl (placeAbs x base) (rel, s)

/-! ## The ramp -/

/-- RAMP_TAIL: step 8192 is reached (R46). -/
def execRampTail (t : Nat) (s : State) : Host.Outcome State Fault Refusal :=
  act t (fun s => if s.arr.ramp = .run && decide (rampEnd s ≤ rampRun s) then setRamp .tail s else s) s

end Sys2Proof.Machine
end

