-- ==== Sys2Proof/Machine/Diag.lean ====
section
/-!
DEFINITION. Pixel diagnosis and continuous calibration (chapter 10): judging, retries, the failed-pixel table, emission, live
windows, forced pulses, sweeps, stuck-on screening and the calibrations.
-/

namespace Sys2Proof.Machine

/-- Changes the diagnosis block. -/
def modDiag (f : Diag → Diag) (s : State) : State := { s with diag := f s.diag }

/-! ## Expected voltages and the Vf map (R270, R271, R306) -/

/-- VB of a pixel. -/
def vbOf (s : State) (k : Nat) : Nat := match afind s.diag.vbWrong k with | some v => v % 8 | none => Config.factoryVb k % 8

/-- 80 times Vf_base of a pixel in mV. -/
def vfBase80 (s : State) (k : Nat) : Int := 80 * Config.factoryVf (keyD k) + (2 * (vbOf s k : Int) - 7) * 1000

/-- Vexp of a pixel in mV (R271). -/
def vexp (s : State) (k : Nat) : Int := roundFree 8 (vfBase80 s k - 9 * (tdNow s (keyD k) - 400)) 80

/-- Vf_est of a pixel in mV (R306). -/
def vfEst (s : State) (k : Nat) : Int :=
  match s.diag.vf.find? (fun e => e.1 == k) with
  | some (_, v, t0) => roundFree 11 (80 * (v : Int) - 9 * (tdNow s (keyD k) - t0)) 80
  | none => vexp s k

/-- A pixel takes part in the Vf map but for the cap (R306). -/
def vfCounts (s : State) (table : List FailEntry) (k : Nat) : Bool :=
  !table.any (fun e => e.x == keyX k && e.y == keyY k && (e.cls == 1 || e.cls == 2)) &&
  nth s.arr.policy (mapNib s.arr.map (keyX k) (keyY k)) 0 ≠ 2

/-- Vfmax of a district with the number of its pixels above supply.vf_cap (R306). -/
def vfMaxOf (s : State) (d : Nat) : Nat × Nat :=
  let t := (tableNow s).filter (fun e => districtOf e.x e.y == d)
  (upTo 16384).foldl (fun a i =>
    let k := distKey d i
    if !vfCounts s t k then a
    else
      let v := vfEst s k
      if (s.objN 0x2902 4 : Int) < v then (a.1, a.2 + 1) else (max a.1 v.toNat, a.2)) (0, 0)

/-- The Vf map and V_hold are computed again (R306, R310). -/
def vfMap (s : State) : State :=
  let l := (upTo 128).map (vfMaxOf s)
  let s := modSup (fun u => { u with
    vfmax := l.map Prod.fst, vfCapped := u.vfCapped + BitVec.ofNat 32 ((l.map Prod.snd).foldl (· + ·) 0) }) s
  modSup (fun u => { u with vHold := holdNeed s }) s

/-! ## The failed-pixel table (R278 to R280) -/

/-- Class of a pixel's entry; 0 without one. -/
def tableClass (s : State) (k : Nat) : Nat :=
  match (tableNow s).find? (fun e => e.x == keyX k && e.y == keyY k) with | some e => e.cls | none => 0

/-- The entry of a pixel as it is made or updated now. -/
def mkEntry (s : State) (k cls : Nat) : FailEntry :=
  ⟨keyX k, keyY k, cls, mapNib s.arr.map (keyX k) (keyY k), s.diag.sweeps.toNat % 65536⟩

/-- The table with a pixel's entry made or updated, or its overflow (R279, R280). -/
def tablePut (k cls : Nat) (s : State) : State :=
  let t := tableNow s
  let e := mkEntry s k cls
  if tableClass s k ≠ 0 then
    jrnlAsk (.table (t.map (fun x => if x.x = keyX k ∧ x.y = keyY k then e else x))) s
  else if 4096 ≤ t.length then modDiag (fun d => { d with tableOvf := true }) s
  else jrnlAsk (.table (t ++ [e])) s

/-- Context of the pixel sources: X, Y, class. -/
def pixCtx (k cls : Nat) : List Byte := leBytes 2 (keyX k) ++ leBytes 2 (keyY k) ++ leBytes 1 cls

/-- A lasting failure (R277, R280 to R282, R306). -/
def lastingFail (k cls : Nat) (s : State) : State :=
  let s := tablePut k cls (modDiag (fun d => { d with lasting := d.lasting + 1 }) s)
  vfMap (polCauses (raiseSrc 0x50 (pixCtx k cls) s))

/-- A first failure: counted, and put into its district's retry list if it has room (R276, R388). -/
def firstFail (k cls : Nat) (s : State) : State :=
  let s := modDiag (fun d => { d with firstFailures := d.firstFailures + 1 }) s
  if 64 ≤ (s.diag.retry.filter (fun r => keyD r.1 == keyD k)).length then
    modDiag (fun d => { d with retryFull := d.retryFull + 1 }) s
  else transientSrc 0x50 (pixCtx k cls) (modDiag (fun d => { d with retry := d.retry ++ [(k, cls)] }) s)

/-- A result confirms a pixel's entry: its FUNC is brought up to date with the map in force (R294). -/
def confirm (k cls : Nat) (s : State) : State :=
  let f := mapNib s.arr.map (keyX k) (keyY k)
  if (tableNow s).any (fun e => e.x == keyX k && e.y == keyY k && e.func == f) then s else tablePut k cls s

/-- The outcome of a judged measurement: class 0 passes; a pixel that fails as its entry says is known, its FUNC brought up to
date (R276 to R279, R294). A stuck-on entry has precedence over what lit measurements show (R275). -/
def outcome (k cls : Nat) (s : State) : State :=
  if tableClass s k = 4 && cls ≠ 4 && !s.diag.retry.any (fun r => r.1 == k) then s
  else if s.diag.retry.any (fun r => r.1 == k) then
    let s := modDiag (fun d => { d with
      retry := d.retry.filter (fun r => r.1 ≠ k), located := if cls = 4 then d.located else d.located.filter (fun l => l.1 ≠ k) }) s
    if cls = 0 then transientSrc 0x50 (pixCtx k 0) (modDiag (fun d => { d with transients := d.transients + 1 }) s)
    else lastingFail k cls s
  else if cls = 0 then s
  else if tableClass s k = cls then confirm k cls s
  else firstFail k cls s

/-! ## Judging a measurement (R260 to R262, R271 to R275) -/

/-- I_HI of a district in force in nA (R37). -/
def hiNow (s : State) (d : Nat) : Nat := 30000 + 20 * nth s.arr.code d 500

/-- Due instant of a pixel (R264). -/
def dueAt (s : State) (k : Nat) : Nat := match afind s.diag.due k with | some t => t | none => s.diag.readyAt

/-- T_sw in ps. -/
def sweepPs (s : State) : Nat := 1000000000 * s.objN 0x2800 1

/-- The drive word a pixel runs with: the limp pattern's while a limp gate plane is active. -/
def wordNow (s : State) (x y : Nat) : Nat :=
  match s.arr.gate with
  | .limp r => limpWord r x y
  | _ => alook s.arr.active (2048 * y + x) 0

/-- The hold line of the half a row lies in (R23). -/
def holdLine (s : State) (y : Nat) : Bool := if y < 512 then s.saf.holdN else s.saf.holdS

/-- The static-limp bit of a pixel (R397). -/
def slBit (s : State) (x y : Nat) : Bool := !s.diag.slBits.isEmpty && decide (wDuty (limpWord s.diag.slBits x y) ≠ 0)

/-- The forced pulse of a pixel's district selects the pixel: 2.0 us from its execution (R55). -/
def probeForce (s : State) (k : Nat) : Bool :=
  s.diag.pulsed.any (fun p => p.2.1 == k && decide (p.2.2 ≤ s.now) && decide (s.now < p.2.2 + 2000000))

/-- The ramp step of a RUN time in ticks: the last one whose boundary has been reached (R50). -/
def rampStepAt (s : State) (ticks : Nat) : Nat :=
  let ku := s.arr.k * s.arr.u
  if ku = 0 then 8191 else min 8191 (((ticks + 1) * 2097152 - 1) / ku)

/-- A pixel under its gate bit is lit in ramp step n (R47). -/
def litInStep (s : State) (x y n : Nat) : Bool := decide (rampValue s.arr.order n < wDuty (wordNow s x y))

/-- Emission of a pixel at the instant now, in the order of R47: its current in sixteenths of a nA, none for a dark pixel. A
hold line gives DC at I_LO by the static-limp bit, and after its release a half stays dark until a gate launch (R23, R56). -/
def emission (s : State) (x y : Nat) : Option Nat :=
  let hi := hiNow s (districtOf x y)
  if !discPin s then none
  else if holdLine s y then (if slBit s x y then some hi else none)
  else if !s.arr.litSince then none
  else if probeForce s (2048 * y + x) then some (16 * hi)
  else match s.arr.ramp with
    | .run =>
      if gateBit s.arr.gate x y && litInStep s x y (rampStepAt s (rampRun s)) then
        some (if wRange (wordNow s x y) = 1 then 16 * hi else hi)
      else none
    | .force => if gateBit s.arr.gate x y then some (16 * hi) else none
    | _ => none

/-- The window of 2.0 us that ends now lies in one qualifying interval of the pixel, forced pulses apart: it emits at HI
throughout, with no hold line, no gate launch and no change of the ramp state since (R260). -/
def emitsHi (s : State) (x y : Nat) : Bool :=
  gateBit s.arr.gate x y && !holdLine s y && s.arr.litSince && discPin s &&
  decide (s.arr.gateAt + 2000000 ≤ s.now) && decide (s.arr.rampAt + 2000000 ≤ s.now) &&
  match s.arr.ramp with
  | .force => true
  | .run =>
    let n0 := rampStepAt s (rampRun s - nsTicks (tickPs s) 2000)
    let n1 := rampStepAt s (rampRun s)
    wRange (wordNow s x y) = 1 && (upTo (n1 + 1 - n0)).all (fun i => litInStep s x y (n0 + i))
  | _ => false

/-- The largest number of nA at or below the leakage n * 1 nA * 2^((T_d - 145 C) / 10 K) of R274, T_d in 1/16 C: the largest v
with v^160 at most n^160 * 2^(16 * (T_d - 145 C)). -/
def leakFloor (n : Nat) (td : Int) : Nat :=
  let num := n ^ 160 * 2 ^ (td - 2320).toNat
  let den := 2 ^ (2320 - td).toNat
  (upTo 32).foldl (fun v i => if (v + 2 ^ (31 - i)) ^ 160 * den ≤ num then v + 2 ^ (31 - i) else v) 0

/-- The leakage of R274 in nA; where it is no integer one of its two neighbours (log 17). -/
def leakage (n : Nat) (td : Int) : Nat :=
  let v := leakFloor n td
  if v ^ 160 * 2 ^ (2320 - td).toNat = n ^ 160 * 2 ^ (td - 2320).toNat then v
  else v + (if Config.roundUp 30 td n then 1 else 0)

/-- Lim of R274 for n pixels of a district. -/
def stuckLim (s : State) (n d : Nat) : Nat := leakage n (tdNow s d) + s.objN 0x2800 7

/-- The class of Table 10.3 of a valid window; 0 passes. -/
def classifyHi (s : State) (k vf i : Nat) : Nat :=
  let d := keyD k
  let ihi := hiNow s d
  let band := s.objN 0x2800 5 + (if s.diag.mapDone then 0 else 50)
  if 100 * i < s.objN 0x2800 3 * ihi then 1
  else if vf < s.objN 0x2800 4 then 2
  else if (!s.diag.baseBad.contains d && decide (band < ((vf : Int) - vexp s k).natAbs)) ||
      decide (s.objN 0x2800 6 * ihi < 1000 * ((i : Int) - ihi).natAbs) then 3
  else 0

/-- A valid window's traces: its voltage, its temperature estimate, the next due instant (R264, R306, R321). -/
def measured (k vf : Nat) (live : Bool) (s : State) : State :=
  let d := keyD k
  let t0 := tdNow s d
  let est := 400 + roundFree 9 (vfBase80 s k - 80 * vf) 9
  let inc := fun (l : List Nat) => modNth l d (fun n => min 65535 (n + 1))
  let s := modDiag (fun g => { g with
    measurements := g.measurements + 1, due := aput g.due k (s.now + sweepPs s)
    vf := (k, vf, t0) :: g.vf.filter (fun e => e.1 ≠ k)
    liveN := if live then inc g.liveN else g.liveN, probedN := if live then g.probedN else inc g.probedN }) s
  formTd d (modTh (fun t => { t with est := (s.now, d, est) :: t.est.filter (fun e => decide (s.now ≤ e.1 + 100000000000)) }) s)

/-- Vf of a window in mV under the district's offset in uV and gain in ppm (R286, log 154). -/
def senseVf (s : State) (d vf : Nat) : Nat :=
  (roundFree 31 ((1000 * (vf : Int) - nth s.diag.senseOff d 0) * (1000000 + nth s.diag.senseGain d 0)) 1000000000).toNat

/-- A current of a window or a sum in nA under the district's gain in ppm (R286, log 154). -/
def senseI (s : State) (d i : Nat) : Nat := (roundFree 32 ((i : Int) * (1000000 + nth s.diag.senseGain d 0)) 1000000).toNat

/-- A window is discarded (R260, R262). -/
def discard (s : State) : State := modDiag (fun d => { d with discarded := d.discarded + 1 }) s

/-- The converter of a district has been free for the 2.0 us of a window that ends now; for a window that was cut, until now (R259). -/
def convFree (s : State) (d : Nat) (cut : Bool) : Bool :=
  (nth s.diag.convAt d none).all (fun a => if cut then decide (a < s.now) else decide (a + 2000000 ≤ s.now))

/-- The converter of a district has worked until now (R259). -/
def convUsed (d : Nat) (s : State) : State := modDiag (fun g => { g with convAt := modNth g.convAt d (fun _ => some s.now) }) s

/-- A live window or a forced pulse's window. -/
def litWindow (x y : Nat) (forced cut : Bool) (rail vf i : Nat) (s : State) : State :=
  let k := 2048 * y + x
  let vf := senseVf s (keyD k) vf
  let i := senseI s (keyD k) i
  let s := if forced then modDiag (fun d => { d with
      pulsed := d.pulsed.filter (fun p => p.2.1 ≠ k), darkProbes := if cut then d.darkProbes else d.darkProbes + 1 }) s else s
  if cut || (!forced && !emitsHi s x y) || decide (rail < vf + 300) then discard s
  else
    let cls := classifyHi s k vf i
    let s := measured k vf (!forced) s
    if s.diag.senseDone.contains (keyD k) then outcome k cls s else s

/-- The shortest pulse that qualifies, in ticks (R261). -/
def qualTicks (s : State) : Nat := if tickPs s = 2000 then 1000 else if trimmed s then 128 else 160

/-- The longest piece of a RUN pulse of b ticks from the start of subframe i, under the pauses of the frame (R84, R261). -/
def longestPiece (s : State) (i b : Nat) : Nat :=
  let a := subStart s.frm.fPrime s.frm.mode.subframes i
  let e := subStart s.frm.fPrime s.frm.mode.subframes (i + 1)
  let z := (((s.frm.items.filter (fun x => (isWhole s.frm.mode x.item || isProbe x.item) && decide (a ≤ x.start) &&
    decide (x.start < e))).map (fun x => (x.start, x.stop))).foldr insIv [])
  let r := z.foldl (fun (acc : Nat × Nat × Nat) x =>
    let pos := x.1 - a - acc.2.1
    if pos < b then (pos, acc.2.1 + (x.2 - x.1), max acc.2.2 (pos - acc.1)) else acc) (0, 0, 0)
  max r.2.2 (b - r.1)

/-- The frame in force gives a pixel a qualifying interval: its longest RUN pulse under the ordering in some subframe; a PAUSE
splits the one pulse of SINGLE (R261). -/
def qualifies (s : State) (k : Nat) : Bool :=
  let w := wordNow s (keyX k) (keyY k)
  gateBit s.arr.gate (keyX k) (keyY k) && wRange w = 1 &&
  (upTo s.frm.mode.subframes).any (fun i =>
    let u := subLen s.frm.fPrime s.frm.mode.subframes i
    decide (qualTicks s ≤
      if s.arr.order = 0 then longestPiece s i (stepBoundary (wDuty w) s.arr.k u)
      else stepBoundary ((wDuty w + 15) / 16) s.arr.k u))

/-- Rank of a pixel among the due ones: retries first, then by due instant (R263, R264). -/
def rankOf (s : State) (k : Nat) : Nat × Nat := (if s.diag.retry.any (fun r => r.1 == k) then 0 else 1, dueAt s k)

/-- Pixel a of a district is served before pixel b, ties in raster order (R264). -/
def servedBefore (s : State) (a b : Nat) : Bool :=
  let (p, q) := (rankOf s a, rankOf s b)
  decide (p.1 < q.1) || (p.1 == q.1 && (decide (p.2 < q.2) || (p.2 == q.2 && decide (a < b))))

/-- The window of 2.0 us that ends now may serve a pixel live: it was due at the window's start, no stuck-on retry, the scheduler
gives it an interval (R261), or FORCE does, and it emitted throughout (R260, R264). -/
def liveOk (s : State) (k : Nat) : Bool :=
  decide (dueAt s k + 2000000 ≤ s.now) && !s.diag.retry.any (fun r => r == (k, 4)) &&
  (s.arr.ramp = .force || qualifies s k) && emitsHi s (keyX k) (keyY k)

/-- No pixel of the district that the window could serve as well comes before this one (R264). -/
def firstLive (s : State) (k : Nat) : Bool :=
  (upTo 16384).all (fun i => let m := distKey (keyD k) i; !(servedBefore s m k && liveOk s m))

/-- A whole-array off-window runs (R75). -/
def wholeOff (s : State) : Bool := match s.frm.inItem with | some (.offStart w) => isWhole s.frm.mode w | _ => false

/-- Sum-mode windows are permitted now: TAIL, the calibration claim, a whole-array off-window (Table 10.1). -/
def sumDark (s : State) : Bool := s.arr.ramp = .tail || (s.arr.ramp = .pause && (s.frm.claiming || wholeOff s))

/-- The stuck-on screening of a district falls due by an instant: 100 ms after the last (R274). -/
def screenDue (s : State) (d at_ : Nat) : Bool := decide (nth s.diag.screenAt d 0 + 100000000000 ≤ at_)

/-- A stuck-on retry is served in the dark as the first of its district: due at the window's start, earliest due first, then in
raster order; the screening and a search come before it (R263, R264). -/
def firstDark (s : State) (k : Nat) : Bool :=
  let d := keyD k
  let from_ := s.now - 2000000
  decide (dueAt s k ≤ from_) && !screenDue s d from_ && (afind s.diag.search d).isNone &&
  s.diag.retry.all (fun r => r.2 != 4 || keyD r.1 != d || decide (from_ < dueAt s r.1) ||
    !(decide (dueAt s r.1 < dueAt s k) || (dueAt s r.1 == dueAt s k && decide (r.1 < k))))

/-- Pixel diagnosis runs, or stopped so short a time ago that a window cut by it ends now (R260, R293). -/
def diagRuns (s : State) (cut : Bool) : Bool :=
  decide (s.saf.state.code < 3) || (cut && s.saf.entryInstant.any (fun a => decide (s.now < a + 2000000)))

/-- Forced pulses and Sum mode may be under way, or were until so short a time ago (R260, R293). -/
def darkRuns (s : State) (cut : Bool) : Bool :=
  hostBeam s || (cut && s.saf.entryInstant.any (fun a => decide (s.now < a + 2000000)))

/-- A window of a forced pulse ends: a whole one with the pulse, 2.0 us after its start as TB8 may time it (R55, R259, R260;
DEDUCED, log 193). -/
def pulseEnds (s : State) (k : Nat) (cut : Bool) : Bool :=
  s.diag.pulsed.any (fun p => p.2.1 == k && decide (dueAt s k ≤ p.2.2) &&
    (if cut then decide (s.now < p.2.2 + 2000000)
     else decide (p.2.2 + 2000000 ≤ s.now) && decide (s.now < p.2.2 + 2062500)))

/-- SENSE_WINDOW_DONE: a Pixel-mode window of pixel (px, py) ends with the rail, Vf in mV and I in nA (R260 to R277). A window
cut short is discarded; a whole one is taken of the due pixel that comes first, once the converter is free (R259, R264). -/
def execSenseWindowDone (t : Nat) (px py : Nat) (kind : SenseKind) (cut : Bool) (rail vf i : Nat) (s : State) :
    Host.Outcome State Fault Refusal :=
  act t (fun s =>
    let k := 2048 * py + px
    let d := keyD k
    let stuck := s.diag.retry.any (fun r => r == (k, 4))
    if !active s || !ticks s 8 8 || !diagRuns s cut || decide (2048 ≤ px) || decide (1024 ≤ py) || decide (s.now < dueAt s k) ||
        !convFree s d cut then s
    else match kind with
      | .liveLo => s
      | .liveHi =>
        if stuck || !(cut || (decide (dueAt s k + 2000000 ≤ s.now) && (s.arr.ramp = .force || qualifies s k) && firstLive s k)) then s
        else convUsed d (litWindow px py false cut rail vf i s)
      | .forced =>
        if stuck || !pulseEnds s k cut || !darkRuns s cut then s else convUsed d (litWindow px py true cut rail vf i s)
      | .dark =>
        if !stuck || !darkRuns s cut || !(cut || (sumDark s && firstDark s k)) then s
        else if cut then convUsed d (discard s)
        else
          let s := convUsed d (modDiag (fun g => { g with due := aput g.due k (s.now + sweepPs s) }) s)
          if s.diag.senseDone.contains d then outcome k (if stuckLim s 1 d < senseI s d i then 4 else 0) s
          else s) s

/-! ## Forced pulses (R261, R266 to R268) -/

/-- A pixel is a dark-probe candidate at an instant (R266); a stuck-on retry is none (R275). -/
def candidate (s : State) (at_ k : Nat) : Bool :=
  decide (dueAt s k ≤ at_) && s.objB (0x2810 + mapNib s.arr.map (keyX k) (keyY k)) 3 && !qualifies s k &&
  !s.diag.retry.any (fun r => r == (k, 4))

/-- TB8 may time forced pulses and Sum-mode windows: not from an untrimmed keeper (R293). -/
def tb8Ok (s : State) : Bool := ticks s 8 8 && (nth s.tb.src 8 2 == 0 || (nth s.tb.src 8 2 == 1 && trimmed s))

/-- Forced pulses are issued: LIT with permission in NORMAL or DEGRADED (R293, R429). -/
def probesRun (s : State) : Bool := lit s && s.saf.permission && hostBeam s && tb8Ok s

/-- Start of the subframe after subframe i, in ticks of the frame. -/
def subEndTick (s : State) (i : Nat) : Nat := subStart s.frm.fPrime s.frm.mode.subframes (i + 1)

/-- Tick at which the ramp of subframe i reaches TAIL: its RUN time and the pauses before it, in order of start (R51). -/
def tailTick (s : State) (i : Nat) : Nat :=
  let a := subStart s.frm.fPrime s.frm.mode.subframes i
  let z := ((s.frm.items.filter (fun x =>
    (isWhole s.frm.mode x.item || isProbe x.item) && decide (a ≤ x.start) && decide (x.start < subEndTick s i))).map
      (fun x => (x.start, x.stop))).foldr insIv []
  let b := stepBoundary 8192 s.arr.k (subLen s.frm.fPrime s.frm.mode.subframes i)
  z.foldl (fun e x => if x.1 ≤ e then e + (x.2 - x.1) else e) (a + b)

/-- Intervals of Table 10.1 that take forced pulses in subframe i, in ticks of the frame; the claim on request. -/
def darkSpans (s : State) (i : Nat) (claim : Bool) : List (Nat × Nat) :=
  let edge := nsTicks (tickPs s) (1000 * s.objN 0x2800 2)
  let a := subStart s.frm.fPrime s.frm.mode.subframes i
  let e := subEndTick s i
  let offs := s.frm.items.filter (fun x => isWhole s.frm.mode x.item && decide (a ≤ x.start) && decide (x.start < e))
  (if tailTick s i < e then [(tailTick s i, e)] else []) ++
  (if claim && i + 1 = s.frm.mode.subframes then [(e - claimTicks (tickPs s), e)] else []) ++
  (if edge = 0 then [] else offs.flatMap (fun x => [(x.start, min x.stop (x.start + edge)), (max x.start (x.stop - edge), x.stop)]))

/-- Starts of the whole windows of 2 us in an interval, in ticks. -/
def spanWindows (s : State) (x : Nat × Nat) : List Nat :=
  let w := nsTicks (tickPs s) 2000
  (upTo ((x.2 - x.1) / (if w = 0 then 1 else w))).map (fun n => x.1 + n * w)

/-- A window straddles no gate launch and lies in no probe slot or maskable-only off-window, and of a whole-array off-window in
its first or last edge alone (R266). -/
def windowClear (s : State) (a : Nat) : Bool :=
  let w := nsTicks (tickPs s) 2000
  let edge := nsTicks (tickPs s) (1000 * s.objN 0x2800 2)
  s.frm.items.all (fun x => decide (a + w ≤ x.start) || decide (x.stop ≤ a) ||
    (isWhole s.frm.mode x.item &&
      ((decide (x.start ≤ a) && decide (a + w ≤ min x.stop (x.start + edge))) ||
       (decide (max x.start (x.stop - edge) ≤ a) && decide (a + w ≤ x.stop)))))

/-- Windows for forced pulses in subframe i, as ticks of the frame. -/
def subWindows (s : State) (i : Nat) (claim : Bool) : List Nat :=
  (((darkSpans s i claim).flatMap (spanWindows s)).filter (windowClear s)).eraseDups

/-- Windows of the subframe in progress still ahead, as instants. -/
def windowsAhead (s : State) : List Nat :=
  ((subWindows s s.frm.sub s.frm.claim).map (fun a => s.frm.frameAt + a * tickPs s)).filter (fun a => decide (s.now < a))

/-- The candidate of a district to serve at an instant: the first in rank, ties in raster order (R264). -/
def pickPixel (s : State) (d at_ : Nat) : Option Nat :=
  (upTo 16384).foldl (fun b i =>
    let k := distKey d i
    if !candidate s at_ k || s.diag.pulses.any (fun p => p.2.1 == k) then b
    else match b with
      | none => some k
      | some m => if servedBefore s k m then some k else b) none

/-- Binary digits of a size: halvings that bring it to 1. -/
def halvings : Nat → Nat → Nat
  | 0, _ => 0
  | k + 1, n => if n ≤ 1 then 0 else 1 + halvings k ((n + 1) / 2)

/-- Windows that the search of a district has still to read for the pixel it locates (R274). -/
def searchLeft (s : State) (d : Nat) : Nat :=
  match afind s.diag.search d with | some q => halvings 8 q.w + halvings 8 q.h | none => 0

/-- The dark windows left to forced pulses in a district: a search, the screening that falls due and the stuck-on retries take
theirs first (R263, R275). -/
def pulseWindows (s : State) (d : Nat) (ws : List Nat) : List Nat :=
  let ws := ws.drop (searchLeft s d)
  let ws := match ws.find? (screenDue s d) with | some a => ws.filter (· ≠ a) | none => ws
  ws.drop ((s.diag.retry.filter (fun r => r.2 == 4 && keyD r.1 == d && ws.head?.any (fun a => decide (dueAt s r.1 ≤ a)))).length)

/-- One window is offered to a district with fewer than 4 pending pulses, after its latest pulse (R259, R267). -/
def offerWindow (d : Nat) (s : State) (at_ : Nat) : State :=
  let mine := s.diag.pulses.filter (fun p => p.1 == d)
  if 4 ≤ mine.length || (mine ++ s.diag.pulsed.filter (fun p => p.1 == d)).any (fun p => decide (at_ < p.2.2 + 2000000)) then s
  else match pickPixel s d at_ with
    | some k => needPulsed d (modDiag (fun g => { g with pulses := g.pulses ++ [(d, k, at_)] }) s)
    | none => s

/-- Pending pulses whose tick of TB4 has passed are cancelled: their interval is no more (R267). -/
def pulseTrim (s : State) : State :=
  modDiag (fun g => { g with pulses := g.pulses.filter (fun p => decide (s.now < p.2.2 + tickPs s)) }) s

/-- The pending pulses of every district are filled up from the windows ahead, but not while a gate window has the bridge (R20,
R21, R266, R267). -/
def pulseFill (s : State) : State :=
  let s := pulseTrim s
  if !probesRun s || s.frm.windowOpen then s
  else
    let ws := windowsAhead s
    (upTo 128).foldl (fun s d => (pulseWindows s d ws).foldl (offerWindow d) s) s

/-- FORCED_PULSE: a district's pending pulse reaches its instant (R55, R267). -/
def execForcedPulse (t : Nat) (d : Fin 128) (s : State) : Host.Outcome State Fault Refusal :=
  act t (fun s =>
    let s := pulseTrim s
    match s.diag.pulses.find? (fun p => p.1 == d.val) with
    | none => s
    | some p =>
      if !probesRun s || decide (s.now < p.2.2) then s
      else pulseFill (modDiag (fun g => { g with
        pulses := g.pulses.filter (fun q => q ≠ p), pulsed := g.pulsed.filter (fun q => q.1 ≠ d.val) ++ [(d.val, p.2.1, s.now)] }) s)) s

/-- Dark-probe candidates of a district (R269). -/
def demandOf (s : State) (d : Nat) : Nat := (upTo 16384).countP (fun i => candidate s s.now (distKey d i))

/-- A district has stuck-on work: a search, a screening that is due, a stuck-on retry that is due (R268). -/
def stuckWork (s : State) (d : Nat) : Bool :=
  (afind s.diag.search d).isSome || screenDue s d s.now ||
  s.diag.retry.any (fun r => r.2 == 4 && keyD r.1 == d && decide (dueAt s r.1 ≤ s.now))

/-- A district has pending forced-pulse or stuck-on work; without light no pulse is pending (R268, R405, R429). -/
def hasWork (s : State) (d : Nat) : Bool := stuckWork s d || (probesRun s && decide (0 < demandOf s d))

/-- Windows that a frame gives outside its claim: in TAIL and in whole-array off-windows (R268, Table 10.1). -/
def frameWindows (s : State) : Nat :=
  ((upTo s.frm.mode.subframes).map (fun i =>
    let e := subEndTick s i
    let a := subStart s.frm.fPrime s.frm.mode.subframes i
    let offs := s.frm.items.filter (fun x => isWhole s.frm.mode x.item && decide (a ≤ x.start) && decide (x.start < e))
    let tail := if tailTick s i < e then spanWindows s (tailTick s i, e) else []
    let clear := tail.filter (fun b => s.frm.items.all (fun x =>
      decide (b + nsTicks (tickPs s) 2000 ≤ x.start) || decide (x.stop ≤ b)))
    clear.length + ((offs.map (fun x => (spanWindows s (x.start, x.stop)).length)).foldl (· + ·) 0))).foldl (· + ·) 0

/-- The claim of the next frame is requested at a launch, in READY for stuck-on work (R268, R293, R429). -/
def claimRequest (s : State) : State :=
  modDiag (fun g => { g with
    claimReq := active s && hostBeam s && tb8Ok s && decide (frameWindows s < 4) && (upTo 128).any (hasWork s) }) s

/-! ## Stuck-on screening (R274, R275) -/

/-- A pixel that a search has located, with its current: a first failure of class stuck-on, its current subtracted from later
sums; a full retry list records neither, and the pixel is judged afresh (R274 to R276). -/
def stuckFound (k cur : Nat) (s : State) : State :=
  let keep := modDiag (fun g => { g with located := g.located.filter (fun l => l.1 ≠ k) ++ [(k, cur)] })
  if tableClass s k = 4 then confirm k 4 (keep s)
  else
    let s := modDiag (fun g => { g with retry := g.retry.filter (fun r => r.1 ≠ k) }) s
    let full := decide (64 ≤ (s.diag.retry.filter (fun r => keyD r.1 == keyD k)).length)
    firstFail k 4 (if full then s else keep s)

/-- Current already located in a rectangle (R274). -/
def locatedIn (s : State) (x0 y0 w h : Nat) : Nat :=
  ((s.diag.located.filter (fun l => decide (x0 ≤ keyX l.1) && decide (keyX l.1 < x0 + w) && decide (y0 ≤ keyY l.1) &&
    decide (keyY l.1 < y0 + h))).map Prod.snd).foldl (· + ·) 0

/-- The whole district as the start of a search (R274). -/
def wholeRect (d sum : Nat) : StuckRect := ⟨128 * (d % 16), 128 * (d / 16), 128, 128, sum⟩

/-- A district's search goes on, begins or ends. -/
def setSearch (d : Nat) (q : Option StuckRect) (s : State) : State :=
  let s := if q.isSome then needPulsed d s else s
  modDiag (fun g => { g with search := (g.search.filter (fun x => x.1 ≠ d)) ++ (match q with | some r => [(d, r)] | none => []) }) s

/-- One Sum-mode window of a search reads the first half of the rectangle it has come to, by rows and then by columns; the
search goes on in the half that is suspect. After 14 windows it is at a pixel, whose current is what is left of the sum, and it
repeats while the district's remaining sum is suspect (R274, log 155). -/
def searchRead (d : Nat) (s : State) (reading : Nat) : State :=
  match afind s.diag.search d with
  | none => s
  | some q =>
    let rows := decide (1 < q.h)
    let a : StuckRect := if rows then { q with h := q.h / 2 } else { q with w := q.w / 2 }
    let sum := senseI s d reading - locatedIn s a.x0 a.y0 a.w a.h
    let n : StuckRect :=
      if stuckLim s (a.w * a.h) d < sum then { a with sum := sum }
      else if rows then { q with y0 := q.y0 + q.h / 2, h := q.h / 2, sum := q.sum - sum }
      else { q with x0 := q.x0 + q.w / 2, w := q.w / 2, sum := q.sum - sum }
    if n.w * n.h ≠ 1 then setSearch d (some n) s
    else
      let left := nth s.diag.darkSum d 0 - locatedIn s (128 * (d % 16)) (128 * (d / 16)) 128 128 - n.sum
      setSearch d (if stuckLim s 16384 d < left then some (wholeRect d left) else none)
        (stuckFound (2048 * n.y0 + n.x0) n.sum s)

/-- STUCK_SCREEN: a district's screening sum in a dark interval that permits Sum mode, with the sums that the windows of its
search read after it (R274). -/
def execStuckScreen (t : Nat) (d : Fin 128) (sum : Nat) (windows : List Nat) (s : State) : Host.Outcome State Fault Refusal :=
  act t (fun s =>
    if !active s || !hostBeam s || !tb8Ok s || !sumDark s || !convFree s d.val false then s
    else
      let s := convUsed d.val s
      let sum := senseI s d.val sum
      let s := modDiag (fun g => { g with
        stuckScreens := g.stuckScreens + 1, darkSum := modNth g.darkSum d.val (fun _ => sum)
        screenAt := modNth g.screenAt d.val (fun _ => s.now) }) s
      let left := sum - locatedIn s (128 * (d.val % 16)) (128 * (d.val / 16)) 128 128
      let s := if (afind s.diag.search d.val).isNone && decide (stuckLim s 16384 d.val < left) then
          setSearch d.val (some (wholeRect d.val left)) s else s
      windows.foldl (searchRead d.val) s) s

/-! ## Sweeps (R265, R295) -/

/-- Pixels of a district due for more than T_sw (R265). -/
def overdueOf (s : State) (d : Nat) : Nat := (upTo 16384).countP (fun i => decide (dueAt s (distKey d i) + sweepPs s < s.now))

/-- The measurement object of a district (R295). -/
def distPublish (overdue : List Nat) (s : State) (d : Nat) : State :=
  let g := s.diag
  publish (0x3000 + d) [leBytes 2 (nth s.arr.code d 500), leBytes 4 (nth g.iHi d 0), leBytes 2 (unsext 16 (tdNow s d)),
    leBytes 2 (nth g.liveN d 0), leBytes 2 (nth g.probedN d 0), leBytes 2 (nth overdue d 0), leBytes 2 (nth g.demand d 0),
    leBytes 2 ((tableNow s).filter (fun e => districtOf e.x e.y == d)).length, leBytes 4 (nth g.darkSum d 0),
    leBytes 1 (g.retry.filter (fun r => keyD r.1 == d)).length,
    leBytes 1 (b2n (afind g.search d).isSome + 2 * b2n (g.clamped.contains d) + 4 * b2n (g.baseBad.contains d))] s

/-- SWEEP_END: T_sw after the sweep began, the counts of the sweep are reported and start again (R265, R269; log 176). -/
def execSweepEnd (t : Nat) (s : State) : Host.Outcome State Fault Refusal :=
  act t (fun s =>
    if !active s || !spanOver s s.diag.sweepAt (sweepPs s) then s
    else
      let late := (upTo 128).map (overdueOf s)
      let s := modDiag (fun g => { g with sweeps := g.sweeps + 1, sweepAt := s.now, demand := (upTo 128).map (demandOf s) }) s
      let s := publish 0x2801 [cnt s.diag.sweeps, leBytes 1 (late.countP (· == 0)), leBytes 4 (late.foldl (· + ·) 0),
        leBytes 2 (tableNow s).length, leBytes 1 (b2n s.diag.tableOvf), leBytes 1 (b2n s.diag.baseBad.isEmpty)] s
      let s := (upTo 128).foldl (distPublish late) s
      modDiag (fun g => { g with liveN := List.replicate 128 0, probedN := List.replicate 128 0 }) s) s

/-- Handler of diag.table_clear (R279). -/
def tableClearH (_ : List Byte) (s : State) : Nat × State :=
  (0, polCauses (jrnlAsk (.table []) (modDiag (fun g => { g with tableOvf := false, located := [] }) s)))

/-- DIAG_TABLE_CLEAR: a write of diag.table_clear (R279). -/
def execDiagTableClear (t : Nat) (p : Path) (v : Nat) (s : State) : Host.Outcome State Fault Refusal :=
  objWrite t p 0x2800 8 (leBytes 1 v) tableClearH s

/-! ## Calibrations (R285 to R291, R321, R333) -/

/-- Handler of diag.gain_update: the idle bank is written and put in force, at the end of the load where the load reads it, or
the write is refused (R237, R287). -/
def gainUpdateH (data : List Byte) (s : State) : Nat × State :=
  let d := leField data 0 1
  if 127 < d || leField data 1 3 ≠ 0 || (upTo 16384).any (fun i => decide (1023 < leField data (4 + 2 * i) 2)) then (abRange, s)
  else if gainBusy s d then (0, modDiag (fun g => { g with gainWait := g.gainWait ++ [(d, data)] }) s)
  else (0, gainWrite d data s)

/-- GAIN_UPDATE: a write of diag.gain_update. -/
def execGainUpdate (t : Nat) (p : Path) (data : List Byte) (s : State) : Host.Outcome State Fault Refusal :=
  objWrite t p 0x2850 1 data (fedH gainUpdateH) s

/-- A quotient to the nearest integer; a tie has no stated rounding (log 17). -/
def nearest (tag : Nat) (num : Int) (den : Nat) : Int :=
  if 2 * (num % den) = den then roundFree tag num den else (2 * num + den) / (2 * den)

/-- The ANA domain is on (Table 1.8). -/
def anaOn (s : State) : Bool := nth s.pw.doms 14 0 == 2

/-- The converter of a district is taken by work of a higher rank than REF_CURRENT and SENSE: a forced pulse under way, a
screening, search or stuck-on retry that a dark interval serves now, or a due pixel that emits (R263). -/
def converterBusy (s : State) (d : Nat) : Bool :=
  s.diag.pulsed.any (fun p => p.1 == d && decide (s.now < p.2.2 + 2000000)) ||
  (active s && hostBeam s && tb8Ok s && sumDark s && stuckWork s d) ||
  (active s && (upTo 16384).any (fun i => liveOk s (distKey d i)))

/-- A calibration is interrupted: status ABORTED, and it is retried (R285). -/
def calAbort (k : Nat) (s : State) : State :=
  modDiag (fun g => { g with cal := modNth g.cal k (fun c => { c with status := 5 }) }) s

/-- REF_CURRENT of a district: I_HI measured in nA, and the code nearest to the target for the next frame launch (R291),
the reading under the gain of SENSE (R286, log 154); aborted while work of a higher rank has the converter, or the district
drive unit ignores the bridge under its hold line (R23, R263, R285, log 156). -/
def execRefCurrent (t : Nat) (d : Fin 128) (iHi : Nat) (s : State) : Host.Outcome State Fault Refusal :=
  act t (fun s =>
    if !active s || !ticks s 8 8 then s
    else if converterBusy s d.val || s.saf.holdN then calAbort 0 s
    else if s.diag.rextBad then calDone 0 0 3 s
    else
      let iHi := senseI s d.val iHi
      let old := nth s.arr.code d.val 500
      let want := (old : Int) + nearest 13 ((s.arr.hiTarget : Int) - iHi) 20
      let new := (clampI want 0 1000).toNat
      let off := decide ((new : Int) ≠ want)
      let s := modDiag (fun g => { g with
        iHi := modNth g.iHi d.val (fun _ => iHi), codeNew := aput g.codeNew d.val new
        clamped := g.clamped.filter (· ≠ d.val) ++ (if off then [d.val] else []) }) s
      calDone 0 ((new : Int) - old).natAbs (if off then 3 else if new = old then 1 else 2) s) s

/-- SENSE of a district's converter: its offset in uV and gain in ppm (R286), in every state in which ANA is on (R293). -/
def execSenseCalibration (t : Nat) (d : Fin 128) (offset gain : Int) (inRange : Bool) (s : State) :
    Host.Outcome State Fault Refusal :=
  act t (fun s =>
    if !anaOn s || !ticks s 8 8 then s
    else if converterBusy s d.val then calAbort 1 s
    else
      let g := s.diag
      let bad := g.rextBad || !inRange
      let same := decide (nth g.senseOff d.val 0 = offset) && decide (nth g.senseGain d.val 0 = gain)
      let s := modDiag (fun g => { g with
        senseDone := if g.senseDone.contains d.val then g.senseDone else g.senseDone ++ [d.val]
        senseOff := if bad then g.senseOff else modNth g.senseOff d.val (fun _ => offset)
        senseGain := if bad then g.senseGain else modNth g.senseGain d.val (fun _ => gain) }) s
      calDone 1 offset (if bad then 3 else if same then 1 else 2) s) s

/-- Keys at which two lists of codes differ. -/
def storeDiff (a b : List (Nat × Nat)) : List Nat :=
  (((a ++ b).map Prod.fst).filter (fun k => afind a k ≠ afind b k)).eraseDups

/-- STORE_CHECK: the calibration store against factory calibration with its gain updates; each word that differs is
rewritten (R288). -/
def execStoreCheck (t : Nat) (s : State) : Host.Outcome State Fault Refusal :=
  act t (fun s =>
    if !active s then s
    else
      let ks := (storeDiff s.diag.gainA s.diag.expA ++ storeDiff s.diag.gainB s.diag.expB ++ s.diag.vbWrong.map Prod.fst).eraseDups
      let s := ks.foldl (fun s k => raiseSrc 0x55 (leBytes 4 k) s) s
      let s := modDiag (fun g => { g with gainA := g.expA, gainB := g.expB, vbWrong := [], checkOff := ks.length }) s
      calDone 7 ks.length (if ks.isEmpty then 1 else 2) s) s

/-- REXT_MONITOR: the resistance in ohms; out of 9.0 to 11.0 kOhm every code is frozen. It is checked while ANA is on (R290, Table 1.8). -/
def execRextMonitor (t : Nat) (ohms : Nat) (s : State) : Host.Outcome State Fault Refusal :=
  act t (fun s =>
    if !anaOn s then s
    else
      let bad := decide (ohms < 9000) || decide (11000 < ohms)
      setCause 0x56 bad (leBytes 4 ohms) (modDiag (fun g => { g with rextBad := bad }) s)) s

/-- CALIBRATION_NO_GAP: type k finds no usable interval for 10 s (R285). -/
def execCalibrationNoGap (t : Nat) (k : Fin 8) (s : State) : Host.Outcome State Fault Refusal :=
  act t (fun s => setCause (0x58 + k.val) true (leBytes 1 4)
    (modDiag (fun g => { g with cal := modNth g.cal k.val (fun c => { c with status := 4 }) }) s)) s

/-- LIGHT_DARK: the dark offset of every photodiode channel, in the PAUSE of a whole-array off-window or a TAIL of at least 20 us, and at any time while no frames
run (R293, R333); aborted where the interval has not lasted (R285). -/
def execLightDark (t : Nat) (offsets : List Int) (s : State) : Host.Outcome State Fault Refusal :=
  act t (fun s =>
    if !anaOn s || (active s && !(s.arr.ramp = .tail || s.arr.ramp = .pause && wholeOff s)) then s
    else if active s && decide (s.now < s.arr.rampAt + 20000000) then calAbort 3 s
    else
      let new := (upTo 8).map (fun i => nth offsets i 0)
      let same := decide (new = s.th.dark)
      calDone 3 (new.foldl max (nth new 0 0)) (if same then 1 else 2) (modTh (fun t => { t with dark := new }) s)) s

/-- TEMP_MAP: the Vf map against the diode, and the map offset adjusted (R321, R328), in every state in which ANA is on (R293).
DEDUCED: the offset moves those of the four districts alone that follow it, so it moves by what makes the difference 0 through
them, and where none follows it stays (log 172). -/
def execTempMap (t : Nat) (s : State) : Host.Outcome State Fault Refusal :=
  act t (fun s =>
    if !anaOn s then s
    else
      let broken := nth s.th.broken 0 false
      let diode := if broken then s.th.diodeRaw.getD (diodeNow s) else diodeNow s
      let sum := (tdMap s 55 + tdMap s 56 + tdMap s 71 + tdMap s 72) - 4 * diode
      let diff := roundFree 12 sum 4
      let k := ([55, 56, 71, 72].filter (fun d => !s.diag.baseBad.contains d && !(estNow s d).isEmpty)).length
      let move := if k = 0 then 0 else roundFree 12 sum k
      let s := modTh (fun t => { t with
        mapDiffSince := sinceOn s (decide (240 < diff.natAbs)) t.mapDiffSince
        mapOff := if broken then t.mapOff else t.mapOff - move }) s
      let s := formAllTd s
      let s := calDone 4 diff (if broken then 3 else if diff = 0 then 1 else 2) (modDiag (fun g => { g with mapDone := true }) s)
      vfMap s) s

/-- Entry to READY: every pixel due, gain banks from factory calibration (R264, R272, R286, R287). -/
def diagReady (s : State) : State :=
  let s := modDiag (fun g => { g with
    gainA := [], gainB := [], expA := [], expB := [], gainWait := [], vbWrong := [], bank := List.replicate 128 false, due := [], readyAt := s.now, sweepAt := s.now
    senseDone := [], mapDone := false, vf := [], pulses := [], pulsed := [], search := [], claimReq := false, convAt := List.replicate 128 none
    screenAt := List.replicate 128 s.now
    liveN := List.replicate 128 0, probedN := List.replicate 128 0 }) s
  vfMap (modTh (fun t => { t with est := [] }) s)

end Sys2Proof.Machine
end

