-- ==== Sys2Proof/Machine/Frame.lean ====
section
/-!
DEFINITION. Frame packets and commits, the current governor, the launch decision at the opening of a gate window, and the
launches of frames, subframes and items (chapters 2 and 3).
-/

namespace Sys2Proof.Machine

/-! ## FRAME packets (R86 to R88, R148) -/

/-- TIMED. -/
def dTimed (raw : List Byte) : Bool := bitOf (dF raw 4 2) 0

/-- Launch time of a descriptor in ns. -/
def dTime (raw : List Byte) : Nat := dF raw 8 6 * 1000000000 + dF raw 14 4

/-- Sequence number a is newer than b (R87). -/
def seqNewer (a b : Nat) : Bool :=
  let d := (a + 4294967296 - b % 4294967296) % 4294967296
  decide (1 ≤ d) && decide (d ≤ 2147483647)

/-- The slots of the probe patterns a descriptor flags. -/
def probeSlots (raw : List Byte) : List Nat :=
  (if bitOf (dF raw 4 2) 1 then [dF raw 6 1] else []) ++ (if bitOf (dF raw 4 2) 2 then [dF raw 7 1] else [])

/-- I_max of R83 in nA. -/
def iMax (s : State) : Nat := s.diag.iHi.foldl max (max s.arr.hiTarget (s.objN 0x2000 2))

/-- The first check of Table 3.4, codes 0x01 to 0x07, that a descriptor fails; 0 for none. -/
def frameCheck (s : State) (raw : List Byte) : Nat :=
  if 4 ≤ s.frm.queue.length then 1
  else if s.frm.lastSeq.any (fun l => !seqNewer (dF raw 0 4) l) then 2
  else if 8 ≤ dF raw 4 2 || dF raw 22 10 ≠ 0 || (dTimed raw && decide (999999999 < dF raw 14 4)) then 3
  else if (probeSlots raw).any (fun n => let k := slotOf s n; !(k.ready && k.format = 7 && k.width = 2048 && k.height = 1024)) then 4
  else if (probeSlots raw).any (fun n => decide (20000000000 < (slotOf s n).ones * iMax s)) then 5
  else if dTimed raw && s.frm.queue.any (fun q => dTimed q.raw && decide (dTime raw < dTime q.raw)) then 6
  else if dTimed raw && s.clk.valid && decide ((s.time.toNs + 10000000000) < dTime raw) then 7
  else 0

/-- A commit is refused (R88). -/
def frameRefused (code seq : Nat) (s : State) : State :=
  modFrm (fun f => { f with rejectReason := code, rejectSeq := seq, refused := f.refused + 1 }) s

/-- A descriptor joins the tail of the queue with its pins (R88, R180, R211). -/
def frameAccept (raw : List Byte) (s : State) : State :=
  let d := acceptDesc raw s
  let load := (roundFree 4 (chargeSum s raw * chargeRate s : Nat) 2000000).toNat
  let s := d.pins.foldl (fun s n => takePin n s) s
  modFrm (fun f => { f with queue := f.queue ++ [d], lastSeq := some d.seq }) { s with comp := { s.comp with load := load } }

/-- The commit of a descriptor: the status of its ACK, and what it leaves (R88, R210). -/
def frameCommit (raw : List Byte) (s : State) : Nat × State :=
  match frameCheck s raw with
  | 0 =>
    match squareCheck s raw with
    | some (c, item) => (c, squareRefused c item raw (frameRefused c (dF raw 0 4) s))
    | none => (0, frameAccept raw s)
  | c => (c, frameRefused c (dF raw 0 4) s)

/-- The descriptor of a WRITE. -/
def writeDesc (k : Packet) : List Byte := (k.payload.drop 8).take (kF k 2 2)

/-- A WRITE or WRITE_COMMIT is malformed (R148). -/
def writeBad (k : Packet) : Bool :=
  kF k 1 1 ≠ 0 || kF k 4 4 ≠ 0 || decide ((writeDesc k).length ≠ kF k 2 2) || decide (descLength (writeDesc k) ≠ kF k 2 2) ||
  !kZero k (8 + kF k 2 2) k.payload.length

/-- Places a descriptor into the shadow descriptor. -/
def setShadow (raw : Option (List Byte)) (s : State) : State := modFrm (fun f => { f with shadowDesc := raw }) s

/-- FRAME_WRITE (R148). -/
def execFrameWrite (t : Nat) (k : Packet) (s : State) : Host.Outcome State Fault Refusal :=
  act t (fun s =>
    if !(kTy k == 3 && kF k 0 1 == 1) then s
    else consume k (writeBad k) false false (fun s =>
      frameAck (kSeq k) 0 (dF (writeDesc k) 0 4) (setShadow (some (writeDesc k)) (took s))) s) s

/-- FRAME_COMMIT (R88, R148). Where no shadow descriptor is held the answer's FRAME_SEQ is 0: DESIGN CHOICE, log 161. -/
def execFrameCommit (t : Nat) (k : Packet) (s : State) : Host.Outcome State Fault Refusal :=
  act t (fun s =>
    if !(kTy k == 3 && kF k 0 1 == 2) then s
    else consume k (!kZero k 1 k.payload.length) false false (fun s =>
      let s := took s
      match s.frm.shadowDesc with
      | none => frameAck (kSeq k) 0x0C 0 (frameRefused 0x0C 0 s)
      | some raw => let r := frameCommit raw s; frameAck (kSeq k) r.1 (dF raw 0 4) r.2) s) s

/-- FRAME_WRITE_COMMIT (R148). -/
def execFrameWriteCommit (t : Nat) (k : Packet) (s : State) : Host.Outcome State Fault Refusal :=
  act t (fun s =>
    if !(kTy k == 3 && kF k 0 1 == 3) then s
    else consume k (writeBad k) false false (fun s =>
      let raw := writeDesc k
      let r := frameCommit raw (setShadow (some raw) (took s))
      frameAck (kSeq k) r.1 (dF raw 0 4) r.2) s) s

/-- FRAME_DISCARD (R88, R148). Where no shadow descriptor is held the answer's FRAME_SEQ is 0: DESIGN CHOICE, log 161. -/
def execFrameDiscard (t : Nat) (k : Packet) (s : State) : Host.Outcome State Fault Refusal :=
  act t (fun s =>
    if !(kTy k == 3 && kF k 0 1 == 4) then s
    else consume k (!kZero k 1 k.payload.length) false false (fun s =>
      frameAck (kSeq k) 0 (match s.frm.shadowDesc with | some raw => dF raw 0 4 | none => 0) (setShadow none (took s))) s) s

/-! ## The governor (R58 to R64) -/

/-- What the governor works on: sums, the LIT functions with their settings, the budget in mA, K_prot and the longest
subframe in ps. -/
structure Gov where
  sums : Sums
  lit : List Nat
  fset : List FuncSet
  b : Nat
  kprot : Nat
  subPs : Nat

/-- Kdur over a set of functions (R58). -/
def kDur (g : Gov) (fs : List Nat) : Nat :=
  let n := predN16 g.sums fs * g.subPs
  if n = 0 then 256 else min 256 (40960000000000 / n)

/-- Kb over a set of functions (R62). -/
def kBudget (g : Gov) (fs : List Nat) : Nat :=
  let p := predTotal g.sums fs
  if p = 0 then 256 else min 256 (256 * g.b / p)

/-- Kmin over a set of functions (R62). -/
def kMin (g : Gov) (fs : List Nat) : Nat := fs.foldl (fun m f => max m (nth g.fset f ⟨false, 0, 0⟩).minFlux) (max 16 g.kprot)

/-- The order of R61 over the LIT functions. -/
def shedOrder (g : Gov) : List Nat :=
  let pick := fun (m : Bool) => ((upTo 16).drop 1).flatMap (fun o =>
    g.lit.filter (fun f => let x := nth g.fset f ⟨false, 0, 0⟩; x.maskable == m && x.shedOrder == o))
  pick true ++ pick false

/-- What an evaluation gives: the shed set, K, Kmin, whether Kdur was below Kb, whether the budget was not met. -/
structure GovOut where
  shed : List Nat
  k : Nat
  kmin : Nat
  durLim : Bool
  unmet : Bool

/-- One pass over a shed set. -/
def govPass (g : Gov) (w : List Nat) : GovOut :=
  let fs := g.lit.filter (fun f => !w.contains f)
  ⟨w, min (kBudget g fs) (kDur g fs), kMin g fs, decide (kDur g fs < kBudget g fs), false⟩

/-- The loop of R62. -/
def govLoop (g : Gov) : Nat → List Nat → GovOut
  | 0, w => let o := govPass g w; { o with k := max o.k (max 16 g.kprot), unmet := true }
  | n + 1, w =>
    let o := govPass g w
    if o.kmin ≤ o.k && predPeak g.sums (g.lit.filter (fun f => !w.contains f)) ≤ 20000 then o
    else match (shedOrder g).find? (fun f => !w.contains f) with
      | some f => govLoop g n (w ++ [f])
      | none => { o with k := max o.k (max 16 g.kprot), unmet := true }

/-- Consecutive evaluations each function has been absent from W, this one included. -/
def absentNext (s : State) (w : List Nat) : List Nat :=
  (upTo 16).map (fun f => if w.contains f then 0 else min 255 (nth s.arr.absent f 0 + 1))

/-- The evaluation of a launch with the hysteresis on restore (R62). -/
def governor (s : State) (g : Gov) : GovOut :=
  let o := govLoop g 16 []
  let keep := (upTo 16).filter (fun f => o.shed.contains f ||
    (s.arr.shed.getLsbD f && decide (nth (absentNext s o.shed) f 0 < s.objN 0x2001 2)))
  if keep.length = o.shed.length then o
  else { govPass g keep with unmet := o.unmet }

/-! ## Gate planes (R53) -/

/-- The rules of a gate plane under a map, a footprint, policy states, a shed set and settings. -/
def planeRules (s : State) (map prot : List Byte) (states : List Nat) (shed : BitVec 16) (fset : List FuncSet) (off7 : Bool) :
    GatePlane :=
  .rules
    { map := map, prot := prot, dark := (upTo 16).filter (fun f => nth states f 0 ≠ 0 || shed.getLsbD f)
      maskable := (upTo 16).filter (fun f => f ≠ 0 && (nth fset f ⟨false, 0, 0⟩).maskable)
      zeroLevel := if s.mask.dead then (upTo 16).filter (fun f => s.objN (0x2610 + f) 1 = 0) else []
      shapes := match s.mask.force with | some m => m.shapes | none => []
      margin := match s.mask.force with | some m => m.margin | none => 0
      off7 := off7 }

/-- The gate plane of a probe pattern: one number per row (R81). -/
def planeProbe (s : State) (n : Nat) : GatePlane :=
  .probe ((upTo 1024).map (fun y => (upTo 2048).foldl (fun w x => if probeBit s (slotOf s n) x y then w + 2 ^ x else w) 0))

/-- The plane of a launch inside a frame (R53, R97). -/
def planeNow (s : State) (off7 : Bool) : GatePlane :=
  if s.saf.state = .limp then (if s.saf.limpLaunched then .limp s.saf.limpIn else s.arr.gate)
  else planeRules s s.arr.map s.comp.footRec s.arr.policy s.arr.shed ((upTo 16).map (fsetIn s)) off7

/-! ## The launch decision (R90 to R94) -/

/-- How the head descriptor's launch time stands to a start P and the following start: 0 untimed, 1 past, 2 selects P,
3 selects a later start (R91, R94). -/
def timeMatch (s : State) (d : Desc) (p p2 : Nat) : Nat :=
  if !dTimed d.raw || d.missed || !s.clk.valid then 0
  else
    let t := dTime d.raw * 4294967296
    if t < localAt s p then 1 else if 2 * t ≤ localAt s p + localAt s p2 then 2 else 3

/-- The decision at a frame boundary: whether the head launches, the launch flags, and the phase error of a timed launch in
units of 2^-32 ns. DESIGN CHOICE: flag TIMED is set only for a launch that its time selected, not beside UNSYNCED or MISSED
(log 153). -/
structure Decision where
  new : Bool
  flags : Nat
  err : Option Int

/-- A time is missed: counted once, the head treated as untimed (R92). -/
def missHead (s : State) : State :=
  modFrm (fun f => { f with missed := f.missed + 1, queue := f.queue.modify 0 (fun d => { d with missed := true }) }) s

/-- The head or the reload of the frame in force is complete (R44, R249). -/
def headDone (s : State) : Bool :=
  s.quay.complete && s.comp.job.any (fun j => s.quay.repeatCur || s.frm.queue.head?.any (fun d => d.seq == j.desc.seq))

/-- A late boundary (R90). -/
def lateCount (s : State) : State := modFrm (fun f => { f with late := f.late + 1 }) s

/-- The decision of R90 at the boundary P, with the following start P2. A boundary at which the head or its reload is incomplete while a return
from LIMP, HOLD or DARK waits is not counted as late: DESIGN CHOICE, log 192. A boundary in retiming repeats and is counted in every
safety state in which frames run (R75). -/
def decideLaunch (p p2 : Nat) (s : State) : Decision × State :=
  let rep : Decision := ⟨false, 1, none⟩
  let ret := s.saf.pendingReturn
  if s.frm.pend.isSome && s.frm.retiming then (⟨false, 1 + 16, none⟩, modFrm (fun f => { f with retimeHolds := f.retimeHolds + 1 }) s)
  else if !hostBeam s && !ret then (rep, s)
  else match (if s.quay.repeatCur then none else s.frm.queue.head?) with
    | none => if ret && (headDone s || s.frm.cur.isNone) then (⟨true, 0, none⟩, s) else (rep, s)
    | some d =>
      let untimed := fun (s : State) (missed : Bool) =>
        if headDone s then
          ((⟨true, if missed then 8 else if dTimed d.raw then 4 else 0, none⟩ : Decision), s)
        else (rep, if ret then s else lateCount s)
      match timeMatch s d p p2 with
      | 0 => untimed s d.missed
      | 1 => untimed (missHead s) true
      | 2 =>
        if headDone s then (⟨true, 2, some ((localAt s p : Int) - (dTime d.raw * 4294967296 : Nat))⟩, s)
        else if ret then (rep, s) else (rep, missHead (lateCount s))
      | _ => (rep, s)

/-! ## Opening a gate window (Table 2.3) -/

/-- The enables of the six items for a frame (R77, R81, R341). -/
def enables (s : State) (raw : List Byte) : List Bool :=
  (upTo 4).map (fun w => match driveOf s 5 w with | some d => decide (d.a ≠ 0) | none => s.objB (0x2108 + w) 1) ++
  (upTo 2).map (fun q => s.objB (0x210C + q) 1 && bitOf (dF raw 4 2) (1 + q))

/-- The map of a frame launched now (R65). -/
def mapAtLaunch (s : State) : List Byte := if s.arr.mapNew then (nth s.nv.copies s.nv.copy {}).map else s.arr.map

/-- Function f has pixels in a map. -/
def mapHas (map : List Byte) (f : Nat) : Bool := map.any (fun b => b.toNat % 16 == f || b.toNat / 16 == f)

/-- A snapshot with the governor's results for a frame of the host or of the limp beam (R62, R84, R394). -/
def governed (s : State) (x : Snap) (g : Gov) (limp : Bool) : Snap :=
  if limp then
    let b := min g.b (3 * s.objN 0x2001 1 / 10)
    let k := max 16 (min (kBudget { g with b := b } []) (kDur g []))
    { x with
      k := k, shed := 0, budget := b, predicted := predTotal g.sums [], peak := predPeak g.sums [], floor := 16
      average := (roundFree 16 (k * predTotal g.sums [] : Nat) 256).toNat, durLim := decide (kDur g [] < kBudget { g with b := b } []) }
  else
    let o := governor s g
    let fs := g.lit.filter (fun f => !o.shed.contains f)
    let k := max (max 16 g.kprot) (min o.k x.kFit)
    { x with
      k := k, shed := o.shed.foldl (fun m f => m ||| BitVec.twoPow 16 f) 0, budget := g.b, predicted := predTotal g.sums g.lit
      peak := predPeak g.sums fs, floor := o.kmin, absent := absentNext s (govLoop g 16 []).shed, durLim := o.durLim
      average := (roundFree 16 (k * predTotal g.sums fs : Nat) 256).toNat }

/-- The evaluation did not meet the budget: source 0x26 (R62, R394). -/
def govUnmet (s : State) (g : Gov) (limp : Bool) : Bool :=
  if limp then decide (min (kBudget { g with b := min g.b (3 * s.objN 0x2001 1 / 10) } []) (kDur g []) < 16)
  else (govLoop g 16 []).unmet

/-- The descriptor whose composition starts next: the head, or the one behind it once the head's has started (R213, R341). -/
def nextComposed (s : State) : Option Desc :=
  match s.frm.queue.head? with
  | some d => if s.comp.job.any (fun j => j.desc.seq == d.seq) then s.frm.queue[1]? else some d
  | none => none

/-- The gate window of a frame boundary at instant `at_` opens (R24, R90, R95); `short` when R91 places it inside the frame. The
rounding of e of R93 to whole ticks, half up, and of frame.launch_error to whole ns, down, is stated nowhere: DESIGN CHOICE,
log 181. -/
def openBoundary (at_ : Nat) (short : Bool) (dec : Decision) (s : State) : State :=
  let ret := s.saf.pendingReturn && dec.new
  let limp := s.saf.state = .limp && !ret
  let took := s.frm.pend.isSome && !s.frm.retiming
  let m := if took then s.frm.pend.getD s.frm.mode else s.frm.mode
  let back := s.tb.backPending
  let p := if back then 2000 else tickPs s
  let f := frameTicks p m.rate
  let e0 : Int := match dec.err with
    | some x => (2 * x * 1000 + (p * 4294967296 : Nat)) / (2 * p * 4294967296 : Nat)
    | none => convTicks (tickPs s) p s.frm.e
  let d := clampI (-e0) (-((f / 200 : Nat) : Int)) ((f / 200 : Nat) : Int)
  let n := ((f : Int) + d).toNat
  let host := !limp && (hostBeam s || ret)
  let raw := match (if dec.new && !s.quay.repeatCur then s.frm.queue.head? else s.frm.cur) with | some x => x.raw | none => []
  let prot := match (if dec.new then s.comp.job else none) with | some j => j.prot | none => s.comp.footRec
  let claim := host && s.diag.claimReq && !ret
  let s := modFrm (fun f => { f with
      modeNew := false
      oneShotFrom := (upTo 6).map (fun i =>
        let t := nth f.oneShotFrom i 0
        if itemCfg m i ≠ itemCfg f.mode i then 0 else if short then min t (localAt s at_ / 4294967296) else t) }) s
  let en := enables s raw
  let pl := placeItems ⟨p, m, n, claim, max 16 (kProt prot)⟩ (localAt s at_) en s
  let (spots, s) := if host then pl else ([], s)
  let s := if host then maskTake at_ s else s
  let s := patTick (nextComposed s) s
  let map := mapAtLaunch s
  let fset := (upTo 16).map (fsetWritten s)
  let pol := (upTo 16).map (polWritten s)
  let view : PolView :=
    { table := tableNow s, ovf := s.diag.tableOvf, map := map, pol := fun f => nth pol f (polWritten s f)
      maskable := fun f => (nth fset f ⟨false, 0, 0⟩).maskable }
  let states := (upTo 16).map (polNext s view)
  let g : Gov :=
    { sums := if limp then s.saf.limpSums else if dec.new then s.quay.loadSums else s.frm.curSums
      lit := ((upTo 16).drop 1).filter (fun f => nth states f 0 = 0 && mapHas map f), fset := fset
      b := min (s.objN 0x2001 1) (1000 * s.th.n), kprot := kProt prot
      subPs := p * ((upTo m.subframes).foldl (fun u i => max u (subLen n m.subframes i)) 0) }
  let x0 : Snap :=
    { kind := .boundary, at_ := at_, p := p, new := dec.new, pops := dec.new && !s.quay.repeatCur && !s.frm.queue.isEmpty
      loaded := s.saf.limpLoaded, k := 256, shed := 0, plane := .zero, mode := m, safety := s.saf.state
      flags := dec.flags + (if short then 32 else 0)
      launchError := (match dec.err with | some x => x / 4294967296 | none => s.frm.launchError)
      fPrime := n, items := spots.map Spot.item, claim := claim, limp := limp, back := back, ret := ret, modeTook := took
      fset := fset, pol := pol, states := states, budget := 0, predicted := 0, average := 0, peak := 0, floor := 16
      kFit := kFitOf p m n spots claim, e := e0 + d, durLim := false, absent := s.arr.absent, map := map
      mapTook := s.arr.mapNew, prot := prot }
  let x := governed s x0 g limp
  let plane :=
    if limp then (if s.saf.limpLoaded then .limp s.saf.limpIn else s.arr.gate)
    else planeRules s map prot states x.shed fset false
  let x := { x with plane := plane }
  let s := modFrm (fun f => { f with snap := some x, windowOpen := true, held := true }) s
  if govUnmet s g limp && (host || limp) then
    raiseSrc 0x26 (leBytes 2 g.b) (modArr (fun a => { a with unmetEvents := if limp then a.unmetEvents else a.unmetEvents + 1 }) s)
  else s

/-- The gate window of a launch inside a frame opens (R53, R54, R77, R81). -/
def openInner (k : GateKind) (at_ : Nat) (plane : GatePlane) (s : State) : State :=
  let x : Snap :=
    { kind := k, at_ := at_, p := tickPs s, new := false, pops := false, loaded := false, k := s.arr.k, shed := s.arr.shed, plane := plane, mode := s.frm.mode
      safety := s.saf.state, flags := 0, launchError := 0, fPrime := s.frm.fPrime, items := s.frm.items, claim := s.frm.claim
      limp := s.saf.state = .limp, back := false, ret := false, modeTook := false, fset := [], pol := [], states := []
      budget := 0, predicted := 0, average := 0, peak := 0, floor := 0, kFit := 0, e := 0, durLim := false, absent := []
      map := [], mapTook := false, prot := [] }
  modFrm (fun f => { f with snap := some x, windowOpen := true, held := true }) s

/-- Start of the subframe that follows a start in ps after it, as the schedule stands (R91). -/
def nextStart (s : State) (k : GateKind) : Nat :=
  match k with
  | .subframe i => tickPs s * subLen s.frm.fPrime s.frm.mode.subframes i
  | _ =>
    let m := if s.frm.pend.isSome && !s.frm.retiming then s.frm.pend.getD s.frm.mode else s.frm.mode
    let f := frameTicks (tickPs s) m.rate
    let d := clampI (-s.frm.e) (-((f / 200 : Nat) : Int)) ((f / 200 : Nat) : Int)
    tickPs s * subLen ((f : Int) + d).toNat m.subframes 0

/-- The schedule runs: READY or LIT, not HOLD or DARK unless a return waits (R97). -/
def scheduleRuns (s : State) : Bool := active s && (decide (s.saf.state.code ≤ 2) || s.saf.pendingReturn)

/-- An item is placed in the frame in progress. -/
def placed (s : State) (i : Nat) : Bool := s.frm.items.any (fun x => x.item == i)

/-- The probe slot that a probe slot's window reads (R82). -/
def probeSlot (s : State) (q : Nat) : Nat := match s.frm.cur with | some d => dF d.raw (6 + q) 1 | none => 0

/-- GATE_WINDOW_OPEN: the gate window of the launch at instant `at_` opens (Table 2.3, R90, R91). `ecc` lists the words of
the probe slot found in error while its pattern is read (R163). -/
def execGateWindowOpen (t : Nat) (k : GateKind) (at_ : Nat) (ecc : List (Nat × Nat)) (s : State) : Host.Outcome State Fault Refusal :=
  act t (fun s =>
    if !scheduleRuns s || s.frm.snap.isSome then s
    else
      match k with
      | .boundary =>
        let r := decideLaunch at_ (at_ + nextStart s k) s
        if decide (s.saf.state.code ≤ 2) || r.1.new then openBoundary at_ false r.1 r.2
        else if s.frm.retiming then s else r.2
      | .subframe i =>
        let sel := hostBeam s && !(s.frm.pend.isSome && s.frm.retiming) &&
          s.frm.queue.head?.any (fun d => timeMatch s d at_ (at_ + nextStart s k) == 2)
        if i = 0 || s.frm.mode.subframes ≤ i || decide (2 < s.saf.state.code) then s
        else if sel then
          let r := decideLaunch at_ (at_ + nextStart s k) s
          openBoundary at_ true r.1 r.2
        else
          let s := if hostBeam s && s.frm.queue.head?.any (fun d => timeMatch s d at_ (at_ + nextStart s k) == 1) then missHead s else s
          let s := if hostBeam s then maskTake at_ s else s
          openInner k at_ (planeNow s false) s
      | .offStart w =>
        if !placed s w || isWhole s.frm.mode w || !hostBeam s then s
        else let s := maskTake at_ s; openInner k at_ (planeNow s true) s
      | .offEnd w =>
        if !placed s w || isWhole s.frm.mode w || !hostBeam s then s
        else let s := maskTake at_ s; openInner k at_ (planeNow s false) s
      | .probeStart q =>
        if !placed s (4 + q) || !hostBeam s then s
        else
          let s := eccReads (fun w => (slotOf s (probeSlot s q)).holds (8 * w)) ecc (maskTake at_ s)
          openInner k at_ (planeProbe s (probeSlot s q)) s
      | .probeEnd q =>
        if !placed s (4 + q) || !hostBeam s then s
        else let s := maskTake at_ s; openInner k at_ (planeNow s false) s) s

/-- GATE_WINDOW_CLOSE: the shadow gate bits of both halves are complete; forced-pulse commands may cross the bridge again (R20,
R21). -/
def execGateWindowClose (t : Nat) (s : State) : Host.Outcome State Fault Refusal :=
  act t (fun s =>
    match s.frm.snap with
    | some x =>
      if s.frm.windowOpen then
        pulseFill (modArr (fun a => { a with gateShadow := x.plane }) (modFrm (fun f => { f with windowOpen := false }) s))
      else s
    | none => s) s

/-! ## Launches (R43) -/

/-- A gate launch copies every shadow gate bit; without light the plane is all-zero (R43, R429). The halves ignore the launch
lines while their hold lines are asserted (R23). -/
def gateCopy (s : State) : State :=
  let s := modArr (fun a => { a with gateAt := s.now }) s
  if s.saf.holdN then s
  else modArr (fun a => { a with gate := if lightOn s then a.gateShadow else .zero, litSince := true }) s

/-- The window's hold on drive words ends with its launch (R44). -/
def windowDone (s : State) : State := modFrm (fun f => { f with snap := none, windowOpen := false, held := false }) s

/-- A subframe that ends before step 8192 is truncated (R51, R85). -/
def truncation (s : State) : State :=
  if s.arr.u ≠ 0 && decide (rampRun s < rampEnd s) then modFrm (fun f => { f with truncated := f.truncated + 1 }) s else s

/-- The ramp starts a subframe of u ticks at compression k in RUN (R46). -/
def rampStart (k u order : Nat) (s : State) : State :=
  modArr (fun a => { a with ramp := .run, rampTicks := 0, rampAt := s.now, k := k, u := u, order := order }) s

/-- An item ends: the ramp runs on, unless the PAUSE of a calibration claim has begun (R84). -/
def endPause (s : State) : State := if s.frm.claiming then setRamp .pause s else resumeRamp s

/-- The plane of a launch as the mask path sees it: none of its own where the halves ignore the launch, or in LIMP before the limp
beam (R23, R228, R233). -/
def maskPlane (x : Snap) (s : State) : GatePlane :=
  if s.saf.holdN then .zero
  else match x.plane with
    | .rules g => if x.limp then .zero else .rules g
    | p => p

/-- What a gate launch inside a frame does to the ramp and the item in progress (R71, R77, R81). -/
def innerEffect (x : Snap) (s : State) : State :=
  match x.kind with
  | .boundary => s
  | .subframe i =>
    pulseFill (rampStart s.arr.k (subLen s.frm.fPrime s.frm.mode.subframes i) s.frm.mode.order
      (modFrm (fun f => { f with sub := i, subAt := s.now, inItem := none }) (truncation s)))
  | .offStart w => modFrm (fun f => { f with inItem := some (.offStart w) }) s
  | .offEnd _ => modFrm (fun f => { f with inItem := none }) s
  | .probeStart q => setRamp .force (modFrm (fun f => { f with inItem := some (.probeStart q) }) s)
  | .probeEnd _ => endPause (modFrm (fun f => { f with inItem := none }) s)

/-- A gate launch of a closed window other than a frame boundary's; void in HOLD and DARK (R43, R97). -/
def gateLaunch (s : State) : State :=
  match s.frm.snap with
  | none => s
  | some x =>
    if s.frm.windowOpen || x.kind = .boundary then s
    else if !active s || decide (2 < s.saf.state.code) then windowDone s
    else
      let s := innerEffect x (gateCopy (windowDone s))
      maskLaunch (maskPlane x s) s

/-- GATE_LAUNCH: a subframe launch or item launch (R43). -/
def execGateLaunch (t : Nat) (s : State) : Host.Outcome State Fault Refusal := act t gateLaunch s

/-- The launch of an item if its window is the one that closed. -/
def itemLaunch (k : GateKind) (s : State) : State :=
  if s.frm.snap.any (fun x => x.kind == k) then gateLaunch s else s

/-- OFFWIN_START: PAUSE for a whole-array window, a gate launch under rule 7 for a maskable-only one (R77). -/
def execOffwinStart (t : Nat) (w : Fin 4) (s : State) : Host.Outcome State Fault Refusal :=
  act t (fun s =>
    if !placed s w.val || !scheduleRuns s || !hostBeam s then s
    else if isWhole s.frm.mode w.val then
      let s := modFrm (fun f => { f with inItem := some (.offStart w.val) }) s
      if s.arr.ramp = .tail then s else setRamp .pause s
    else itemLaunch (.offStart w.val) s) s

/-- OFFWIN_END: RUN again, or the gate plane without rule 7 (R77). -/
def execOffwinEnd (t : Nat) (w : Fin 4) (s : State) : Host.Outcome State Fault Refusal :=
  act t (fun s =>
    if s.frm.inItem ≠ some (.offStart w.val) || !scheduleRuns s then s
    else if isWhole s.frm.mode w.val then
      let s := modFrm (fun f => { f with inItem := none }) s
      if s.arr.ramp = .pause then endPause s else s
    else itemLaunch (.offEnd w.val) s) s

/-- PROBE_SLOT_START: the pattern's gate launch, with the ramp in FORCE (R81). -/
def execProbeSlotStart (t : Nat) (q : Fin 2) (s : State) : Host.Outcome State Fault Refusal :=
  act t (itemLaunch (.probeStart q.val)) s

/-- PROBE_SLOT_END: the gate launch that restores the gate plane and RUN (R81). -/
def execProbeSlotEnd (t : Nat) (q : Fin 2) (s : State) : Host.Outcome State Fault Refusal :=
  act t (itemLaunch (.probeEnd q.val)) s

/-- PROBE_PAUSE: a slot shorter than 56 us ends; PAUSE until its end launch (R82). -/
def execProbePause (t : Nat) (q : Fin 2) (s : State) : Host.Outcome State Fault Refusal :=
  act t (fun s =>
    if s.frm.inItem = some (.probeStart q.val) && s.arr.ramp = .force &&
        decide (nsTicks (tickPs s) (itemCfg s.frm.mode (4 + q.val)).length < leadTicks (tickPs s)) then setRamp .pause s
    else s) s

/-- CALIBRATION_CLAIM: the PAUSE of 8 us before the frame's last boundary (R84). -/
def execCalibrationClaim (t : Nat) (s : State) : Host.Outcome State Fault Refusal :=
  act t (fun s =>
    if s.frm.claim && scheduleRuns s && hostBeam s && decide (s.frm.sub + 1 = s.frm.mode.subframes) then
      let s := modFrm (fun f => { f with claiming := true }) s
      if s.arr.ramp = .tail then s else setRamp .pause s
    else s) s

/-! ## The frame launch -/

/-- Reference codes at a frame launch: those of REF_CURRENT, then the step of a new target (R39, R291); frozen while REXT is
out of range (R290); a district drive unit under its hold line ignores the launch (R23). -/
def launchCodes (s : State) : State :=
  if s.diag.rextBad || s.saf.holdN then s
  else
    let code : List Nat := (upTo 128).map (fun d => match afind s.diag.codeNew d with | some c => c | none => nth s.arr.code d 500)
    let t := s.objN 0x2000 2
    let step := nearest 17 ((t : Int) - s.arr.hiTarget) 20
    let want : List Int := code.map (fun c : Nat => (c : Int) + step)
    let s := modArr (fun a => { a with code := want.map (fun w => (clampI w 0 1000).toNat), hiTarget := t }) s
    modDiag (fun g => { g with
      codeNew := []
      clamped := if step = 0 then g.clamped else (upTo 128).filter (fun d => let w := nth want d 0; w < 0 || 1000 < w) }) s

/-- The safety state at a frame launch: a return takes effect, or DEGRADED ends (R25, R392). -/
def launchSafety (ret : Bool) (s : State) : State :=
  let tgt := Safety.ofClass (targetClass s)
  if ret then
    let s := setSafety tgt { s with saf := { s.saf with pendingReturn := false, limpPattern := 0, limpLost := false } }
    closeDisc (setHold false s)
  else if s.saf.state = .degraded && tgt = .normal then setSafety .normal s
  else s

/-- The first limp launch, when the beam had loaded as the gate window opened: the shadow words become active and the hold lines
are released (R24, R394). -/
def limpLaunch (x : Snap) (s : State) : State :=
  if !x.loaded || s.saf.limpLaunched then s
  else
    setHold false { s with
      saf := { s.saf with limpLaunched := true }, arr := { s.arr with active := s.arr.shadow } }

/-- A new frame's words become active; the head leaves the queue and the pins of the frame before are released (R43, R89,
R182). A reload of the frame in force launches with its own SEQ (R249). -/
def newFrame (x : Snap) (s : State) : State :=
  let s := { s with
    arr := { s.arr with active := s.arr.shadow }
    comp := { s.comp with job := none, footRec := x.prot, curJob := if x.pops then s.comp.job else s.comp.curJob }
    frm := { s.frm with curSums := s.quay.loadSums, curLo := s.quay.loadLo }
    quay := { s.quay with complete := false, loading := false, repeatCur := false } }
  match (if x.pops then s.frm.queue else []) with
  | [] => s
  | d :: rest =>
    let old := s.frm.cur
    let s := modFrm (fun f => { f with queue := rest, cur := some d, launchedSeq := d.seq }) s
    match old with
    | some o => releasePins o s
    | none => s

/-- The schedule of the frame that begins, and its governor data (R24, R68, R71, R98). -/
def frameBegins (x : Snap) (s : State) : State :=
  let s := modFrm (fun f => { f with
    mode := x.mode, pend := if x.modeTook && !f.modeNew then none else f.pend, modeNew := false, claiming := false
    retiming := if x.modeTook then f.modeNew && f.pend.any (needsRetiming x.mode) else f.retiming
    e := x.e, fPrime := x.fPrime, frameAt := s.now, sub := 0, subAt := s.now, items := x.items, claim := x.claim, inItem := none
    flags := x.flags, launchTime := s.time, launchError := x.launchError, kFit := x.kFit
    unsynced := if bitOf x.flags 2 then f.unsynced + 1 else f.unsynced }) s
  let s := modArr (fun a => { a with
    shed := x.shed, absent := x.absent, budget := x.budget, predicted := x.predicted, average := x.average, peak := x.peak
    floor := x.floor, shedEvents := if x.shed = 0 then a.shedEvents else a.shedEvents + 1
    durLimited := if x.durLim then a.durLimited + 1 else a.durLimited
    map := if x.mapTook then x.map else a.map, mapNew := a.mapNew && !x.mapTook, fset := x.fset, policy := x.states }) s
  let s := modDiag (fun g => { g with
    pol := x.pol, claims := if x.claim then g.claims + 1 else g.claims, pulses := if bitOf x.flags 5 then [] else g.pulses }) s
  rampStart x.k (subLen x.fPrime x.mode.subframes 0) x.mode.order s

/-- What is reported of a frame launch (R68, R98, R256). -/
def frameReports (x : Snap) (s : State) : State :=
  let a := s.arr
  let s := publish 0x2002 [leBytes 2 a.budget, leBytes 2 a.k, leBytes 4 a.predicted, leBytes 4 a.average, leBytes 4 a.peak,
    leBytes 2 a.shed.toNat, leBytes 2 a.floor] s
  let f := s.frm
  let s := publish 0x2100 [leBytes 4 f.launchedSeq, f.launchTime.bytes, leBytes 4 (unsext 32 f.launchError),
    leBytes 1 f.queue.length, leBytes 2 f.kFit, leBytes 1 f.flags] s
  quayEvent 2 (leBytes 4 f.launchedSeq ++ f.launchTime.bytes ++ leBytes 1 (b2n (bitOf x.flags 0) + 2 * b2n x.limp)) s

/-- A boundary whose snapshot a safety state has overtaken: in LIMP a repeat without change of words or gates (R97). -/
def overtaken (x : Snap) : Snap :=
  { x with new := false, pops := false, loaded := false, ret := false, flags := 1, items := [], claim := false, limp := true }

/-- The schedule of a snapshot in ticks of the source at its launch, worked out anew where the source has changed since its gate
window opened (R96). -/
def rescale (s : State) (x : Snap) : Snap :=
  let p := tickPs s
  if x.p = p then x
  else
    let e0 := convTicks x.p p (x.e - ((x.fPrime : Int) - frameTicks x.p x.mode.rate))
    let f := frameTicks p x.mode.rate
    let d := clampI (-e0) (-((f / 200 : Nat) : Int)) ((f / 200 : Nat) : Int)
    let n := ((f : Int) + d).toNat
    { x with
      p := p, fPrime := n, e := e0 + d
      items := x.items.map (fun i =>
        if (itemCfg x.mode i.item).base = 0 then (relSpot p x.mode n i.item).item
        else let a := (convTicks x.p p i.start).toNat; ⟨i.item, a, a + itemSpan p x.mode i.item⟩) }

/-- The frame launch of a snapshot (R43, R90). -/
def launchFrame (x : Snap) (s : State) : State :=
  let held := snapHolds x s
  let x := if held then x else overtaken x
  let s := truncation (windowDone s)
  let s := if x.back && s.tb.tb0 then returnLate s else s
  let x := rescale s x
  let beam := x.limp && x.loaded && !s.saf.limpLaunched
  let s := if x.new then newFrame x s else s
  let qual := lit s && hostBeam s && !x.ret && !bitOf x.flags 5 && !(s.frm.pend.isSome && s.frm.retiming)
  let s := frameBegins x s
  let s := launchSafety x.ret s
  let s := launchCodes (if beam then limpLaunch x s else s)
  let s := if held then gateCopy s else modArr (fun a => { a with gateAt := s.now }) s
  let s := { s with fy := { s.fy with rowPrev := s.fy.rowCur, rowCur := [] } }
  let s := frameReports x (supBoundary (x.new || beam) qual x.modeTook (patVisible s))
  let s := if held then maskLaunch (maskPlane x s) s else s
  polCauses (pulseFill (claimRequest (lightFrame s.frm.curLo s.arr.k s)))

/-- FRAME_LAUNCH: the launch at a frame boundary, new or repeated; the schedule stops in HOLD and DARK (R43, R90, R97). -/
def execFrameLaunch (t : Nat) (s : State) : Host.Outcome State Fault Refusal :=
  act t (fun s =>
    match s.frm.snap with
    | some x =>
      if s.frm.windowOpen || x.kind ≠ .boundary then s
      else if !scheduleRuns s || (decide (2 < s.saf.state.code) && !x.ret) then windowDone s
      else launchFrame x s
    | none => s) s

end Sys2Proof.Machine
end

