-- ==== Sys2Proof/Machine/Entry.lean ====
section
/-!
DEFINITION. The end of the exit to READY (Table 16.7, step 7): the entry actions of R31, R88, R203, R230, R264, R313, R316,
R326, R355 and R408.
-/

namespace Sys2Proof.Machine

/-- The timing mode in force after a boot: the mode as the objects hold it, where it passes the range checks of Table 3.1
(log 66). -/
def firstMode (s : State) : Mode :=
  let c := modeCheck s (modeShadow s)
  if c = 0x08 || c = 0x09 then s.frm.mode else modeShadow s

/-- The frame schedule starts with no frame in force, nothing queued and no shadow descriptor (R31, R71, R88). -/
def frameReady (s : State) : State :=
  let m := if s.frm.fPrime = 0 then firstMode s else s.frm.mode
  modFrm (fun f => { f with
    mode := m, shadowDesc := none, queue := [], cur := none, curSums := {}, curLo := 0, e := 0
    fPrime := frameTicks (tickPs s) m.rate, frameAt := s.now, sub := 0, subAt := s.now, items := [], claim := false
    claiming := false, modeNew := false
    snap := none, windowOpen := false, held := false, inItem := none }) s

/-- The array holds nothing: every drive word and gate bit 0, the settings of the next launch taken from the objects. -/
def arrReady (s : State) : State :=
  modDiag (fun g => { g with pol := [] }) (modArr (fun a => { a with
    active := [], shadow := [], gate := .zero, gateShadow := .zero, litSince := true, ramp := .tail, u := 0, fset := [] }) s)

/-- The Square and the Quay start with an empty cache, the record in force and no composition (R31, R203, R214). -/
def composeReady (s : State) : State :=
  let s := loadProt (abandonLoad s)
  { s with comp := { s.comp with job := none, curJob := none, prev := none }
           saf := { s.saf with limpLoaded := false, limpLaunched := false } }

/-- The external switch at an entry to READY: closed with its check, but open in HOLD and DARK (R408, R429, Table 15.3). The whole
check runs at an entry that finds it not passed (R415). -/
def discReady (s : State) : State :=
  let s := { s with saf := { s.saf with firstReadyDone := s.saf.firstReadyDone && s.saf.discPassed } }
  if s.saf.state.code ≤ 2 then closeDisc s else dropDisc s

/-- READY is entered; the static-limp bits and the limp buffer are loaded from MRAM (Table 16.7, step 6). -/
def enterReady (s : State) : State :=
  let s := { s with pw := { s.pw with dev := .ready, seq := .idle, exiting := false, rebooting := false
                                      exitTime := (s.now - s.pw.exitFrom) / 1000000 } }
  let s := copySl s
  let s := maskNone (composeReady (arrReady (frameReady (surfLost s))))
  discReady (diagReady (patReady (thReady (supReady s))))

/-- EXIT_COMPLETE: loading from MRAM has ended (Table 16.7, steps 6 and 7); with VCC below 0.70 V the change waits again (R33,
R536). -/
def execExitComplete (t : Nat) (s : State) : Host.Outcome State Fault Refusal :=
  act t (fun s =>
    if !(s.pw.exiting && s.pw.dev = .quiet) then s
    else if s.pw.vccOk then enterReady s
    else { s with pw := { s.pw with exiting := false, pendingReady := true } }) s

end Sys2Proof.Machine
end

