-- ==== Sys2Proof/Machine/Objects.lean ====
section
/-!
DEFINITION. The objects behind the dictionary: what a read of each returns, what a write of each does, and the frozen copies
of the measurement objects (R440, R491 to R496, and the object tables of every chapter).
-/

namespace Sys2Proof.Machine

/-! ## Values of read-only objects -/

/-- A BitVec 256 as a DOMAIN of 32 bytes. -/
def bmBytes (m : Bitmap) : List Byte := leBytes 32 m.toNat

/-- A text as bytes. -/
def textBytes (t : String) : List Byte := t.toList.map (fun c => BitVec.ofNat 8 c.toNat)

/-- Value bytes a read returns where the spec states none: a free value (log 8). -/
def unstated (idx sub n : Nat) : List Byte := (upTo n).map (Config.unstatedRead (okey idx sub))

/-- function.state (Table 2.7). -/
def funcState (s : State) (f : Nat) : Nat :=
  if f = 0 || !mapHas s.arr.map f then 4
  else match nth s.arr.policy f 0 with
    | 0 => if s.arr.shed.getLsbD f then 1 else 0
    | c => c

/-- The 1,048,576 bytes of a map; a byte past the end of what is held reads 0 (R65). -/
def mapBytes (map : List Byte) : List Byte := padTo 1048576 map

/-- function.pixels (R68). -/
def funcPixels (map : List Byte) (f : Nat) : Nat :=
  (mapBytes map).foldl (fun n b => n + b2n (b.toNat % 16 = f) + b2n (b.toNat / 16 = f)) 0

/-- surf.free_bytes: the largest area below the cache that overlaps no configured slot (R186). -/
def freeBytes (s : State) : Nat :=
  let ks := s.surf.slots.filter (fun k => k.state ≠ 0)
  let gap := fun (c : Nat) =>
    if ks.any (fun k => decide (k.base ≤ c) && decide (c < k.base + k.size)) then 0
    else ks.foldl (fun e k => if c ≤ k.base then min e k.base else e) (cacheBase s) - c
  (0 :: ks.map (fun k => k.base + k.size)).foldl (fun m c => max m (gap c)) 0

/-- A log entry (Table 17.8). -/
def LogEntry.bytes (e : LogEntry) : List Byte :=
  let b := leBytes 4 e.seq ++ leBytes 2 e.source ++ leBytes 1 e.cls ++ leBytes 1 e.flags ++ e.timeA.bytes ++ e.timeB.bytes ++
    leBytes 1 e.safety ++ leBytes 1 e.device ++ [0, 0] ++ leBytes 4 e.frameSeq ++ leBytes 2 e.raises ++ leBytes 2 e.transients ++
    padTo 80 e.ctx ++ [0, 0, 0, 0]
  b ++ leBytes 4 (crcOf crcIeee b)

/-- tb.sources: the source of each timebase, 3 where no powered block enables it and it is not the keeper's own (R417, R426;
log 67). -/
def tbShown (s : State) (n : Nat) : Nat :=
  if n ≠ 5 && !(upTo 16).any (fun b => blockPowered s b && bitOf (tbSet s b) n) then 3 else tbSource s n

/-- tb.fixed (Table 16.2). -/
def tbFixed (b : Nat) : Nat := (tbRow b).2.2.2.1 ||| (tbRow b).2.2.2.2.1 ||| (tbRow b).2.2.2.2.2

/-- session.state (Table 18.12). -/
def sessionState (s : State) : Nat :=
  b2n s.dict.sesCan.isOpen + 2 * b2n s.dict.sesFerry.isOpen + 4 * b2n s.nv.sessKey.isSome +
  8 * b2n (lockedOut s .can || lockedOut s .ferry)

/-- What a read of an object that is no measurement object returns: the value, or the abort code of order 11. -/
def readNow (s : State) (idx sub : Nat) : Nat × List Byte :=
  let v := fun (b : List Byte) => ((0, b) : Nat × List Byte)
  let u8 := fun (n : Nat) => v (leBytes 1 n)
  let u16 := fun (n : Nat) => v (leBytes 2 n)
  let u32 := fun (n : Nat) => v (leBytes 4 n)
  let c := protNow s
  match idx, sub with
  | 0x1000, 1 => v (textBytes "Voesque")
  | 0x1000, 2 => v (textBytes (if s.grade = 0 then "IBN2048-HA" else "IBN2048-SG"))
  | 0x1000, 3 => u8 s.grade
  | 0x1000, 4 => v (leBytes 8 s.uid)
  | 0x1000, 5 => u16 s.hwRev
  | 0x1000, 6 => u32 s.mg.fwVersion
  | 0x1001, 1 => v (Config.futil s.mg.fwVersion)
  | 0x1010, 2 => u8 (nodeOf s)
  | 0x1011, 3 => u16 s.dict.eventSeq.toNat
  | 0x1020, 4 => u8 (sessionState s)
  | 0x1020, 7 => v (cnt s.dict.failures)
  | 0x2000, 3 => u8 s.diag.clamped.length
  | 0x2004, 1 => u16 (kProt s.comp.footRec)
  | 0x2020, 1 => v (mapBytes c.map)
  | 0x2020, 2 => u32 (crcOf crcIeee (mapBytes s.arr.map))
  | 0x2102, 1 => u8 s.frm.rejectReason
  | 0x2102, 2 => u32 s.frm.rejectSeq
  | 0x2104, 4 => u8 (modeState s)
  | 0x2104, 5 => u8 s.frm.modeReason
  | 0x2300, 1 => u8 s.fy.address
  | 0x2300, 2 => u8 (b2n (s.fy.address = 63) + 2 * b2n s.fy.overflow)
  | 0x2300, 3 => u8 s.fy.enumGen
  | 0x2300, 5 => u8 s.fy.rowPend.length
  | 0x2400, 2 => u32 (freeBytes s)
  | 0x2400, 3 => u16 (s.surf.slots.countP (fun k => k.state = 0))
  | 0x2402, 1 => u32 s.surf.retiredSeq
  | 0x2410, 3 => u8 s.surf.result
  | 0x2411, 1 => v (s.surf.slots.flatMap Slot.bytes)
  | 0x2502, 1 => u8 s.comp.rejectLayer
  | 0x2502, 2 => u32 s.comp.rejectLoad
  | 0x2502, 3 => u16 s.comp.rejectSamples
  | 0x2520, 1 => v c.layer
  | 0x2520, 2 => u8 (if s.comp.bankPoison.isEmpty then s.comp.protState else 4)
  | 0x2520, 3 => u32 (crcOf crcIeee s.comp.bankRec)
  | 0x2603, 1 => u8 s.mask.rejectReason
  | 0x2603, 2 => u16 s.mask.rejectMseq
  | 0x2703, 1 => v ((upTo 16).flatMap (fun i => leBytes 2 (nth s.quay.flagged i 0xFFFF)))
  | 0x2800, 8 => v (unstated 0x2800 8 1)
  | 0x2803, 1 => v ((tableNow s).flatMap FailEntry.bytes)
  | 0x2850, 1 => v (unstated 0x2850 1 32772)
  | 0x2908, 1 => v ((upTo 2048).flatMap (fun i => leBytes 2 (unsext 16 (match afind s.sup.prof i with | some m => m | none => 0))) ++
      leBytes 1 s.sup.profE ++ [0])
  | 0x2909, 1 => v ((upTo 128).flatMap (fun d => leBytes 2 (nth s.sup.vfmax d 0)))
  | 0x2B00, 2 => u8 s.pat.loadReason
  | 0x2B00, 3 => u8 s.pat.loadEngine
  | 0x2D10, 1 => v (bmBytes s.saf.latched)
  | 0x2D10, 2 => v (bmBytes (s.saf.causes ||| s.saf.injected))
  | 0x2D10, 4 => v ((upTo 256).map (fun i => BitVec.ofNat 8 (floorNow s i)))
  | 0x2D10, 5 => v ((upTo 256).flatMap (fun i => leBytes 2 (nth s.saf.raises i 0)))
  | 0x2D10, 6 => v ((upTo 256).flatMap (fun i => leBytes 2 (nth s.saf.transients i 0)))
  | 0x2D11, 3 => u8 s.saf.resetReg
  | 0x2D11, 4 => u8 s.saf.clearResult
  | 0x2E05, 1 => v ((upTo 13).map (fun n => BitVec.ofNat 8 (tbShown s n)))
  | 0x2F00, 1 => u32 s.mg.fwVersion
  | 0x2F00, 2 => u8 s.nv.bank
  | 0x2F00, 3 => u8 s.nv.rollFw
  | 0x2F00, 4 => u8 s.nv.rollCust
  | 0x2F00, 5 => u8 s.mg.custState
  | 0x2F00, 7 => u32 (if s.nv.custValid then leField s.nv.custImage 8 4 else 0)
  | 0x2F10, 1 => if s.nv.ring.isEmpty then v (unstated 0x2F10 1 4) else v (cnt (s.nv.logSeq - 1))
  | 0x2F10, 3 =>
    match s.nv.ring.find? (fun e => e.seq == s.objN 0x2F10 2) with
    | some e => v e.bytes
    | none => (abNoData, [])
  | 0x2F10, 4 => u16 s.nv.pinned.length
  | 0x2F10, 6 => match s.nv.pinned[s.objN 0x2F10 5]? with | some e => v e.bytes | none => (abNoData, [])
  | 0x2F10, 7 => u8 (b2n s.nv.pinOvf)
  | 0x2F10, 8 => v (unstated 0x2F10 8 1)
  | 0x2F10, 9 => v (cnt s.mg.logLost)
  | 0x2F20, 1 => v (unstated 0x2F20 1 1)
  | 0x2F20, 2 => v s.mg.updImage
  | 0x2F20, 3 => u8 s.mg.updState
  | 0x2F20, 4 => u8 s.mg.updReason
  | 0x2F20, 5 => u32 s.mg.updReceived
  | 0x2F30, 1 => v s.mg.psSig
  | 0x2F30, 2 => v (unstated 0x2F30 2 1)
  | 0x2F30, 3 => u8 s.mg.psResult
  | 0x2F30, 4 => u32 (protCoded c)
  | 0x2F30, 5 => u8 s.nv.copy
  | 0x2F38, 1 => v (s.nv.keyCust.getD [])
  | 0x2F38, 2 => v (s.nv.keyPst.getD [])
  | 0x2F38, 3 => u8 (b2n s.nv.keyCust.isSome + 2 * b2n s.nv.keyPst.isSome)
  | 0xF010, 1 => u8 s.saf.unlockReg
  | 0xF010, 2 => u16 s.saf.injectReg
  | 0xF010, 3 => v (unstated 0xF010 3 1)
  | _, _ =>
    if 0x2010 ≤ idx && idx ≤ 0x201F && sub = 5 then u8 (funcState s (idx - 0x2010))
    else if 0x2010 ≤ idx && idx ≤ 0x201F && sub = 6 then u32 (funcPixels s.arr.map (idx - 0x2010))
    else if 0x2420 ≤ idx && idx ≤ 0x243F then v (paletteOf s (idx - 0x2420))
    else if 0x2810 ≤ idx && idx ≤ 0x281F && sub = 9 then u16 ((tableNow s).countP (fun e => e.func = idx - 0x2810))
    else if 0x2C10 ≤ idx && idx ≤ 0x2C13 && sub = 7 then v (cnt (nth s.tim.tp (idx - 0x2C10) {}).count)
    else if 0x2D30 ≤ idx && idx ≤ 0x2D33 then
      let r := limpRec s (idx - 0x2D30 + 1)
      match sub with
      | 1 => v r
      | 2 => u8 (limpState s (idx - 0x2D30 + 1))
      | _ => u16 (roundFree 18 (limpLight r : Nat) 3276800).toNat
    else if 0x2E10 ≤ idx && idx ≤ 0x2E1F && sub = 4 then u16 (tbFixed (idx - 0x2E10))
    else if 0x2E20 ≤ idx && idx ≤ 0x2E2F then
      match sub with
      | 1 => u8 (nth s.pw.doms (idx - 0x2E20) 0)
      | _ => v (cnt (nth s.pw.domFailures (idx - 0x2E20) 0))
    else v (s.obj idx sub)

/-! ## Measurement objects (R495, R496) -/

/-- The read-only subindices of a measurement object with their values now: those latched at the last result of a schedule,
else those of the moment. -/
def measVals (s : State) (idx : Nat) : List (Nat × List Byte) :=
  ((objPage idx).filter (fun r => decide (r.lo ≤ idx) && decide (idx ≤ r.hi) && r.acc = .ro && r.sub ≠ 0)).map (fun r =>
    (r.sub, match afind s.measVal (okey idx r.sub) with | some v => v | none => nth (measNow s idx) (r.sub - 1) []))

/-- The frozen copies of a path. -/
def frozenOf (s : State) (p : Path) : List (Nat × List (Nat × List Byte)) :=
  match p with | .can => s.dict.frozenCan | .ferry => s.dict.frozenFerry

/-- Sets the frozen copies of a path. -/
def setFrozen (p : Path) (l : List (Nat × List (Nat × List Byte))) (s : State) : State :=
  match p with
  | .can => { s with dict := { s.dict with frozenCan := l } }
  | .ferry => { s with dict := { s.dict with frozenFerry := l } }

/-- Subindex 0 of a measurement object: SEQ and READY (R495). -/
def seqWord (s : State) (idx : Nat) : Nat := match afind s.measSeq idx with | some n => n + 2147483648 | none => 0

/-- A new frozen copy of an object on a path, subindex 0 included; with READY 0 none is held. -/
def freeze (p : Path) (idx : Nat) (s : State) : State :=
  if (afind s.measSeq idx).isSome then
    setFrozen p (aput (frozenOf s p) idx ((0, leBytes 4 (seqWord s idx)) :: measVals s idx)) s
  else setFrozen p (adel (frozenOf s p) idx) s

/-- Every measurement object. -/
def measAll : List Nat :=
  [0x10, 0x20, 0x21, 0x22, 0x23, 0x24, 0x25, 0x26, 0x27, 0x28, 0x29, 0x2A, 0x2B, 0x2C, 0x2D, 0x2E, 0x2F, 0x30].flatMap (fun pg =>
    (objPage (256 * pg)).flatMap (fun r => if r.sub = 0 then (upTo (r.hi + 1 - r.lo)).map (fun i => r.lo + i) else []))

/-- A read of a measurement object's subindex on a path: 0 freezes a copy, the others return what is frozen (R495). -/
def measRead (p : Path) (idx sub : Nat) (s : State) : Nat × List Byte × State :=
  if sub = 0 then
    let s := freeze p idx s
    (0, leBytes 4 (seqWord s idx), s)
  else if (afind s.measSeq idx).isNone then (abNoData, [], s)
  else
    let s := if (afind (frozenOf s p) idx).isSome then s else freeze p idx s
    match afind (frozenOf s p) idx with
    | some l => (0, alook l sub [], s)
    | none => (abNoData, [], s)

/-- The handler of comm.snapshot: every measurement object is frozen at one instant (R496). -/
def snapshotH (p : Path) (_ : List Byte) (s : State) : Nat × State := (0, measAll.foldl (fun s i => freeze p i s) s)

/-! ## Reads (R491) -/

/-- A read over a path: the abort code or 0, the value, and the state after it. -/
def readObj (p : Path) (idx sub : Nat) (s : State) : Nat × List Byte × State :=
  match objFind idx sub with
  | none => (if objIndex idx then abNoSub else abNoObject, [], s)
  | some r =>
    if r.acc = .wo then (abWriteOnly, [], s)
    else if r.acc = .rwf && !s.saf.factory then (abFactory, [], s)
    else if isMeas idx && r.acc = .ro then
      if blockOn s (servedBy idx) then measRead p idx sub s
      else (abPower, [], busError (okey idx sub) false s)
    else if idx = 0x1020 && sub = 1 then
      let (c, s) := challengeRead p s
      (c, match (sess s p).challenge with | some (b, _) => (if c = 0 then b else []) | none => [], s)
    else
      let (c, v) := readNow s idx sub
      (c, v, s)

/-! ## Writes that do more than store -/

/-- The handler of tb.run, tb.sleep and tb.deep of block b: a fixed bit stays set (R426). -/
def tbSetH (b sub : Nat) (data : List Byte) (s : State) : Nat × State :=
  let r := tbRow b
  let fix := match sub with | 1 => r.2.2.2.1 | 2 => r.2.2.2.2.1 | _ => r.2.2.2.2.2
  if (upTo 13).any (fun n => bitOf fix n && !bitOf (leNat data) n) then (abRange, s) else storeH (0x2E10 + b) sub data s

/-- The handler of comm.can_mode: silent closes the transfer on CAN (R478, R490). -/
def canModeH (data : List Byte) (s : State) : Nat × State :=
  let s := s.setObj 0x1010 5 data
  (0, if leNat data = 1 then { s with dict := { s.dict with xferCan := none } } else s)

/-- The handler of pstore.signature (R465). -/
def signatureH (data : List Byte) (s : State) : Nat × State := (0, { s with mg := { s.mg with psSig := data } })

/-- The handler of function.maskable, function.shed_order and function.min_flux: refused for function 0 (R69). -/
def funcH (idx sub : Nat) (data : List Byte) (s : State) : Nat × State :=
  if idx = 0x2010 then (abRange, s) else storeH idx sub data s

/-- What a write of an object does once the checks of orders 1 to 9 have passed. -/
def handlerOf (p : Path) (idx sub : Nat) : List Byte → State → Nat × State :=
  match idx, sub with
  | 0x1010, 5 => canModeH
  | 0x1013, 1 => saveH
  | 0x1013, 2 => restoreH
  | 0x1013, 3 => snapshotH p
  | 0x1020, 2 => responseH p
  | 0x1020, 3 => sessionCloseH p
  | 0x1020, 6 => sessionKeyH
  | 0x2020, 1 => mapH
  | 0x2104, 3 => modeCommitH
  | 0x2400, 1 => cacheSizeH
  | 0x2410, 1 => configureH
  | 0x2410, 2 => slotCommandH
  | 0x2520, 1 => layerH
  | 0x2800, 8 => tableClearH
  | 0x2850, 1 => gainUpdateH
  | 0x2900, 2 => senseLimitH 2
  | 0x2900, 3 => senseLimitH 3
  | 0x2903, 1 => repEnableH
  | 0x2903, 5 => repClearH
  | 0x2A10, 1 => loopEnableH
  | 0x2B00, 1 => triggerSetH
  | 0x2C00, 4 => bEnableH
  | 0x2C00, 5 => timeStepH
  | 0x2D10, 3 => classH
  | 0x2D11, 1 => clearH p
  | 0x2D11, 2 => clearAllH p
  | 0x2D11, 3 => tollgateResetH
  | 0x2E00, 1 => powerH
  | 0x2F10, 8 => pinClearH
  | 0x2F20, 1 => updateH
  | 0x2F20, 2 => imageH
  | 0x2F30, 1 => signatureH
  | 0x2F30, 2 => pstoreCommitH
  | 0x2F38, n => keyH n
  | 0xF010, 1 => unlockH
  | 0xF010, 2 => injectH
  | 0xF010, 3 => injectClearH
  | _, _ =>
    if 0x2010 ≤ idx && idx ≤ 0x201F && 2 ≤ sub && sub ≤ 4 then funcH idx sub
    else if 0x2420 ≤ idx && idx ≤ 0x243F then paletteH (idx - 0x2420)
    else if 0x2B10 ≤ idx && idx ≤ 0x2B17 && sub = 1 then programH (idx - 0x2B10)
    else if 0x2B10 ≤ idx && idx ≤ 0x2B17 && sub = 2 then engCommandH (idx - 0x2B10)
    else if 0x2C10 ≤ idx && idx ≤ 0x2C13 && sub = 1 then tpModeH (idx - 0x2C10)
    else if 0x2C20 ≤ idx && idx ≤ 0x2C21 && sub = 4 then tcAckH (idx - 0x2C20)
    else if 0x2D30 ≤ idx && idx ≤ 0x2D33 then limpH (idx - 0x2D30 + 1)
    else if 0x2E10 ≤ idx && idx ≤ 0x2E1F then tbSetH (idx - 0x2E10) sub
    else storeH idx sub

/-- The object refuses a download in the present state whatever its bytes (order 10 at an initiation, R488). -/
def downState (s : State) (idx sub : Nat) : Bool :=
  match idx, sub with
  | 0x1020, 2 => s.nv.sessKey.isNone
  | 0x1020, 6 => sessKeyHeld s || s.saf.lenA || s.saf.lenB
  | 0x2F20, 2 => s.mg.updState ≠ 1
  | 0x2F38, n => slotHeld s n
  | _, _ =>
    if 0x2420 ≤ idx && idx ≤ 0x243F then
      s.surf.slots.any (fun k => decide (0 < k.pins) && (k.format = 4 || k.format = 5) && k.palette = idx - 0x2420)
    else if 0x2B10 ≤ idx && idx ≤ 0x2B17 && sub = 1 then
      (match (nth s.pat.eng (idx - 0x2B10) {}).st with | .idle | .stopped | .done => false | _ => true)
    else false

/-! ## Commands on objects -/

/-- COMM_SNAPSHOT: a write of comm.snapshot. -/
def execCommSnapshot (t : Nat) (p : Path) (v : Nat) (s : State) : Host.Outcome State Fault Refusal :=
  objWrite t p 0x1013 3 (leBytes 1 v) (snapshotH p) s

/-- MEASUREMENT_READ: a read of subindex 0 of a measurement object. -/
def execMeasurementRead (t : Nat) (p : Path) (idx : Nat) (s : State) : Host.Outcome State Fault Refusal :=
  act t (fun s =>
    if served s idx && isMeas idx then
      let r := readObj p idx 0 s
      answered (r.1, r.2.2)
    else s) s

end Sys2Proof.Machine
end

