-- ==== Sys2Proof/Machine/Dictionary.lean ====
section
/-!
DEFINITION. The dictionary server: messages, requests, transfers and customer objects (R455, R483 to R491).
-/

namespace Sys2Proof.Machine

/-! ## Messages (R483, R484) -/

/-- CMD. -/
def mCmd (m : List Byte) : Nat := leField m 0 1
/-- TAG. -/
def mTag (m : List Byte) : Nat := leField m 1 1
/-- INDEX. -/
def mIdx (m : List Byte) : Nat := leField m 2 2
/-- SUB. -/
def mSub (m : List Byte) : Nat := leField m 4 1
/-- FLAGS. -/
def mFlags (m : List Byte) : Nat := leField m 5 1
/-- LEN. -/
def mLen (m : List Byte) : Nat := leField m 6 2
/-- The data bytes. -/
def mData (m : List Byte) : List Byte := (m.drop 8).take (mLen m)

/-- A message. -/
def msgOf (cmd tag idx sub flags : Nat) (data : List Byte) : List Byte :=
  leBytes 1 cmd ++ leBytes 1 tag ++ leBytes 2 idx ++ leBytes 1 sub ++ leBytes 1 flags ++ leBytes 2 data.length ++ data

/-- The smallest FD data length of at least n bytes. -/
def fdLen (n : Nat) : Nat := ([8, 12, 16, 20, 24, 32, 48].find? (fun k => decide (n ≤ k))).getD 64

/-- L_req (Table 18.6). -/
def lReq (p : Path) : Nat := match p with | .can => 56 | .ferry => 16352

/-- L_resp (Table 18.6). -/
def lResp (p : Path) : Nat := match p with | .can => 56 | .ferry => 224

/-- A request at the server: its path, whether broadcast, the SEQ of its packet, its message. -/
structure Req where
  path : Path
  bcast : Bool
  seq : Nat
  msg : List Byte

/-- The length of the message agrees with LEN and no reserved flag is set (order 1 of Table 18.7). -/
def framed (q : Req) : Bool :=
  decide (8 ≤ q.msg.length) && mFlags q.msg / 4 == 0 && decide (mLen q.msg ≤ lReq q.path) &&
  (match q.path with
   | .can => q.msg.length == fdLen (8 + mLen q.msg)
   | .ferry => q.msg.length == 8 + mLen q.msg)

/-- A dictionary message leaves on CAN under the node number in force; an engine without one answers nothing here
(R479, R480). -/
def canAnswerSend (m : List Byte) (s : State) : State :=
  if nodeOf s = 0 then s else canSend (4 * 128 + nodeOf s) true (padTo (fdLen m.length) m) s

/-- A message that answers no request leaves on a path (R132, R490). -/
def tell (p : Path) (m : List Byte) (s : State) : State :=
  match p with
  | .can => canAnswerSend m s
  | .ferry => ownPacket 3 4 0 (dictPayload m) s

/-- A request is answered; on Ferry the answer is kept for a retry (R149, R156). -/
def reply (q : Req) (m : List Byte) (s : State) : State :=
  match q.path with
  | .can => canAnswerSend m s
  | .ferry => answerPacket 3 4 q.seq (dictPayload m) (rememberDone 4 q.seq (dictPayload m) s)

/-- A request is answered with an abort, or with the command of its success. -/
def replyCode (q : Req) (ok : Nat) (code : Nat) (s : State) : State :=
  let s := { s with dict := { s.dict with answer := code } }
  if code = 0 then reply q (msgOf ok (mTag q.msg) (mIdx q.msg) (mSub q.msg) 0 []) s
  else reply q (msgOf 0xFF (mTag q.msg) (mIdx q.msg) (mSub q.msg) 0 (leBytes 4 code)) s

/-- A request is answered with an abort. -/
def refuseReq (q : Req) (code : Nat) (s : State) : State := replyCode q 0xFF code s

/-! ## Transfers (R488 to R490) -/

/-- The transfer open on a path. -/
def xferOf (s : State) (p : Path) : Option Xfer := match p with | .can => s.dict.xferCan | .ferry => s.dict.xferFerry

/-- Sets the transfer of a path. -/
def setXfer (p : Path) (x : Option Xfer) (s : State) : State :=
  match p with
  | .can => { s with dict := { s.dict with xferCan := x } }
  | .ferry => { s with dict := { s.dict with xferFerry := x } }

/-- The answer to the previous SEGMENT of a path. -/
def lastOf (s : State) (p : Path) : Option SegAns := match p with | .can => s.dict.lastCan | .ferry => s.dict.lastFerry

/-- Sets it. -/
def setLast (p : Path) (x : Option SegAns) (s : State) : State :=
  match p with
  | .can => { s with dict := { s.dict with lastCan := x } }
  | .ferry => { s with dict := { s.dict with lastFerry := x } }

/-- A message for the open transfer of a path has come (R490). -/
def touchXfer (p : Path) (s : State) : State := setXfer p ((xferOf s p).map (fun x => { x with at_ := s.now })) s

/-- A transfer opens; one that is open is answered REPLACED (R490). -/
def openXfer (p : Path) (x : Xfer) (s : State) : State :=
  let s := match xferOf s p with
    | some y => tell p (msgOf 0xFF y.tag y.idx y.sub 0 (leBytes 4 abReplaced)) s
    | none => s
  setLast p none (setXfer p (some x) s)

/-- A customer object (R449). -/
def isCust (idx : Nat) : Bool := decide (0x5000 ≤ idx) && decide (idx ≤ 0x5FFF)

/-- The end of a transfer of a DOMAIN feeds the CRC units that snoop it (R459). -/
def domainDone (idx sub : Nat) (data : List Byte) (s : State) : State :=
  match objFind idx sub with
  | some r => (match r.ty with | .domain _ _ => snoopEnd 5 none (snoop 5 none data s) | _ => s)
  | none => s

/-- A whole value is written: the checks of Table 18.7, then its effect (R490, R491). -/
def writeNow (p : Path) (idx sub : Nat) (data : List Byte) (s : State) : Nat × State :=
  let r := wr p idx sub data (handlerOf p idx sub) s
  if r.1 = 0 then (0, domainDone idx sub data r.2) else r

/-- A segment's answer goes out and is kept for a repeat (R488). -/
def segReply (q : Req) (cmd flags : Nat) (data : List Byte) (final : Bool) (s : State) : State :=
  let m := msgOf cmd (mTag q.msg) (mIdx q.msg) (mSub q.msg) flags data
  reply q m (setLast q.path (some ⟨mTag q.msg, mIdx q.msg, mSub q.msg, final, m⟩)
    { s with dict := { s.dict with answer := 0 } })

/-! ## Customer objects (R449, R455) -/

/-- A request for a customer object goes to the mailbox, or is refused. -/
def custRequest (q : Req) (write : Bool) (data : List Byte) (ans : MbxAns) (s : State) : State :=
  if s.mg.custState ≠ 2 then refuseReq q abNotServed s
  else if 1024 < data.length then refuseReq q abLength s
  else
    linePurser 46 true { s with mg := { s.mg with
      mbxTag := (s.mg.mbxTag + 1) % 65536
      mbxLen := data.length
      mbxData := data ++ s.mg.mbxData.drop data.length
      mbx := some { tag := s.mg.mbxTag, idx := mIdx q.msg, sub := mSub q.msg, write := write, data := data, ans := ans
                    path := q.path, bcast := q.bcast, bulk := bitOf (mFlags q.msg) 1, reqTag := mTag q.msg, seq := q.seq, at_ := s.now } } }

/-! ## READ and WRITE (R486, R487) -/

/-- A value goes out: READ_OK, or UP_INIT of an upload, which captures it (R487 to R489). -/
def answerRead (q : Req) (v : List Byte) (s : State) : State :=
  if v.length ≤ lResp q.path then
    reply q (msgOf 0x81 (mTag q.msg) (mIdx q.msg) (mSub q.msg) 0 v)
      (domainDone (mIdx q.msg) (mSub q.msg) v { s with dict := { s.dict with answer := 0 } })
  else if q.bcast then refuseReq q abBroadcast s
  else if prepared s .dictServer then refuseReq q abState s
  else
    let bulk := q.path = .can && bitOf (mFlags q.msg) 1
    let crc := crcOf crcIeee v
    let x : Xfer := { idx := mIdx q.msg, sub := mSub q.msg, upload := true, bulk := bulk, size := v.length, crc := crc, data := v
                      seg := 0, blk := 0, got := [], tag := mTag q.msg, at_ := s.now }
    reply q (msgOf 0x83 (mTag q.msg) (mIdx q.msg) (mSub q.msg) 0
        (leBytes 4 v.length ++ leBytes 1 (b2n bulk) ++ if bulk then leBytes 4 crc else []))
      (openXfer q.path x { s with dict := { s.dict with answer := 0 } })

/-- READ. -/
def doRead (q : Req) (s : State) : State :=
  if mLen q.msg ≠ 0 then refuseReq q abUnknown s
  else if isCust (mIdx q.msg) then custRequest q false [] .readOk s
  else
    let r := readObj q.path (mIdx q.msg) (mSub q.msg) s
    if r.1 = 0 then answerRead q r.2.1 r.2.2 else refuseReq q r.1 r.2.2

/-- WRITE. -/
def doWrite (q : Req) (s : State) : State :=
  if isCust (mIdx q.msg) then custRequest q true (mData q.msg) .writeOk s
  else
    let r := writeNow q.path (mIdx q.msg) (mSub q.msg) (mData q.msg) s
    replyCode q 0x82 r.1 r.2

/-! ## DOWN_INIT, SEGMENT, ABORT (R488, R490) -/

/-- The checks of Table 18.7 that need no data, at an initiation (R488), and that of a PREPARED server (R432). -/
def initCode (q : Req) (size : Nat) (s : State) : Nat :=
  let idx := mIdx q.msg
  let sub := mSub q.msg
  let late := if prepared s .dictServer then abState else 0
  if isCust idx then (if s.mg.custState ≠ 2 then abNotServed else if 1024 < size then abLength else late)
  else match wrCheck s q.path idx sub with
    | some c => c
    | none =>
      match objFind idx sub with
      | none => abNoObject
      | some r => if !lenOk r.ty size then lenAbort idx else if downState s idx sub then abState else late

/-- DOWN_INIT. -/
def doInit (q : Req) (s : State) : State :=
  let d := mData q.msg
  let mode := leField d 4 1
  if q.bcast then refuseReq q abBroadcast s
  else if !((d.length = 5 && mode = 0) || (d.length = 9 && mode = 1)) then refuseReq q abUnknown s
  else
    let c := initCode q (leField d 0 4) s
    if c ≠ 0 then refuseReq q c (if c = abPower then busError (okey (mIdx q.msg) (mSub q.msg)) true s else s)
    else
      let bulk := q.path = .can && mode = 1
      let blk := 1 + Config.blkSize s.free % 127
      let x : Xfer := { idx := mIdx q.msg, sub := mSub q.msg, upload := false, bulk := bulk, size := leField d 0 4
                        crc := leField d 5 4, data := [], seg := 0, blk := blk, got := [], tag := mTag q.msg, at_ := s.now }
      reply q (msgOf 0x84 (mTag q.msg) (mIdx q.msg) (mSub q.msg) 0 (leBytes 1 (b2n bulk) ++ if bulk then leBytes 1 blk else []))
        (openXfer q.path x { s with dict := { s.dict with answer := 0 } }).tickFree

/-- The next segment of a download. -/
def segDown (q : Req) (x : Xfer) (s : State) : State :=
  let d := mData q.msg
  let fin := bitOf (mFlags q.msg) 0
  let all := x.data ++ d
  if (!fin && d.length ≠ lReq q.path) || x.size < all.length || (fin && all.length ≠ x.size) then
    refuseReq q abLength (setLast q.path none (setXfer q.path none s))
  else if !fin then
    segReply q 0x86 0 [] false (setXfer q.path (some { x with data := all, seg := x.seg + 1, at_ := s.now }) s)
  else
    let s := setXfer q.path none s
    if isCust x.idx then custRequest q true all .segAck s
    else
      let r := writeNow q.path x.idx x.sub all s
      if r.1 = 0 then segReply q 0x86 0 [] true r.2 else refuseReq q r.1 (setLast q.path none r.2)

/-- The next segment of an upload. -/
def segUp (q : Req) (x : Xfer) (s : State) : State :=
  let l := lResp q.path
  let fin := decide (x.size ≤ l * (x.seg + 1))
  let s := if fin then domainDone x.idx x.sub x.data (setXfer q.path none s)
    else setXfer q.path (some { x with seg := x.seg + 1, at_ := s.now }) s
  segReply q 0x85 (b2n fin) ((x.data.drop (l * x.seg)).take l) fin s

/-- SEGMENT: a repeat is answered again, another TAG than the next closes the transfer. -/
def doSegment (q : Req) (s : State) : State :=
  let again := (lastOf s q.path).filter (fun a => a.tag == mTag q.msg && a.idx == mIdx q.msg && a.sub == mSub q.msg &&
    (a.final || (xferOf s q.path).isSome))
  if q.bcast then refuseReq q abBroadcast s
  else match again, xferOf s q.path with
    | some a, _ => reply q a.msg (touchXfer q.path s)
    | none, none => refuseReq q abNoTransfer s
    | none, some x =>
      if x.idx ≠ mIdx q.msg || x.sub ≠ mSub q.msg || x.bulk then refuseReq q abNoTransfer s
      else if mTag q.msg ≠ x.seg % 256 then refuseReq q abSequence (setLast q.path none (setXfer q.path none s))
      else if !x.upload then segDown q x s
      else if mLen q.msg ≠ 0 then refuseReq q abUnknown s
      else segUp q x s

/-- ABORT of the host: the open transfer closes without an answer. -/
def doAbort (q : Req) (s : State) : State := if q.bcast then s else setLast q.path none (setXfer q.path none s)

/-! ## Bulk transfers (R489) -/

/-- Bulk frames of a value. -/
def bulkFrames (n : Nat) : Nat := (n + 62) / 63

/-- The engine sends n bulk frames of an upload from frame `base` on. -/
def bulkSend (x : Xfer) (base n : Nat) (s : State) : State :=
  (upTo n).foldl (fun s i =>
    canSend (5 * 128 + nodeOf s) true
      (leBytes 1 (i + 1 + (if base + i + 1 = bulkFrames x.size then 128 else 0)) ++ padTo 63 (x.data.drop (63 * (base + i)))) s) s

/-- BULK_ACK of the host: the next block of an upload, or its end. -/
def doBulkAck (q : Req) (s : State) : State :=
  let d := mData q.msg
  let n := leField d 1 1
  if q.bcast then refuseReq q abBroadcast s
  else match xferOf s q.path with
    | none => refuseReq q abNoTransfer s
    | some x =>
      let base := x.seg + min (leField d 0 1) x.blk
      if x.idx ≠ mIdx q.msg || x.sub ≠ mSub q.msg || !x.bulk || !x.upload then refuseReq q abNoTransfer s
      else if d.length ≠ 2 then refuseReq q abUnknown s
      else if x.blk ≠ 0 && bulkFrames x.size ≤ base then domainDone x.idx x.sub x.data (setXfer q.path none s)
      else if n = 0 || 127 < n then refuseReq q abRange s
      else
        let k := min n (bulkFrames x.size - base)
        bulkSend x base k (setXfer q.path (some { x with seg := base, blk := k, at_ := s.now }) s)

/-- ACKSEQ: the highest SEQ received with every lower SEQ of the block. -/
def ackSeq (got : List (Nat × Bool × List Byte)) : Nat :=
  (upTo 127).foldl (fun n i => if n = i && got.any (fun g => g.1 == i + 1) then i + 1 else n) 0

/-- The initiation of a transfer as a request, for the answers at its end. -/
def xferReq (x : Xfer) : Req := ⟨.can, false, 0, msgOf 3 x.tag x.idx x.sub 0 []⟩

/-- A block of a bulk download is acknowledged; with its LAST frame the value is checked and written. -/
def bulkBlock (x : Xfer) (s : State) : State :=
  let n := ackSeq x.got
  let part := (upTo n).flatMap (fun i => match x.got.find? (fun g => g.1 == i + 1) with | some g => g.2.2 | none => [])
  let fin := x.got.any (fun g => decide (g.1 ≤ n) && g.2.1)
  let y := { x with data := x.data ++ part, seg := x.seg + n, got := [] }
  let q := xferReq x
  let s := tell .can (msgOf 0x87 x.tag x.idx x.sub 0 (leBytes 1 n ++ leBytes 1 x.blk)) (setXfer .can (some y) s)
  if !fin then s
  else
    let s := setXfer .can none s
    let v := y.data.take x.size
    if bulkFrames x.size ≠ y.seg then refuseReq q abLength s
    else if crcOf crcIeee v ≠ x.crc then refuseReq q abCrc s
    else if isCust x.idx then custRequest q true v .writeOk s
    else
      let r := writeNow .can x.idx x.sub v s
      replyCode q 0x82 r.1 r.2

/-- BULK_SEGMENT: a frame of a bulk download. -/
def execBulkSegment (t : Nat) (f : CanFrame) (s : State) : Host.Outcome State Fault Refusal :=
  act t (fun s =>
    if canHears s f && f.fd && canFunc f == 5 && nodeOf s ≠ 0 && canNode f == nodeOf s && decide (f.data.length = 64) then
      let s := rxCount s
      match s.dict.xferCan with
      | some x =>
        let n := canField f 0 1 % 128
        if !x.bulk || x.upload || n = 0 || x.blk < n then s
        else
          let fin := decide (128 ≤ canField f 0 1)
          let y := { x with got := x.got ++ [(n, fin, f.data.drop 1)], at_ := s.now }
          if n = x.blk || fin || y.got.length = x.blk then bulkBlock y s else setXfer .can (some y) s
      | none => s
    else s) s

/-- BULK_ACK_TIMEOUT: 10 ms after the latest frame of an incomplete block (log 176). -/
def execBulkAckTimeout (t : Nat) (s : State) : Host.Outcome State Fault Refusal :=
  act t (fun s =>
    match s.dict.xferCan with
    | some x => if x.bulk && !x.upload && !x.got.isEmpty && spanOver s x.at_ 10000000000 then bulkBlock x s else s
    | none => s) s

/-- TRANSFER_TIMEOUT: no message for it within comm.transfer_timeout (R490; log 176). -/
def execTransferTimeout (t : Nat) (p : Path) (s : State) : Host.Outcome State Fault Refusal :=
  act t (fun s =>
    match xferOf s p with
    | some x =>
      if spanOver s x.at_ (s.objN 0x1010 7 * 1000000000) then
        tell p (msgOf 0xFF x.tag x.idx x.sub 0 (leBytes 4 abTimeout)) (setLast p none (setXfer p none s))
      else s
    | none => s) s

/-! ## The server (R485, R486) -/

/-- A request is executed. -/
def handle (q : Req) (s : State) : State :=
  if !framed q then (if mCmd q.msg = 5 then s else refuseReq q abUnknown s)
  else match mCmd q.msg with
    | 1 => doRead q s
    | 2 => doWrite q s
    | 3 => doInit q s
    | 4 => doSegment q s
    | 5 => doAbort q s
    | 7 => doBulkAck q s
    | _ => refuseReq q abUnknown s

/-- The object of a message is served over its path (R467, R507). -/
def servedMsg (s : State) (p : Path) (m : List Byte) : Bool := servedAt s p (mIdx m) (mSub m)

/-- A customer-object request waits for its answer: requests are executed one at a time (R485). -/
def serverBusy (s : State) : Bool := s.mg.mbx.isSome

/-- A request that waits over Ferry can be executed: nothing is under execution, its object is served, and its answer can be
sent, which an ABORT needs none of (R432, R485). -/
def ferryRuns (s : State) (m : List Byte) : Bool :=
  !serverBusy s && servedMsg s .ferry m && (mCmd m == 5 || !prepared s (.block 1))

/-- The request at the head of the Ferry queue is executed, not while Ferry transmit is PREPARED (R432); an ABORT needs no
answer and is remembered without one (R139, R156). -/
def ferryRequest (bcast : Bool) (m : List Byte) (s : State) : State :=
  match s.dict.queue with
  | (seq, b, m') :: rest =>
    if b ≠ bcast || m' ≠ m || !ferryRuns s m then s
    else
      let s := { s with dict := { s.dict with queue := rest, canQueue := s.dict.canQueue.map (fun q => (q.1 - 1, q.2)) } }
      serving (mCmd m != 5) (handle ⟨.ferry, bcast, seq, m⟩) (if mCmd m = 5 then rememberDone 4 seq [] s else s)
  | [] => s

/-- A message that commands the slots: a WRITE of slot.configure or slot.command, or the SEGMENT that ends a download to one
(R176). -/
def slotMsg (s : State) (m : List Byte) : Bool :=
  mIdx m == 0x2410 && (mSub m == 1 || mSub m == 2) &&
  (mCmd m == 2 || (mCmd m == 4 && bitOf (mFlags m) 0 && s.dict.xferFerry.any (fun x => !x.upload)))

/-- Requests that wait over Ferry are executed, the oldest first, as far as they can be (R485). -/
def drainFerry : Nat → State → State
  | 0, s => s
  | k + 1, s =>
    match s.dict.queue with
    | (_, b, m) :: _ => drainFerry k (ferryRequest b m s)
    | [] => s

/-- A request over CAN is executed after those that wait over Ferry, or queued behind them where one is under execution or
cannot run yet, or dropped from a full queue (R485; log 143). -/
def canRequest (bcast : Bool) (m : List Byte) (s : State) : State :=
  if !canListens s || nodeOf s = 0 || !servedMsg s .can m then s
  else
    let s := drainFerry 5 (linePurser 47 true (rxCount s))
    if serverBusy s || !s.dict.canQueue.isEmpty then
      if s.dict.canQueue.length < 4 then
        { s with dict := { s.dict with canQueue := s.dict.canQueue ++ [(s.dict.queue.length, bcast, m)] } }
      else { s with can := { s.can with busyDrops := s.can.busyDrops + 1 } }
    else handle ⟨.can, bcast, 0, m⟩ s

/-- A slot command takes effect in stream order with SURF packets (R176): what waits before it is executed, and it with it;
behind a request that cannot end yet it goes first (DESIGN CHOICE, log 166). -/
def slotInOrder (k : Packet) (msg : List Byte) (s : State) : State :=
  let s := drainFerry 5 s
  if s.dict.queue.any (fun q => q.1 == kSeq k) && servedMsg s .ferry msg then
    serving true (handle ⟨.ferry, kAddr k == 63, kSeq k, msg⟩)
      { s with dict := { s.dict with queue := s.dict.queue.filter (fun q => q.1 ≠ kSeq k) } }
  else s

/-- DICT_REQUEST: a message for the dictionary server's Ferry queue (R149, R485). Bytes after the message that are not 0
make the packet malformed: DESIGN CHOICE, log 162. -/
def execDictRequest (t : Nat) (k : Packet) (s : State) : Host.Outcome State Fault Refusal :=
  act t (fun s =>
    let n := kF k 2 2
    let bad := kF k 0 1 ≠ 1 || kF k 1 1 ≠ 0 || !kZero k 4 4 || decide (k.payload.length < 8 + n) ||
      !kZero k (8 + n) k.payload.length
    let msg := (k.payload.drop 8).take n
    if kTy k ≠ 4 then s
    else consume k bad (kF k 8 1 = 0x05) (decide (4 ≤ s.dict.queue.length))
      (fun s =>
        let s := took { s with dict := { s.dict with queue := s.dict.queue ++ [(kSeq k, kAddr k == 63, msg)] } }
        yieldBack (if slotMsg s msg then slotInOrder k msg s else s)) s) s

/-- A request over a path, of one of the commands of a row. -/
def request (mine : Bool) (p : Path) (bcast : Bool) (m : List Byte) (s : State) : State :=
  if !mine then s else yieldBack (match p with | .can => canRequest bcast m s | .ferry => ferryRequest bcast m s)

/-- READ, and a message whose CMD no command has. -/
def execRead (t : Nat) (p : Path) (bcast : Bool) (m : List Byte) (s : State) : Host.Outcome State Fault Refusal :=
  act t (request (!([2, 3, 4, 5, 7].contains (mCmd m))) p bcast m) s

/-- WRITE. -/
def execWrite (t : Nat) (p : Path) (bcast : Bool) (m : List Byte) (s : State) : Host.Outcome State Fault Refusal :=
  act t (request (mCmd m == 2) p bcast m) s

/-- DOWN_INIT. -/
def execDownInit (t : Nat) (p : Path) (bcast : Bool) (m : List Byte) (s : State) : Host.Outcome State Fault Refusal :=
  act t (request (mCmd m == 3) p bcast m) s

/-- SEGMENT. -/
def execSegment (t : Nat) (p : Path) (bcast : Bool) (m : List Byte) (s : State) : Host.Outcome State Fault Refusal :=
  act t (request (mCmd m == 4) p bcast m) s

/-- ABORT. -/
def execAbort (t : Nat) (p : Path) (bcast : Bool) (m : List Byte) (s : State) : Host.Outcome State Fault Refusal :=
  act t (request (mCmd m == 5) p bcast m) s

/-- BULK_ACK. -/
def execBulkAck (t : Nat) (p : Path) (bcast : Bool) (m : List Byte) (s : State) : Host.Outcome State Fault Refusal :=
  act t (request (mCmd m == 7) p bcast m) s

/-! ## The end of a customer-object request (R449, R455) -/

/-- Requests that waited over CAN are executed, each after those over Ferry that came before it and can run, up to the next
customer-object request (R485; log 143). -/
def drain : Nat → State → State
  | 0, s => s
  | k + 1, s =>
    match s.dict.canQueue with
    | (n, b, m) :: rest =>
      let now := handle ⟨.can, b, 0, m⟩ { s with dict := { s.dict with canQueue := rest } }
      if serverBusy s then s
      else match s.dict.queue with
        | (_, fb, fm) :: _ => drain k (if 0 < n && ferryRuns s fm then ferryRequest fb fm s else now)
        | [] => drain k now
    | [] => s

/-- A customer-object request ends with an abort code or 0 and is answered. -/
def mbxEnd (m : MbxReq) (code : Nat) (data : List Byte) (s : State) : State :=
  let s := linePurser 46 false { s with mg := { s.mg with mbx := none }, serving := m.path == .ferry }
  let q : Req := ⟨m.path, m.bcast, m.seq, msgOf (if m.write then 2 else 1) m.reqTag m.idx m.sub (if m.bulk then 2 else 0) []⟩
  let s := match m.ans with
    | .none => { s with dict := { s.dict with answer := code } }
    | .readOk => if code = 0 then answerRead q (data.take 1024) s else refuseReq q code s
    | .writeOk => replyCode q 0x82 code s
    | .segAck => if code = 0 then segReply q 0x86 0 [] true s else refuseReq q code s
  drain 9 { s with serving := false }

/-- MAILBOX_TIMEOUT: not completed within 100 ms (R455; log 176). -/
def execMailboxTimeout (t : Nat) (s : State) : Host.Outcome State Fault Refusal :=
  act t (fun s => 
    match s.mg.mbx with
    | some m => if spanOver s m.at_ 100000000000 then mbxEnd m abTimeout [] s else s
    | none => s) s

/-- MBX_LEN and MBX_DATA as the customer image leaves them with its response (R455). -/
def mbxFill (data : List Byte) (s : State) : State :=
  let d := data.take 1024
  { s with mg := { s.mg with mbxLen := data.length % 65536, mbxData := d ++ s.mg.mbxData.drop d.length } }

/-- OBJECT_DONE: the customer image completes the request with that tag; a late one is ignored. -/
def execObjectDone (t : Nat) (tag code : Nat) (data : List Byte) (s : State) : Host.Outcome State Fault Refusal :=
  act t (fun s =>
    match s.mg.mbx with
    | some m => if s.mg.custState = 2 && m.tag = tag % 65536 then mbxEnd m (code % 2 ^ 32) data (mbxFill data s) else s
    | none => s) s

/-- OBJECT_WRITE: a write of any object by its index and subindex (R492). -/
def execObjectWrite (t : Nat) (p : Path) (idx sub : Nat) (data : List Byte) (s : State) : Host.Outcome State Fault Refusal :=
  act t (fun s =>
    if !servedAt s p idx sub then s
    else if isCust idx then
      if s.mg.custState ≠ 2 then answered (abNotServed, s)
      else if 1024 < data.length then answered (abLength, s)
      else if serverBusy s then s
      else custRequest ⟨p, false, 0, msgOf 2 0 idx sub 0 []⟩ true data .none s
    else answered (writeNow p idx sub data s)) s

end Sys2Proof.Machine
end

