-- ==== Sys2Proof/Machine/Dispatch.lean ====
section
/-!
DEFINITION. One arm per command, each one direct call of its meaning.
-/

namespace Sys2Proof.Machine

def exec (i : Instr) (s : State) : Host.Outcome State Fault Refusal :=
  match i with
  | .signalDetect t => Sys2Proof.Machine.execSignalDetect t s
  | .blockLock t lane => Sys2Proof.Machine.execBlockLock t lane s
  | .blockLockLoss t lane bad => Sys2Proof.Machine.execBlockLockLoss t lane bad s
  | .ts1 t blks skew n => Sys2Proof.Machine.execTs1 t blks skew n s
  | .ts2 t blks n => Sys2Proof.Machine.execTs2 t blks n s
  | .ts3 t blks => Sys2Proof.Machine.execTs3 t blks s
  | .ts4 t blks n => Sys2Proof.Machine.execTs4 t blks n s
  | .adaptationComplete t ctle dfe eye skew => Sys2Proof.Machine.execAdaptationComplete t ctle dfe eye skew s
  | .trainingTimeout t => Sys2Proof.Machine.execTrainingTimeout t s
  | .electricalIdleEnd t => Sys2Proof.Machine.execElectricalIdleEnd t s
  | .syncSlots t blks n => Sys2Proof.Machine.execSync t blks n s
  | .fl0Entry t delay => Sys2Proof.Machine.execFl0Entry t delay s
  | .align t blks skew c => Sys2Proof.Machine.execAlign t blks skew c s
  | .ei1 t blks n => Sys2Proof.Machine.execEi1 t blks n s
  | .ei2 t blks n => Sys2Proof.Machine.execEi2 t blks n s
  | .linkDown t => Sys2Proof.Machine.execLinkDown t s
  | .noSignalTimeout t => Sys2Proof.Machine.execNoSignalTimeout t s
  | .fastRetrainComplete t delay => Sys2Proof.Machine.execFastRetrainComplete t delay s
  | .fastRetrainFailed t => Sys2Proof.Machine.execFastRetrainFailed t s
  | .packetHeader t k badBlock bad => Sys2Proof.Machine.execPacketHeader t k badBlock bad s
  | .huntConfirm t hdr => Sys2Proof.Machine.execHuntConfirm t hdr s
  | .surf t k ecc => Sys2Proof.Machine.execSurf t k ecc s
  | .probePacket t k ecc => Sys2Proof.Machine.execProbePacket t k ecc s
  | .frameWrite t k => Sys2Proof.Machine.execFrameWrite t k s
  | .frameCommit t k => Sys2Proof.Machine.execFrameCommit t k s
  | .frameWriteCommit t k => Sys2Proof.Machine.execFrameWriteCommit t k s
  | .frameDiscard t k => Sys2Proof.Machine.execFrameDiscard t k s
  | .dictRequest t k => Sys2Proof.Machine.execDictRequest t k s
  | .timePacket t k => Sys2Proof.Machine.execTimePacket t k s
  | .enum t k => Sys2Proof.Machine.execEnum t k s
  | .echo t k => Sys2Proof.Machine.execEcho t k s
  | .statusReq t k => Sys2Proof.Machine.execStatusReq t k s
  | .ownPacketInsert t units => Sys2Proof.Machine.execOwnPacketInsert t units s
  | .statusPeriod t => Sys2Proof.Machine.execStatusPeriod t s
  | .slotConfigure t p data => Sys2Proof.Machine.execSlotConfigure t p data s
  | .slotReady t p v => Sys2Proof.Machine.execSlotReady t p v s
  | .slotRelease t p v => Sys2Proof.Machine.execSlotRelease t p v s
  | .slotCheckEnd t n ecc => Sys2Proof.Machine.execSlotCheckEnd t n ecc s
  | .scrub t word errors => Sys2Proof.Machine.execScrub t word errors s
  | .cacheSizeWrite t p v => Sys2Proof.Machine.execCacheSizeWrite t p v s
  | .paletteWrite t p n data => Sys2Proof.Machine.execPaletteWrite t p n data s
  | .modeCommit t p v => Sys2Proof.Machine.execModeCommit t p v s
  | .retimingEnd t => Sys2Proof.Machine.execRetimingEnd t s
  | .gateWindowOpen t k at_ ecc => Sys2Proof.Machine.execGateWindowOpen t k at_ ecc s
  | .gateWindowClose t => Sys2Proof.Machine.execGateWindowClose t s
  | .frameLaunch t => Sys2Proof.Machine.execFrameLaunch t s
  | .gateLaunch t => Sys2Proof.Machine.execGateLaunch t s
  | .rampTail t => Sys2Proof.Machine.execRampTail t s
  | .offwinStart t w => Sys2Proof.Machine.execOffwinStart t w s
  | .offwinEnd t w => Sys2Proof.Machine.execOffwinEnd t w s
  | .probeSlotStart t q => Sys2Proof.Machine.execProbeSlotStart t q s
  | .probeSlotEnd t q => Sys2Proof.Machine.execProbeSlotEnd t q s
  | .probePause t q => Sys2Proof.Machine.execProbePause t q s
  | .calibrationClaim t => Sys2Proof.Machine.execCalibrationClaim t s
  | .compositionStart t => Sys2Proof.Machine.execCompositionStart t s
  | .composeRow t south ecc bankErr => Sys2Proof.Machine.execComposeRow t south ecc bankErr s
  | .protectedLayerWrite t p data => Sys2Proof.Machine.execProtectedLayerWrite t p data s
  | .maskSet t k => Sys2Proof.Machine.execMaskSet t k s
  | .maskRenew t k => Sys2Proof.Machine.execMaskRenew t k s
  | .maskExpiry t => Sys2Proof.Machine.execMaskExpiry t s
  | .quayRowCorrect t south => Sys2Proof.Machine.execQuayRowCorrect t south s
  | .rowUnderrun t south x => Sys2Proof.Machine.execRowUnderrun t south x s
  | .rowSend t south => Sys2Proof.Machine.execRowSend t south s
  | .senseWindowDone t px py kind cut rail vf cur => Sys2Proof.Machine.execSenseWindowDone t px py kind cut rail vf cur s
  | .forcedPulse t d => Sys2Proof.Machine.execForcedPulse t d s
  | .stuckScreen t d sum windows => Sys2Proof.Machine.execStuckScreen t d sum windows s
  | .sweepEnd t => Sys2Proof.Machine.execSweepEnd t s
  | .diagTableClear t p v => Sys2Proof.Machine.execDiagTableClear t p v s
  | .gainUpdate t p data => Sys2Proof.Machine.execGainUpdate t p data s
  | .refCurrent t d iHi => Sys2Proof.Machine.execRefCurrent t d iHi s
  | .senseCalibration t d offset gain inRange => Sys2Proof.Machine.execSenseCalibration t d offset gain inRange s
  | .storeCheck t => Sys2Proof.Machine.execStoreCheck t s
  | .rextMonitor t ohms => Sys2Proof.Machine.execRextMonitor t ohms s
  | .calibrationNoGap t k => Sys2Proof.Machine.execCalibrationNoGap t k s
  | .lightDark t offsets => Sys2Proof.Machine.execLightDark t offsets s
  | .tempMap t => Sys2Proof.Machine.execTempMap t s
  | .controlSample t v cur => Sys2Proof.Machine.execControlSample t v cur s
  | .levelStep t => Sys2Proof.Machine.execLevelStep t s
  | .phaseSwitch t ph cur => Sys2Proof.Machine.execPhaseSwitch t ph cur s
  | .freeRunning t => Sys2Proof.Machine.execFreeRunning t s
  | .freeRunSwitch t v => Sys2Proof.Machine.execFreeRunSwitch t v s
  | .vledOvervoltage t v => Sys2Proof.Machine.execVledOvervoltage t v s
  | .overvoltageRestart t v => Sys2Proof.Machine.execOvervoltageRestart t v s
  | .vledUndervoltage t v => Sys2Proof.Machine.execVledUndervoltage t v s
  | .senseFault t ph => Sys2Proof.Machine.execSenseFault t ph s
  | .senseRetry t ph => Sys2Proof.Machine.execSenseRetry t ph s
  | .phaseImbalance t ph => Sys2Proof.Machine.execPhaseImbalance t ph s
  | .repClear t p v => Sys2Proof.Machine.execRepClear t p v s
  | .thermalSample t diode ntcUv ctl => Sys2Proof.Machine.execThermalSample t diode ntcUv ctl s
  | .thermalLevelChange t => Sys2Proof.Machine.execThermalLevelChange t s
  | .throttleStepDown t => Sys2Proof.Machine.execThrottleStepDown t s
  | .throttleStepUp t => Sys2Proof.Machine.execThrottleStepUp t s
  | .coldStartEnd t ntc => Sys2Proof.Machine.execColdStartEnd t ntc s
  | .managementRestart t => Sys2Proof.Machine.execManagementRestart t s
  | .colourLoop t blue broad => Sys2Proof.Machine.execColourLoop t blue broad s
  | .fluxFault t => Sys2Proof.Machine.execFluxFault t s
  | .colourFault t => Sys2Proof.Machine.execColourFault t s
  | .programWrite t p e data => Sys2Proof.Machine.execProgramWrite t p e data s
  | .arm t p e => Sys2Proof.Machine.execArm t p e s
  | .stop t p e => Sys2Proof.Machine.execStop t p e s
  | .trigger t p e => Sys2Proof.Machine.execTrigger t p e s
  | .triggerSet t p v => Sys2Proof.Machine.execTriggerSet t p v s
  | .timeTrigger t e => Sys2Proof.Machine.execTimeTrigger t e s
  | .peLoad t e addr len customer data => Sys2Proof.Machine.execPeLoad t e addr len customer data s
  | .canSync t f => Sys2Proof.Machine.execCanSync t f s
  | .canFollow t f => Sys2Proof.Machine.execCanFollow t f s
  | .domainLoss t d => Sys2Proof.Machine.execDomainLoss t d s
  | .domainReturn t => Sys2Proof.Machine.execDomainReturn t s
  | .timeStepWrite t p v => Sys2Proof.Machine.execTimeStepWrite t p v s
  | .tpModeWrite t p n v => Sys2Proof.Machine.execTpModeWrite t p n v s
  | .tpPulseStart t n => Sys2Proof.Machine.execTpPulseStart t n s
  | .tpPulseEnd t n => Sys2Proof.Machine.execTpPulseEnd t n s
  | .tcCapture t n falling width => Sys2Proof.Machine.execTcCapture t n falling width s
  | .tcAck t p n v => Sys2Proof.Machine.execTcAck t p n v s
  | .blankingTimeout t => Sys2Proof.Machine.execBlankingTimeout t s
  | .limpLoadDone t => Sys2Proof.Machine.execLimpLoadDone t s
  | .tollgateClear t p v => Sys2Proof.Machine.execTollgateClear t p v s
  | .clearAll t p v => Sys2Proof.Machine.execClearAll t p v s
  | .resetArm t p => Sys2Proof.Machine.execResetArm t p s
  | .resetConfirm t p => Sys2Proof.Machine.execResetConfirm t p s
  | .sresetRise t => Sys2Proof.Machine.execSresetRise t s
  | .sresetRequest t => Sys2Proof.Machine.execSresetRequest t s
  | .sresetJam t => Sys2Proof.Machine.execSresetJam t s
  | .sresetArm t => Sys2Proof.Machine.execSresetArm t s
  | .lenChange t channelB on => Sys2Proof.Machine.execLenChange t channelB on s
  | .discrepancyTimeout t => Sys2Proof.Machine.execDiscrepancyTimeout t s
  | .discFbChange t closed => Sys2Proof.Machine.execDiscFbChange t closed s
  | .discFbTimeout t => Sys2Proof.Machine.execDiscFbTimeout t s
  | .helmWatchdog t => Sys2Proof.Machine.execHelmWatchdog t s
  | .linkLossTimeout t => Sys2Proof.Machine.execLinkLossTimeout t s
  | .selfFault t => Sys2Proof.Machine.execSelfFault t s
  | .classWrite t p data => Sys2Proof.Machine.execClassWrite t p data s
  | .limpPatternWrite t p n data => Sys2Proof.Machine.execLimpPatternWrite t p n data s
  | .functionMapWrite t p data => Sys2Proof.Machine.execFunctionMapWrite t p data s
  | .factoryUnlock t p v => Sys2Proof.Machine.execFactoryUnlock t p v s
  | .factoryExit t p => Sys2Proof.Machine.execFactoryExit t p s
  | .factoryInject t p v => Sys2Proof.Machine.execFactoryInject t p v s
  | .factoryInjectClear t p v => Sys2Proof.Machine.execFactoryInjectClear t p v s
  | .powerUp t testen lenA lenB fbClosed => Sys2Proof.Machine.execPowerUp t testen lenA lenB fbClosed s
  | .rstnLow t => Sys2Proof.Machine.execRstnLow t s
  | .vaonLoss t => Sys2Proof.Machine.execVaonLoss t s
  | .bootStart t => Sys2Proof.Machine.execBootStart t s
  | .imageVerifyDone t ok version vccOk chk => Sys2Proof.Machine.execImageVerifyDone t ok version vccOk chk s
  | .commandStandby t p => Sys2Proof.Machine.execCommandStandby t p s
  | .commandQuiet t p => Sys2Proof.Machine.execCommandQuiet t p s
  | .commandReady t p vccOk => Sys2Proof.Machine.execCommandReady t p vccOk s
  | .commandLit t p vccOk => Sys2Proof.Machine.execCommandLit t p vccOk s
  | .prepareAnswer t b => Sys2Proof.Machine.execPrepareAnswer t b s
  | .prepareRetry t => Sys2Proof.Machine.execPrepareRetry t s
  | .ei2WaitTimeout t => Sys2Proof.Machine.execEi2WaitTimeout t s
  | .domainBoundMiss t dm => Sys2Proof.Machine.execDomainBoundMiss t dm s
  | .wakeEvent t w vccOk => Sys2Proof.Machine.execWakeEvent t w vccOk s
  | .exitComplete t => Sys2Proof.Machine.execExitComplete t s
  | .vccRecovered t => Sys2Proof.Machine.execVccRecovered t s
  | .vccLow t => Sys2Proof.Machine.execVccLow t s
  | .vccMonitorClear t => Sys2Proof.Machine.execVccMonitorClear t s
  | .railTrip t r => Sys2Proof.Machine.execRailTrip t r s
  | .railRecover t r => Sys2Proof.Machine.execRailRecover t r s
  | .keeperStarted t => Sys2Proof.Machine.execKeeperStarted t s
  | .keeperPeriodFault t => Sys2Proof.Machine.execKeeperPeriodFault t s
  | .keeperTimeout t => Sys2Proof.Machine.execKeeperTimeout t s
  | .monitorWindow t n noEdge => Sys2Proof.Machine.execMonitorWindow t n noEdge s
  | .forcedSwitch t tb toKeeper => Sys2Proof.Machine.execForcedSwitch t tb toKeeper s
  | .timebaseStopped t tb => Sys2Proof.Machine.execTimebaseStopped t tb s
  | .tapResetExit t cells => Sys2Proof.Machine.execTapResetExit t cells s
  | .claim t c cfg => Sys2Proof.Machine.execClaim t c cfg s
  | .complete t c id => Sys2Proof.Machine.execComplete t c id s
  | .moderationHoldoff t c id => Sys2Proof.Machine.execModerationHoldoff t c id s
  | .timerFire t c k => Sys2Proof.Machine.execTimerFire t c k s
  | .tnowRead t => Sys2Proof.Machine.execTnowRead t s
  | .mailboxTimeout t => Sys2Proof.Machine.execMailboxTimeout t s
  | .logAppend t code ctx => Sys2Proof.Machine.execLogAppend t code ctx s
  | .logWrite t => Sys2Proof.Machine.execLogWrite t s
  | .pinClear t p v => Sys2Proof.Machine.execPinClear t p v s
  | .purserWatchdogService t => Sys2Proof.Machine.execPurserWatchdogService t s
  | .purserWatchdogExpiry t => Sys2Proof.Machine.execPurserWatchdogExpiry t s
  | .customerTrap t addr => Sys2Proof.Machine.execCustomerTrap t addr s
  | .coreAccessFault t c a addr isWrite => Sys2Proof.Machine.execCoreAccessFault t c a addr isWrite s
  | .version t => Sys2Proof.Machine.execVersion t s
  | .attach t src addr => Sys2Proof.Machine.execAttach t src addr s
  | .yield t => Sys2Proof.Machine.execYield t s
  | .objectDone t tag code data => Sys2Proof.Machine.execObjectDone t tag code data s
  | .save t data => Sys2Proof.Machine.execSave t data s
  | .srSnap t => Sys2Proof.Machine.execSrSnap t s
  | .crcStart t u ctrl poly init xorout => Sys2Proof.Machine.execCrcStart t u ctrl poly init xorout s
  | .crcFinish t u => Sys2Proof.Machine.execCrcFinish t u s
  | .crcPreset t u n => Sys2Proof.Machine.execCrcPreset t u n s
  | .crcData t u value data => Sys2Proof.Machine.execCrcData t u value data s
  | .rinfoRead t u => Sys2Proof.Machine.execRinfoRead t u s
  | .mramProgramDone t readOk => Sys2Proof.Machine.execMramProgramDone t readOk s
  | .pstoreCommit t p v => Sys2Proof.Machine.execPstoreCommit t p v s
  | .pstoreVerifyDone t => Sys2Proof.Machine.execPstoreVerifyDone t s
  | .openFw t p => Sys2Proof.Machine.execOpenFw t p s
  | .openCustomer t p => Sys2Proof.Machine.execOpenCustomer t p s
  | .verify t p => Sys2Proof.Machine.execVerify t p s
  | .activate t p => Sys2Proof.Machine.execActivate t p s
  | .abortUpdate t p => Sys2Proof.Machine.execAbortUpdate t p s
  | .reboot t p => Sys2Proof.Machine.execReboot t p s
  | .updateImageWrite t p data => Sys2Proof.Machine.execUpdateImageWrite t p data s
  | .keyWrite t p slot data => Sys2Proof.Machine.execKeyWrite t p slot data s
  | .stateCommand t f vccOk => Sys2Proof.Machine.execStateCommand t f vccOk s
  | .read t p bcast msg => Sys2Proof.Machine.execRead t p bcast msg s
  | .write t p bcast msg => Sys2Proof.Machine.execWrite t p bcast msg s
  | .downInit t p bcast msg => Sys2Proof.Machine.execDownInit t p bcast msg s
  | .segment t p bcast msg => Sys2Proof.Machine.execSegment t p bcast msg s
  | .abortTransfer t p bcast msg => Sys2Proof.Machine.execAbort t p bcast msg s
  | .bulkAck t p bcast msg => Sys2Proof.Machine.execBulkAck t p bcast msg s
  | .bulkSegment t f => Sys2Proof.Machine.execBulkSegment t f s
  | .bulkAckTimeout t => Sys2Proof.Machine.execBulkAckTimeout t s
  | .transferTimeout t p => Sys2Proof.Machine.execTransferTimeout t p s
  | .identifyRange t f => Sys2Proof.Machine.execIdentifyRange t f s
  | .assign t f => Sys2Proof.Machine.execAssign t f s
  | .query t f => Sys2Proof.Machine.execQuery t f s
  | .nodeCollision t => Sys2Proof.Machine.execNodeCollision t s
  | .collisionClear t => Sys2Proof.Machine.execCollisionClear t s
  | .busOff t => Sys2Proof.Machine.execBusOff t s
  | .busOffRecovery t => Sys2Proof.Machine.execBusOffRecovery t s
  | .canJoin t => Sys2Proof.Machine.execCanJoin t s
  | .heartbeatMessage t => Sys2Proof.Machine.execHeartbeatMessage t s
  | .eventModeration t p code => Sys2Proof.Machine.execEventModeration t p code s
  | .summary t p => Sys2Proof.Machine.execSummary t p s
  | .commSave t p v => Sys2Proof.Machine.execCommSave t p v s
  | .commRestore t p v => Sys2Proof.Machine.execCommRestore t p v s
  | .commSnapshot t p v => Sys2Proof.Machine.execCommSnapshot t p v s
  | .measurementRead t p idx => Sys2Proof.Machine.execMeasurementRead t p idx s
  | .sessionChallenge t p => Sys2Proof.Machine.execSessionChallenge t p s
  | .sessionResponse t p data => Sys2Proof.Machine.execSessionResponse t p data s
  | .sessionClose t p v => Sys2Proof.Machine.execSessionClose t p v s
  | .sessionKey t p data => Sys2Proof.Machine.execSessionKey t p data s
  | .sessionTimeout t p => Sys2Proof.Machine.execSessionTimeout t p s
  | .lockoutEnd t p => Sys2Proof.Machine.execLockoutEnd t p s
  | .objectWrite t p idx sub data => Sys2Proof.Machine.execObjectWrite t p idx sub data s
  | .canStartOfFrame t bits c => Sys2Proof.Machine.execCanStartOfFrame t bits c s
  | .ferryRx t ctle dfe eye change => Sys2Proof.Machine.execFerryRx t ctle dfe eye change s
  | .holdLineReadback t south asserted => Sys2Proof.Machine.execHoldLineReadback t south asserted s
  | .watchdogWarning t c => Sys2Proof.Machine.execWatchdogWarning t c s
  | .tmrCtrlWrite t c k ctrl sec ns period => Sys2Proof.Machine.execTmrCtrlWrite t c k ctrl sec ns period s

end Sys2Proof.Machine
end

