-- ==== Sys2Proof/Safety.lean ====
section
/-!
DEFINITION. The terms the claims use: what a command leaves alone, what an object write needs, the canonical form of
surface memory, and darkness.
-/

namespace Sys2Proof

open Sys2Proof.Machine

/-- The parts of the state a frame speaks of. -/
inductive Blk where
  /-- Grade, identifier, hardware revision -/
  | ident
  /-- Instant of the last command -/
  | now
  /-- Commands that wait -/
  | queue
  /-- Values of written objects -/
  | objs
  /-- Latched measurement values -/
  | meas
  /-- The counter of free values -/
  | free
  /-- What has been sent -/
  | out
  | clk | tim | saf | pw | tb | arr | frm | mg | nv | dict | can | lane | phy | fy | surf | comp | mask | quay | diag | sup | th | pat
deriving DecidableEq, Repr

/-- A part of the state is the same in two states. -/
def sameBlk (s s' : State) : Blk → Prop
  | .ident => s'.grade = s.grade ∧ s'.uid = s.uid ∧ s'.hwRev = s.hwRev
  | .now => s'.now = s.now
  | .queue => s'.pending = s.pending
  | .objs => s'.objs = s.objs
  | .meas => s'.measVal = s.measVal
  | .free => s'.free = s.free
  | .out => s'.out = s.out
  | .clk => s'.clk = s.clk
  | .tim => s'.tim = s.tim
  | .saf => s'.saf = s.saf
  | .pw => s'.pw = s.pw
  | .tb => s'.tb = s.tb
  | .arr => s'.arr = s.arr
  | .frm => s'.frm = s.frm
  | .mg => s'.mg = s.mg
  | .nv => s'.nv = s.nv
  | .dict => s'.dict = s.dict
  | .can => s'.can = s.can
  | .lane => s'.lane = s.lane
  | .phy => s'.phy = s.phy
  | .fy => s'.fy = s.fy
  | .surf => s'.surf = s.surf
  | .comp => s'.comp = s.comp
  | .mask => s'.mask = s.mask
  | .quay => s'.quay = s.quay
  | .diag => s'.diag = s.diag
  | .sup => s'.sup = s.sup
  | .th => s'.th = s.th
  | .pat => s'.pat = s.pat

/-- Everything is unchanged but the parts listed. The sequence numbers of results (R495, R457) and the flag that a STATUS
is owed (R139) follow changes of the other parts and are no part of a frame. -/
def keepsBut (bs : List Blk) (s s' : State) : Prop := ∀ b, b ∉ bs → sameBlk s s' b

/-- What an event can change (R501 to R503). -/
abbrev eventBlks : List Blk := [.dict, .can, .fy, .out]

/-- What the raising of a source can change: the Tollgate and its log, interrupts and events, and what a safety state does
to the outputs (R391 to R399). -/
abbrev raiseBlks : List Blk := [.saf, .mg, .dict, .can, .fy, .out, .arr, .frm, .diag, .sup, .quay]

/-- What the disconnect switch and the permission can change (R405 to R409). -/
abbrev lightBlks : List Blk := [.saf, .sup, .arr, .frm, .diag]

/-- What a change of timebase can change (R417 to R420). -/
abbrev tbBlks : List Blk := [.tb, .clk, .tim, .saf, .mg, .dict, .can, .fy, .out, .arr, .frm, .diag, .sup, .quay]

/-- What taking the link down or up can change (R123, R125). -/
abbrev linkBlks : List Blk := .lane :: .phy :: tbBlks

/-- What the opening of a gate window or a frame launch can change: the frame, the array and what both hold of the blocks that
follow frames (R24, R43, R90). -/
abbrev launchBlks : List Blk := [.comp, .surf, .mask, .pat, .th, .pw, .meas, .free, .tb, .clk, .tim, .saf, .mg, .dict, .can,
  .fy, .out, .arr, .frm, .diag, .sup, .quay]

/-- What a loss of every volatile state can change: all but the identity, the instant, the queue and the counter of free
values. -/
abbrev coldBlks : List Blk :=
  [.objs, .meas, .out, .clk, .tim, .saf, .pw, .tb, .arr, .frm, .mg, .nv, .dict, .can, .lane, .phy, .fy, .surf, .comp, .mask,
   .quay, .diag, .sup, .th, .pat]

/-- A write of an object passes the checks of Table 18.7 before the object's own (R489). -/
def takes (s : State) (p : Path) (idx sub : Nat) (data : List Byte) : Bool :=
  servedAt s p idx sub && (wrCheck s p idx sub).isNone &&
  match objFind idx sub with
  | some r => lenOk r.ty data.length && valueOk r data
  | none => false

/-- A write of an object over a path, at an instant (R489). -/
structure ObjWrite where
  /-- Instant -/
  at_ : Nat
  /-- Path -/
  path : Path
  /-- Index -/
  idx : Nat
  /-- Subindex -/
  sub : Nat
  /-- Value -/
  data : List Byte
deriving DecidableEq, Repr

/-- The write that a command is, where it is the write of one object. -/
def objWriteOf : Instr → Option ObjWrite
  | .timeStepWrite t p v => some ⟨t, p, 0x2C00, 5, leBytes 1 v⟩
  | .tpModeWrite t p n v => some ⟨t, p, 0x2C10 + n.val, 1, leBytes 1 v⟩
  | .tcAck t p n v => some ⟨t, p, 0x2C20 + n.val, 4, leBytes 2 v⟩
  | .commSnapshot t p v => some ⟨t, p, 0x1013, 3, leBytes 1 v⟩
  | .diagTableClear t p v => some ⟨t, p, 0x2800, 8, leBytes 1 v⟩
  | .gainUpdate t p data => some ⟨t, p, 0x2850, 1, data⟩
  | .commSave t p v => some ⟨t, p, 0x1013, 1, leBytes 1 v⟩
  | .commRestore t p v => some ⟨t, p, 0x1013, 2, leBytes 1 v⟩
  | .sessionResponse t p data => some ⟨t, p, 0x1020, 2, data⟩
  | .sessionClose t p v => some ⟨t, p, 0x1020, 3, leBytes 1 v⟩
  | .sessionKey t p data => some ⟨t, p, 0x1020, 6, data⟩
  | .slotConfigure t p data => some ⟨t, p, 0x2410, 1, data⟩
  | .slotReady t p v => some ⟨t, p, 0x2410, 2, leBytes 4 (256 + v % 256 + 65536 * (v / 65536))⟩
  | .slotRelease t p v => some ⟨t, p, 0x2410, 2, leBytes 4 (512 + v % 256 + 65536 * (v / 65536))⟩
  | .cacheSizeWrite t p v => some ⟨t, p, 0x2400, 1, leBytes 1 v⟩
  | .paletteWrite t p n data => some ⟨t, p, 0x2420 + n.val, 1, data⟩
  | .commandStandby t p => some ⟨t, p, 0x2E00, 1, [1]⟩
  | .commandQuiet t p => some ⟨t, p, 0x2E00, 1, [2]⟩
  | .commandReady t p _ => some ⟨t, p, 0x2E00, 1, [3]⟩
  | .commandLit t p _ => some ⟨t, p, 0x2E00, 1, [4]⟩
  | .protectedLayerWrite t p data => some ⟨t, p, 0x2520, 1, data⟩
  | .tollgateClear t p v => some ⟨t, p, 0x2D11, 1, leBytes 1 v⟩
  | .clearAll t p v => some ⟨t, p, 0x2D11, 2, leBytes 1 v⟩
  | .resetArm t p => some ⟨t, p, 0x2D11, 3, [0x5A]⟩
  | .resetConfirm t p => some ⟨t, p, 0x2D11, 3, [0xA5]⟩
  | .classWrite t p data => some ⟨t, p, 0x2D10, 3, data⟩
  | .limpPatternWrite t p n data => some ⟨t, p, 0x2D30 + n.val, 1, data⟩
  | .functionMapWrite t p data => some ⟨t, p, 0x2020, 1, data⟩
  | .factoryUnlock t p v => some ⟨t, p, 0xF010, 1, leBytes 1 v⟩
  | .factoryExit t p => some ⟨t, p, 0xF010, 1, [0]⟩
  | .factoryInject t p v => some ⟨t, p, 0xF010, 2, leBytes 2 v⟩
  | .factoryInjectClear t p v => some ⟨t, p, 0xF010, 3, leBytes 1 v⟩
  | .pinClear t p v => some ⟨t, p, 0x2F10, 8, leBytes 1 v⟩
  | .openFw t p => some ⟨t, p, 0x2F20, 1, [1]⟩
  | .openCustomer t p => some ⟨t, p, 0x2F20, 1, [2]⟩
  | .verify t p => some ⟨t, p, 0x2F20, 1, [3]⟩
  | .activate t p => some ⟨t, p, 0x2F20, 1, [4]⟩
  | .abortUpdate t p => some ⟨t, p, 0x2F20, 1, [5]⟩
  | .reboot t p => some ⟨t, p, 0x2F20, 1, [6]⟩
  | .updateImageWrite t p data => some ⟨t, p, 0x2F20, 2, data⟩
  | .keyWrite t p slot data => some ⟨t, p, 0x2F38, slot.val + 1, data⟩
  | .pstoreCommit t p v => some ⟨t, p, 0x2F30, 2, leBytes 1 v⟩
  | .modeCommit t p v => some ⟨t, p, 0x2104, 3, leBytes 1 v⟩
  | .repClear t p v => some ⟨t, p, 0x2903, 5, leBytes 1 v⟩
  | .programWrite t p e data => some ⟨t, p, 0x2B10 + e.val, 1, data⟩
  | .arm t (some p) e => some ⟨t, p, 0x2B10 + e.val, 2, leBytes 1 1⟩
  | .stop t (some p) e => some ⟨t, p, 0x2B10 + e.val, 2, leBytes 1 2⟩
  | .trigger t (some p) e => some ⟨t, p, 0x2B10 + e.val, 2, leBytes 1 3⟩
  | .triggerSet t (some p) v => some ⟨t, p, 0x2B00, 1, leBytes 1 v⟩
  | _ => none

/-- A well-formed message with a command arrives over CAN at an engine with a node number, on the bus, able to answer, whose
server serves its object and has nothing else under way (R483 to R485). -/
def canTakes (s : State) (b : Bool) (cmd : Nat) (m : List Byte) : Bool :=
  canUp s && nodeOf s ≠ 0 && servedMsg s .can m && !serverBusy s && s.dict.canQueue.isEmpty && s.dict.queue.isEmpty && framed ⟨.can, b, 0, m⟩ &&
  mCmd m == cmd

/-- A message of the engine on its node's dictionary-response function (R479, R483). -/
def canAnswer (s : State) (m : List Byte) : Out := .can (512 + nodeOf s) true (brsSet s) (padTo (fdLen m.length) m)

/-- The abort of a request (Table 18.7). -/
def abortOf (m : List Byte) (code : Nat) : List Byte := msgOf 0xFF (mTag m) (mIdx m) (mSub m) 0 (leBytes 4 code)

/-- A packet is consumed for what it asks: addressed to the engine, whole, its trailer right, no reserved header bit set, no
repeat, outside the exit to READY and with a place for its answer (R134, R139, R143, R155, R156, R438). -/
def pktTakes (s : State) (k : Packet) : Bool :=
  kHere s k && consumes s k && kPass k && hdrBits k.hdr 47 38 == 0 && !kRetry k && !s.pw.exiting && queueFree s

/-- The ACK of a FRAME packet in the insertion queue: its STATUS and the SEQ of the descriptor concerned (Table 5.6, R139). -/
def ackOf (s : State) (k : Packet) (status fseq : Nat) : Own :=
  ⟨1, 3, s.fy.address, kSeq k, padTo 16 ([0x81, BitVec.ofNat 8 status] ++ leBytes 2 (kSeq k) ++ leBytes 4 fseq ++ List.replicate 8 0)⟩

/-- The array can emit no light by its active state: an all-zero gate plane (R53). -/
def dark (s : State) : Bool := s.arr.gate = .zero

/-- The contents of surface memory are in canonical form. -/
abbrev memOk (s : State) : Prop := Memory.wf s.surf.undef s.surf.mem = true

/-- Light permission stands only on a passed start-up test and disconnect check without a latched discrepancy (R405 to
R407). -/
def lightTests (s : State) : Prop :=
  s.saf.permission = true → s.saf.startTest = true ∧ s.saf.discPassed = true ∧ s.saf.discrepLatch = false

/-- A phase reached I_lim in a sample or since the one before (R302). -/
def hitsLimit (s : State) (i : List Int) (p : Nat) : Bool :=
  decide (p < s.sup.phases) && (nth s.sup.limitHit p false || decide ((s.sup.phaseLimit : Int) < nth i p 0))

/-- The contents of the written objects are in canonical form: keys rising, none at its default. -/
def rising {β : Type} : List (Nat × β) → Bool
  | [] => true
  | [_] => true
  | (k, _) :: (k', v') :: l => decide (k < k') && rising ((k', v') :: l)

end Sys2Proof
end

