-- ==== Sys2Proof/Certificates/Slice0/Obligations.lean ====
section
/-!
DEFINITION. The statements about the engine: what each command does and leaves alone, and what every step keeps.
-/

namespace Sys2Proof
end Sys2Proof

open Sys2Proof Sys2Proof.Machine

/-- SIGNAL_DETECT and BLOCK_LOCK. TS1, TS2, TS4 and ADAPTATION_COMPLETE. Each clause: under its hypotheses on the
state and the operands exec answers a next state, in which no part of the state but those it lists differs from the
state at the command's instant, and there (1) a signal in DETECT begins step 1 of training with no lane locked and
nothing counted (R119); (2) where a fast retrain may begin, a signal begins it with step 6 (R125); (3) elsewhere a
signal changes nothing; (4) 64 valid headers give a lane read its block lock, and lane 0 ends step 1 (R114, R119); (5)
in a fast retrain lane 0 also starts the TS3 of the engine (R125); (6) a lane outside the set is ignored (R99); (7) 16
good TS1 in a row with the same LANES, RATE and GEN, every lane locked, its LANE byte right and the skew within 64 ns,
end step 2: the engine sends TS1 on the lanes named (R119); (8) fewer are counted on, and step 2 is over: step 3 waits
for the 16 (R119); (9) a RATE or LANES beyond the written one is refused: its code is the failure reason, its GEN is
kept as refused, and TS1 goes on on lane 0 (R120); (10) a slot that fails its check, is no TS1 or has an invalid
header ends both runs (R112, R113, R119); (11) 8 TS2 in step 4 make the engine send 16 TS2, take the rate and the
lanes of the training and send TS3 (R119); (12) fewer are counted on (R119); (13) TS2 of a refused training are
ignored (R120); (14) TS4 are counted up to 8, and step 8 follows step 7 when the receiver is ready and 8 have come
(R119); (15) an adaptation complete on the lanes in force with a skew within 64 ns ends step 6: the receiver is ready,
its adaptation stored, its lanes locked, and step 8 follows at once where 8 TS4 have come (R118, R119); (16) a larger
skew leaves step 6 as it was (R118). -/
def Obligations.TrainingFollows : Prop :=
  (∀ (t : Nat) (s : State), s.pw.dev ≠ .off → rxOn s = true → s.lane.st = .detect → s.lane.idleFrom = none →
    ∃ s', exec (.signalDetect t) s = .next s' ∧ keepsBut [.lane] (s.advance t) s' ∧
    s'.lane = { s.lane with st := .slow, step := 1, stepAt := (s.advance t).now, lock := [false, false, false, false], ts1Run := 0, ts2Run := 0, ts4Run := 0, cause2 := 2, tsPar := none }) ∧
  (∀ (t : Nat) (s : State), s.pw.dev ≠ .off → mayRetrain s = true → ∃ s', exec (.signalDetect t) s = .next s' ∧
    keepsBut [.lane, .pw] (s.advance t) s' ∧ s'.lane.st = .retrain ∧ s'.lane.step = 6 ∧
    s'.lane.stepAt = (s.advance t).now ∧ s'.lane.rxReady = false ∧ s'.lane.txMode = .idle) ∧
  (∀ (t : Nat) (s : State), s.pw.dev ≠ .off → mayRetrain s = false →
    (s.lane.st ≠ .detect ∨ rxOn s = false ∨ s.lane.idleFrom.isSome = true) → ∃ s', exec (.signalDetect t) s = .next s' ∧
    keepsBut [] (s.advance t) s' ∧ s'.lane = s.lane) ∧
  (∀ (t : Nat) (lane : Fin 4) (s : State), s.pw.dev ≠ .off → rxOn s = true → lane.val < rxLanes s →
    s.lane.st ≠ .retrain → ∃ s', exec (.blockLock t lane) s = .next s' ∧ keepsBut [.lane, .phy] (s.advance t) s' ∧
    s'.lane = { s.lane with lock := s.lane.lock.modify lane.val (fun _ => true), step := if s.lane.st = .slow ∧
    s.lane.step = 1 ∧ lane = 0 then 2 else s.lane.step, stepAt := if s.lane.st = .slow ∧ s.lane.step = 1 ∧
    lane = 0 then (s.advance t).now else s.lane.stepAt }) ∧
  (∀ (t : Nat) (s : State), s.pw.dev ≠ .off → rxOn s = true → s.lane.st = .retrain → 0 < s.lane.lanes →
    s.lane.txMode = .idle → ∃ s', exec (.blockLock t 0) s = .next s' ∧ keepsBut [.lane, .out, .phy] (s.advance t) s' ∧
    s'.lane.txMode = .ts3 ∧ s'.lane.txOn = s.lane.lanes ∧ s'.lane.lock = s.lane.lock.modify 0 (fun _ => true) ∧
    s'.out = .slot 0x12 1 :: s.out) ∧
  (∀ (t : Nat) (lane : Fin 4) (s : State), s.pw.dev ≠ .off → rxOn s = true → rxLanes s ≤ lane.val →
    ∃ s', exec (.blockLock t lane) s = .next s' ∧ keepsBut [] (s.advance t) s' ∧ s'.lane = s.lane) ∧
  (∀ (t n : Nat) (blks : List (List Byte)) (skew : List Nat) (s : State), s.pw.dev ≠ .off → rxOn s = true →
    s.lane.st = .slow → 2 ≤ s.lane.step → s.lane.step ≤ 4 → ctlOk 0x10 (slotBlk blks s) = true →
    trainRefusal s (leField (slotBlk blks s) 2 1) (leField (slotBlk blks s) 3 1) = 0 →
    step2Cause s (leField (slotBlk blks s) 2 1) blks skew = 0 → slotOk 0x10 (leField (slotBlk blks s) 2 1) blks = true →
    0 < readSlots blks n s →
    16 ≤ (if s.lane.tsPar = some (leField (slotBlk blks s) 2 1, leField (slotBlk blks s) 3 1, leField (slotBlk blks s) 9 1) then s.lane.ts1Run else 0) + readSlots blks n s →
    (s.lane.step ≠ 4 ∨ s.lane.tsPar ≠ some (leField (slotBlk blks s) 2 1, leField (slotBlk blks s) 3 1, leField (slotBlk blks s) 9 1)) →
    ∃ s', exec (.ts1 t blks skew n) s = .next s' ∧ keepsBut [.lane, .out, .phy] (s.advance t) s' ∧ s'.lane.step = 4 ∧
    s'.lane.ts1Run = 16 ∧ s'.lane.txOn = leField (slotBlk blks s) 2 1 ∧ s'.lane.txMode = .ts1 ∧
    s'.lane.tgtLanes = leField (slotBlk blks s) 2 1 ∧ s'.lane.tgtRate = leField (slotBlk blks s) 3 1 ∧
    s'.lane.hops = leField (slotBlk blks s) 5 1 ∧ s'.out = .slot 0x10 1 :: s.out) ∧
  (∀ (t n : Nat) (blks : List (List Byte)) (skew : List Nat) (s : State), s.pw.dev ≠ .off → rxOn s = true →
    s.lane.st = .slow → 2 ≤ s.lane.step → s.lane.step ≤ 4 → ctlOk 0x10 (slotBlk blks s) = true →
    trainRefusal s (leField (slotBlk blks s) 2 1) (leField (slotBlk blks s) 3 1) = 0 →
    step2Cause s (leField (slotBlk blks s) 2 1) blks skew = 0 → slotOk 0x10 (leField (slotBlk blks s) 2 1) blks = true →
    s.lane.tsPar = some (leField (slotBlk blks s) 2 1, leField (slotBlk blks s) 3 1, leField (slotBlk blks s) 9 1) →
    0 < readSlots blks n s → s.lane.ts1Run + readSlots blks n s < 16 → ∃ s', exec (.ts1 t blks skew n) s = .next s' ∧
    keepsBut [.lane, .phy] (s.advance t) s' ∧ s'.lane.step = (if s.lane.step = 2 then 3 else s.lane.step) ∧
    s'.lane.ts1Run = s.lane.ts1Run + readSlots blks n s) ∧
  (∀ (t n : Nat) (blks : List (List Byte)) (skew : List Nat) (s : State), s.pw.dev ≠ .off → rxOn s = true →
    s.lane.st = .slow → 2 ≤ s.lane.step → s.lane.step ≤ 4 → 0 < readSlots blks n s →
    ctlOk 0x10 (slotBlk blks s) = true →
    trainRefusal s (leField (slotBlk blks s) 2 1) (leField (slotBlk blks s) 3 1) ≠ 0 →
    ∃ s', exec (.ts1 t blks skew n) s = .next s' ∧ keepsBut [.lane, .out, .phy] (s.advance t) s' ∧
    s'.lane.failReason = trainRefusal s (leField (slotBlk blks s) 2 1) (leField (slotBlk blks s) 3 1) ∧
    s'.lane.refusedGen = some (leField (slotBlk blks s) 9 1) ∧ s'.lane.step = 3 ∧ s'.lane.txOn = 1 ∧
    s'.lane.txMode = .ts1) ∧
  (∀ (t n : Nat) (blks : List (List Byte)) (skew : List Nat) (s : State), s.pw.dev ≠ .off → rxOn s = true →
    s.lane.st = .slow → 2 ≤ s.lane.step → s.lane.step ≤ 4 → 0 < readSlots blks n s →
    ctlOk 0x10 (slotBlk blks s) = false → ∃ s', exec (.ts1 t blks skew n) s = .next s' ∧
    keepsBut [.lane, .phy] (s.advance t) s' ∧ s'.lane.ts1Run = 0 ∧ s'.lane.ts2Run = 0 ∧ s'.lane.step = s.lane.step) ∧
  (∀ (t n : Nat) (blks : List (List Byte)) (s : State), s.pw.dev ≠ .off → rxOn s = true → s.lane.st = .slow →
    s.lane.step = 4 → ctlOk 0x11 (slotBlk blks s) = true → s.lane.refusedGen = none → 0 < readSlots blks n s →
    8 ≤ s.lane.ts2Run + readSlots blks n s → ∃ s', exec (.ts2 t blks n) s = .next s' ∧
    keepsBut [.lane, .out, .phy] (s.advance t) s' ∧ s'.out = .slot 0x12 1 :: .slot 0x11 16 :: s.out ∧
    s'.lane.st = .atRate ∧ s'.lane.step = 6 ∧ s'.lane.rate = s.lane.tgtRate ∧ s'.lane.lanes = s.lane.tgtLanes ∧
    s'.lane.txMode = .ts3) ∧
  (∀ (t n : Nat) (blks : List (List Byte)) (s : State), s.pw.dev ≠ .off → rxOn s = true → s.lane.st = .slow →
    s.lane.step = 4 → ctlOk 0x11 (slotBlk blks s) = true → s.lane.refusedGen = none → 0 < readSlots blks n s →
    s.lane.ts2Run + readSlots blks n s < 8 → ∃ s', exec (.ts2 t blks n) s = .next s' ∧
    keepsBut [.lane, .phy] (s.advance t) s' ∧ s'.lane.ts2Run = s.lane.ts2Run + readSlots blks n s ∧ s'.lane.step = 4 ∧
    s'.lane.st = .slow) ∧
  (∀ (t n : Nat) (blks : List (List Byte)) (s : State), s.pw.dev ≠ .off → rxOn s = true → s.lane.st = .slow →
    s.lane.step = 4 → s.lane.refusedGen.isSome = true → ctlOk 0x11 (slotBlk blks s) = true →
    ∃ s', exec (.ts2 t blks n) s = .next s' ∧ keepsBut [.lane, .phy] (s.advance t) s' ∧ s'.lane.ts2Run = s.lane.ts2Run ∧
    s'.lane.st = .slow ∧ s'.lane.step = 4) ∧
  (∀ (t n : Nat) (blks : List (List Byte)) (s : State), s.pw.dev ≠ .off → rxOn s = true →
    (s.lane.st = .atRate ∨ s.lane.st = .retrain) → ctlOk 0x13 (slotBlk blks s) = true → 0 < readSlots blks n s →
    ∃ s', exec (.ts4 t blks n) s = .next s' ∧ keepsBut [.lane, .out, .phy] (s.advance t) s' ∧
    s'.lane.ts4Run = min 8 (s.lane.ts4Run + readSlots blks n s) ∧
    (s'.lane.step = 8 ↔ s.lane.step = 8 ∨ s.lane.step = 7 ∧ s.lane.rxReady = true ∧
    8 ≤ s.lane.ts4Run + readSlots blks n s)) ∧
  (∀ (t : Nat) (ctle : List Nat) (dfe : List (List Int)) (eye skew : List Nat) (s : State), s.pw.dev ≠ .off →
    rxOn s = true → (s.lane.st = .atRate ∨ s.lane.st = .retrain) → s.lane.step = 6 →
    (∀ k ∈ skew.take s.lane.lanes, k ≤ 64000) → ∃ s', exec (.adaptationComplete t ctle dfe eye skew) s = .next s' ∧
    keepsBut [.lane, .out, .phy] (s.advance t) s' ∧ s'.lane.rxReady = true ∧ s'.lane.adapted = true ∧
    s'.lane.step = (if s.lane.ts4Run = 8 then 8 else 7) ∧
    s'.lane.lock = (List.range 4).map (fun i => decide (i < s.lane.lanes))) ∧
  (∀ (t : Nat) (ctle : List Nat) (dfe : List (List Int)) (eye skew : List Nat) (s : State), s.pw.dev ≠ .off →
    (∃ k ∈ skew.take s.lane.lanes, 64000 < k) → ∃ s', exec (.adaptationComplete t ctle dfe eye skew) s = .next s' ∧
    keepsBut [] (s.advance t) s' ∧ s'.lane = s.lane)

/-- TRAINING_TIMEOUT, FAST_RETRAIN_FAILED, ELECTRICAL_IDLE_END and NO_SIGNAL_TIMEOUT. Each clause: under its
hypotheses on the state and the operands exec answers a next state, in which no part of the state but those it lists
differs from the state at the command's instant, and there (1) the bound of a step that is over is a failure with the
reason of the step, counted, source 0x11 raised, the 2 ms of idle begun (R119, R122); (2) before it is over nothing
changes (R119); (3) the third fast retrain in a row not complete in 1 ms is failure 0x0A (R125); (4) an earlier one is
counted and the transmitters idle (R125); (5) 2 ms of idle end in DETECT with the address lost (R122, R124, R143); (6)
less than that changes nothing (R122); (7) 1 ms without signal outside FL2 ends in DETECT with the address lost (R124,
R143); (8) in FL2, in DETECT, with the receiver off or while the 2 ms of idle run nothing changes (R124). -/
def Obligations.TrainingFails : Prop :=
  (∀ (t code : Nat) (s : State), s.pw.dev ≠ .off →
    spanOver (s.advance t) s.lane.stepAt (stepBound s.lane.step * 1000000000) = true → ((s.lane.st = .slow ∧
    s.lane.step = 1 ∧ code = 1) ∨ (s.lane.st = .slow ∧ s.lane.step = 2 ∧ code = s.lane.cause2) ∨ (s.lane.st = .slow ∧
    s.lane.step = 4 ∧ code = 7) ∨ (s.lane.st = .atRate ∧ s.lane.step = 6 ∧ code = 8) ∨ (s.lane.st = .atRate ∧
    s.lane.step = 7 ∧ code = 9)) → ∃ s', exec (.trainingTimeout t) s = .next s' ∧
    keepsBut (.lane :: raiseBlks) (s.advance t) s' ∧ s'.lane.st = .down ∧ s'.lane.failReason = code ∧
    s'.lane.trainFailures = s.lane.trainFailures + 1 ∧ s'.lane.idleFrom = some (s.advance t).now ∧
    bmGet s'.saf.latched 0x11 = true) ∧
  (∀ (t : Nat) (s : State), s.pw.dev ≠ .off →
    spanOver (s.advance t) s.lane.stepAt (stepBound s.lane.step * 1000000000) = false →
    ∃ s', exec (.trainingTimeout t) s = .next s' ∧ keepsBut [] (s.advance t) s' ∧ s'.lane = s.lane) ∧
  (∀ (t : Nat) (s : State), s.pw.dev ≠ .off → s.lane.st = .retrain →
    spanOver (s.advance t) s.lane.stepAt 1000000000 = true → s.lane.retrainFails = 2 →
    ∃ s', exec (.fastRetrainFailed t) s = .next s' ∧ keepsBut (.lane :: raiseBlks) (s.advance t) s' ∧
    s'.lane.st = .down ∧ s'.lane.failReason = 0x0A ∧ bmGet s'.saf.latched 0x11 = true) ∧
  (∀ (t : Nat) (s : State), s.pw.dev ≠ .off → s.lane.st = .retrain →
    spanOver (s.advance t) s.lane.stepAt 1000000000 = true → s.lane.retrainFails ≠ 2 →
    ∃ s', exec (.fastRetrainFailed t) s = .next s' ∧ keepsBut [.lane] (s.advance t) s' ∧
    s'.lane = { s.lane with st := .down, step := 0, txOn := 0, txMode := .idle, rxReady := false, retrainFails := s.lane.retrainFails + 1 }) ∧
  (∀ (t : Nat) (s : State), s.pw.dev ≠ .off →
    s.lane.idleFrom.any (fun a => spanOver (s.advance t) a 2000000000) = true →
    ∃ s', exec (.electricalIdleEnd t) s = .next s' ∧ keepsBut (.lane :: raiseBlks) (s.advance t) s' ∧
    s'.lane.st = .detect ∧ s'.lane.idleFrom = none ∧ s'.fy.address = 63 ∧ s'.fy.overflow = false ∧ s'.fy.hunt = false) ∧
  (∀ (t : Nat) (s : State), s.pw.dev ≠ .off →
    s.lane.idleFrom.any (fun a => spanOver (s.advance t) a 2000000000) = false →
    ∃ s', exec (.electricalIdleEnd t) s = .next s' ∧ keepsBut [] (s.advance t) s' ∧ s'.lane = s.lane) ∧
  (∀ (t : Nat) (s : State), s.pw.dev ≠ .off → rxOn s = true → s.lane.idleFrom = none → s.lane.st ≠ .detect →
    s.lane.st ≠ .fl2 → ∃ s', exec (.noSignalTimeout t) s = .next s' ∧ keepsBut linkBlks (s.advance t) s' ∧
    s'.lane.st = .detect ∧ s'.fy.address = 63) ∧
  (∀ (t : Nat) (s : State), s.pw.dev ≠ .off →
    (rxOn s = false ∨ s.lane.idleFrom.isSome = true ∨ s.lane.st = .detect ∨ s.lane.st = .fl2) →
    ∃ s', exec (.noSignalTimeout t) s = .next s' ∧ keepsBut [] (s.advance t) s' ∧ s'.lane = s.lane ∧
    s'.fy.address = s.fy.address)

/-- FL0_ENTRY, FAST_RETRAIN_COMPLETE, SYNC and TS3. LINK_DOWN, BLOCK_LOCK_LOSS and EI1. Each clause: under its
hypotheses on the state and the operands exec answers a next state, in which no part of the state but those it lists
differs from the state at the command's instant, and there (1) the first data slot after 2 SYNC slots of a training
enters FL0: data on every lane in force, the marker delay taken, TB0 offered and qualified, the cause of link loss
gone (R119, R411, R417); (2) the same after a fast retrain, which is counted (R125, R411, R417); (3) with fewer SYNC
slots, or before step 8, neither enters FL0: FL0_ENTRY changes nothing (R119); (4) nor does FAST_RETRAIN_COMPLETE
(R125); (5) a good SYNC ends FL1: every lane in force sends data again, adaptation goes on, and the SYNC slots are
forwarded (R127); (6) in step 8 the SYNC slots are counted (R119); (7) a SYNC slot good on lane 0 but not yet on every
lane only begins the exit of FL1 (R129); (8) TS3 at the rate in force starts a fast retrain where one may begin, out
of FL2 included, and the TS3 of the engine with it (R125, R128); (9) in a training the precoding that TS3 announces is
taken (R119); (10) the link-down event, out of FL0 or out of an exit of FL1 that has begun: the transmitters idle, the
event is counted, the link-loss timeout starts, TB0 is offered no more, the Ferry transfer and session end (R123,
R129, R417); (11) after an EI1 or EI2 slot, or in FL1, it is no such event and neither counted nor timed (the model's
reading of R123, log 157); (12) in a fast retrain the loss leaves it under way, back in step 6, until its 1 ms ends
(R125); (13) a lane in force that loses block lock in FL0 counts its invalid headers and its loss and takes the link
down (R113, R114, R123); (14) a lane outside the set is ignored (R99); (15) four EI1 slots in a row are forwarded and
lead to FL1 with the idle pattern on lane 0 alone and the adaptation frozen (R126); (16) fewer are counted (R126). -/
def Obligations.LinkComesAndGoes : Prop :=
  (∀ (t delay : Nat) (s : State), s.pw.dev ≠ .off → s.lane.st = .atRate → s.lane.step = 8 → 2 ≤ s.lane.syncSlots →
    ∃ s', exec (.fl0Entry t delay) s = .next s' ∧ keepsBut linkBlks (s.advance t) s' ∧ s'.lane.st = .fl0 ∧
    s'.lane.markerDelay = delay ∧ s'.lane.txMode = .data ∧ s'.lane.txOn = s.lane.lanes ∧ s'.lane.downAt = none ∧
    s'.tb.offered = true ∧ s'.tb.tb0 = true ∧ bmGet s'.saf.causes 0x05 = false) ∧
  (∀ (t delay : Nat) (s : State), s.pw.dev ≠ .off → s.lane.st = .retrain → s.lane.step = 8 → 2 ≤ s.lane.syncSlots →
    ∃ s', exec (.fastRetrainComplete t delay) s = .next s' ∧ keepsBut linkBlks (s.advance t) s' ∧ s'.lane.st = .fl0 ∧
    s'.lane.markerDelay = delay ∧ s'.lane.fastRetrains = s.lane.fastRetrains + 1 ∧ s'.lane.downAt = none ∧
    s'.tb.offered = true ∧ s'.tb.tb0 = true ∧ bmGet s'.saf.causes 0x05 = false) ∧
  (∀ (t delay : Nat) (s : State), s.pw.dev ≠ .off → (s.lane.syncSlots < 2 ∨ s.lane.step ≠ 8) →
    ∃ s', exec (.fl0Entry t delay) s = .next s' ∧ keepsBut [] (s.advance t) s' ∧ s'.lane = s.lane) ∧
  (∀ (t delay : Nat) (s : State), s.pw.dev ≠ .off → (s.lane.syncSlots < 2 ∨ s.lane.step ≠ 8) →
    ∃ s', exec (.fastRetrainComplete t delay) s = .next s' ∧ keepsBut [] (s.advance t) s' ∧ s'.lane = s.lane) ∧
  (∀ (t n : Nat) (blks : List (List Byte)) (s : State), s.pw.dev ≠ .off → s.lane.st = .fl1 → plainOk 1 blks s = true →
    slotBlk blks s ≠ [] → (s.lane.txMode = .idlePattern ∨ s.lane.txMode = .data ∧ s.lane.txOn = s.lane.lanes) →
    ∃ s', exec (.syncSlots t blks n) s = .next s' ∧ keepsBut [.lane, .out, .phy] (s.advance t) s' ∧ s'.lane.st = .fl0 ∧
    s'.lane.frozen = false ∧ s'.lane.txOn = s.lane.lanes ∧ s'.lane.txMode = .data ∧ s'.out = .slot 1 n :: s.out) ∧
  (∀ (t n : Nat) (blks : List (List Byte)) (s : State), s.pw.dev ≠ .off →
    (s.lane.st = .atRate ∨ s.lane.st = .retrain) → s.lane.step = 8 → plainOk 1 blks s = true → slotBlk blks s ≠ [] →
    ∃ s', exec (.syncSlots t blks n) s = .next s' ∧ keepsBut [.lane, .phy] (s.advance t) s' ∧
    s'.lane.syncSlots = s.lane.syncSlots + n ∧ s'.lane.st = s.lane.st ∧ s'.lane.step = 8) ∧
  (∀ (t n : Nat) (blks : List (List Byte)) (s : State), s.pw.dev ≠ .off → s.lane.st = .fl1 →
    plainOk 1 blks s = false → ctlOk 1 (nth blks 0 []) = true → ∃ s', exec (.syncSlots t blks n) s = .next s' ∧
    keepsBut [.lane, .phy] (s.advance t) s' ∧ s'.lane.st = .fl1 ∧ s'.lane.exitFl1 = true) ∧
  (∀ (t : Nat) (blks : List (List Byte)) (s : State), s.pw.dev ≠ .off → ctlOk 0x12 (slotBlk blks s) = true →
    mayRetrain s = true → leField (slotBlk blks s) 3 1 = s.lane.rate → readSlots blks 1 s = 1 →
    ∃ s', exec (.ts3 t blks) s = .next s' ∧ keepsBut [.lane, .out, .phy, .pw] (s.advance t) s' ∧ s'.lane.st = .retrain ∧
    s'.lane.step = 6 ∧ s'.lane.txMode = .ts3 ∧ s'.lane.rxReady = false ∧ s'.lane.stepAt = (s.advance t).now) ∧
  (∀ (t : Nat) (blks : List (List Byte)) (s : State), s.pw.dev ≠ .off → ctlOk 0x12 (slotBlk blks s) = true →
    rxOn s = true → s.lane.st = .atRate → readSlots blks 1 s = 1 → ∃ s', exec (.ts3 t blks) s = .next s' ∧
    keepsBut [.lane, .phy] (s.advance t) s' ∧ s'.lane.st = .atRate ∧ s'.lane.step = s.lane.step ∧
    s'.lane.rxPrecode = bitOf (leField (slotBlk blks s) 4 1) 0) ∧
  (∀ (t : Nat) (s : State), s.pw.dev ≠ .off → (s.lane.st = .fl0 ∧ s.lane.ei1Run = 0 ∧
    s.lane.ei2Run = 0 ∨ s.lane.st = .fl1 ∧ s.lane.exitFl1 = true) → ∃ s', exec (.linkDown t) s = .next s' ∧
    keepsBut linkBlks (s.advance t) s' ∧ s'.lane.st = .down ∧ s'.lane.txOn = 0 ∧ s'.lane.txMode = .idle ∧
    s'.lane.linkDowns = s.lane.linkDowns + 1 ∧ s'.lane.downAt = some (s.advance t).now ∧ s'.tb.offered = false ∧
    s'.dict.xferFerry = none ∧ s'.dict.sesFerry.isOpen = false) ∧
  (∀ (t : Nat) (s : State), s.pw.dev ≠ .off → (s.lane.st = .fl1 ∧ s.lane.exitFl1 = false ∨ s.lane.st = .fl0 ∧
    (s.lane.ei1Run ≠ 0 ∨ s.lane.ei2Run ≠ 0)) → ∃ s', exec (.linkDown t) s = .next s' ∧
    keepsBut linkBlks (s.advance t) s' ∧ s'.lane.st = .down ∧ s'.lane.txOn = 0 ∧ s'.lane.linkDowns = s.lane.linkDowns ∧
    s'.lane.downAt = s.lane.downAt ∧ s'.tb.offered = false) ∧
  (∀ (t : Nat) (s : State), s.pw.dev ≠ .off → s.lane.st = .retrain → ∃ s', exec (.linkDown t) s = .next s' ∧
    keepsBut linkBlks (s.advance t) s' ∧ s'.lane.st = .retrain ∧ s'.lane.step = 6 ∧
    s'.lane.linkDowns = s.lane.linkDowns ∧ s'.lane.retrainFails = s.lane.retrainFails) ∧
  (∀ (t bad : Nat) (lane : Fin 4) (s : State), s.pw.dev ≠ .off → rxOn s = true → s.lane.lock[lane.val]? = some true →
    s.lane.st = .fl0 → lane.val < s.lane.lanes → ∃ s', exec (.blockLockLoss t lane bad) s = .next s' ∧
    keepsBut linkBlks (s.advance t) s' ∧ s'.lane.st = .down ∧
    s'.lane.lockLosses = s.lane.lockLosses.modify lane.val (· + 1) ∧
    s'.lane.badHeaders = s.lane.badHeaders.modify lane.val (· + BitVec.ofNat 32 (min 16 bad)) ∧
    s'.lane.lock[lane.val]? = some false) ∧
  (∀ (t bad : Nat) (lane : Fin 4) (s : State), s.pw.dev ≠ .off → rxLanes s ≤ lane.val →
    ∃ s', exec (.blockLockLoss t lane bad) s = .next s' ∧ keepsBut [] (s.advance t) s' ∧ s'.lane = s.lane) ∧
  (∀ (t n : Nat) (blks : List (List Byte)) (s : State), s.pw.dev ≠ .off → s.lane.st = .fl0 → plainOk 3 blks s = true →
    slotBlk blks s ≠ [] → 4 ≤ s.lane.ei1Run + n → ∃ s', exec (.ei1 t blks n) s = .next s' ∧
    keepsBut [.lane, .out, .phy, .fy] (s.advance t) s' ∧ s'.lane.st = .fl1 ∧ s'.lane.frozen = true ∧ s'.lane.txOn = 1 ∧
    s'.lane.txMode = .idlePattern ∧ s'.out.head? = some (.slot 3 4)) ∧
  (∀ (t n : Nat) (blks : List (List Byte)) (s : State), s.pw.dev ≠ .off → s.lane.st = .fl0 → plainOk 3 blks s = true →
    slotBlk blks s ≠ [] → s.lane.ei1Run + n < 4 → ∃ s', exec (.ei1 t blks n) s = .next s' ∧
    keepsBut [.lane, .phy] (s.advance t) s' ∧ s'.lane.st = .fl0 ∧ s'.lane.ei1Run = s.lane.ei1Run + n)

/-- CAN_SYNC and CAN_FOLLOW of domain B. DOMAIN_LOSS, DOMAIN_RETURN and TIME_STEP_WRITE, and the tick at which a step
acts. Each clause: under its hypotheses on the state and the operands exec answers a next state, in which no part of
the state but those it lists differs from the state at the command's instant, and there (1) a SYNC heard while domain
B is enabled captures its SEQ and the local time at its edge (R366, R367); (2) with domain B disabled it does nothing
(R367); (3) the FOLLOW of the SYNC captured, as the first sample of a clock not VALID, gives the offset θ of R363 from
the capture and its time with the path delay, sets a step by minus θ (a rest below a clock unit rounded by a free
value) for the next tick of TB2 and selects domain B; the clock itself does not move before (R362, R363, R370); (4) a
further sample of the selected domain within the outlier limit is its new offset, and sets a step for the next tick
where one is armed, which is used up, and else does not (R362, R363, R368); (5) a FOLLOW without a SYNC is discarded
and counted (R366); (6) a domain whose 3 intervals without an accepted sample are over is LOST and keeps no samples
(R369); (7) before that nothing changes (R369); (8) at the first tick of TB2 after a step was set the local clock
counts that tick, is stepped and becomes VALID, whatever command comes then (R362); (9) the preferred domain that has
been LOCKED for 10 s becomes the selected one without a step (R370); (10) before the 10 s nothing changes (R370); (11)
an accepted write of time.step arms a step (R362). -/
def Obligations.TimeFromCan : Prop :=
  (∀ (t : Nat) (f : CanFrame) (s : State), s.pw.dev ≠ .off → canHears s f = true → canNode f = 0 →
    s.objB 0x2C00 4 = true → canFunc f = 1 → 2 ≤ f.data.length → canField f 0 1 = 1 → (∀ b ∈ f.data.drop 2, b = 0) →
    ∃ s', exec (.canSync t f) s = .next s' ∧ keepsBut [.tim, .can, .mg] (s.advance t) s' ∧
    s'.tim = { s.tim with canSync := some (canField f 1 1, (s.advance t).now, (((s.advance t).clk.fix * 1000 : Nat) : Int)) } ∧
    s'.can.rxFrames = s.can.rxFrames + 1) ∧
  (∀ (t : Nat) (f : CanFrame) (s : State), s.pw.dev ≠ .off → s.objB 0x2C00 4 = false →
    ∃ s', exec (.canSync t f) s = .next s' ∧ keepsBut [] (s.advance t) s' ∧ s'.tim = s.tim) ∧
  (∀ (t seq at_ : Nat) (cap : Int) (f : CanFrame) (s : State), s.pw.dev ≠ .off → canHears s f = true → canNode f = 0 →
    s.objB 0x2C00 4 = true → canFunc f = 1 → f.fd = true → canField f 0 1 = 2 → s.tim.canSync = some (seq, at_, cap) →
    f.data.length = 24 → canField f 14 2 = 0 → 10 ≤ canField f 2 2 → canField f 2 2 ≤ 10000 → canField f 1 1 = seq →
    (s.advance t).now ≤ at_ + 100000000000 → s.tim.doms.length = 2 → s.clk.valid = false → s.clk.step = none →
    (domOf s 1).st = 0 → ∃ s', exec (.canFollow t f) s = .next s' ∧
    keepsBut (.tim :: .clk :: .free :: raiseBlks) (s.advance t) s' ∧
    s'.clk.step = some (-(roundFree 1 (cap - psU (((canField f 8 6 * 1000000000 + canField f 4 4 + s.objN 0x2C00 3) * 1000 : Nat) : Int)) 1000)) ∧
    s'.clk.fix = (s.advance t).clk.fix ∧ s'.tim.selected = 2 ∧ s'.tim.steps = s.tim.steps + 1 ∧
    (domOf s' 1).master = canField f 16 8 ∧
    (domOf s' 1).theta = (cap - psU (((canField f 8 6 * 1000000000 + canField f 4 4 + s.objN 0x2C00 3) * 1000 : Nat) : Int))) ∧
  (∀ (t seq at_ : Nat) (cap : Int) (f : CanFrame) (s : State), s.pw.dev ≠ .off → canHears s f = true → canNode f = 0 →
    s.objB 0x2C00 4 = true → canFunc f = 1 → f.fd = true → canField f 0 1 = 2 → s.tim.canSync = some (seq, at_, cap) →
    f.data.length = 24 → canField f 14 2 = 0 → 10 ≤ canField f 2 2 → canField f 2 2 ≤ 10000 → canField f 1 1 = seq →
    (s.advance t).now ≤ at_ + 100000000000 → s.tim.doms.length = 2 → s.clk.valid = true → s.clk.step = none →
    s.tim.selected = 2 → ((domOf s 1).st = 1 ∨ (domOf s 1).st = 2) → (domOf s 1).master = canField f 16 8 →
    ((((cap - psU (((canField f 8 6 * 1000000000 + canField f 4 4 + s.objN 0x2C00 3) * 1000 : Nat) : Int)) - (domOf (foldPred (s.advance t)) 1).pred).natAbs : Nat) : Int) ≤ outlierLimit 1 →
    ∃ s', exec (.canFollow t f) s = .next s' ∧ keepsBut (.tim :: .clk :: .free :: raiseBlks) (s.advance t) s' ∧
    s'.clk.valid = true ∧ s'.tim.selected = 2 ∧ s'.tim.stepArmed = false ∧
    s'.tim.steps = (if s.tim.stepArmed = true then s.tim.steps + 1 else s.tim.steps) ∧
    (domOf s' 1).theta = (cap - psU (((canField f 8 6 * 1000000000 + canField f 4 4 + s.objN 0x2C00 3) * 1000 : Nat) : Int)) ∧
    s'.clk.step = (if s.tim.stepArmed = true then some (-(roundFree 1 (cap - psU (((canField f 8 6 * 1000000000 + canField f 4 4 + s.objN 0x2C00 3) * 1000 : Nat) : Int)) 1000)) else none)) ∧
  (∀ (t : Nat) (f : CanFrame) (s : State), s.pw.dev ≠ .off → canHears s f = true → canNode f = 0 →
    s.objB 0x2C00 4 = true → canFunc f = 1 → f.fd = true → canField f 0 1 = 2 → s.tim.canSync = none →
    ∃ s', exec (.canFollow t f) s = .next s' ∧ keepsBut [.tim, .can] (s.advance t) s' ∧
    s'.tim = { s.tim with discards := s.tim.discards + 1 }) ∧
  (∀ (t : Nat) (d : Dom) (s : State), s.pw.dev ≠ .off →
    ((domOf s (if d = .a then 0 else 1)).st = 1 ∨ (domOf s (if d = .a then 0 else 1)).st = 2) →
    lossDue (s.advance t) (if d = .a then 0 else 1) = true → ∃ s', exec (.domainLoss t d) s = .next s' ∧
    keepsBut (.tim :: .clk :: .free :: raiseBlks) (s.advance t) s' ∧ (domOf s' (if d = .a then 0 else 1)).st = 3 ∧
    (domOf s' (if d = .a then 0 else 1)).hist = []) ∧
  (∀ (t : Nat) (d : Dom) (s : State), s.pw.dev ≠ .off → lossDue (s.advance t) (if d = .a then 0 else 1) = false →
    ∃ s', exec (.domainLoss t d) s = .next s' ∧ keepsBut [] (s.advance t) s' ∧ s'.tim = s.tim) ∧
  (∀ (t : Nat) (d : Int) (s : State), s.pw.dev ≠ .off → clockOn s = true → 0 < tb2Period s →
    s.clk.phase < tb2Period s → t = s.now + (tb2Period s - s.clk.phase) → s.clk.step = some d → s.tim.selected = 0 →
    ∃ s', exec (.domainReturn t) s = .next s' ∧ keepsBut [] (s.advance t) s' ∧ s'.clk.valid = true ∧
    s'.clk.step = none ∧
    s'.clk.fix = (s.clk.setFix (((s.clk.setFix (s.clk.fix + clkInc (nomInc s) s.clk.c)).fix : Int) + d).toNat).fix) ∧
  (∀ (t : Nat) (s : State), s.pw.dev ≠ .off → s.objN 0x2C00 1 < 2 → s.tim.selected ≠ 0 →
    s.tim.selected ≠ s.objN 0x2C00 1 + 1 → (domOf s (s.objN 0x2C00 1)).st = 2 →
    (domOf s (s.objN 0x2C00 1)).lockedSince.any (fun a => decide (a + 10000000000000 ≤ (s.advance t).now)) = true →
    ∃ s', exec (.domainReturn t) s = .next s' ∧ keepsBut (.tim :: .clk :: .free :: raiseBlks) (s.advance t) s' ∧
    s'.tim.selected = s.objN 0x2C00 1 + 1 ∧ s'.tim.switches = s.tim.switches + 1 ∧ s'.tim.steps = s.tim.steps) ∧
  (∀ (t : Nat) (s : State), s.pw.dev ≠ .off →
    (domOf s (s.objN 0x2C00 1)).lockedSince.any (fun a => decide (a + 10000000000000 ≤ (s.advance t).now)) = false →
    ∃ s', exec (.domainReturn t) s = .next s' ∧ keepsBut [] (s.advance t) s' ∧ s'.tim = s.tim) ∧
  (∀ (t v : Nat) (p : Path) (s : State), s.pw.dev ≠ .off → takes s p 0x2C00 5 (leBytes 1 v) = true →
    ∃ s', exec (.timeStepWrite t p v) s = .next s' ∧ keepsBut [.tim, .dict] (s.advance t) s' ∧
    s'.tim = { s.tim with stepArmed := true } ∧ s'.dict.answer = 0)

/-- TP_MODE_WRITE, TP_PULSE_START, TP_PULSE_END, TC_CAPTURE and TC_ACK. Each clause: under its hypotheses on the state
and the operands exec answers a next state, in which no part of the state but those it lists differs from the state at
the command's instant, and there (1) a pin whose pulse is due goes to its active level and counts the pulse, and no
other pin changes (R375, R377, R378); (2) a pin whose pulse is not due, or lasts, stays as it is (R377); (3) at the
end of its width or window it returns to its inactive level, a ONESHOT to OFF (R377, R379); (4) before that it stays
as it is (R377); (5) a write of tp.mode that passes the checks of R379 puts start, period, width, polarity and source
as written into force with the mode, the pin inactive (R379); (6) a period or width that is odd, or a period outside
its range, is refused (R379); (7) an edge selected by tc.edge of a pulse of 20 ns or more, 40 ns or more after the
last one, is queued with the local time, the next SEQ, its edge and the clock flags (R381, R382); (8) into a FIFO of
16 it is not, and the overflow is counted (R382); (9) a shorter pulse is no edge (R381); (10) tc.ack with the SEQ of
the oldest entry removes it (R382); (11) with another SEQ, or on an empty FIFO, it is refused (R382). -/
def Obligations.PulsesAndCaptures : Prop :=
  (∀ (t : Nat) (n : Fin 4) (s : State), s.pw.dev ≠ .off → n.val < s.tim.tp.length →
    tpDue (s.advance t) (nth s.tim.tp n.val {}) = true → (nth s.tim.tp n.val {}).active = false →
    ∃ s', exec (.tpPulseStart t n) s = .next s' ∧ keepsBut [.tim] (s.advance t) s' ∧
    (nth s'.tim.tp n.val {}).active = true ∧ (nth s'.tim.tp n.val {}).upAt = (((s.advance t).clk.fix : Nat) : Int) ∧
    (nth s'.tim.tp n.val {}).count = (nth s.tim.tp n.val {}).count + 1 ∧ (∀ k < 4, k ≠ n.val →
    nth s'.tim.tp k {} = nth s.tim.tp k {})) ∧
  (∀ (t : Nat) (n : Fin 4) (s : State), s.pw.dev ≠ .off →
    (tpDue (s.advance t) (nth s.tim.tp n.val {}) = false ∨ (nth s.tim.tp n.val {}).active = true) →
    ∃ s', exec (.tpPulseStart t n) s = .next s' ∧ keepsBut [] (s.advance t) s' ∧ s'.tim = s.tim) ∧
  (∀ (t : Nat) (n : Fin 4) (s : State), s.pw.dev ≠ .off → n.val < s.tim.tp.length →
    (nth s.tim.tp n.val {}).active = true → tpOver (s.advance t) (nth s.tim.tp n.val {}) = true →
    ∃ s', exec (.tpPulseEnd t n) s = .next s' ∧ keepsBut [.tim, .objs, .dict] (s.advance t) s' ∧
    (nth s'.tim.tp n.val {}).active = false ∧
    (nth s'.tim.tp n.val {}).mode = (if (nth s.tim.tp n.val {}).mode = 1 then 0 else (nth s.tim.tp n.val {}).mode)) ∧
  (∀ (t : Nat) (n : Fin 4) (s : State), s.pw.dev ≠ .off →
    ((nth s.tim.tp n.val {}).active = false ∨ tpOver (s.advance t) (nth s.tim.tp n.val {}) = false) →
    ∃ s', exec (.tpPulseEnd t n) s = .next s' ∧ keepsBut [] (s.advance t) s' ∧ s'.tim = s.tim) ∧
  (∀ (t v : Nat) (p : Path) (n : Fin 4) (s : State), s.pw.dev ≠ .off →
    takes s p (0x2C10 + n.val) 1 (leBytes 1 v) = true → n.val < s.tim.tp.length → v < 256 →
    s.objN (0x2C10 + n.val) 3 % 2 = 0 → 1000 ≤ s.objN (0x2C10 + n.val) 3 → s.objN (0x2C10 + n.val) 3 ≤ 1000000000000 →
    s.objN (0x2C10 + n.val) 4 % 2 = 0 → (v = 2 → s.objN (0x2C10 + n.val) 4 < s.objN (0x2C10 + n.val) 3) → (v = 3 →
    s.objN (0x2C10 + n.val) 6 ≤ 1) → (v = 4 → s.objN (0x2C10 + n.val) 6 ≤ 5) →
    ∃ s', exec (.tpModeWrite t p n v) s = .next s' ∧ keepsBut [.tim, .objs, .dict] (s.advance t) s' ∧
    s'.dict.answer = 0 ∧ (nth s'.tim.tp n.val {}).mode = v ∧
    (nth s'.tim.tp n.val {}).start = s.objT (0x2C10 + n.val) 2 ∧
    (nth s'.tim.tp n.val {}).period = s.objN (0x2C10 + n.val) 3 ∧
    (nth s'.tim.tp n.val {}).width = s.objN (0x2C10 + n.val) 4 ∧
    (nth s'.tim.tp n.val {}).activeLow = s.objB (0x2C10 + n.val) 5 ∧
    (nth s'.tim.tp n.val {}).source = s.objN (0x2C10 + n.val) 6 ∧ (nth s'.tim.tp n.val {}).active = false) ∧
  (∀ (t v : Nat) (p : Path) (n : Fin 4) (s : State), s.pw.dev ≠ .off →
    takes s p (0x2C10 + n.val) 1 (leBytes 1 v) = true →
    (s.objN (0x2C10 + n.val) 3 % 2 = 1 ∨ s.objN (0x2C10 + n.val) 3 < 1000 ∨ 1000000000000 < s.objN (0x2C10 + n.val) 3 ∨ s.objN (0x2C10 + n.val) 4 % 2 = 1) →
    ∃ s', exec (.tpModeWrite t p n v) s = .next s' ∧ keepsBut [.dict] (s.advance t) s' ∧ s'.dict.answer = abRange) ∧
  (∀ (t width : Nat) (n : Fin 2) (falling : Bool) (s : State), s.pw.dev ≠ .off → clockOn s = true →
    (s.objN (0x2C20 + n.val) 1 = 3 ∨ s.objN (0x2C20 + n.val) 1 = (if falling = true then 2 else 1)) → 20 ≤ width →
    n.val < s.tim.tc.length →
    (nth s.tim.tc n.val {}).lastAt.all (fun a => decide (a + 40000 ≤ (s.advance t).now)) = true →
    (nth s.tim.tc n.val {}).fifo.length < 16 → ∃ s', exec (.tcCapture t n falling width) s = .next s' ∧
    keepsBut [.tim, .pat, .mg] (s.advance t) s' ∧
    (nth s'.tim.tc n.val {}).fifo = (nth s.tim.tc n.val {}).fifo ++ [{ sec := (s.advance t).clk.sec, ns := (s.advance t).clk.ns, frac := (s.advance t).clk.frac / 65536, seq := (nth s.tim.tc n.val {}).seq, edge := b2n falling, flags := b2n s.clk.valid + 2 * b2n (onKeeper s) + 4 * b2n s.tim.holdover }] ∧
    (nth s'.tim.tc n.val {}).lastAt = some (s.advance t).now) ∧
  (∀ (t width : Nat) (n : Fin 2) (falling : Bool) (s : State), s.pw.dev ≠ .off → clockOn s = true →
    (s.objN (0x2C20 + n.val) 1 = 3 ∨ s.objN (0x2C20 + n.val) 1 = (if falling = true then 2 else 1)) → 20 ≤ width →
    n.val < s.tim.tc.length →
    (nth s.tim.tc n.val {}).lastAt.all (fun a => decide (a + 40000 ≤ (s.advance t).now)) = true →
    16 ≤ (nth s.tim.tc n.val {}).fifo.length → ∃ s', exec (.tcCapture t n falling width) s = .next s' ∧
    keepsBut [.tim, .pat, .mg] (s.advance t) s' ∧ (nth s'.tim.tc n.val {}).fifo = (nth s.tim.tc n.val {}).fifo ∧
    (nth s'.tim.tc n.val {}).overflows = (nth s.tim.tc n.val {}).overflows + 1) ∧
  (∀ (t width : Nat) (n : Fin 2) (falling : Bool) (s : State), s.pw.dev ≠ .off → width < 20 →
    ∃ s', exec (.tcCapture t n falling width) s = .next s' ∧ keepsBut [] (s.advance t) s' ∧ s'.tim = s.tim) ∧
  (∀ (t v : Nat) (p : Path) (n : Fin 2) (e : TcEntry) (rest : List TcEntry) (s : State), s.pw.dev ≠ .off →
    takes s p (0x2C20 + n.val) 4 (leBytes 2 v) = true → v < 65536 → (nth s.tim.tc n.val {}).fifo = e :: rest →
    v = e.seq → ∃ s', exec (.tcAck t p n v) s = .next s' ∧ keepsBut [.tim, .dict] (s.advance t) s' ∧
    s'.dict.answer = 0 ∧ (nth s'.tim.tc n.val {}).fifo = rest) ∧
  (∀ (t v : Nat) (p : Path) (n : Fin 2) (s : State), s.pw.dev ≠ .off →
    takes s p (0x2C20 + n.val) 4 (leBytes 2 v) = true → v < 65536 →
    (∀ e ∈ (nth s.tim.tc n.val {}).fifo.head?, e.seq ≠ v) → ∃ s', exec (.tcAck t p n v) s = .next s' ∧
    keepsBut [.dict] (s.advance t) s' ∧ s'.dict.answer = abState)

/-- FORCED_SWITCH, TIMEBASE_STOPPED and KEEPER_PERIOD_FAULT. Each clause: under its hypotheses on the state and the
operands exec answers a next state, in which no part of the state but those it lists differs from the state at the
command's instant, and there (1) a timebase with a fallback takes its other source, to TB0 only while that is
qualified; the switch is counted as a switch and as a forced one, and source 0xB4 is raised (R417, R419); (2) TB11
goes with TB4 (R27, R417); (3) without a fallback, on its source already, or towards a TB0 not qualified it stays
(R417, R419); (4) a timebase that stops without a fallback has no source and its cause 0xF0 + n is present (R420); (5)
a keeper period out of range declares TB5 stopped (R421). -/
def Obligations.TimebasesSwitch : Prop :=
  (∀ (t : Nat) (tb : Fin 13) (toKeeper : Bool) (s : State), s.pw.dev ≠ .off → tb.val < s.tb.src.length →
    fallbackTbs.contains tb.val = true → nth s.tb.src tb.val 2 ≠ (if toKeeper = true then 1 else 0) →
    (toKeeper = true ∨ s.tb.tb0 = true) → ∃ s', exec (.forcedSwitch t tb toKeeper) s = .next s' ∧
    keepsBut tbBlks (s.advance t) s' ∧ nth s'.tb.src tb.val 2 = (if toKeeper = true then 1 else 0) ∧
    s'.tb.forced = s.tb.forced + 1 ∧ s'.tb.switches = s.tb.switches + 1 ∧ bmGet s'.saf.latched 0xB4 = true) ∧
  (∀ (t : Nat) (toKeeper : Bool) (s : State), s.pw.dev ≠ .off → s.tb.src.length = 13 →
    nth s.tb.src 4 2 ≠ (if toKeeper = true then 1 else 0) → (toKeeper = true ∨ s.tb.tb0 = true) →
    ∃ s', exec (.forcedSwitch t 4 toKeeper) s = .next s' ∧ keepsBut tbBlks (s.advance t) s' ∧
    nth s'.tb.src 4 2 = (if toKeeper = true then 1 else 0) ∧ nth s'.tb.src 11 2 = nth s'.tb.src 4 2) ∧
  (∀ (t : Nat) (tb : Fin 13) (toKeeper : Bool) (s : State), s.pw.dev ≠ .off →
    (fallbackTbs.contains tb.val = false ∨ nth s.tb.src tb.val 2 = (if toKeeper = true then 1 else 0) ∨ toKeeper = false ∧
    s.tb.tb0 = false) → ∃ s', exec (.forcedSwitch t tb toKeeper) s = .next s' ∧ keepsBut [] (s.advance t) s' ∧
    s'.tb = s.tb) ∧
  (∀ (t : Nat) (tb : Fin 13) (s : State), s.pw.dev ≠ .off → tb.val < s.tb.src.length → tb.val < s.tb.stopped.length →
    ∃ s', exec (.timebaseStopped t tb) s = .next s' ∧ keepsBut tbBlks (s.advance t) s' ∧ nth s'.tb.src tb.val 2 = 2 ∧
    nth s'.tb.stopped tb.val false = true ∧ bmGet s'.saf.causes (0xF0 + tb.val) = true) ∧
  (∀ (t : Nat) (s : State), s.pw.dev ≠ .off → 5 < s.tb.src.length → 5 < s.tb.stopped.length →
    ∃ s', exec (.keeperPeriodFault t) s = .next s' ∧ keepsBut tbBlks (s.advance t) s' ∧ nth s'.tb.src 5 2 = 2 ∧
    nth s'.tb.stopped 5 false = true ∧ bmGet s'.saf.causes 0xF5 = true)

/-- KEEPER_STARTED, CAN_START_OF_FRAME and KEEPER_TIMEOUT. Each clause: under its hypotheses on the state and the
operands exec answers a next state, in which no part of the state but those it lists differs from the state at the
command's instant, and there (1) after its 4,096 periods the keeper is UNQUALIFIED (R421); (2) once it has started
that does nothing more (R421); (3) a span of nominal CAN bits with c periods of 1/64, while TB0 is not offered, gives
P and KT by the formulas of R422, with CAN as the reference (R422); (4) while TB0 is offered, or before the keeper has
started, it measures nothing (R422); (5) 10 s without a measurement end its qualification (R423); (6) less does not
(R423). -/
def Obligations.KeeperIsMeasured : Prop :=
  (∀ (t : Nat) (s : State), s.pw.dev ≠ .off → s.tb.keeper = .starting → ∃ s', exec (.keeperStarted t) s = .next s' ∧
    keepsBut [.tb, .clk] (s.advance t) s' ∧ s'.tb = { s.tb with keeper := .unqualified, lastMeas := (s.advance t).now }) ∧
  (∀ (t : Nat) (s : State), s.pw.dev ≠ .off → s.tb.keeper ≠ .starting → ∃ s', exec (.keeperStarted t) s = .next s' ∧
    keepsBut [] (s.advance t) s' ∧ s'.tb = s.tb) ∧
  (∀ (t bits c : Nat) (s : State), s.pw.dev ≠ .off → s.tb.offered = false → clockOn s = true →
    s.tb.keeper ≠ .starting → 0 < bits → 0 < c → ∃ s', exec (.canStartOfFrame t bits c) s = .next s' ∧
    keepsBut (.meas :: tbBlks) (s.advance t) s' ∧
    s'.tb.p = (bits * canBitPs s * 64 * 4294967296 + 500 * c) / (1000 * c) ∧
    s'.tb.kt = keeperTrim s.tb.kt (keeperD (bits * canBitPs s) c) ∧ s'.tb.reference = 2 ∧ s'.tb.measured = true ∧
    s'.tb.lastMeas = (s.advance t).now) ∧
  (∀ (t bits c : Nat) (s : State), s.pw.dev ≠ .off → (s.tb.offered = true ∨ s.tb.keeper = .starting) →
    ∃ s', exec (.canStartOfFrame t bits c) s = .next s' ∧ keepsBut [] (s.advance t) s' ∧ s'.tb = s.tb) ∧
  (∀ (t : Nat) (s : State), s.pw.dev ≠ .off → s.tb.keeper = .qualified →
    s.tb.lastMeas + 10000000000000 ≤ (s.advance t).now → ∃ s', exec (.keeperTimeout t) s = .next s' ∧
    keepsBut [.tb, .can] (s.advance t) s' ∧ s'.tb = { s.tb with keeper := .unqualified, agree := 0, canGood := 0 }) ∧
  (∀ (t : Nat) (s : State), s.pw.dev ≠ .off → (s.advance t).now < s.tb.lastMeas + 10000000000000 →
    ∃ s', exec (.keeperTimeout t) s = .next s' ∧ keepsBut [] (s.advance t) s' ∧ s'.tb = s.tb)

/-- MONITOR_WINDOW. VCC_LOW, VCC_MONITOR_CLEAR, RAIL_TRIP and RAIL_RECOVER. Each clause: under its hypotheses on the
state and the operands exec answers a next state, in which no part of the state but those it lists differs from the
state at the command's instant, and there (1) a window whose count of TB0 ticks agrees within 2 % is counted, and the
third in a row qualifies the keeper (R423, R424); (2) one that does not agree, or a loss of edges, with the keeper
QUALIFIED raises 0xB2, is counted and leaves TB0 not qualified (R417, R424); (3) without an edge every timebase with a
fallback goes to the keeper by a forced switch (R419, R424); (4) with the keeper not QUALIFIED it is counted and is
the cause of 0xB3 (R424); (5) without TB0 offered, or before a measurement, no window is judged (R424); (6) VCC below
0.69 V in READY or LIT is the cause of source 0xB5 (R33); (7) in another state it is not (R33); (8) VCC at 0.70 V for
1 ms ends that cause; what is latched stays (R33); (9) rail r out of range is the cause of source 0xB8 + r, and
without VCAN there is no CAN (R515, R535); (10) its recovery ends the cause; what is latched stays (R515). -/
def Obligations.MonitorsJudge : Prop :=
  (∀ (t n : Nat) (s : State), s.pw.dev ≠ .off → s.tb.offered = true → s.tb.measured = true →
    monitorAgrees n s.tb.p = true → ∃ s', exec (.monitorWindow t n false) s = .next s' ∧
    keepsBut tbBlks (s.advance t) s' ∧ s'.tb.agree = min 3 (s.tb.agree + 1) ∧ (3 ≤ s.tb.agree + 1 →
    s.tb.keeper = .unqualified → s'.tb.keeper = .qualified)) ∧
  (∀ (t n : Nat) (noEdge : Bool) (s : State), s.pw.dev ≠ .off → s.tb.offered = true → s.tb.measured = true →
    (monitorAgrees n s.tb.p = false ∨ noEdge = true) → s.tb.keeper = .qualified →
    ∃ s', exec (.monitorWindow t n noEdge) s = .next s' ∧ keepsBut tbBlks (s.advance t) s' ∧ s'.tb.tb0 = false ∧
    s'.tb.agree = 0 ∧ s'.tb.monitorTrips = s.tb.monitorTrips + 1 ∧ bmGet s'.saf.latched 0xB2 = true) ∧
  (∀ (t n : Nat) (s : State), s.pw.dev ≠ .off → s.tb.offered = true → s.tb.measured = true →
    s.tb.keeper = .qualified → s.tb.src.length = 13 → ∃ s', exec (.monitorWindow t n true) s = .next s' ∧
    keepsBut tbBlks (s.advance t) s' ∧
    s'.tb.forced = s.tb.forced + BitVec.ofNat 32 (fallbackTbs.countP (fun k => nth s.tb.src k 2 ≠ 1)) ∧
    (∀ k ∈ fallbackTbs, nth s'.tb.src k 2 = 1)) ∧
  (∀ (t n : Nat) (noEdge : Bool) (s : State), s.pw.dev ≠ .off → s.tb.offered = true → s.tb.measured = true →
    (monitorAgrees n s.tb.p = false ∨ noEdge = true) → s.tb.keeper ≠ .qualified →
    ∃ s', exec (.monitorWindow t n noEdge) s = .next s' ∧ keepsBut tbBlks (s.advance t) s' ∧ s'.tb.agree = 0 ∧
    s'.tb.unqualTrips = s.tb.unqualTrips + 1 ∧ bmGet s'.saf.causes 0xB3 = true) ∧
  (∀ (t n : Nat) (noEdge : Bool) (s : State), s.pw.dev ≠ .off → (s.tb.offered = false ∨ s.tb.measured = false) →
    ∃ s', exec (.monitorWindow t n noEdge) s = .next s' ∧ keepsBut [] (s.advance t) s' ∧ s'.tb = s.tb) ∧
  (∀ (t : Nat) (s : State), s.pw.dev ≠ .off → (s.pw.dev = .ready ∨ s.pw.dev = .lit) →
    ∃ s', exec (.vccLow t) s = .next s' ∧ keepsBut (.pw :: raiseBlks) (s.advance t) s' ∧
    bmGet s'.saf.causes 0xB5 = true ∧ s'.pw = { s.pw with vccOk := false }) ∧
  (∀ (t : Nat) (s : State), s.pw.dev ≠ .off → s.pw.dev ≠ .ready → s.pw.dev ≠ .lit →
    ∃ s', exec (.vccLow t) s = .next s' ∧ keepsBut [.pw] (s.advance t) s' ∧ s'.saf = s.saf) ∧
  (∀ (t : Nat) (s : State), s.pw.dev ≠ .off → ∃ s', exec (.vccMonitorClear t) s = .next s' ∧
    keepsBut [.pw, .saf] (s.advance t) s' ∧ bmGet s'.saf.causes 0xB5 = false ∧ s'.saf.latched = s.saf.latched ∧
    s'.pw = { s.pw with vccOk := true }) ∧
  (∀ (t : Nat) (r : Fin 6) (s : State), s.pw.dev ≠ .off → ∃ s', exec (.railTrip t r) s = .next s' ∧
    keepsBut (.pw :: raiseBlks) (s.advance t) s' ∧ bmGet s'.saf.causes (0xB8 + r.val) = true ∧
    s'.pw = { s.pw with railOut := s.pw.railOut ||| BitVec.twoPow 6 r.val } ∧ (r.val = 5 → canUp s' = false)) ∧
  (∀ (t : Nat) (r : Fin 6) (s : State), s.pw.dev ≠ .off → ∃ s', exec (.railRecover t r) s = .next s' ∧
    keepsBut [.pw, .saf] (s.advance t) s' ∧ s'.pw = { s.pw with railOut := s.pw.railOut &&& ~~~BitVec.twoPow 6 r.val } ∧
    bmGet s'.saf.causes (0xB8 + r.val) = false ∧ s'.saf.latched = s.saf.latched)

/-- ALIGN and FERRY_RX. Each clause: under its hypotheses on the state and the operands exec answers a next state, in
which no part of the state but those it lists differs from the state at the command's instant, and there (1) in FL0 a
good ALIGN on lane 0 is captured with its COUNT, the instant and the local time, and a COUNT that does not follow its
predecessor counts as a jump unless the marker is the first (R116, R117, R364); (2) a bad one is counted as a marker
error and not captured (R117); (3) the control block of a lane in force that fails its check is counted once on its
lane (R112); (4) a block whose header is neither 01 nor 10, given as no bytes, is counted on its lane and its slot
ignored (R113); (5) in FL0 the CTLE code of each lane in force moves by at most one step per 10 us, and the FERRY_RX
calibration is recorded with the largest change as its value and with NO_CHANGE or UPDATED (R106, R285). -/
def Obligations.MarkersAreCaptured : Prop :=
  (∀ (t c : Nat) (blks : List (List Byte)) (skew : List Nat) (s : State), s.pw.dev ≠ .off → s.lane.st = .fl0 →
    ctlOk 0x02 (slotBlk blks s) = true → ∃ s', exec (.align t blks skew c) s = .next s' ∧
    keepsBut (.meas :: linkBlks) (s.advance t) s' ∧ s'.lane.count = some (leField (slotBlk blks s) 8 4) ∧
    s'.lane.markers.head? = some { count := leField (slotBlk blks s) 8 4, at_ := (s.advance t).now, time := (s.advance t).clk.fix * 1000 } ∧
    s'.lane.markerJumps = (if s.lane.firstAlign = false ∧
    ¬(∃ k ∈ s.lane.count, (k + 1) % 4294967296 = leField (slotBlk blks s) 8 4) then s.lane.markerJumps + 1 else s.lane.markerJumps) ∧
    s'.lane.markerErrors = s.lane.markerErrors) ∧
  (∀ (t c : Nat) (blks : List (List Byte)) (skew : List Nat) (s : State), s.pw.dev ≠ .off → s.lane.st = .fl0 →
    (slotBlk blks s) ≠ [] → ctlOk 0x02 (slotBlk blks s) = false → ∃ s', exec (.align t blks skew c) s = .next s' ∧
    keepsBut [.lane, .phy, .tb] (s.advance t) s' ∧ s'.lane.markerErrors = s.lane.markerErrors + 1 ∧
    s'.lane.count = s.lane.count ∧ s'.lane.markers = s.lane.markers ∧ s'.tb.goodAligns = 0) ∧
  (∀ (t c i : Nat) (blks : List (List Byte)) (skew : List Nat) (s : State), s.pw.dev ≠ .off → rxOn s = true →
    s.lane.st = .fl0 → i < s.lane.lanes → i < blks.length → i < s.lane.ctlErrors.length → nth blks i [] ≠ [] →
    (nth s.phy.rx i {}).fresh = false → ctlGood (nth blks i []) = false →
    ∃ s', exec (.align t blks skew c) s = .next s' ∧ keepsBut (.meas :: linkBlks) (s.advance t) s' ∧
    nth s'.lane.ctlErrors i 0 = nth s.lane.ctlErrors i 0 + 1) ∧
  (∀ (t c i : Nat) (blks : List (List Byte)) (skew : List Nat) (s : State), s.pw.dev ≠ .off → rxOn s = true →
    s.lane.st = .fl0 → i < s.lane.lanes → i < blks.length → i < s.lane.badHeaders.length → nth blks i [] = [] →
    ∃ s', exec (.align t blks skew c) s = .next s' ∧ keepsBut [.lane, .phy] (s.advance t) s' ∧
    nth s'.lane.badHeaders i 0 = nth s.lane.badHeaders i 0 + 1 ∧ s'.lane.count = s.lane.count ∧
    s'.lane.markers = s.lane.markers ∧ s'.lane.markerErrors = s.lane.markerErrors) ∧
  (∀ (t change : Nat) (ctle : List Nat) (dfe : List (List Int)) (eye : List Nat) (s : State), s.pw.dev ≠ .off →
    s.lane.st = .fl0 → 5 < s.diag.cal.length → ∃ s', exec (.ferryRx t ctle dfe eye change) s = .next s' ∧
    keepsBut [.lane, .diag, .saf] (s.advance t) s' ∧
    (∀ i < min s.lane.lanes 4, (((nth s'.lane.ctle i 0 : Nat) : Int) - ((nth s.lane.ctle i 0 : Nat) : Int)).natAbs ≤ ((s.advance t).now - s.lane.adaptAt) / 10000000) ∧
    s'.lane.adaptAt = (s.advance t).now ∧
    (nth s'.diag.cal 5 {}).value = (((List.range s.lane.lanes).foldl (fun a i => max a (((nth s'.lane.ctle i 0 : Nat) : Int) - ((nth s.lane.ctle i 0 : Nat) : Int)).natAbs) change : Nat) : Int) ∧
    (nth s'.diag.cal 5 {}).status = (if (nth s'.diag.cal 5 {}).value = 0 then 1 else 2) ∧
    (nth s'.diag.cal 5 {}).count = (nth s.diag.cal 5 {}).count + 1)

/-- BLANKING_TIMEOUT, HELM_WATCHDOG, HOLD_LINE_READBACK, SRESET_JAM, LINK_LOSS_TIMEOUT and SELF_FAULT. Each clause:
under its hypotheses on the state and the operands exec answers a next state, in which no part of the state but those
it lists differs from the state at the command's instant, and there (1) a blanking that is not acknowledged latches
0xDB (R393); (2) a missed service of the Helm watchdog, which runs in QUIET, READY and LIT, latches 0xC1 (R410); (3)
in another state it does nothing (R410); (4) a read-back of a hold line that differs from its command is the cause of
0xD8 or 0xD9 (R389); (5) one that agrees ends that cause, and what is latched stays (R389); (6) SRESET high for more
than 5 s on a running keeper is the cause of 0x04 (R402); (7) a shorter time, or without the keeper, is not (R402);
(8) the link down for tollgate.link_timeout, as the running keeper times it, is the cause of 0x05 (R411, R415); (9)
where the entry to FL0 waits in the same tick of TB5, FL0 prevails (R411); (10) with FL0 regained, or no link-down
event, nothing happens (R411); (11) a fault of the collector latches 0x00 and leaves the state at HOLD or above, with
both hold lines asserted in LIT and DISC_EN low in READY (R412, R429). -/
def Obligations.SourcesAreRaised : Prop :=
  (∀ (t : Nat) (s : State), s.pw.dev ≠ .off → ∃ s', exec (.blankingTimeout t) s = .next s' ∧
    keepsBut raiseBlks (s.advance t) s' ∧ bmGet s'.saf.latched 0xDB = true) ∧
  (∀ (t : Nat) (s : State), s.pw.dev ≠ .off → running s = true → ∃ s', exec (.helmWatchdog t) s = .next s' ∧
    keepsBut raiseBlks (s.advance t) s' ∧ bmGet s'.saf.latched 0xC1 = true ∧ s'.saf.helmMissed = some (s.advance t).now) ∧
  (∀ (t : Nat) (s : State), s.pw.dev ≠ .off → running s = false → ∃ s', exec (.helmWatchdog t) s = .next s' ∧
    keepsBut [] (s.advance t) s' ∧ s'.saf = s.saf) ∧
  (∀ (t : Nat) (south asserted : Bool) (s : State), s.pw.dev ≠ .off →
    asserted ≠ (if south = true then s.saf.holdS else s.saf.holdN) →
    ∃ s', exec (.holdLineReadback t south asserted) s = .next s' ∧ keepsBut raiseBlks (s.advance t) s' ∧
    bmGet s'.saf.causes (if south = true then 0xD9 else 0xD8) = true) ∧
  (∀ (t : Nat) (south asserted : Bool) (s : State), s.pw.dev ≠ .off →
    asserted = (if south = true then s.saf.holdS else s.saf.holdN) →
    ∃ s', exec (.holdLineReadback t south asserted) s = .next s' ∧ keepsBut [.saf] (s.advance t) s' ∧
    bmGet s'.saf.causes (if south = true then 0xD9 else 0xD8) = false ∧ s'.saf.latched = s.saf.latched) ∧
  (∀ (t : Nat) (s : State), s.pw.dev ≠ .off → sresetFor (s.advance t) 5000000000000 = true → keeperRuns s = true →
    ∃ s', exec (.sresetJam t) s = .next s' ∧ keepsBut raiseBlks (s.advance t) s' ∧ bmGet s'.saf.causes 0x04 = true) ∧
  (∀ (t : Nat) (s : State), s.pw.dev ≠ .off → (sresetFor (s.advance t) 5000000000000 = false ∨ keeperRuns s = false) →
    ∃ s', exec (.sresetJam t) s = .next s' ∧ keepsBut [] (s.advance t) s' ∧ s'.saf = s.saf) ∧
  (∀ (t : Nat) (s : State), s.pw.dev ≠ .off →
    s.lane.downAt.any (fun a => bandOver (s.advance t) a (s.objN 0x2D00 3 * 1000000000)) = true →
    s.pending.any (fl0Now (s.advance t)) = false → ∃ s', exec (.linkLossTimeout t) s = .next s' ∧
    keepsBut (.lane :: raiseBlks) (s.advance t) s' ∧ bmGet s'.saf.causes 0x05 = true ∧
    s'.lane = { s.lane with downAt := none }) ∧
  (∀ (t : Nat) (s : State), s.pw.dev ≠ .off → s.pending.any (fl0Now (s.advance t)) = true →
    ∃ s', exec (.linkLossTimeout t) s = .next s' ∧ keepsBut [] (s.advance t) s' ∧ s'.saf = s.saf) ∧
  (∀ (t : Nat) (s : State), s.pw.dev ≠ .off → s.lane.downAt = none → ∃ s', exec (.linkLossTimeout t) s = .next s' ∧
    keepsBut [] (s.advance t) s' ∧ s'.saf = s.saf) ∧
  (∀ (t : Nat) (s : State), s.pw.dev ≠ .off → ∃ s', exec (.selfFault t) s = .next s' ∧
    keepsBut raiseBlks (s.advance t) s' ∧ s'.saf.selfFault = true ∧ bmGet s'.saf.latched 0x00 = true ∧
    3 ≤ s'.saf.state.code ∧ (lit s = true → s'.saf.holdN = true ∧ s'.saf.holdS = true) ∧ (active s = true →
    lit s = false → s'.saf.discEn = false))

/-- TOLLGATE_CLEAR and CLEAR_ALL, accepted writes of tollgate.clear and tollgate.clear_all; clearCode is the result
code of R401 for one source. Each clause: under its hypotheses on the state and the operands exec answers a next
state, in which no part of the state but those it lists differs from the state at the command's instant, and there (1)
a clear whose code is DONE clears the latched bit of that source and no other (R401); (2) any other is refused with
SESSION or STATE, its code kept and the refusal counted (R401); (3) clear_all clears every source whose code is DONE
and no other, where there is one (R401); (4) and is refused and counted once where there is none (R401). -/
def Obligations.ClearsNeedTheirCauseGone : Prop :=
  (∀ (t id : Nat) (p : Path) (s : State), s.pw.dev ≠ .off → takes s p 0x2D11 1 (leBytes 1 id) = true → id < 256 →
    clearCode s p id = 0 → ∃ s', exec (.tollgateClear t p id) s = .next s' ∧
    keepsBut [.saf, .th, .dict] (s.advance t) s' ∧ s'.dict.answer = 0 ∧ s'.saf.clearResult = 0 ∧
    bmGet s'.saf.latched id = false ∧ (∀ i < 256, i ≠ id → bmGet s'.saf.latched i = bmGet s.saf.latched i)) ∧
  (∀ (t id : Nat) (p : Path) (s : State), s.pw.dev ≠ .off → takes s p 0x2D11 1 (leBytes 1 id) = true → id < 256 →
    clearCode s p id ≠ 0 → ∃ s', exec (.tollgateClear t p id) s = .next s' ∧ keepsBut [.saf, .dict] (s.advance t) s' ∧
    s'.dict.answer = (if clearCode s p id = 3 then abSession else abState) ∧
    s'.saf = { s.saf with clearResult := clearCode s p id, clearsRefused := s.saf.clearsRefused + 1 }) ∧
  (∀ (t v : Nat) (p : Path) (s : State), s.pw.dev ≠ .off → takes s p 0x2D11 2 (leBytes 1 v) = true →
    (∃ i < 256, clearCode s p i = 0) → ∃ s', exec (.clearAll t p v) s = .next s' ∧
    keepsBut [.saf, .th, .dict] (s.advance t) s' ∧ s'.dict.answer = 0 ∧ s'.saf.clearResult = 0 ∧
    (∀ i < 256, bmGet s'.saf.latched i = (bmGet s.saf.latched i && clearCode s p i != 0))) ∧
  (∀ (t v : Nat) (p : Path) (s : State), s.pw.dev ≠ .off → takes s p 0x2D11 2 (leBytes 1 v) = true →
    (∀ i < 256, clearCode s p i ≠ 0) → ∃ s', exec (.clearAll t p v) s = .next s' ∧
    keepsBut [.saf, .dict] (s.advance t) s' ∧ (s'.dict.answer = abState ∨ s'.dict.answer = abSession) ∧
    s'.saf.latched = s.saf.latched ∧ s'.saf.clearsRefused = s.saf.clearsRefused + 1)

/-- RESET_ARM and RESET_CONFIRM, accepted writes of 0x5A and 0xA5 to tollgate.reset, and SRESET_RISE, SRESET_REQUEST
and SRESET_ARM. Each clause: under its hypotheses on the state and the operands exec answers a next state, in which no
part of the state but those it lists differs from the state at the command's instant, and there (1) 0x5A starts the
sequence (R403); (2) 0xA5 within 100 ms, enabled, in LIMP or above with nothing of class LIMP or higher latched is
accepted and starts the return (R392, R403, R404); (3) above LIMP with class LIMP the highest latched and a VALID
pattern it moves to LIMP (R392); (4) in DARK with class HOLD the highest latched it moves to HOLD, the hold lines
asserted in LIT (R392); (5) in NORMAL or DEGRADED it is ignored and counted (R404); (6) 0xA5 without a 0x5A before it
requests nothing (R403); (7) SRESET high for 10 ms on a running keeper is one request of the pulse, enabled by its own
bit (R402, R404); (8) before that, a second time in the pulse, or without the keeper it is none (R402); (9) a rising
edge starts a pulse, which can request only where the input was armed (R402); (10) 50 ms low arm the input and end the
cause of 0x04 (R402). -/
def Obligations.ResetRequestsMoveDown : Prop :=
  (∀ (t : Nat) (p : Path) (s : State), s.pw.dev ≠ .off → takes s p 0x2D11 3 [0x5A] = true →
    ∃ s', exec (.resetArm t p) s = .next s' ∧ keepsBut [.saf, .dict] (s.advance t) s' ∧
    s'.saf = { s.saf with resetReg := 0x5A, resetArm := some (s.advance t).now } ∧ s'.dict.answer = 0) ∧
  (∀ (t a : Nat) (p : Path) (s : State), s.pw.dev ≠ .off → takes s p 0x2D11 3 [0xA5] = true →
    s.saf.resetArm = some a → (s.advance t).now ≤ a + 100000000000 → bitOf (s.objN 0x2D00 5) 1 = true →
    s.saf.selfFault = false → s.saf.pendingReturn = false → 2 ≤ s.saf.state.code → targetClass s < 2 →
    ∃ s', exec (.resetConfirm t p) s = .next s' ∧ keepsBut (.comp :: .pw :: raiseBlks) (s.advance t) s' ∧
    s'.dict.answer = 0 ∧ s'.saf.pendingReturn = true ∧ s'.saf.resetsAccepted = s.saf.resetsAccepted + 1 ∧
    s'.saf.resetsIgnored = s.saf.resetsIgnored ∧ s'.saf.resetArm = none ∧ s'.saf.state = s.saf.state) ∧
  (∀ (t a : Nat) (p : Path) (s : State), s.pw.dev ≠ .off → takes s p 0x2D11 3 [0xA5] = true →
    s.saf.resetArm = some a → (s.advance t).now ≤ a + 100000000000 → bitOf (s.objN 0x2D00 5) 1 = true →
    s.saf.selfFault = false → s.saf.pendingReturn = false → 3 ≤ s.saf.state.code → targetClass s = 2 →
    limpPick s (limpWish s s.saf.entrySource) ≠ 0 → ∃ s', exec (.resetConfirm t p) s = .next s' ∧
    keepsBut (.comp :: .pw :: raiseBlks) (s.advance t) s' ∧ s'.dict.answer = 0 ∧ s'.saf.state = .limp ∧
    s'.saf.limpPattern = limpPick s (limpWish s s.saf.entrySource) ∧ s'.saf.resetsAccepted = s.saf.resetsAccepted + 1) ∧
  (∀ (t a : Nat) (p : Path) (s : State), s.pw.dev ≠ .off → takes s p 0x2D11 3 [0xA5] = true →
    s.saf.resetArm = some a → (s.advance t).now ≤ a + 100000000000 → bitOf (s.objN 0x2D00 5) 1 = true →
    s.saf.selfFault = false → s.saf.pendingReturn = false → s.saf.state = .dark → targetClass s = 3 →
    ∃ s', exec (.resetConfirm t p) s = .next s' ∧ keepsBut (.comp :: .pw :: raiseBlks) (s.advance t) s' ∧
    s'.dict.answer = 0 ∧ s'.saf.state = .hold ∧ s'.saf.resetsAccepted = s.saf.resetsAccepted + 1 ∧ (lit s = true →
    s'.saf.holdN = true ∧ s'.saf.holdS = true)) ∧
  (∀ (t a : Nat) (p : Path) (s : State), s.pw.dev ≠ .off → takes s p 0x2D11 3 [0xA5] = true →
    s.saf.resetArm = some a → (s.advance t).now ≤ a + 100000000000 → bitOf (s.objN 0x2D00 5) 1 = true →
    s.saf.state.code ≤ 1 → ∃ s', exec (.resetConfirm t p) s = .next s' ∧
    keepsBut (.comp :: .pw :: raiseBlks) (s.advance t) s' ∧ s'.dict.answer = 0 ∧
    s'.saf.resetsIgnored = s.saf.resetsIgnored + 1 ∧ s'.saf.resetsAccepted = s.saf.resetsAccepted ∧
    s'.saf.state = s.saf.state) ∧
  (∀ (t : Nat) (p : Path) (s : State), s.pw.dev ≠ .off → takes s p 0x2D11 3 [0xA5] = true → s.saf.resetArm = none →
    ∃ s', exec (.resetConfirm t p) s = .next s' ∧ keepsBut [.saf, .dict] (s.advance t) s' ∧ s'.dict.answer = 0 ∧
    s'.saf = { s.saf with resetReg := 0xA5 }) ∧
  (∀ (t : Nat) (s : State), s.pw.dev ≠ .off → sresetFor (s.advance t) 10000000000 = true → s.saf.srDone = false →
    keeperRuns s = true → bitOf (s.objN 0x2D00 5) 0 = true → s.saf.selfFault = false → s.saf.pendingReturn = false →
    2 ≤ s.saf.state.code → targetClass s < 2 → ∃ s', exec (.sresetRequest t) s = .next s' ∧
    keepsBut (.comp :: .pw :: raiseBlks) (s.advance t) s' ∧ s'.saf.pendingReturn = true ∧ s'.saf.srDone = true ∧
    s'.saf.resetsAccepted = s.saf.resetsAccepted + 1 ∧ s'.saf.resetsIgnored = s.saf.resetsIgnored) ∧
  (∀ (t : Nat) (s : State), s.pw.dev ≠ .off →
    (sresetFor (s.advance t) 10000000000 = false ∨ s.saf.srDone = true ∨ keeperRuns s = false) →
    ∃ s', exec (.sresetRequest t) s = .next s' ∧ keepsBut [] (s.advance t) s' ∧ s'.saf = s.saf) ∧
  (∀ (t : Nat) (s : State), s.pw.dev ≠ .off → ∃ s', exec (.sresetRise t) s = .next s' ∧
    keepsBut [.saf] (s.advance t) s' ∧
    s'.saf = { s.saf with srLevel := true, srAt := (s.advance t).now, srArmed := false, srDone := !s.saf.srArmed }) ∧
  (∀ (t : Nat) (s : State), s.pw.dev ≠ .off → ∃ s', exec (.sresetArm t) s = .next s' ∧
    keepsBut [.saf] (s.advance t) s' ∧
    s'.saf = { s.saf with srLevel := false, srArmed := true, srDone := false, causes := bmClr s.saf.causes 0x04 })

/-- LEN_CHANGE and DISCREPANCY_TIMEOUT. Each clause: under its hypotheses on the state and the operands exec answers a
next state, in which no part of the state but those it lists differs from the state at the command's instant, and
there (1) after a change of a channel permission needs the start-up test, which both channels off pass, the disconnect
check and no discrepancy latch, follows the channels where they agree and is kept while they do not (R405, R406,
R407); (2) a disagreement that has lasted T_disc on a running keeper latches, latches 0x01, is counted and ends
permission (R406); (3) one that has ended or not lasted does not (R406). -/
def Obligations.LightEnableGovernsPermission : Prop :=
  (∀ (t : Nat) (b on : Bool) (s : State), s.pw.dev ≠ .off → ∃ s', exec (.lenChange t b on) s = .next s' ∧
    keepsBut [.saf, .sup, .arr, .frm, .diag] (s.advance t) s' ∧ s'.saf.lenA = (if b = true then s.saf.lenA else on) ∧
    s'.saf.lenB = (if b = true then on else s.saf.lenB) ∧
    s'.saf.startTest = (s.saf.startTest || (!s'.saf.lenA && !s'.saf.lenB)) ∧
    s'.saf.permission = (s'.saf.startTest && s.saf.discPassed && !s.saf.discrepLatch && (if s'.saf.lenA = s'.saf.lenB then s'.saf.lenA else s.saf.permission)) ∧
    s'.saf.state = s.saf.state ∧ s'.saf.latched = s.saf.latched) ∧
  (∀ (t : Nat) (s : State), s.pw.dev ≠ .off → s.saf.lenA ≠ s.saf.lenB → keeperRuns s = true →
    s.saf.disagreeAt.any (fun a => decide (a + discLeast s ≤ (s.advance t).now)) = true →
    ∃ s', exec (.discrepancyTimeout t) s = .next s' ∧ keepsBut raiseBlks (s.advance t) s' ∧ s'.saf.discrepLatch = true ∧
    s'.saf.permission = false ∧ s'.saf.discrepancies = s.saf.discrepancies + 1 ∧ bmGet s'.saf.latched 0x01 = true) ∧
  (∀ (t : Nat) (s : State), s.pw.dev ≠ .off →
    (s.saf.lenA = s.saf.lenB ∨ keeperRuns s = false ∨ s.saf.disagreeAt.any (fun a => decide (a + discLeast s ≤ (s.advance t).now)) = false) →
    ∃ s', exec (.discrepancyTimeout t) s = .next s' ∧ keepsBut [] (s.advance t) s' ∧ s'.saf = s.saf)

/-- DISC_FB_CHANGE and DISC_FB_TIMEOUT. Each clause: under its hypotheses on the state and the operands exec answers a
next state, in which no part of the state but those it lists differs from the state at the command's instant, and
there (1) outside the check a DISC_FB that comes to agree with DISC_EN ends the cause of 0x03, and an open switch
holds every PHG line at 0 (R300, R409); (2) open passes step 1 of the check and DISC_EN is asserted for step 2 (R408);
(3) closed passes step 2 and DISC_EN drops for step 3 (R408); (4) closed leaves step 3 waiting (R408); (5) closed
passes step 4, with which the whole check has passed unless step 4 alone ran (R408, R409); (6) T_fb over with DISC_FB
and DISC_EN in disagreement is the cause of 0x03 and raises it (R409); (7) T_fb over at a step that has not passed
raises 0x03 and ends the check, not passed; only a reset request of the same instant or a return that waits can begin
it again (R392, R408); (8) before T_fb is over the step waits (R408). -/
def Obligations.DisconnectSwitchIsChecked : Prop :=
  (∀ (t : Nat) (closed : Bool) (s : State), s.pw.dev ≠ .off → s.saf.discStep = 0 → closed = s.saf.discEn →
    ∃ s', exec (.discFbChange t closed) s = .next s' ∧ keepsBut [.saf, .sup] (s.advance t) s' ∧ s'.saf.discFb = closed ∧
    s'.saf.discAt = (s.advance t).now ∧ s'.saf.causes = bmClr s.saf.causes 0x03 ∧ s'.saf.discEn = s.saf.discEn ∧
    s'.saf.discStep = 0 ∧ s'.saf.latched = s.saf.latched ∧ s'.saf.state = s.saf.state ∧
    s'.saf.permission = s.saf.permission ∧
    s'.sup.phg = (if closed = true then s.sup.phg else [false, false, false, false])) ∧
  (∀ (t : Nat) (s : State), s.pw.dev ≠ .off → s.saf.discStep = 1 → ∃ s', exec (.discFbChange t false) s = .next s' ∧
    keepsBut [.saf, .sup] (s.advance t) s' ∧ s'.saf.discStep = 2 ∧ s'.saf.discEn = true ∧ s'.saf.discFb = false) ∧
  (∀ (t : Nat) (s : State), s.pw.dev ≠ .off → s.saf.discStep = 2 → ∃ s', exec (.discFbChange t true) s = .next s' ∧
    keepsBut [.saf] (s.advance t) s' ∧ s'.saf.discStep = 3 ∧ s'.saf.discEn = false ∧ s'.saf.discFb = true) ∧
  (∀ (t : Nat) (s : State), s.pw.dev ≠ .off → s.saf.discStep = 3 → ∃ s', exec (.discFbChange t true) s = .next s' ∧
    keepsBut [.saf] (s.advance t) s' ∧ s'.saf.discFb = true ∧ s'.saf.discStep = 3 ∧ s'.saf.discEn = s.saf.discEn ∧
    s'.saf.causes = s.saf.causes ∧ s'.saf.permission = s.saf.permission) ∧
  (∀ (t : Nat) (s : State), s.pw.dev ≠ .off → s.saf.discStep = 4 → ∃ s', exec (.discFbChange t true) s = .next s' ∧
    keepsBut lightBlks (s.advance t) s' ∧ s'.saf.discStep = 0 ∧
    s'.saf.discPassed = (s.saf.discPassed || !s.saf.discOnly4) ∧ s'.saf.closeOk = true) ∧
  (∀ (t : Nat) (s : State), s.pw.dev ≠ .off → s.saf.discStep = 0 → s.saf.discFb ≠ s.saf.discEn →
    bmGet s.saf.causes 0x03 = false → fbTimeOver (s.advance t) = true → ∃ s', exec (.discFbTimeout t) s = .next s' ∧
    keepsBut raiseBlks (s.advance t) s' ∧ bmGet s'.saf.latched 0x03 = true) ∧
  (∀ (t : Nat) (s : State), s.pw.dev ≠ .off → ((s.saf.discStep = 1 ∨ s.saf.discStep = 3) ∧
    s.saf.discFb = true ∨ (s.saf.discStep = 2 ∨ s.saf.discStep = 4) ∧ s.saf.discFb = false) →
    bmGet s.saf.causes 0x03 = false → fbTimeOver (s.advance t) = true → ∃ s', exec (.discFbTimeout t) s = .next s' ∧
    keepsBut raiseBlks (s.advance t) s' ∧ bmGet s'.saf.latched 0x03 = true ∧ s'.saf.discPassed = s.saf.discPassed ∧
    (s.saf.before = none → s.saf.pendingReturn = false → s'.saf.discStep = 0)) ∧
  (∀ (t : Nat) (s : State), s.pw.dev ≠ .off → ((s.saf.discStep = 1 ∨ s.saf.discStep = 3) ∧
    s.saf.discFb = true ∨ (s.saf.discStep = 2 ∨ s.saf.discStep = 4) ∧ s.saf.discFb = false) →
    fbTimeOver (s.advance t) = false → ∃ s', exec (.discFbTimeout t) s = .next s' ∧ keepsBut [] (s.advance t) s' ∧
    s'.saf = s.saf)

/-- CLASS_WRITE, LIMP_PATTERN_WRITE and FUNCTION_MAP_WRITE, accepted writes of their objects, and LIMP_LOAD_DONE. Each
clause: under its hypotheses on the state and the operands exec answers a next state, in which no part of the state
but those it lists differs from the state at the command's instant, and there (1) a class table that keeps every floor
is taken (R386); (2) another is refused (R386); (3) a limp pattern of the layout of Table 15.4 within the light limit,
for which there is room, goes into the staging copy and not into the copy in force (R396, R464); (4) one of another
layout is refused (R396); (5) a function map for which there is room is staged likewise (R65, R464); (6) while the
update path is PREPARED, and from a commit until its result, it is refused (R465, R472); (7) the limp loader in LIMP
fills the shadow words with the pattern read at the entry and leaves the active ones (R394); (8) outside LIMP, or a
second time, nothing is loaded (R394). -/
def Obligations.ProtectedRecordsAreStaged : Prop :=
  (∀ (t : Nat) (p : Path) (data : List Byte) (s : State), s.pw.dev ≠ .off → takes s p 0x2D10 3 data = true →
    classesOk s data = true → rising s.objs = true → ∃ s', exec (.classWrite t p data) s = .next s' ∧
    keepsBut (.objs :: raiseBlks) (s.advance t) s' ∧ s'.dict.answer = 0 ∧ s'.obj 0x2D10 3 = data) ∧
  (∀ (t : Nat) (p : Path) (data : List Byte) (s : State), s.pw.dev ≠ .off → takes s p 0x2D10 3 data = true →
    classesOk s data = false → ∃ s', exec (.classWrite t p data) s = .next s' ∧ keepsBut [.dict] (s.advance t) s' ∧
    s'.dict.answer = abRange) ∧
  (∀ (t : Nat) (p : Path) (n : Fin 4) (data : List Byte) (s : State), s.pw.dev ≠ .off →
    takes s p (0x2D30 + n.val) 1 data = true → limpLayout data = true → limpLight data ≤ 15728640000 →
    prepared s .updatePath = false → s.mg.psVerifying = false → copying s = false →
    protCoded { staging s with limp := (staging s).limp.modify n.val (fun _ => data) } ≤ 524288 →
    ∃ s', exec (.limpPatternWrite t p n data) s = .next s' ∧ keepsBut [.nv, .mg, .dict] (s.advance t) s' ∧
    s'.dict.answer = 0 ∧
    s'.nv = { s.nv with copies := s.nv.copies.modify (1 - s.nv.copy) (fun _ => { staging s with limp := (staging s).limp.modify n.val (fun _ => data) }) } ∧
    s'.mg.psStaged = true) ∧
  (∀ (t : Nat) (p : Path) (n : Fin 4) (data : List Byte) (s : State), s.pw.dev ≠ .off →
    takes s p (0x2D30 + n.val) 1 data = true → limpLayout data = false →
    ∃ s', exec (.limpPatternWrite t p n data) s = .next s' ∧ keepsBut [.dict] (s.advance t) s' ∧
    s'.dict.answer = abRange) ∧
  (∀ (t : Nat) (p : Path) (data : List Byte) (s : State), s.pw.dev ≠ .off → takes s p 0x2020 1 data = true →
    prepared s .updatePath = false → s.mg.psVerifying = false → copying s = false →
    protCoded { staging s with map := data } ≤ 524288 → ∃ s', exec (.functionMapWrite t p data) s = .next s' ∧
    keepsBut [.nv, .mg, .dict] (s.advance t) s' ∧ s'.dict.answer = 0 ∧
    s'.nv = { s.nv with copies := s.nv.copies.modify (1 - s.nv.copy) (fun _ => { staging s with map := data }) } ∧
    s'.mg.psStaged = true) ∧
  (∀ (t : Nat) (p : Path) (data : List Byte) (s : State), s.pw.dev ≠ .off → takes s p 0x2020 1 data = true →
    (prepared s .updatePath = true ∨ s.mg.psVerifying = true ∨ copying s = true) →
    ∃ s', exec (.functionMapWrite t p data) s = .next s' ∧ keepsBut [.dict] (s.advance t) s' ∧ s'.dict.answer = abState) ∧
  (∀ (t : Nat) (s : State), s.pw.dev ≠ .off → s.saf.state = .limp → s.saf.limpLoaded = false → s.saf.limpPattern ≠ 0 →
    ∃ s', exec (.limpLoadDone t) s = .next s' ∧ keepsBut [.saf, .arr] (s.advance t) s' ∧
    s'.saf = { s.saf with limpLoaded := true, limpSums := limpSums (s.advance t) s.saf.limpIn } ∧
    s'.arr.shadow = limpWords s.saf.limpIn ∧ s'.arr.active = s.arr.active) ∧
  (∀ (t : Nat) (s : State), s.pw.dev ≠ .off → (s.saf.state ≠ .limp ∨ s.saf.limpLoaded = true) →
    ∃ s', exec (.limpLoadDone t) s = .next s' ∧ keepsBut [] (s.advance t) s' ∧ s'.arr = s.arr)

/-- FACTORY_UNLOCK, FACTORY_EXIT, FACTORY_INJECT and FACTORY_INJECT_CLEAR, accepted writes of their objects. Each
clause: under its hypotheses on the state and the operands exec answers a next state, in which no part of the state
but those it lists differs from the state at the command's instant, and there (1) the fourth byte within 1 s of the
third and 10 s of the release of reset opens factory mode, the cause of 0x06 (R413); (2) an earlier byte of the
sequence in time moves it on (R413); (3) a wrong byte ends the sequence (R413); (4) 0x00 ends factory mode and every
injected cause (R413, R414); (5) an injected cause is latched like a real one and leaves the real one as it was, but
that of 0x03 where DISC_EN drops to agree with DISC_FB (R409, R414); (6) that of 0x00 acts as a fault of the collector
(R412, R414); (7) form 1 gives a first failure and its successful retry, both counted, nothing latched (R414); (8) an
identifier without a source or another form is refused (R414); (9) inject_clear ends every injected cause (R414). -/
def Obligations.FactoryModeUnlocks : Prop :=
  (∀ (t v : Nat) (p : Path) (s : State), s.pw.dev ≠ .off → takes s p 0xF010 1 (leBytes 1 v) = true → v < 256 →
    s.saf.factory = false → s.saf.unlockStep = 3 → v = 0x96 → (s.advance t).now ≤ s.saf.releaseAt + 10000000000000 →
    (s.advance t).now ≤ s.saf.unlockAt + 1000000000000 → ∃ s', exec (.factoryUnlock t p v) s = .next s' ∧
    keepsBut raiseBlks (s.advance t) s' ∧ s'.dict.answer = 0 ∧ s'.saf.factory = true ∧ bmGet s'.saf.causes 0x06 = true) ∧
  (∀ (t v : Nat) (p : Path) (s : State), s.pw.dev ≠ .off → takes s p 0xF010 1 (leBytes 1 v) = true → v < 256 →
    s.saf.factory = false → s.saf.unlockStep < 3 → v = unlockByte s.saf.unlockStep →
    (s.advance t).now ≤ s.saf.releaseAt + 10000000000000 → (s.saf.unlockStep ≠ 0 →
    (s.advance t).now ≤ s.saf.unlockAt + 1000000000000) → ∃ s', exec (.factoryUnlock t p v) s = .next s' ∧
    keepsBut [.saf, .dict] (s.advance t) s' ∧ s'.dict.answer = 0 ∧ s'.saf.factory = false ∧
    s'.saf.unlockStep = s.saf.unlockStep + 1) ∧
  (∀ (t v : Nat) (p : Path) (s : State), s.pw.dev ≠ .off → takes s p 0xF010 1 (leBytes 1 v) = true → v < 256 →
    s.saf.factory = false → v ≠ unlockByte s.saf.unlockStep → v ≠ 0x3C →
    ∃ s', exec (.factoryUnlock t p v) s = .next s' ∧ keepsBut [.saf, .dict] (s.advance t) s' ∧ s'.dict.answer = 0 ∧
    s'.saf.factory = false ∧ s'.saf.unlockStep = 0) ∧
  (∀ (t : Nat) (p : Path) (s : State), s.pw.dev ≠ .off → takes s p 0xF010 1 [0] = true → s.saf.factory = true →
    ∃ s', exec (.factoryExit t p) s = .next s' ∧ keepsBut [.saf, .dict] (s.advance t) s' ∧ s'.dict.answer = 0 ∧
    s'.saf.factory = false ∧ s'.saf.injected = 0 ∧ bmGet s'.saf.causes 0x06 = false) ∧
  (∀ (t id : Nat) (p : Path) (s : State), s.pw.dev ≠ .off → takes s p 0xF010 2 (leBytes 2 id) = true → id < 256 →
    hasSource id = true → id ≠ 0 → ∃ s', exec (.factoryInject t p id) s = .next s' ∧
    keepsBut raiseBlks (s.advance t) s' ∧ s'.dict.answer = 0 ∧ bmGet s'.saf.latched id = true ∧
    bmGet s'.saf.injected id = true ∧ (id ≠ 3 → bmGet s'.saf.causes id = bmGet s.saf.causes id)) ∧
  (∀ (t : Nat) (p : Path) (s : State), s.pw.dev ≠ .off → takes s p 0xF010 2 [0, 0] = true →
    ∃ s', exec (.factoryInject t p 0) s = .next s' ∧ keepsBut raiseBlks (s.advance t) s' ∧ s'.dict.answer = 0 ∧
    bmGet s'.saf.latched 0 = true ∧ s'.saf.selfFault = true ∧ 3 ≤ s'.saf.state.code) ∧
  (∀ (t id : Nat) (p : Path) (s : State), s.pw.dev ≠ .off → takes s p 0xF010 2 (leBytes 2 (256 + id)) = true →
    id < 256 → hasSource id = true → ∃ s', exec (.factoryInject t p (256 + id)) s = .next s' ∧
    keepsBut [.saf, .mg, .dict] (s.advance t) s' ∧ s'.dict.answer = 0 ∧ s'.saf.latched = s.saf.latched ∧
    s'.saf.transients = s.saf.transients.modify id (fun n => satInc16 (satInc16 n))) ∧
  (∀ (t v : Nat) (p : Path) (s : State), s.pw.dev ≠ .off → takes s p 0xF010 2 (leBytes 2 v) = true → v < 65536 →
    (hasSource (v % 256) = false ∨ 768 ≤ v) → ∃ s', exec (.factoryInject t p v) s = .next s' ∧
    keepsBut [.dict] (s.advance t) s' ∧ s'.dict.answer = abRange) ∧
  (∀ (t v : Nat) (p : Path) (s : State), s.pw.dev ≠ .off → takes s p 0xF010 3 (leBytes 1 v) = true →
    ∃ s', exec (.factoryInjectClear t p v) s = .next s' ∧ keepsBut [.saf, .dict] (s.advance t) s' ∧ s'.dict.answer = 0 ∧
    s'.saf = { s.saf with injected := 0 })

/-- POWER_UP, RSTN_LOW, VAON_LOSS, DOMAIN_BOUND_MISS and TAP_RESET_EXIT. Each clause: under its hypotheses on the
state and the operands exec answers a next state, in which no part of the state but those it lists differs from the
state at the command's instant, and there (1) power-up out of OFF is in BOOT without light permission, with the pins
read, the start-up test passed only where both channels read off, source 0x02 latched exactly where both read on, and
MRAM kept but for what waited (R405, R407, R428, R517); (2) out of another state it changes nothing (R428); (3) RSTN
low is OFF with every volatile state at its reset value, MRAM kept, the test port apart (R428, R517); (4) so is a loss
of VAON, the test port included (R515); (5) a domain that misses its bound is FAILED, counted, and the cause of its
source is present (R427); (6) leaving test-logic reset shifts the captured pins out on TDO and holds pin DISC_EN and
every PHG line low, whatever the Tollgate commands and the boundary register holds (R534). -/
def Obligations.PowerComesAndGoes : Prop :=
  (∀ (t : Nat) (testen lenA lenB fbClosed : Bool) (s : State), s.pw.dev = .off →
    ∃ s', exec (.powerUp t testen lenA lenB fbClosed) s = .next s' ∧ keepsBut coldBlks (s.advance t) s' ∧
    s'.pw.dev = .boot ∧ s'.saf.permission = false ∧ s'.saf.testen = testen ∧ s'.saf.lenA = lenA ∧ s'.saf.lenB = lenB ∧
    s'.saf.discFb = fbClosed ∧ s'.saf.startTest = (!lenA && !lenB) ∧ bmGet s'.saf.latched 0x02 = (lenA && lenB) ∧
    s'.nv = { s.nv with jrnlWait := [] }) ∧
  (∀ (t : Nat) (testen lenA lenB fbClosed : Bool) (s : State), s.pw.dev ≠ .off →
    ∃ s', exec (.powerUp t testen lenA lenB fbClosed) s = .next s' ∧ keepsBut [] (s.advance t) s' ∧ s'.pw = s.pw) ∧
  (∀ (t : Nat) (s : State), s.pw.dev ≠ .off → ∃ s', exec (.rstnLow t) s = .next s' ∧
    keepsBut coldBlks (s.advance t) s' ∧
    s'.pw = { State.reset.pw with testPort := s.pw.testPort, boundary := s.pw.boundary } ∧ s'.saf = State.reset.saf ∧
    s'.lane = State.reset.lane ∧ s'.surf = State.reset.surf ∧ s'.frm = State.reset.frm ∧ s'.objs = [] ∧
    s'.nv = { s.nv with jrnlWait := [] }) ∧
  (∀ (t : Nat) (s : State), s.pw.dev ≠ .off → ∃ s', exec (.vaonLoss t) s = .next s' ∧
    keepsBut coldBlks (s.advance t) s' ∧ s'.pw = State.reset.pw ∧ s'.saf = State.reset.saf ∧
    s'.lane = State.reset.lane ∧ s'.surf = State.reset.surf ∧ s'.frm = State.reset.frm ∧ s'.objs = [] ∧
    s'.nv = { s.nv with jrnlWait := [] }) ∧
  (∀ (t : Nat) (i : Fin 16) (s : State), s.pw.dev ≠ .off → i.val < s.pw.doms.length →
    ∃ s', exec (.domainBoundMiss t i) s = .next s' ∧ keepsBut (.pw :: raiseBlks) (s.advance t) s' ∧
    nth s'.pw.doms i.val 0 = 3 ∧ s'.pw.domFailures = s.pw.domFailures.modify i.val (· + 1) ∧
    bmGet s'.saf.causes (0xE0 + i.val) = true) ∧
  (∀ (t : Nat) (cells : BitVec 19) (s : State), s.pw.dev ≠ .off → ∃ s', exec (.tapResetExit t cells) s = .next s' ∧
    keepsBut [.pw, .saf, .sup, .out, .free] (s.advance t) s' ∧
    s'.pw = { s.pw with testPort := true, boundary := cells } ∧ s'.out = .tdo (scanCapture (s.advance t)) :: s.out ∧
    discPin s' = false ∧ s'.saf.discEn = s.saf.discEn ∧ s'.sup.phg = [false, false, false, false] ∧
    scanDrive s' .discEn = some false ∧ (∀ p : Fin 4, scanDrive s' (.phg p) = some false))

/-- BOOT_START and IMAGE_VERIFY_DONE. Each clause: under its hypotheses on the state and the operands exec answers a
next state, in which no part of the state but those it lists differs from the state at the command's instant, and
there (1) with no journal transaction open every object takes its saved value or its default, and the CAN rates are
taken from them (R467, R494); (2) a committed transaction of a saved value is completed first, and the objects take
the new value (R463, R494); (3) one not committed, of which the header unit has been programmed, is discarded, its
target as it was, 0xC9 latched and the rollback counted (R463); (4) one whose header unit has not been programmed is
none (R462, R463; the model's reading, log 200); (5) a verified image ends BOOT in QUIET with its version, and what
the checks of the stored data found is kept, a bad protected store as the cause of 0xC5 (R273, R465, R467); (6) on the
way to READY, by an exit from STANDBY or by power.boot_target, the exit goes on, or waits for VCC (R467, R536); (7)
the image of the other bank does the same and latches 0xC6 (R467); (8) where it fails the other bank is tried if its
ROLLBACK is not below the firmware counter (R467); (9) and with neither bank verified the engine stays in BOOT in its
boot ROM, DISC_EN low (R467); (10) after a restart of the cores a verified image starts them in the power state in
force, the safety registers read anew (R332, R457, R467); (11) where no image is being verified nothing happens
(R467). -/
def Obligations.BootLoadsAndVerifies : Prop :=
  (∀ (t : Nat) (s : State), s.pw.dev ≠ .off → s.pw.dev = .boot → jrnlOpen s = false →
    ∃ s', exec (.bootStart t) s = .next s' ∧ keepsBut [.objs, .can, .mg, .dict] (s.advance t) s' ∧
    s'.objs = (loadObjs s).objs ∧ s'.can.arbRate = s'.objN 0x1010 3 ∧ s'.can.dataRate = s'.objN 0x1010 4 ∧
    s'.mg.bootRom = false ∧ s'.mg.bankTried = false) ∧
  (∀ (t k : Nat) (d : List Byte) (j : Journal) (s : State), s.pw.dev ≠ .off → s.pw.dev = .boot → s.nv.jrnl = some j →
    j.done = false → 2 + j.payload ≤ j.units → j.target = .saved k d → ∃ s', exec (.bootStart t) s = .next s' ∧
    keepsBut [.objs, .can, .mg, .dict, .nv] (s.advance t) s' ∧ s'.nv.saved = aput s.nv.saved k d ∧
    s'.objs = (loadObjs s').objs ∧ s'.nv.jrnl = some { j with done := true }) ∧
  (∀ (t : Nat) (j : Journal) (s : State), s.pw.dev ≠ .off → s.pw.dev = .boot → s.nv.jrnl = some j → j.done = false →
    0 < j.units → j.units < 2 + j.payload → ∃ s', exec (.bootStart t) s = .next s' ∧
    keepsBut (.objs :: .nv :: raiseBlks) (s.advance t) s' ∧ s'.nv = { s.nv with jrnl := none } ∧
    bmGet s'.saf.latched 0xC9 = true ∧ s'.mg.journalRollbacks = s.mg.journalRollbacks + 1 ∧ s'.objs = (loadObjs s).objs) ∧
  (∀ (t : Nat) (j : Journal) (s : State), s.pw.dev ≠ .off → s.pw.dev = .boot → s.nv.jrnl = some j → j.done = false →
    j.units = 0 → ∃ s', exec (.bootStart t) s = .next s' ∧ keepsBut [.objs, .nv, .can, .mg, .dict] (s.advance t) s' ∧
    s'.nv = { s.nv with jrnl := none } ∧ s'.saf.latched = s.saf.latched ∧ s'.objs = (loadObjs s).objs) ∧
  (∀ (t version : Nat) (vccOk : Bool) (chk : BootCheck) (s : State), s.pw.dev ≠ .off → s.pw.dev = .boot →
    s.mg.bootRom = false → s.mg.bankTried = false → s.pw.rebooting = false → s.objN 0x2E00 4 ≠ 3 →
    ∃ s', exec (.imageVerifyDone t true version vccOk chk) s = .next s' ∧
    keepsBut (.pw :: .th :: .comp :: .nv :: .meas :: raiseBlks) (s.advance t) s' ∧ s'.pw.dev = .quiet ∧
    s'.pw.seq = .idle ∧ s'.mg.fwVersion = version % 4294967296 ∧ s'.pw.vccOk = vccOk ∧ s'.saf.helmMissed = none ∧
    s'.nv = { s.nv with psBad := !chk.psOk, factoryBad := chk.districts } ∧ bmGet s'.saf.causes 0xC5 = (!chk.psOk)) ∧
  (∀ (t version : Nat) (vccOk : Bool) (chk : BootCheck) (s : State), s.pw.dev ≠ .off → s.pw.dev = .boot →
    s.mg.bootRom = false → s.mg.bankTried = false → (s.pw.rebooting = true ∨ s.objN 0x2E00 4 = 3) →
    ∃ s', exec (.imageVerifyDone t true version vccOk chk) s = .next s' ∧
    keepsBut (.pw :: .th :: .comp :: .nv :: .meas :: raiseBlks) (s.advance t) s' ∧ s'.pw.dev = .quiet ∧
    s'.pw.seq = .exiting ∧ s'.pw.target = .ready ∧ s'.pw.pendingReady = !vccOk) ∧
  (∀ (t version : Nat) (vccOk : Bool) (chk : BootCheck) (s : State), s.pw.dev ≠ .off → s.pw.dev = .boot →
    s.mg.bootRom = false → s.mg.bankTried = true → ∃ s', exec (.imageVerifyDone t true version vccOk chk) s = .next s' ∧
    keepsBut (.pw :: .th :: .comp :: .nv :: .meas :: raiseBlks) (s.advance t) s' ∧ s'.pw.dev = .quiet ∧
    s'.mg.fwVersion = version % 4294967296 ∧ bmGet s'.saf.latched 0xC6 = true) ∧
  (∀ (t version : Nat) (vccOk : Bool) (chk : BootCheck) (s : State), s.pw.dev ≠ .off → s.pw.dev = .boot →
    s.mg.bootRom = false → s.mg.bankTried = false → s.nv.rollFw ≤ leField (nth s.nv.banks (1 - s.nv.bank) []) 5 1 →
    ∃ s', exec (.imageVerifyDone t false version vccOk chk) s = .next s' ∧ keepsBut [.pw, .mg] (s.advance t) s' ∧
    s'.mg = { s.mg with bankTried := true } ∧ s'.pw.dev = .boot) ∧
  (∀ (t version : Nat) (vccOk : Bool) (chk : BootCheck) (s : State), s.pw.dev ≠ .off → s.pw.dev = .boot →
    s.mg.bootRom = false → (s.mg.bankTried = true ∨ leField (nth s.nv.banks (1 - s.nv.bank) []) 5 1 < s.nv.rollFw) →
    ∃ s', exec (.imageVerifyDone t false version vccOk chk) s = .next s' ∧
    keepsBut [.pw, .mg, .saf, .sup] (s.advance t) s' ∧ s'.mg = { s.mg with bootRom := true } ∧ s'.pw.dev = .boot ∧
    s'.saf.discEn = false) ∧
  (∀ (t version : Nat) (vccOk : Bool) (chk : BootCheck) (s : State), s.pw.dev ≠ .off → s.pw.dev ≠ .boot →
    s.mg.restarting = true → s.mg.bootRom = false → s.mg.bankTried = false →
    ∃ s', exec (.imageVerifyDone t true version vccOk chk) s = .next s' ∧
    keepsBut (.pw :: .th :: .comp :: .nv :: .meas :: raiseBlks) (s.advance t) s' ∧ s'.pw.dev = s.pw.dev ∧
    s'.pw.seq = s.pw.seq ∧ s'.mg.restarting = false ∧ s'.mg.haltMgmt = false ∧ s'.mg.fwVersion = version % 4294967296 ∧
    s'.mg.srCopy = srNow s') ∧
  (∀ (t version : Nat) (ok vccOk : Bool) (chk : BootCheck) (s : State), s.pw.dev ≠ .off →
    (s.mg.bootRom = true ∨ s.pw.dev ≠ .boot ∧ s.mg.restarting = false) →
    ∃ s', exec (.imageVerifyDone t ok version vccOk chk) s = .next s' ∧ keepsBut [] (s.advance t) s' ∧ s'.mg = s.mg)

/-- COMMAND_QUIET and COMMAND_STANDBY, accepted writes of power.command, PREPARE_ANSWER, PREPARE_RETRY,
EI2_WAIT_TIMEOUT and EI2. Each clause: under its hypotheses on the state and the operands exec answers a next state,
in which no part of the state but those it lists differs from the state at the command's instant, and there (1) a
command for QUIET outside it and outside a sequence starts the sequence of entry (R430, R431); (2) in QUIET, or while
a sequence runs, it is refused (R430); (3) a command for STANDBY with a wake source that works there does the same
(R430, R431); (4) without one it is refused with its reason (R430, R433); (5) a block that is asked and has no reason
to refuse grants (R432); (6) one with a reason refuses: block and reason are recorded, every block is released and the
sequence waits for its retry (R433); (7) at the third repeat the entry has failed instead, and the state in force
stays (R433); (8) the last grant commits the entry: array blanked, hold lines released, DISC_EN and PHG low, the upper
domains off (R431, R434); (9) and enters QUIET at once where the EI2 slots have been seen (R431); (10) 10 ms after a
refusal every block is asked again (R433); (11) not before (R433); (12) 1 ms after the commit without EI2 QUIET is
entered with signal detect alone left of the receiver and both sessions closed (R431, R442); (13) or STANDBY, in which
only what AON holds is left (R431, R442); (14) a wake latched meanwhile begins the exit at once (R437); (15) before
the 1 ms nothing happens (R431); (16) four EI2 slots are forwarded and put the link in FL2 with the transmitters off
and TB0 offered no more (R128); (17) in a sequence of entry before its commit they are noted alone, and no transmitter
stops (R431, R434); (18) after the commit they let QUIET be entered (R431); (19) fewer are counted (R128). -/
def Obligations.LowStatesAreEntered : Prop :=
  (∀ (t : Nat) (p : Path) (s : State), s.pw.dev ≠ .off → takes s p 0x2E00 1 [2] = true → s.pw.seq = .idle →
    s.pw.dev ≠ .quiet → ∃ s', exec (.commandQuiet t p) s = .next s' ∧ keepsBut [.pw, .mg, .dict] (s.advance t) s' ∧
    s'.dict.answer = 0 ∧ s'.pw.seq = .preparing ∧ s'.pw.target = .quiet ∧ s'.pw.answered = [] ∧ s'.pw.repeats = 0 ∧
    s'.pw.dev = s.pw.dev) ∧
  (∀ (t : Nat) (p : Path) (s : State), s.pw.dev ≠ .off → takes s p 0x2E00 1 [2] = true →
    (s.pw.seq ≠ .idle ∨ s.pw.dev = .quiet) → ∃ s', exec (.commandQuiet t p) s = .next s' ∧
    keepsBut [.dict] (s.advance t) s' ∧ s'.dict.answer = abState) ∧
  (∀ (t : Nat) (p : Path) (s : State), s.pw.dev ≠ .off → takes s p 0x2E00 1 [1] = true → s.pw.seq = .idle →
    s.objN 0x2E00 2 % 8 ≠ 0 → ∃ s', exec (.commandStandby t p) s = .next s' ∧
    keepsBut [.pw, .mg, .dict] (s.advance t) s' ∧ s'.dict.answer = 0 ∧ s'.pw.seq = .preparing ∧
    s'.pw.target = .standby ∧ s'.pw.answered = [] ∧ s'.pw.repeats = 0 ∧ s'.pw.dev = s.pw.dev) ∧
  (∀ (t : Nat) (p : Path) (s : State), s.pw.dev ≠ .off → takes s p 0x2E00 1 [1] = true → s.pw.seq = .idle →
    s.objN 0x2E00 2 % 8 = 0 → ∃ s', exec (.commandStandby t p) s = .next s' ∧ keepsBut [.pw, .dict] (s.advance t) s' ∧
    s'.dict.answer = abState ∧ s'.pw = { s.pw with refuseReason := 7, refuseBlock := 255 }) ∧
  (∀ (t : Nat) (b : PrepBlock) (s : State), s.pw.dev ≠ .off → s.pw.seq = .preparing → answerWaits s = false →
    (prepList s).contains b = true → prepared s b = false → refusal s b = 0 → (∃ x ∈ prepList s, x ≠ b ∧
    prepared s x = false) → ∃ s', exec (.prepareAnswer t b) s = .next s' ∧ keepsBut [.pw] (s.advance t) s' ∧
    s'.pw = { s.pw with answered := s.pw.answered ++ [b] }) ∧
  (∀ (t : Nat) (b : PrepBlock) (s : State), s.pw.dev ≠ .off → s.pw.seq = .preparing → answerWaits s = false →
    (prepList s).contains b = true → prepared s b = false → refusal s b ≠ 0 → s.pw.repeats ≠ 3 →
    ∃ s', exec (.prepareAnswer t b) s = .next s' ∧ keepsBut (.pw :: .nv :: raiseBlks) (s.advance t) s' ∧
    s'.pw.seq = .retryWait ∧ s'.pw.refusedAt = (s.advance t).now ∧ s'.pw.refuseBlock = prepCode b ∧
    s'.pw.refuseReason = refusal s b ∧ s'.pw.refusals = s.pw.refusals + 1 ∧ s'.pw.answered = []) ∧
  (∀ (t : Nat) (b : PrepBlock) (s : State), s.pw.dev ≠ .off → s.pw.seq = .preparing → answerWaits s = false →
    (prepList s).contains b = true → prepared s b = false → refusal s b ≠ 0 → s.pw.repeats = 3 →
    ∃ s', exec (.prepareAnswer t b) s = .next s' ∧ keepsBut (.pw :: .nv :: raiseBlks) (s.advance t) s' ∧
    s'.pw.seq = .idle ∧ s'.pw.result = 2 ∧ s'.pw.failures = s.pw.failures + 1 ∧ s'.pw.answered = [] ∧
    s'.pw.dev = s.pw.dev) ∧
  (∀ (t : Nat) (b : PrepBlock) (s : State), s.pw.dev ≠ .off → s.pw.seq = .preparing → answerWaits s = false →
    (prepList s).contains b = true → prepared s b = false → refusal s b = 0 →
    (∀ x ∈ prepList s, x = b ∨ prepared s x = true) → s.pw.ei2Seen ≠ 4 → s.pw.doms.length = 16 →
    ∃ s', exec (.prepareAnswer t b) s = .next s' ∧ keepsBut [.pw, .saf, .sup, .arr, .frm, .diag] (s.advance t) s' ∧
    s'.pw.seq = .committing ∧ s'.pw.committed = true ∧ s'.pw.committedAt = (s.advance t).now ∧ s'.arr.gate = .zero ∧
    s'.saf.holdN = false ∧ s'.saf.holdS = false ∧ s'.saf.discEn = false ∧ s'.sup.phg = [false, false, false, false] ∧
    (∀ i ∈ upperDoms, nth s'.pw.doms i 9 = 0)) ∧
  (∀ (t : Nat) (b : PrepBlock) (s : State), s.pw.dev ≠ .off → s.pw.seq = .preparing → answerWaits s = false →
    (prepList s).contains b = true → prepared s b = false → refusal s b = 0 →
    (∀ x ∈ prepList s, x = b ∨ prepared s x = true) → s.pw.ei2Seen = 4 → s.pw.target = .quiet → s.pw.wakeLatch = 0 →
    ∃ s', exec (.prepareAnswer t b) s = .next s' ∧ keepsBut (.pw :: .nv :: linkBlks) (s.advance t) s' ∧
    s'.pw.dev = .quiet ∧ s'.arr.gate = .zero ∧ s'.saf.discEn = false ∧ s'.pw.seq = .idle ∧
    s'.pw.entries = s.pw.entries + 1 ∧ s'.dict.sesCan.isOpen = false ∧ s'.dict.sesFerry.isOpen = false) ∧
  (∀ (t : Nat) (s : State), s.pw.dev ≠ .off → s.pw.seq = .retryWait →
    spanOver (s.advance t) s.pw.refusedAt 10000000000 = true → ∃ s', exec (.prepareRetry t) s = .next s' ∧
    keepsBut [.pw] (s.advance t) s' ∧
    s'.pw = { s.pw with seq := .preparing, repeats := s.pw.repeats + 1, answered := [] }) ∧
  (∀ (t : Nat) (s : State), s.pw.dev ≠ .off →
    (s.pw.seq ≠ .retryWait ∨ spanOver (s.advance t) s.pw.refusedAt 10000000000 = false) →
    ∃ s', exec (.prepareRetry t) s = .next s' ∧ keepsBut [] (s.advance t) s' ∧ s'.pw = s.pw) ∧
  (∀ (t : Nat) (s : State), s.pw.dev ≠ .off → s.pw.seq = .committing →
    spanOver (s.advance t) s.pw.committedAt 1000000000 = true → s.pw.target = .quiet → s.pw.wakeLatch = 0 →
    s.pw.doms.length = 16 → ∃ s', exec (.ei2WaitTimeout t) s = .next s' ∧
    keepsBut (.pw :: .nv :: linkBlks) (s.advance t) s' ∧ s'.pw.dev = .quiet ∧ s'.pw.result = 1 ∧
    nth s'.pw.doms 4 9 = 1 ∧ nth s'.pw.doms 5 9 = 0 ∧ s'.pw.seq = .idle ∧ s'.pw.entries = s.pw.entries + 1 ∧
    s'.dict.sesCan.isOpen = false ∧ s'.dict.sesFerry.isOpen = false) ∧
  (∀ (t : Nat) (s : State), s.pw.dev ≠ .off → s.pw.seq = .committing →
    spanOver (s.advance t) s.pw.committedAt 1000000000 = true → s.pw.target = .standby → s.pw.wakeLatch = 0 →
    ∃ s', exec (.ei2WaitTimeout t) s = .next s' ∧ keepsBut coldBlks (s.advance t) s' ∧ s'.pw.dev = .standby ∧
    s'.surf = State.reset.surf ∧ s'.lane = State.reset.lane ∧ s'.objs = s.objs ∧ s'.pw.seq = .idle ∧
    s'.pw.entries = s.pw.entries + 1 ∧ s'.dict.sesCan.isOpen = false ∧ s'.dict.sesFerry.isOpen = false) ∧
  (∀ (t : Nat) (s : State), s.pw.dev ≠ .off → s.pw.seq = .committing →
    spanOver (s.advance t) s.pw.committedAt 1000000000 = true → s.pw.target = .quiet → s.pw.wakeLatch ≠ 0 →
    ∃ s', exec (.ei2WaitTimeout t) s = .next s' ∧ keepsBut (.pw :: .nv :: linkBlks) (s.advance t) s' ∧
    s'.pw.dev = .quiet ∧ s'.pw.seq = .exiting ∧ s'.pw.target = .ready ∧ s'.pw.wakeCause = s.pw.wakeLatch ∧
    s'.pw.wakeLatch = 0) ∧
  (∀ (t : Nat) (s : State), s.pw.dev ≠ .off →
    (s.pw.seq ≠ .committing ∨ spanOver (s.advance t) s.pw.committedAt 1000000000 = false) →
    ∃ s', exec (.ei2WaitTimeout t) s = .next s' ∧ keepsBut [] (s.advance t) s' ∧ s'.pw = s.pw) ∧
  (∀ (t n : Nat) (blks : List (List Byte)) (s : State), s.pw.dev ≠ .off → s.lane.st = .fl0 → plainOk 4 blks s = true →
    slotBlk blks s ≠ [] → 4 ≤ s.lane.ei2Run + n → (s.pw.seq = .idle ∨ s.pw.seq = .exiting) →
    ∃ s', exec (.ei2 t blks n) s = .next s' ∧ keepsBut (.pw :: linkBlks) (s.advance t) s' ∧ s'.lane.st = .fl2 ∧
    s'.lane.txMode = .off ∧ s'.lane.txOn = 0 ∧ s'.tb.offered = false ∧ s'.pw.dev = s.pw.dev ∧ s'.pw.seq = s.pw.seq ∧
    s'.pw.ei2Seen = s.pw.ei2Seen ∧ Out.slot 4 4 ∈ s'.out) ∧
  (∀ (t n : Nat) (blks : List (List Byte)) (s : State), s.pw.dev ≠ .off → s.lane.st = .fl0 → plainOk 4 blks s = true →
    slotBlk blks s ≠ [] → 4 ≤ s.lane.ei2Run + n → (s.pw.seq = .preparing ∨ s.pw.seq = .retryWait) →
    ∃ s', exec (.ei2 t blks n) s = .next s' ∧ keepsBut [.pw, .lane, .phy] (s.advance t) s' ∧ s'.lane.st = .fl0 ∧
    s'.lane.txMode = s.lane.txMode ∧ s'.lane.txOn = s.lane.txOn ∧ s'.pw = { s.pw with ei2Seen := 4 }) ∧
  (∀ (t n : Nat) (blks : List (List Byte)) (s : State), s.pw.dev ≠ .off → s.lane.st = .fl0 → plainOk 4 blks s = true →
    slotBlk blks s ≠ [] → 4 ≤ s.lane.ei2Run + n → s.pw.seq = .committing → s.pw.target = .quiet → s.pw.wakeLatch = 0 →
    ∃ s', exec (.ei2 t blks n) s = .next s' ∧ keepsBut (.pw :: .nv :: linkBlks) (s.advance t) s' ∧ s'.lane.st = .fl2 ∧
    s'.pw.dev = .quiet ∧ s'.pw.seq = .idle ∧ s'.pw.entries = s.pw.entries + 1 ∧ s'.dict.sesCan.isOpen = false ∧
    s'.dict.sesFerry.isOpen = false) ∧
  (∀ (t n : Nat) (blks : List (List Byte)) (s : State), s.pw.dev ≠ .off → s.lane.st = .fl0 → plainOk 4 blks s = true →
    slotBlk blks s ≠ [] → s.lane.ei2Run + n < 4 → ∃ s', exec (.ei2 t blks n) s = .next s' ∧
    keepsBut [.lane, .phy] (s.advance t) s' ∧ s'.lane.st = .fl0 ∧ s'.lane.ei2Run = s.lane.ei2Run + n)

/-- COMMAND_LIT and COMMAND_READY, accepted writes of power.command, VCC_RECOVERED, WAKE_EVENT and EXIT_COMPLETE. Each
clause: under its hypotheses on the state and the operands exec answers a next state, in which no part of the state
but those it lists differs from the state at the command's instant, and there (1) LIT is entered from READY with VCC
in range and no cause of 0xB5 (R33, R429, R430); (2) otherwise the command is refused (R33, R430); (3) LIT is left for
READY with both hold lines released, no forced pulse pending and, in HOLD, DISC_EN low (R267, R429); (4) out of QUIET
the exit to READY begins, or waits for VCC (R430, R536); (5) in READY, while a sequence runs, or in LIT with VCC below
its threshold it is refused (R33, R430; the last the model's reading, log 191); (6) an exit that waits for VCC goes on
when it recovers (R536); (7) with none waiting its recovery is noted (R33); (8) an enabled wake in QUIET is recorded
as the cause and begins the exit to READY, or waits for VCC (R435, R437, R536); (9) in STANDBY it begins the exit with
BOOT (R435, R437); (10) in a sequence of entry it is latched and the sequence goes on (R437); (11) one that is not
enabled wakes nothing (R435); (12) in READY or LIT an enabled one is recorded as the cause and moves nothing (R436;
the model's reading, log 186); (13) a wake event of the tick in which a command for a low state is accepted is latched
in its sequence, though it came first (R437); (14) the end of the exit enters READY with its time taken, surface
memory empty, no frame queued, in force or awaited, a dark array, throttling at full and the repetitive table cleared
(R31, R313, R326, R438); (15) outside an exit it does nothing (R438); (16) with VCC below its threshold READY is not
entered and the change waits again (R33, R536). -/
def Obligations.ReadyAndLitAreEntered : Prop :=
  (∀ (t : Nat) (p : Path) (s : State), s.pw.dev ≠ .off → takes s p 0x2E00 1 [4] = true → s.pw.seq = .idle →
    s.pw.dev = .ready → causeOn s 0xB5 = false → ∃ s', exec (.commandLit t p true) s = .next s' ∧
    keepsBut [.pw, .dict] (s.advance t) s' ∧ s'.dict.answer = 0 ∧ s'.pw = { s.pw with dev := .lit, vccOk := true }) ∧
  (∀ (t : Nat) (p : Path) (vccOk : Bool) (s : State), s.pw.dev ≠ .off → takes s p 0x2E00 1 [4] = true →
    (s.pw.seq ≠ .idle ∨ s.pw.dev ≠ .ready ∨ vccOk = false ∨ causeOn s 0xB5 = true) →
    ∃ s', exec (.commandLit t p vccOk) s = .next s' ∧ keepsBut [.pw, .dict] (s.advance t) s' ∧
    s'.dict.answer = abState ∧ s'.pw = { s.pw with vccOk := vccOk }) ∧
  (∀ (t : Nat) (p : Path) (s : State), s.pw.dev ≠ .off → takes s p 0x2E00 1 [3] = true → s.pw.seq = .idle →
    s.pw.dev = .lit → ∃ s', exec (.commandReady t p true) s = .next s' ∧
    keepsBut [.pw, .saf, .arr, .sup, .diag, .dict] (s.advance t) s' ∧ s'.dict.answer = 0 ∧ s'.pw.dev = .ready ∧
    s'.diag.pulses = [] ∧ s'.saf.holdN = false ∧ s'.saf.holdS = false ∧ (s.saf.state = .hold → s'.saf.discEn = false)) ∧
  (∀ (t : Nat) (p : Path) (vccOk : Bool) (s : State), s.pw.dev ≠ .off → takes s p 0x2E00 1 [3] = true →
    s.pw.seq = .idle → s.pw.dev = .quiet → ∃ s', exec (.commandReady t p vccOk) s = .next s' ∧
    keepsBut [.pw, .saf, .dict] (s.advance t) s' ∧ s'.dict.answer = 0 ∧ s'.pw.dev = .quiet ∧ s'.pw.seq = .exiting ∧
    s'.pw.target = .ready ∧ s'.pw.pendingReady = !vccOk ∧ (vccOk = true → s'.pw.exiting = true) ∧
    s'.pw.exitFrom = (s.advance t).now) ∧
  (∀ (t : Nat) (p : Path) (vccOk : Bool) (s : State), s.pw.dev ≠ .off → takes s p 0x2E00 1 [3] = true →
    (s.pw.seq ≠ .idle ∨ s.pw.dev = .ready ∨ s.pw.dev = .lit ∧ vccOk = false) →
    ∃ s', exec (.commandReady t p vccOk) s = .next s' ∧ keepsBut [.pw, .dict] (s.advance t) s' ∧
    s'.dict.answer = abState ∧ s'.pw = { s.pw with vccOk := vccOk }) ∧
  (∀ (t : Nat) (s : State), s.pw.dev ≠ .off → s.pw.pendingReady = true → ∃ s', exec (.vccRecovered t) s = .next s' ∧
    keepsBut [.pw, .saf] (s.advance t) s' ∧ s'.pw.exiting = true ∧ s'.pw.pendingReady = false ∧ s'.pw.seq = .exiting ∧
    s'.pw.vccOk = true) ∧
  (∀ (t : Nat) (s : State), s.pw.dev ≠ .off → s.pw.pendingReady = false → ∃ s', exec (.vccRecovered t) s = .next s' ∧
    keepsBut [.pw] (s.advance t) s' ∧ s'.pw = { s.pw with vccOk := true }) ∧
  (∀ (t b : Nat) (w : Wake) (vccOk : Bool) (s : State), s.pw.dev ≠ .off → wakeBit s w = some b → s.pw.seq = .idle →
    s.pw.dev = .quiet → ∃ s', exec (.wakeEvent t w vccOk) s = .next s' ∧ keepsBut [.pw, .saf] (s.advance t) s' ∧
    s'.pw.wakeCause = 2 ^ b ∧ s'.pw.seq = .exiting ∧ s'.pw.target = .ready ∧ s'.pw.pendingReady = !vccOk ∧
    s'.pw.exitFrom = (s.advance t).now) ∧
  (∀ (t b : Nat) (w : Wake) (vccOk : Bool) (s : State), s.pw.dev ≠ .off → wakeBit s w = some b → s.pw.seq = .idle →
    s.pw.dev = .standby → ∃ s', exec (.wakeEvent t w vccOk) s = .next s' ∧ keepsBut [.pw, .saf] (s.advance t) s' ∧
    s'.pw.wakeCause = 2 ^ b ∧ s'.pw.dev = .boot ∧ s'.pw.rebooting = true ∧ s'.pw.target = .ready) ∧
  (∀ (t b : Nat) (w : Wake) (vccOk : Bool) (s : State), s.pw.dev ≠ .off → wakeBit s w = some b →
    (s.pw.seq = .preparing ∨ s.pw.seq = .retryWait ∨ s.pw.seq = .committing) →
    ∃ s', exec (.wakeEvent t w vccOk) s = .next s' ∧ keepsBut [.pw] (s.advance t) s' ∧ bitOf s'.pw.wakeLatch b = true ∧
    s'.pw.wakeCause = s'.pw.wakeLatch ∧ s'.pw.seq = s.pw.seq) ∧
  (∀ (t : Nat) (w : Wake) (vccOk : Bool) (s : State), s.pw.dev ≠ .off → wakeBit s w = none →
    ∃ s', exec (.wakeEvent t w vccOk) s = .next s' ∧ keepsBut [.pw] (s.advance t) s' ∧
    s'.pw.wakeCause = s.pw.wakeCause ∧ s'.pw.wakeLatch = s.pw.wakeLatch ∧ s'.pw.seq = s.pw.seq ∧ s'.pw.dev = s.pw.dev) ∧
  (∀ (t b : Nat) (w : Wake) (vccOk : Bool) (s : State), s.pw.dev ≠ .off → wakeBit s w = some b → s.pw.seq = .idle →
    (s.pw.dev = .ready ∨ s.pw.dev = .lit) → ∃ s', exec (.wakeEvent t w vccOk) s = .next s' ∧
    keepsBut [.pw] (s.advance t) s' ∧ s'.pw.wakeCause = 2 ^ b ∧ s'.pw.seq = .idle ∧ s'.pw.dev = s.pw.dev) ∧
  (∀ (t b : Nat) (p : Path) (s : State), s.pw.dev ≠ .off → takes s p 0x2E00 1 [2] = true → s.pw.seq = .idle →
    s.pw.dev ≠ .quiet → s.pw.recent = [.len] → tickOf s.pw.recentAt = tickOf (s.advance t).now →
    bitOf (s.objN 0x2E00 2) 2 = true → b = 4 → ∃ s', exec (.commandQuiet t p) s = .next s' ∧
    keepsBut [.pw, .mg, .dict] (s.advance t) s' ∧ s'.dict.answer = 0 ∧ s'.pw.seq = .preparing ∧ s'.pw.wakeLatch = b ∧
    s'.pw.wakeCause = b) ∧
  (∀ (t : Nat) (s : State), s.pw.dev ≠ .off → s.pw.exiting = true → s.pw.dev = .quiet → s.pw.vccOk = true →
    ∃ s', exec (.exitComplete t) s = .next s' ∧ keepsBut (.free :: coldBlks) (s.advance t) s' ∧ s'.pw.dev = .ready ∧
    s'.pw.seq = .idle ∧ s'.pw.exiting = false ∧ s'.pw.exitTime = ((s.advance t).now - s.pw.exitFrom) / 1000000 ∧
    s'.frm.queue = [] ∧ s'.frm.cur = none ∧ s'.frm.snap = none ∧ s'.arr.gate = .zero ∧ s'.surf.mem = [] ∧ s'.th.n = 16 ∧
    s'.sup.rep = .cleared ∧ s'.sup.prof = [] ∧ s'.nv = s.nv) ∧
  (∀ (t : Nat) (s : State), s.pw.dev ≠ .off → (s.pw.exiting = false ∨ s.pw.dev ≠ .quiet) →
    ∃ s', exec (.exitComplete t) s = .next s' ∧ keepsBut [] (s.advance t) s' ∧ s'.pw = s.pw) ∧
  (∀ (t : Nat) (s : State), s.pw.dev ≠ .off → s.pw.exiting = true → s.pw.dev = .quiet → s.pw.vccOk = false →
    ∃ s', exec (.exitComplete t) s = .next s' ∧ keepsBut [.pw] (s.advance t) s' ∧
    s'.pw = { s.pw with exiting := false, pendingReady := true })

/-- CLAIM, COMPLETE, MODERATION_HOLDOFF and WATCHDOG_WARNING. TIMER_FIRE, TMR_CTRL_WRITE, TNOW_READ and
PURSER_WATCHDOG_SERVICE. Each clause: under its hypotheses on the state and the operands exec answers a next state, in
which no part of the state but those it lists differs from the state at the command's instant, and there (1) after
what the core has written to its controller, a claim takes the winner among the sources presented: its pending bit
goes, its service bit is set, and the answer carries its number and VALID (R450, R451); (2) with none presented the
answer is 0 (R450); (3) a source presented before a write that masks it was acknowledged is delivered (R452); (4) one
masked before is not (R452); (5) COMPLETE ends the service of a source, and one raised again meanwhile is pending once
more (R451); (6) of a source not in service it changes nothing at the controller, but that the core waits in WFI where
nothing is pending or in service (R443, R451; the wait is the model's choice, log 202); (7) the end of a hold-off
makes a source with accumulated events pending, they are accumulated no more, and the core is out of WFI (R443, R453);
(8) before it ends nothing happens (R453); (9) the warning of a watchdog 20 ms before it expires is noted (R410,
R446); (10) with the cores halted or unpowered there is none (R446); (11) a one-shot timer that the local time has
reached sets FIRED and clears ENABLE (R454); (12) a periodic one sets FIRED and goes on by its period (R454); (13)
where a step of the clock has passed whole periods it goes on from the first multiple not passed (R454); (14) a timer
that is not enabled, not reached, or without the ticks of TB2 does not fire (R426, R454); (15) a write of TMR_CTRL
with the compare value and the period sets them and the controls, and a 1 written to FIRED clears it (R454); (16)
reading TNOW latches seconds and VALID and answers the nanoseconds of the same instant (R455); (17) a service of the
Purser watchdog starts its time anew (R446). -/
def Obligations.InterruptsAndTimers : Prop :=
  (∀ (t i : Nat) (c : CoreId) (cfg : Option IrqCfg) (s : State), s.pw.dev ≠ .off →
    claimWinner (irqOf s c) cfg (prepared s (if c = .helm then .irqHelm else .irqPurser)) = some i →
    ∃ s', exec (.claim t c cfg) s = .next s' ∧ keepsBut [.mg, .out, .free] (s.advance t) s' ∧
    s'.out = .service c (i + 2147483648) :: s.out ∧
    irqOf s' c = { (cfg.elim (irqOf s c) (irqOf s c).written) with pend := bmClr (cfg.elim (irqOf s c) (irqOf s c).written).pend i, svc := bmSet (cfg.elim (irqOf s c) (irqOf s c).written).svc i, wfi := false }) ∧
  (∀ (t : Nat) (c : CoreId) (cfg : Option IrqCfg) (s : State), s.pw.dev ≠ .off →
    claimWinner (irqOf s c) cfg (prepared s (if c = .helm then .irqHelm else .irqPurser)) = none →
    ∃ s', exec (.claim t c cfg) s = .next s' ∧ keepsBut [.mg, .out, .free] (s.advance t) s' ∧
    s'.out = .service c 0 :: s.out ∧ irqOf s' c = { (cfg.elim (irqOf s c) (irqOf s c).written) with wfi := false }) ∧
  (∀ (t i : Nat) (c : CoreId) (g : IrqCfg) (s : State), s.pw.dev ≠ .off → g.en = 0 → g.before = false →
    irqWinner (irqOf s c) (prepared s (if c = .helm then .irqHelm else .irqPurser)) = some i →
    ∃ s', exec (.claim t c (some g)) s = .next s' ∧ keepsBut [.mg, .out, .free] (s.advance t) s' ∧
    s'.out = .service c (i + 2147483648) :: s.out ∧ (irqOf s' c).en = 0) ∧
  (∀ (t : Nat) (c : CoreId) (g : IrqCfg) (s : State), s.pw.dev ≠ .off → g.en = 0 → g.before = true →
    ∃ s', exec (.claim t c (some g)) s = .next s' ∧ keepsBut [.mg, .out, .free] (s.advance t) s' ∧
    s'.out = .service c 0 :: s.out) ∧
  (∀ (t : Nat) (c : CoreId) (id : Fin 256) (s : State), s.pw.dev ≠ .off → bmGet (irqOf s c).svc id.val = true →
    ∃ s', exec (.complete t c id) s = .next s' ∧ keepsBut [.mg, .out, .free] (s.advance t) s' ∧
    bmGet (irqOf s' c).svc id.val = false ∧ bmGet (irqOf s' c).again id.val = false ∧
    (bmGet (irqOf s c).again id.val = true → bmGet (irqOf s' c).pend id.val = true)) ∧
  (∀ (t : Nat) (c : CoreId) (id : Fin 256) (s : State), s.pw.dev ≠ .off → bmGet (irqOf s c).svc id.val = false →
    ∃ s', exec (.complete t c id) s = .next s' ∧ keepsBut [.mg, .out, .free] (s.advance t) s' ∧
    irqOf s' c = { irqOf s c with wfi := ((irqOf s c).svc == 0 && (irqOf s c).pend &&& (irqOf s c).en == 0) }) ∧
  (∀ (t : Nat) (c : CoreId) (id : Fin 256) (s : State), s.pw.dev ≠ .off → holdoffOver (s.advance t) c id.val = true →
    bmGet (irqOf s c).svc id.val = false → ∃ s', exec (.moderationHoldoff t c id) s = .next s' ∧
    keepsBut [.mg] (s.advance t) s' ∧ bmGet (irqOf s' c).pend id.val = true ∧ (∀ a ∈ (irqOf s' c).acc, a.1 ≠ id.val) ∧
    (irqOf s' c).wfi = false) ∧
  (∀ (t : Nat) (c : CoreId) (id : Fin 256) (s : State), s.pw.dev ≠ .off → holdoffOver (s.advance t) c id.val = false →
    ∃ s', exec (.moderationHoldoff t c id) s = .next s' ∧ keepsBut [] (s.advance t) s' ∧ s'.mg = s.mg) ∧
  (∀ (t : Nat) (c : CoreId) (s : State), s.pw.dev ≠ .off → running s = true → s.mg.haltMgmt = false → (c = .purser →
    purserLate (s.advance t) 80000000000 = true) → ∃ s', exec (.watchdogWarning t c) s = .next s' ∧
    keepsBut [.mg] (s.advance t) s' ∧ bitOf s'.mg.wdWarned (if c = .helm then 0 else 1) = true) ∧
  (∀ (t : Nat) (c : CoreId) (s : State), s.pw.dev ≠ .off → (running s = false ∨ s.mg.haltMgmt = true) →
    ∃ s', exec (.watchdogWarning t c) s = .next s' ∧ keepsBut [] (s.advance t) s' ∧ s'.mg = s.mg) ∧
  (∀ (t : Nat) (c : CoreId) (k : Fin 4) (s : State), s.pw.dev ≠ .off → k.val < (tmrs s c).length →
    (nth (tmrs s c) k.val {}).enable = true → ticks s (10 + coreIdx c) 2 = true →
    ((nth (tmrs s c) k.val {}).periodic = false ∨ (nth (tmrs s c) k.val {}).period = 0) →
    ((nth (tmrs s c) k.val {}).sec * 1000000000 + (nth (tmrs s c) k.val {}).ns) ≤ (s.advance t).time.toNs →
    ∃ s', exec (.timerFire t c k) s = .next s' ∧ keepsBut [.mg] (s.advance t) s' ∧
    nth (tmrs s' c) k.val {} = { nth (tmrs s c) k.val {} with fired := true, enable := false }) ∧
  (∀ (t : Nat) (c : CoreId) (k : Fin 4) (s : State), s.pw.dev ≠ .off → k.val < (tmrs s c).length →
    (nth (tmrs s c) k.val {}).enable = true → ticks s (10 + coreIdx c) 2 = true →
    (nth (tmrs s c) k.val {}).periodic = true → 0 < (nth (tmrs s c) k.val {}).period →
    ((nth (tmrs s c) k.val {}).sec * 1000000000 + (nth (tmrs s c) k.val {}).ns) ≤ (s.advance t).time.toNs →
    (s.advance t).time.toNs < ((nth (tmrs s c) k.val {}).sec * 1000000000 + (nth (tmrs s c) k.val {}).ns) + (nth (tmrs s c) k.val {}).period →
    ∃ s', exec (.timerFire t c k) s = .next s' ∧ keepsBut [.mg] (s.advance t) s' ∧
    (nth (tmrs s' c) k.val {}).fired = true ∧ (nth (tmrs s' c) k.val {}).enable = true ∧
    (nth (tmrs s' c) k.val {}).sec * 1000000000 + (nth (tmrs s' c) k.val {}).ns = ((nth (tmrs s c) k.val {}).sec * 1000000000 + (nth (tmrs s c) k.val {}).ns) + (nth (tmrs s c) k.val {}).period) ∧
  (∀ (t : Nat) (c : CoreId) (k : Fin 4) (s : State), s.pw.dev ≠ .off → k.val < (tmrs s c).length →
    (nth (tmrs s c) k.val {}).enable = true → ticks s (10 + coreIdx c) 2 = true →
    (nth (tmrs s c) k.val {}).periodic = true → 0 < (nth (tmrs s c) k.val {}).period →
    ((nth (tmrs s c) k.val {}).sec * 1000000000 + (nth (tmrs s c) k.val {}).ns) + (nth (tmrs s c) k.val {}).period ≤ (s.advance t).time.toNs →
    ((s.advance t).time.toNs - ((nth (tmrs s c) k.val {}).sec * 1000000000 + (nth (tmrs s c) k.val {}).ns)) % (nth (tmrs s c) k.val {}).period ≠ 0 →
    ∃ s', exec (.timerFire t c k) s = .next s' ∧ keepsBut [.mg] (s.advance t) s' ∧
    (nth (tmrs s' c) k.val {}).fired = (nth (tmrs s c) k.val {}).fired ∧
    (nth (tmrs s' c) k.val {}).sec * 1000000000 + (nth (tmrs s' c) k.val {}).ns = ((nth (tmrs s c) k.val {}).sec * 1000000000 + (nth (tmrs s c) k.val {}).ns) + (((s.advance t).time.toNs - ((nth (tmrs s c) k.val {}).sec * 1000000000 + (nth (tmrs s c) k.val {}).ns)) / (nth (tmrs s c) k.val {}).period + 1) * (nth (tmrs s c) k.val {}).period) ∧
  (∀ (t : Nat) (c : CoreId) (k : Fin 4) (s : State), s.pw.dev ≠ .off →
    ((nth (tmrs s c) k.val {}).enable = false ∨ (s.advance t).time.toNs < ((nth (tmrs s c) k.val {}).sec * 1000000000 + (nth (tmrs s c) k.val {}).ns) ∨ ticks s (10 + coreIdx c) 2 = false) →
    ∃ s', exec (.timerFire t c k) s = .next s' ∧ keepsBut [] (s.advance t) s' ∧ tmrs s' c = tmrs s c) ∧
  (∀ (t ctrl sec ns period : Nat) (c : CoreId) (k : Fin 4) (s : State), s.pw.dev ≠ .off → k.val < (tmrs s c).length →
    sec < 281474976710656 → ns < 1073741824 → period < 4294967296 →
    ∃ s', exec (.tmrCtrlWrite t c k ctrl sec ns period) s = .next s' ∧ keepsBut [.mg] (s.advance t) s' ∧
    nth (tmrs s' c) k.val {} = { sec := sec, ns := ns, period := period, enable := bitOf ctrl 0, periodic := bitOf ctrl 1, fired := (nth (tmrs s c) k.val {}).fired && !bitOf ctrl 2 }) ∧
  (∀ (t : Nat) (s : State), s.pw.dev ≠ .off → ∃ s', exec (.tnowRead t) s = .next s' ∧
    keepsBut [.mg, .out] (s.advance t) s' ∧
    s'.mg = { s.mg with tnowSec := (s.advance t).clk.sec, tnowNs := (s.advance t).clk.ns, tnowValid := s.clk.valid } ∧
    s'.out = .service .purser (s.advance t).clk.ns :: s.out) ∧
  (∀ (t : Nat) (s : State), s.pw.dev ≠ .off → ∃ s', exec (.purserWatchdogService t) s = .next s' ∧
    keepsBut [.mg] (s.advance t) s' ∧
    s'.mg = { s.mg with purserWd := (s.advance t).now, wdWarned := s.mg.wdWarned % 2 })

/-- LOG_APPEND, LOG_WRITE and PIN_CLEAR, an accepted write of log.pin_clear. Each clause: under its hypotheses on the
state and the operands exec answers a next state, in which no part of the state but those it lists differs from the
state at the command's instant, and there (1) a customer entry joins the log queue with source 0x200 plus its number,
class 255 and its context (R455, R466); (2) a full queue loses it, which is counted (R466); (3) the oldest entry of
the queue goes to the ring of 8,192 with the next SEQ (R466); (4) one of class HOLD or DARK goes into the pinned log
as well while that has room (R466); (5) and a full pinned log is the cause of 0xCA (R466); (6) with an empty queue, or
MRAM unpowered, nothing is written (R466); (7) log.pin_clear empties the pinned log and ends the cause of 0xCA (R466).
-/
def Obligations.LogIsKept : Prop :=
  (∀ (t : Nat) (code : Byte) (ctx : List Byte) (s : State), s.pw.dev ≠ .off → blockOn s 11 = true →
    s.mg.logQueue.length < 64 → ∃ s', exec (.logAppend t code ctx) s = .next s' ∧ keepsBut [.mg] (s.advance t) s' ∧
    s'.mg.logQueue.length = s.mg.logQueue.length + 1 ∧ (∃ e, s'.mg.logQueue.getLast? = some e ∧
    e.source = 0x200 + code.toNat ∧ e.cls = 255 ∧ e.ctx = padTo 80 ctx)) ∧
  (∀ (t : Nat) (code : Byte) (ctx : List Byte) (s : State), s.pw.dev ≠ .off → blockOn s 11 = true →
    64 ≤ s.mg.logQueue.length → ∃ s', exec (.logAppend t code ctx) s = .next s' ∧ keepsBut [.mg] (s.advance t) s' ∧
    s'.mg = { s.mg with logLost := s.mg.logLost + 1 }) ∧
  (∀ (t : Nat) (e : LogEntry) (rest : List LogEntry) (s : State), s.pw.dev ≠ .off → s.mg.logQueue = e :: rest →
    blockPowered s 12 = true → e.cls ≠ 3 → e.cls ≠ 4 → ∃ s', exec (.logWrite t) s = .next s' ∧
    keepsBut [.mg, .nv] (s.advance t) s' ∧ s'.mg = { s.mg with logQueue := rest } ∧
    s'.nv = { s.nv with ring := ({ e with seq := s.nv.logSeq.toNat } :: s.nv.ring).take 8192, logSeq := s.nv.logSeq + 1 }) ∧
  (∀ (t : Nat) (e : LogEntry) (rest : List LogEntry) (s : State), s.pw.dev ≠ .off → s.mg.logQueue = e :: rest →
    blockPowered s 12 = true → (e.cls = 3 ∨ e.cls = 4) → s.nv.pinned.length < 256 →
    ∃ s', exec (.logWrite t) s = .next s' ∧ keepsBut [.mg, .nv] (s.advance t) s' ∧
    s'.mg = { s.mg with logQueue := rest } ∧
    s'.nv = { s.nv with ring := ({ e with seq := s.nv.logSeq.toNat } :: s.nv.ring).take 8192, logSeq := s.nv.logSeq + 1, pinned := s.nv.pinned ++ [{ e with seq := s.nv.logSeq.toNat }] }) ∧
  (∀ (t : Nat) (e : LogEntry) (rest : List LogEntry) (s : State), s.pw.dev ≠ .off → s.mg.logQueue = e :: rest →
    blockPowered s 12 = true → (e.cls = 3 ∨ e.cls = 4) → 256 ≤ s.nv.pinned.length →
    ∃ s', exec (.logWrite t) s = .next s' ∧ keepsBut (.nv :: raiseBlks) (s.advance t) s' ∧
    s'.nv = { s.nv with ring := ({ e with seq := s.nv.logSeq.toNat } :: s.nv.ring).take 8192, logSeq := s.nv.logSeq + 1, pinOvf := true } ∧
    bmGet s'.saf.causes 0xCA = true) ∧
  (∀ (t : Nat) (s : State), s.pw.dev ≠ .off → (s.mg.logQueue = [] ∨ blockPowered s 12 = false) →
    ∃ s', exec (.logWrite t) s = .next s' ∧ keepsBut [] (s.advance t) s' ∧ s'.nv = s.nv ∧ s'.mg = s.mg) ∧
  (∀ (t v : Nat) (p : Path) (s : State), s.pw.dev ≠ .off → takes s p 0x2F10 8 (leBytes 1 v) = true →
    ∃ s', exec (.pinClear t p v) s = .next s' ∧ keepsBut [.nv, .saf, .dict] (s.advance t) s' ∧ s'.dict.answer = 0 ∧
    s'.nv = { s.nv with pinned := [], pinOvf := false } ∧ bmGet s'.saf.causes 0xCA = false)

/-- VERSION, ATTACH, YIELD, SAVE, CUSTOMER_TRAP, PURSER_WATCHDOG_EXPIRY, SR_SNAP and CORE_ACCESS_FAULT. Each clause:
under its hypotheses on the state and the operands exec answers a next state, in which no part of the state but those
it lists differs from the state at the command's instant, and there (1) VERSION answers a running image the firmware
version (R449); (2) with no image running there is no service (R449); (3) ATTACH notes a handler for a customer source
and answers 0 (R449); (4) for another source it answers 1 (R449); (5) YIELD returns at once where the firmware is idle
(R449; the 0 it answers is the model's reading, log 204); (6) and else waits for it (R449); (7) SAVE of at most 16 KiB
is the journal transaction that begins where none is open, its payload of whole units that begin with the data (R449,
R462); (8) else it waits behind the open one (R449, R462); (9) while an earlier SAVE has not ended, or with more data,
it answers 1 (R449); (10) a trap stops the image, is counted and latches 0xC7 (R448); (11) 100 ms without a service of
the Purser watchdog latch 0xC2, restart the core, which is counted, and end the mailbox request, both transfers and
the queue of CAN requests (R446); (12) less does not (R446); (13) SR_SNAP freezes a copy of the safety registers and
answers its sequence number (R457); (14) an access to a block without power is an access fault of the core, of which a
read gives 0, counted, and latches 0xC8 (R439); (15) one with power meets nothing (R439); (16) an uncorrectable word
of SRAM is an access fault and latches 0xC3 (R444); (17) one of MRAM latches 0xC4 (R461); (18) a single-bit error of
SRAM is corrected and counted (R444); (19) so is one of MRAM (R461); (20) a read of the MRAM window feeds a started
unit whose SOURCE is MRAM_READ (R459); (21) an access of the Purser firmware that Table 17.1 does not give it is an
access fault, of which a read gives 0 (R447); (22) one of a running customer image is the same and stops the image
(R447, R448); (23) one that the table gives meets nothing (R447); (24) a misaligned access is the misaligned exception
(R443); (25) a disagreement of the Helm pair blocks the access and latches 0xC0 (R445); (26) a write of PE_AUTOARM is
that of pattern.autoarm (R456). -/
def Obligations.CustomerImageIsServed : Prop :=
  (∀ (t : Nat) (s : State), s.pw.dev ≠ .off → s.mg.custState = 2 → ∃ s', exec (.version t) s = .next s' ∧
    keepsBut [.mg, .out] (s.advance t) s' ∧ s'.mg = { s.mg with svcResult := s.mg.fwVersion } ∧
    s'.out = .service .purser s.mg.fwVersion :: s.out) ∧
  (∀ (t : Nat) (s : State), s.pw.dev ≠ .off → s.mg.custState ≠ 2 → ∃ s', exec (.version t) s = .next s' ∧
    keepsBut [] (s.advance t) s' ∧ s'.mg = s.mg) ∧
  (∀ (t addr : Nat) (src : Fin 256) (s : State), s.pw.dev ≠ .off → s.mg.custState = 2 →
    customerSource src.val = true → ∃ s', exec (.attach t src addr) s = .next s' ∧
    keepsBut [.mg, .out] (s.advance t) s' ∧ s'.out = .service .purser 0 :: s.out ∧
    afind s'.mg.custAttach src.val = some addr) ∧
  (∀ (t addr : Nat) (src : Fin 256) (s : State), s.pw.dev ≠ .off → s.mg.custState = 2 →
    customerSource src.val = false → ∃ s', exec (.attach t src addr) s = .next s' ∧
    keepsBut [.mg, .out] (s.advance t) s' ∧ s'.out = .service .purser 1 :: s.out ∧ s'.mg.custAttach = s.mg.custAttach) ∧
  (∀ (t : Nat) (s : State), s.pw.dev ≠ .off → s.mg.custState = 2 → firmwareIdle s = true →
    ∃ s', exec (.yield t) s = .next s' ∧ keepsBut [.mg, .out] (s.advance t) s' ∧
    s'.mg = { s.mg with custYield := false } ∧ s'.out = .service .purser 0 :: s.out) ∧
  (∀ (t : Nat) (s : State), s.pw.dev ≠ .off → s.mg.custState = 2 → firmwareIdle s = false →
    ∃ s', exec (.yield t) s = .next s' ∧ keepsBut [.mg] (s.advance t) s' ∧ s'.mg = { s.mg with custYield := true }) ∧
  (∀ (t : Nat) (data : List Byte) (s : State), s.pw.dev ≠ .off → s.mg.custState = 2 → custSaving s = false →
    data.length ≤ 16384 → s.nv.jrnlWait = [] → jrnlOpen s = false → prepared s (.block 12) = false →
    s.mg.haltMgmt = false → ∃ s', exec (.save t data) s = .next s' ∧ keepsBut [.mg, .nv, .out] (s.advance t) s' ∧
    s'.out = .service .purser 0 :: s.out ∧
    s'.nv.jrnl = some { target := .custData data, seq := s.nv.jrnlSeq.toNat, off := JTarget.off (.custData data), crc := crcOf crcIeee (JTarget.payload (.custData data)), units := 0, payload := max 1 (ceilDiv data.length 64), done := false } ∧
    s'.nv.jrnlSeq = s.nv.jrnlSeq ∧ (64 ∣ (JTarget.payload (.custData data)).length) ∧
    (JTarget.payload (.custData data)).take data.length = data) ∧
  (∀ (t : Nat) (data : List Byte) (s : State), s.pw.dev ≠ .off → s.mg.custState = 2 → custSaving s = false →
    data.length ≤ 16384 → jrnlOpen s = true → ∃ s', exec (.save t data) s = .next s' ∧
    keepsBut [.mg, .nv, .out] (s.advance t) s' ∧ s'.out = .service .purser 0 :: s.out ∧
    s'.nv = { s.nv with jrnlWait := s.nv.jrnlWait ++ [.custData data] }) ∧
  (∀ (t : Nat) (data : List Byte) (s : State), s.pw.dev ≠ .off → s.mg.custState = 2 →
    (custSaving s = true ∨ 16384 < data.length) → ∃ s', exec (.save t data) s = .next s' ∧
    keepsBut [.mg, .out] (s.advance t) s' ∧ s'.out = .service .purser 1 :: s.out) ∧
  (∀ (t addr : Nat) (s : State), s.pw.dev ≠ .off → s.mg.custState = 2 →
    ∃ s', exec (.customerTrap t addr) s = .next s' ∧ keepsBut raiseBlks (s.advance t) s' ∧
    bmGet s'.saf.latched 0xC7 = true ∧ s'.mg.custState = 3 ∧ s'.mg.custTraps = s.mg.custTraps + 1) ∧
  (∀ (t : Nat) (s : State), s.pw.dev ≠ .off → purserLate (s.advance t) 100000000000 = true →
    ∃ s', exec (.purserWatchdogExpiry t) s = .next s' ∧ keepsBut raiseBlks (s.advance t) s' ∧
    bmGet s'.saf.latched 0xC2 = true ∧ s'.mg.purserRestarts = s.mg.purserRestarts + 1 ∧ s'.mg.mbx = none ∧
    s'.dict.xferCan = none ∧ s'.dict.xferFerry = none ∧ s'.dict.canQueue = [] ∧ s'.mg.purserWd = (s.advance t).now) ∧
  (∀ (t : Nat) (s : State), s.pw.dev ≠ .off → purserLate (s.advance t) 100000000000 = false →
    ∃ s', exec (.purserWatchdogExpiry t) s = .next s' ∧ keepsBut [] (s.advance t) s' ∧ s'.mg = s.mg) ∧
  (∀ (t : Nat) (s : State), s.pw.dev ≠ .off → blockOn s 11 = true → ∃ s', exec (.srSnap t) s = .next s' ∧
    keepsBut [.mg, .out] (s.advance t) s' ∧ s'.mg = { s.mg with srCopy := srNow s, srSeqRead := s.srSeq } ∧
    s'.out = .service .purser (s.srSeq + 2147483648) :: s.out) ∧
  (∀ (t addr : Nat) (c : CoreId) (b : Fin 16) (w : Bool) (s : State), s.pw.dev ≠ .off → blockOn s b.val = false →
    ∃ s', exec (.coreAccessFault t c (.block b) addr w) s = .next s' ∧
    keepsBut (.pw :: .free :: raiseBlks) (s.advance t) s' ∧ bmGet s'.saf.latched 0xC8 = true ∧
    s'.pw.busErrors = s.pw.busErrors + 1 ∧ (w = false → Out.service c 0 ∈ s'.out) ∧
    s'.mg.mtval = s.mg.mtval.modify (coreIdx c) (fun _ => addr % 4294967296) ∧
    s'.mg.faultWrite = s.mg.faultWrite.modify (coreIdx c) (fun _ => w)) ∧
  (∀ (t addr : Nat) (c : CoreId) (b : Fin 16) (w : Bool) (s : State), s.pw.dev ≠ .off → blockOn s b.val = true →
    ∃ s', exec (.coreAccessFault t c (.block b) addr w) s = .next s' ∧ keepsBut [.mg, .free] (s.advance t) s' ∧
    s'.mg.exc = s.mg.exc ∧ s'.mg.mtval = s.mg.mtval) ∧
  (∀ (t addr : Nat) (c : CoreId) (w : Bool) (s : State), s.pw.dev ≠ .off →
    ∃ s', exec (.coreAccessFault t c .sram addr w) s = .next s' ∧ keepsBut (.free :: raiseBlks) (s.advance t) s' ∧
    bmGet s'.saf.latched 0xC3 = true ∧ s'.mg.mtval = s.mg.mtval.modify (coreIdx c) (fun _ => addr % 4294967296) ∧
    s'.mg.faultWrite = s.mg.faultWrite.modify (coreIdx c) (fun _ => w)) ∧
  (∀ (t addr : Nat) (c : CoreId) (w : Bool) (s : State), s.pw.dev ≠ .off →
    ∃ s', exec (.coreAccessFault t c .mram addr w) s = .next s' ∧ keepsBut (.free :: raiseBlks) (s.advance t) s' ∧
    bmGet s'.saf.latched 0xC4 = true ∧ s'.mg.mtval = s.mg.mtval.modify (coreIdx c) (fun _ => addr % 4294967296) ∧
    s'.mg.faultWrite = s.mg.faultWrite.modify (coreIdx c) (fun _ => w)) ∧
  (∀ (t addr : Nat) (c : CoreId) (w : Bool) (s : State), s.pw.dev ≠ .off →
    ∃ s', exec (.coreAccessFault t c .sramSingle addr w) s = .next s' ∧ keepsBut [.mg, .free] (s.advance t) s' ∧
    s'.mg.sramCorrected = s.mg.sramCorrected + 1 ∧ s'.mg.exc = s.mg.exc ∧ s'.mg.mtval = s.mg.mtval) ∧
  (∀ (t addr : Nat) (c : CoreId) (w : Bool) (bs : List Byte) (s : State), s.pw.dev ≠ .off →
    ∃ s', exec (.coreAccessFault t c (.mramSingle bs) addr w) s = .next s' ∧ keepsBut [.mg, .free] (s.advance t) s' ∧
    s'.mg.mramCorrected = s.mg.mramCorrected + 1 ∧ s'.mg.exc = s.mg.exc ∧ s'.mg.mtval = s.mg.mtval) ∧
  (∀ (t addr u : Nat) (bs : List Byte) (s : State), s.pw.dev ≠ .off → blockOn s 12 = true → u < 8 →
    u < s.mg.crc.length → (nth s.mg.crc u {}).started = true → (nth s.mg.crc u {}).taken = false →
    bitsOf (nth s.mg.crc u {}).ctrl 11 8 = 4 →
    ∃ s', exec (.coreAccessFault t .purser (.mramRead bs) addr false) s = .next s' ∧
    keepsBut [.mg, .free] (s.advance t) s' ∧
    (nth s'.mg.crc u {}).value = bs.foldl (crcByte (unitParams s u)) (nth s.mg.crc u {}).value) ∧
  (∀ (t addr : Nat) (cust w : Bool) (s : State), s.pw.dev ≠ .off → purserMay s cust addr w = false →
    (cust = false ∨ s.mg.custState ≠ 2) → ∃ s', exec (.coreAccessFault t .purser (.mapped cust) addr w) s = .next s' ∧
    keepsBut [.mg, .out, .free] (s.advance t) s' ∧ s'.mg.mtval = s.mg.mtval.modify (1) (fun _ => addr % 4294967296) ∧
    s'.mg.faultWrite = s.mg.faultWrite.modify (1) (fun _ => w) ∧
    s'.mg.exc = s.mg.exc.modify (1) (fun _ => some .accessFault) ∧ (w = false → s'.out = .service .purser 0 :: s.out)) ∧
  (∀ (t addr : Nat) (w : Bool) (s : State), s.pw.dev ≠ .off → purserMay s true addr w = false → s.mg.custState = 2 →
    ∃ s', exec (.coreAccessFault t .purser (.mapped true) addr w) s = .next s' ∧
    keepsBut (.free :: raiseBlks) (s.advance t) s' ∧ bmGet s'.saf.latched 0xC7 = true ∧ s'.mg.custState = 3 ∧
    s'.mg.custTraps = s.mg.custTraps + 1 ∧ s'.mg.mtval = s.mg.mtval.modify (1) (fun _ => addr % 4294967296) ∧
    s'.mg.faultWrite = s.mg.faultWrite.modify (1) (fun _ => w) ∧
    s'.mg.exc = s.mg.exc.modify (1) (fun _ => some .accessFault)) ∧
  (∀ (t addr : Nat) (cust w : Bool) (s : State), s.pw.dev ≠ .off → purserMay s cust addr w = true →
    ∃ s', exec (.coreAccessFault t .purser (.mapped cust) addr w) s = .next s' ∧
    keepsBut [.mg, .free] (s.advance t) s' ∧ s'.mg.exc = s.mg.exc ∧ s'.mg.mtval = s.mg.mtval) ∧
  (∀ (t addr : Nat) (c : CoreId) (w : Bool) (s : State), s.pw.dev ≠ .off →
    ∃ s', exec (.coreAccessFault t c .misaligned addr w) s = .next s' ∧ keepsBut [.mg, .free] (s.advance t) s' ∧
    s'.mg.mtval = s.mg.mtval.modify (coreIdx c) (fun _ => addr % 4294967296) ∧
    s'.mg.faultWrite = s.mg.faultWrite.modify (coreIdx c) (fun _ => w) ∧
    s'.mg.exc = s.mg.exc.modify (coreIdx c) (fun _ => some .misaligned)) ∧
  (∀ (t addr : Nat) (w : Bool) (s : State), s.pw.dev ≠ .off →
    ∃ s', exec (.coreAccessFault t .helm .lockstep addr w) s = .next s' ∧
    keepsBut (.free :: raiseBlks) (s.advance t) s' ∧ bmGet s'.saf.latched 0xC0 = true ∧ s'.mg.exc = s.mg.exc ∧
    s'.mg.mtval = s.mg.mtval) ∧
  (∀ (t addr : Nat) (e : Fin 8) (on w : Bool) (s : State), s.pw.dev ≠ .off → blockOn s 13 = true →
    ∃ s', exec (.coreAccessFault t .purser (.autoarm e on) addr w) s = .next s' ∧
    keepsBut [.objs, .mg, .free] (s.advance t) s' ∧ s'.objB (0x2B10 + e.val) 3 = on)

/-- CRC_START, CRC_DATA, CRC_FINISH, CRC_PRESET and RINFO_READ with the Purser powered. Each clause: under its
hypotheses on the state and the operands exec answers a next state, in which no part of the state but those it lists
differs from the state at the command's instant, and there (1) a unit that no window names starts with the parameters
written, for a WIDTH of 1 to 32 from their INIT (R458); (2) a PRESET of 1 to 3 in the same write is loaded first
(R458); (3) between START and FINISH with WRITES as its source a unit takes the VALUE written and then each byte of
DATA by the bitwise rule (R458); (4) otherwise it takes VALUE alone (R458, R459); (5) the end of a computation gives
RESULT and the next RSEQ (R460); (6) PRESET 1 to 3 sets the parameters of a published CRC (R458); (7) a unit that a
window names takes no start; (8) no finish; (9) and no preset: each is an access fault of the Purser core (R460); (10)
reading RINFO latches RESULT and its sequence number and answers that number and whether a computation is started;
ACTIVE is a free value of the model (R460). -/
def Obligations.CrcUnitsCompute : Prop :=
  (∀ (t ctrl poly init xorout : Nat) (u : Fin 8) (s : State), s.pw.dev ≠ .off → blockOn s 11 = true →
    unitNamed s u.val = false → u.val < s.mg.crc.length → (bitsOf ctrl 27 24 = 0 ∨ 3 < bitsOf ctrl 27 24) →
    poly < 4294967296 → init < 4294967296 → xorout < 4294967296 →
    ∃ s', exec (.crcStart t u ctrl poly init xorout) s = .next s' ∧ keepsBut [.mg] (s.advance t) s' ∧
    (nth s'.mg.crc u.val {}).started = true ∧ (nth s'.mg.crc u.val {}).ctrl = ctrl % 268435456 ∧ (1 ≤ bitsOf ctrl 5 0 ∧
    bitsOf ctrl 5 0 ≤ 32 →
    (nth s'.mg.crc u.val {}).value = crcStart { width := bitsOf ctrl 5 0, poly := poly, init := init, xorout := xorout, refin := bitOf ctrl 6, refout := bitOf ctrl 7 })) ∧
  (∀ (t ctrl poly init xorout : Nat) (u : Fin 8) (s : State), s.pw.dev ≠ .off → blockOn s 11 = true →
    unitNamed s u.val = false → u.val < s.mg.crc.length →
    (bitsOf ctrl 27 24 = 1 ∨ bitsOf ctrl 27 24 = 2 ∨ bitsOf ctrl 27 24 = 3) →
    ∃ s', exec (.crcStart t u ctrl poly init xorout) s = .next s' ∧ keepsBut [.mg] (s.advance t) s' ∧
    (nth s'.mg.crc u.val {}).started = true ∧
    (nth s'.mg.crc u.val {}).value = crcStart (if bitsOf ctrl 27 24 = 1 then crcIeee else if bitsOf ctrl 27 24 = 2 then crcHdr else crcCast)) ∧
  (∀ (t : Nat) (u : Fin 8) (value : Option Nat) (data : List Byte) (s : State), s.pw.dev ≠ .off →
    blockOn s 11 = true → u.val < s.mg.crc.length → (nth s.mg.crc u.val {}).started = true →
    (nth s.mg.crc u.val {}).taken = false → bitsOf (nth s.mg.crc u.val {}).ctrl 11 8 = 0 →
    ∃ s', exec (.crcData t u value data) s = .next s' ∧ keepsBut [.mg] (s.advance t) s' ∧
    (nth s'.mg.crc u.val {}).value = data.foldl (crcByte (unitParams s u.val)) (value.elim (nth s.mg.crc u.val {}).value (· % 4294967296)) ∧
    (nth s'.mg.crc u.val {}).rseq = (nth s.mg.crc u.val {}).rseq) ∧
  (∀ (t : Nat) (u : Fin 8) (value : Option Nat) (data : List Byte) (s : State), s.pw.dev ≠ .off →
    blockOn s 11 = true → u.val < s.mg.crc.length →
    ((nth s.mg.crc u.val {}).started = false ∨ (nth s.mg.crc u.val {}).taken = true ∨ bitsOf (nth s.mg.crc u.val {}).ctrl 11 8 ≠ 0) →
    ∃ s', exec (.crcData t u value data) s = .next s' ∧ keepsBut [.mg] (s.advance t) s' ∧
    nth s'.mg.crc u.val {} = { (nth s.mg.crc u.val {}) with value := value.elim (nth s.mg.crc u.val {}).value (· % 4294967296) }) ∧
  (∀ (t : Nat) (u : Fin 8) (s : State), s.pw.dev ≠ .off → blockOn s 11 = true → unitNamed s u.val = false →
    u.val < s.mg.crc.length → ∃ s', exec (.crcFinish t u) s = .next s' ∧ keepsBut [.mg] (s.advance t) s' ∧
    nth s'.mg.crc u.val {} = { nth s.mg.crc u.val {} with started := false, result := crcFinish (unitParams s u.val) (nth s.mg.crc u.val {}).value, rseq := ((nth s.mg.crc u.val {}).rseq + 1) % 65536 }) ∧
  (∀ (t n : Nat) (u : Fin 8) (s : State), s.pw.dev ≠ .off → blockOn s 11 = true → unitNamed s u.val = false →
    u.val < s.mg.crc.length → 1 ≤ n → n ≤ 3 → ∃ s', exec (.crcPreset t u n) s = .next s' ∧
    keepsBut [.mg] (s.advance t) s' ∧
    (nth s'.mg.crc u.val {}).poly = (if n = 1 then crcIeee else if n = 2 then crcHdr else crcCast).poly ∧
    (nth s'.mg.crc u.val {}).init = (if n = 1 then crcIeee else if n = 2 then crcHdr else crcCast).init ∧
    (nth s'.mg.crc u.val {}).xorout = (if n = 1 then crcIeee else if n = 2 then crcHdr else crcCast).xorout ∧
    bitsOf (nth s'.mg.crc u.val {}).ctrl 5 0 = (if n = 1 then crcIeee else if n = 2 then crcHdr else crcCast).width ∧
    bitsOf (nth s'.mg.crc u.val {}).ctrl 27 24 = n ∧ (nth s'.mg.crc u.val {}).value = (nth s.mg.crc u.val {}).value) ∧
  (∀ (t ctrl poly init xorout : Nat) (u : Fin 8) (s : State), s.pw.dev ≠ .off → blockOn s 11 = true →
    unitNamed s u.val = true → ∃ s', exec (.crcStart t u ctrl poly init xorout) s = .next s' ∧
    keepsBut [.mg] (s.advance t) s' ∧ s'.mg.crc = s.mg.crc ∧ s'.mg.exc = s.mg.exc.modify 1 (fun _ => some .accessFault)) ∧
  (∀ (t : Nat) (u : Fin 8) (s : State), s.pw.dev ≠ .off → blockOn s 11 = true → unitNamed s u.val = true →
    ∃ s', exec (.crcFinish t u) s = .next s' ∧ keepsBut [.mg] (s.advance t) s' ∧ s'.mg.crc = s.mg.crc ∧
    s'.mg.exc = s.mg.exc.modify 1 (fun _ => some .accessFault)) ∧
  (∀ (t n : Nat) (u : Fin 8) (s : State), s.pw.dev ≠ .off → blockOn s 11 = true → unitNamed s u.val = true →
    ∃ s', exec (.crcPreset t u n) s = .next s' ∧ keepsBut [.mg] (s.advance t) s' ∧ s'.mg.crc = s.mg.crc ∧
    s'.mg.exc = s.mg.exc.modify 1 (fun _ => some .accessFault)) ∧
  (∀ (t : Nat) (u : Fin 8) (s : State), s.pw.dev ≠ .off → blockOn s 11 = true → u.val < s.mg.crc.length →
    ∃ s', exec (.rinfoRead t u) s = .next s' ∧ keepsBut [.mg, .out, .free] (s.advance t) s' ∧
    nth s'.mg.crc u.val {} = { nth s.mg.crc u.val {} with latched := (nth s.mg.crc u.val {}).result, latchedSeq := (nth s.mg.crc u.val {}).rseq } ∧
    (∃ b : Bool, s'.out = .service .purser ((nth s.mg.crc u.val {}).rseq + 65536 * b2n (nth s.mg.crc u.val {}).started + 131072 * b2n b) :: s.out))

/-- OPEN_FW, OPEN_CUSTOMER, VERIFY, ACTIVATE, ABORT_UPDATE, REBOOT, UPDATE_IMAGE_WRITE, KEY_WRITE and PSTORE_COMMIT,
accepted writes of their objects, PSTORE_VERIFY_DONE and MRAM_PROGRAM_DONE; jrnlAsk asks the journal for a transaction
(R462). Each clause: under its hypotheses on the state and the operands exec answers a next state, in which no part of
the state but those it lists differs from the state at the command's instant, and there (1) OPEN_FW with no update
open begins one and empties the bank not in force (R470); (2) with one open it is refused and the update has failed
with STATE, 0xC6 latched (R470); (3) OPEN_CUSTOMER begins one of the customer image, which is stopped and gone (R470);
(4) a PREPARED update path refuses it (R432); (5) bytes of update.image are appended to the image, in its bank or its
customer area, and counted (R470); (6) with no update open they are refused and it has failed with STATE (R470); (7)
VERIFY of an image that fails a check of R469 fails with its reason (R469, R470); (8) of one that passes them all it
ends in VERIFIED (R469, R470); (9) with no update receiving it fails with STATE (R470); (10) ACTIVATE of verified
firmware asks the journal for the other bank and the higher rollback counter (R470); (11) of a customer image for its
valid mark and counter (R470); (12) before VERIFIED it fails with STATE (R470); (13) ABORT before ACTIVATE returns to
IDLE (R470); (14) after it the command fails with STATE (R470); (15) REBOOT outside LIT boots again without light
permission (R470); (16) in LIT it is refused (R470); (17) an empty key slot takes a key through the journal (R471);
(18) a slot held is locked (R471); (19) pstore.commit of staged records starts their verification (R465); (20) with
nothing staged, a commit under way or a PREPARED path it is refused (R432, R465); (21) the verification without a key
discards staging with KEY_MISSING and latches 0xC6 (R465); (22) so does a bad signature, with SIGNATURE (R465); (23) a
good signature asks the journal for the staging copy (R465); (24) one more unit of the open transaction is programmed
(R462); (25) with its header unit the transaction is counted and its SEQ used (R462); (26) in a halt of the cores no
unit is programmed after the one in progress (R332); (27) after commit and copy the payload is at its target, shown
for a saved value (R462); (28) and the done unit ends it (R462); (29) a new copy of the protected store that does not
read back is the cause of 0xC5 (R465). -/
def Obligations.UpdatesAndKeys : Prop :=
  (∀ (t : Nat) (p : Path) (s : State), s.pw.dev ≠ .off → takes s p 0x2F20 1 [1] = true → s.mg.updState ≠ 1 →
    s.mg.updState ≠ 2 → s.mg.updState ≠ 3 → prepared s .updatePath = false → ∃ s', exec (.openFw t p) s = .next s' ∧
    keepsBut [.mg, .nv, .dict] (s.advance t) s' ∧ s'.dict.answer = 0 ∧ s'.mg.updState = 1 ∧ s'.mg.updCustomer = false ∧
    s'.mg.updReceived = 0 ∧ s'.nv = { s.nv with banks := s.nv.banks.modify (1 - s.nv.bank) (fun _ => []) }) ∧
  (∀ (t : Nat) (p : Path) (s : State), s.pw.dev ≠ .off → takes s p 0x2F20 1 [1] = true →
    prepared s .updatePath = false → (s.mg.updState = 1 ∨ s.mg.updState = 2 ∨ s.mg.updState = 3) →
    ∃ s', exec (.openFw t p) s = .next s' ∧ keepsBut raiseBlks (s.advance t) s' ∧ s'.dict.answer = abState ∧
    s'.mg.updState = 4 ∧ s'.mg.updReason = 7 ∧ bmGet s'.saf.latched 0xC6 = true) ∧
  (∀ (t : Nat) (p : Path) (s : State), s.pw.dev ≠ .off → takes s p 0x2F20 1 [2] = true → s.mg.updState ≠ 1 →
    s.mg.updState ≠ 2 → s.mg.updState ≠ 3 → prepared s .updatePath = false →
    ∃ s', exec (.openCustomer t p) s = .next s' ∧ keepsBut [.mg, .nv, .dict] (s.advance t) s' ∧ s'.dict.answer = 0 ∧
    s'.mg.updState = 1 ∧ s'.mg.updCustomer = true ∧ s'.mg.custState = 0 ∧
    s'.nv = { s.nv with custImage := [], custValid := false }) ∧
  (∀ (t : Nat) (p : Path) (s : State), s.pw.dev ≠ .off → takes s p 0x2F20 1 [2] = true →
    prepared s .updatePath = true → ∃ s', exec (.openCustomer t p) s = .next s' ∧ keepsBut [.dict] (s.advance t) s' ∧
    s'.dict.answer = abState) ∧
  (∀ (t : Nat) (p : Path) (data : List Byte) (s : State), s.pw.dev ≠ .off → takes s p 0x2F20 2 data = true →
    s.mg.updState = 1 →
    ((s.mg.updImage ++ data).length < 128 ∨ (s.mg.updImage ++ data).length ≤ 128 + leField (s.mg.updImage ++ data) 12 4) →
    ∃ s', exec (.updateImageWrite t p data) s = .next s' ∧ keepsBut [.mg, .nv, .dict] (s.advance t) s' ∧
    s'.dict.answer = 0 ∧ s'.mg.updImage = (s.mg.updImage ++ data) ∧
    s'.mg.updReceived = (s.mg.updImage ++ data).length % 4294967296 ∧
    s'.nv = (if s.mg.updCustomer = true then { s.nv with custImage := (s.mg.updImage ++ data) } else { s.nv with banks := s.nv.banks.modify (1 - s.nv.bank) (fun _ => (s.mg.updImage ++ data)) })) ∧
  (∀ (t : Nat) (p : Path) (data : List Byte) (s : State), s.pw.dev ≠ .off → takes s p 0x2F20 2 data = true →
    s.mg.updState ≠ 1 → ∃ s', exec (.updateImageWrite t p data) s = .next s' ∧ keepsBut raiseBlks (s.advance t) s' ∧
    s'.dict.answer = abState ∧ s'.mg.updState = 4 ∧ s'.mg.updReason = 7 ∧ bmGet s'.saf.latched 0xC6 = true) ∧
  (∀ (t : Nat) (p : Path) (s : State), s.pw.dev ≠ .off → takes s p 0x2F20 1 [3] = true → s.mg.updState = 1 →
    imageReason s s.mg.updCustomer s.mg.updImage ≠ 0 → ∃ s', exec (.verify t p) s = .next s' ∧
    keepsBut raiseBlks (s.advance t) s' ∧ s'.dict.answer = 0 ∧ s'.mg.updState = 4 ∧
    s'.mg.updReason = imageReason s s.mg.updCustomer s.mg.updImage ∧ bmGet s'.saf.latched 0xC6 = true) ∧
  (∀ (t : Nat) (p : Path) (s : State), s.pw.dev ≠ .off → takes s p 0x2F20 1 [3] = true → s.mg.updState = 1 →
    imageReason s s.mg.updCustomer s.mg.updImage = 0 → ∃ s', exec (.verify t p) s = .next s' ∧
    keepsBut [.mg, .dict] (s.advance t) s' ∧ s'.dict.answer = 0 ∧ s'.mg = { s.mg with updState := 3 }) ∧
  (∀ (t : Nat) (p : Path) (s : State), s.pw.dev ≠ .off → takes s p 0x2F20 1 [3] = true → s.mg.updState ≠ 1 →
    ∃ s', exec (.verify t p) s = .next s' ∧ keepsBut raiseBlks (s.advance t) s' ∧ s'.dict.answer = abState ∧
    s'.mg.updState = 4 ∧ s'.mg.updReason = 7 ∧ bmGet s'.saf.latched 0xC6 = true) ∧
  (∀ (t : Nat) (p : Path) (s : State), s.pw.dev ≠ .off → takes s p 0x2F20 1 [4] = true → s.mg.updState = 3 →
    s.mg.updCustomer = false → ∃ s', exec (.activate t p) s = .next s' ∧ keepsBut [.mg, .nv, .dict] (s.advance t) s' ∧
    s'.dict.answer = 0 ∧ s'.mg.updState = 5 ∧
    s'.nv = (jrnlAsk (.bank (1 - s.nv.bank) (max s.nv.rollFw (leField s.mg.updImage 5 1))) s).nv) ∧
  (∀ (t : Nat) (p : Path) (s : State), s.pw.dev ≠ .off → takes s p 0x2F20 1 [4] = true → s.mg.updState = 3 →
    s.mg.updCustomer = true → ∃ s', exec (.activate t p) s = .next s' ∧ keepsBut [.mg, .nv, .dict] (s.advance t) s' ∧
    s'.dict.answer = 0 ∧ s'.mg.updState = 5 ∧ s'.mg.custState = 1 ∧
    s'.nv = (jrnlAsk (.cust (max s.nv.rollCust (leField s.mg.updImage 5 1))) s).nv) ∧
  (∀ (t : Nat) (p : Path) (s : State), s.pw.dev ≠ .off → takes s p 0x2F20 1 [4] = true → s.mg.updState ≠ 3 →
    ∃ s', exec (.activate t p) s = .next s' ∧ keepsBut raiseBlks (s.advance t) s' ∧ s'.dict.answer = abState ∧
    s'.mg.updState = 4 ∧ s'.mg.updReason = 7 ∧ bmGet s'.saf.latched 0xC6 = true) ∧
  (∀ (t : Nat) (p : Path) (s : State), s.pw.dev ≠ .off → takes s p 0x2F20 1 [5] = true → s.mg.updState ≠ 5 →
    ∃ s', exec (.abortUpdate t p) s = .next s' ∧ keepsBut [.mg, .dict] (s.advance t) s' ∧ s'.dict.answer = 0 ∧
    s'.mg = { s.mg with updState := 0, updImage := [], updReceived := 0 }) ∧
  (∀ (t : Nat) (p : Path) (s : State), s.pw.dev ≠ .off → takes s p 0x2F20 1 [5] = true → s.mg.updState = 5 →
    ∃ s', exec (.abortUpdate t p) s = .next s' ∧ keepsBut raiseBlks (s.advance t) s' ∧ s'.dict.answer = abState ∧
    s'.mg.updState = 4 ∧ s'.mg.updReason = 7 ∧ bmGet s'.saf.latched 0xC6 = true) ∧
  (∀ (t : Nat) (p : Path) (s : State), s.pw.dev ≠ .off → takes s p 0x2F20 1 [6] = true → s.pw.dev ≠ .lit →
    ∃ s', exec (.reboot t p) s = .next s' ∧ keepsBut coldBlks (s.advance t) s' ∧ s'.pw.dev = .boot ∧
    s'.saf.permission = false ∧ s'.saf.testen = s.saf.testen ∧ s'.saf.lenA = s.saf.lenA ∧ s'.saf.lenB = s.saf.lenB ∧
    s'.objs = []) ∧
  (∀ (t : Nat) (p : Path) (s : State), s.pw.dev ≠ .off → takes s p 0x2F20 1 [6] = true → s.pw.dev = .lit →
    ∃ s', exec (.reboot t p) s = .next s' ∧ keepsBut [.dict] (s.advance t) s' ∧ s'.dict.answer = abState) ∧
  (∀ (t : Nat) (p : Path) (slot : Fin 2) (data : List Byte) (s : State), s.pw.dev ≠ .off →
    takes s p 0x2F38 (slot.val + 1) data = true → slotHeld s (slot.val + 1) = false →
    ∃ s', exec (.keyWrite t p slot data) s = .next s' ∧ keepsBut [.mg, .nv, .dict] (s.advance t) s' ∧
    s'.dict.answer = 0 ∧ s'.nv = (jrnlAsk (.key (slot.val + 1) data) s).nv) ∧
  (∀ (t : Nat) (p : Path) (slot : Fin 2) (data : List Byte) (s : State), s.pw.dev ≠ .off →
    takes s p 0x2F38 (slot.val + 1) data = true → slotHeld s (slot.val + 1) = true →
    ∃ s', exec (.keyWrite t p slot data) s = .next s' ∧ keepsBut [.dict] (s.advance t) s' ∧ s'.dict.answer = abState) ∧
  (∀ (t v : Nat) (p : Path) (s : State), s.pw.dev ≠ .off → takes s p 0x2F30 2 (leBytes 1 v) = true →
    s.mg.psStaged = true → s.mg.psVerifying = false → copying s = false → prepared s .updatePath = false →
    ∃ s', exec (.pstoreCommit t p v) s = .next s' ∧ keepsBut [.mg, .comp, .dict] (s.advance t) s' ∧ s'.dict.answer = 0 ∧
    s'.mg = { s.mg with psVerifying := true } ∧ s'.comp.protState = 1) ∧
  (∀ (t v : Nat) (p : Path) (s : State), s.pw.dev ≠ .off → takes s p 0x2F30 2 (leBytes 1 v) = true →
    (s.mg.psStaged = false ∨ s.mg.psVerifying = true ∨ copying s = true ∨ prepared s .updatePath = true) →
    ∃ s', exec (.pstoreCommit t p v) s = .next s' ∧ keepsBut [.dict] (s.advance t) s' ∧ s'.dict.answer = abState) ∧
  (∀ (t : Nat) (s : State), s.pw.dev ≠ .off → s.mg.psVerifying = true → s.nv.keyPst = none →
    ∃ s', exec (.pstoreVerifyDone t) s = .next s' ∧ keepsBut (.comp :: raiseBlks) (s.advance t) s' ∧
    s'.mg.psStaged = false ∧ s'.mg.psVerifying = false ∧ s'.mg.psResult = 3 ∧ bmGet s'.saf.latched 0xC6 = true) ∧
  (∀ (t : Nat) (k : List Byte) (s : State), s.pw.dev ≠ .off → s.mg.psVerifying = true → s.nv.keyPst = some k →
    ecdsaOk k s.mg.psSig (manifest (nth s.nv.copies (1 - s.nv.copy) {})) = false →
    ∃ s', exec (.pstoreVerifyDone t) s = .next s' ∧ keepsBut (.comp :: raiseBlks) (s.advance t) s' ∧
    s'.mg.psStaged = false ∧ s'.mg.psVerifying = false ∧ s'.mg.psResult = 2 ∧ bmGet s'.saf.latched 0xC6 = true) ∧
  (∀ (t : Nat) (k : List Byte) (s : State), s.pw.dev ≠ .off → s.mg.psVerifying = true → s.nv.keyPst = some k →
    ecdsaOk k s.mg.psSig (manifest (nth s.nv.copies (1 - s.nv.copy) {})) = true →
    ∃ s', exec (.pstoreVerifyDone t) s = .next s' ∧ keepsBut [.mg, .nv] (s.advance t) s' ∧ s'.mg.psStaged = false ∧
    s'.mg.psVerifying = false ∧ s'.nv = (jrnlAsk (.copy (1 - s.nv.copy)) s).nv ∧ s'.nv.copy = s.nv.copy) ∧
  (∀ (t : Nat) (j : Journal) (readOk : Bool) (s : State), s.pw.dev ≠ .off → blockPowered s 12 = true →
    s.mg.haltMgmt = false → s.nv.jrnl = some j → j.done = false → 0 < j.units → j.units + 1 ≠ 2 + 2 * j.payload →
    j.units + 1 ≠ 3 + 2 * j.payload → ∃ s', exec (.mramProgramDone t readOk) s = .next s' ∧
    keepsBut [.mg, .nv] (s.advance t) s' ∧ s'.nv = { s.nv with jrnl := some { j with units := j.units + 1 } }) ∧
  (∀ (t : Nat) (j : Journal) (readOk : Bool) (s : State), s.pw.dev ≠ .off → blockPowered s 12 = true →
    s.mg.haltMgmt = false → s.nv.jrnl = some j → j.done = false → j.units = 0 →
    ∃ s', exec (.mramProgramDone t readOk) s = .next s' ∧ keepsBut [.mg, .nv] (s.advance t) s' ∧
    s'.nv = { s.nv with jrnl := some { j with units := 1 }, jrnlSeq := s.nv.jrnlSeq + 1 } ∧
    s'.mg.journalTx = s.mg.journalTx + 1) ∧
  (∀ (t : Nat) (readOk : Bool) (s : State), s.pw.dev ≠ .off → s.mg.haltMgmt = true → s.mg.haltUnit = none →
    ∃ s', exec (.mramProgramDone t readOk) s = .next s' ∧ keepsBut [] (s.advance t) s' ∧ s'.nv = s.nv) ∧
  (∀ (t key : Nat) (d : List Byte) (j : Journal) (readOk : Bool) (s : State), s.pw.dev ≠ .off →
    blockPowered s 12 = true → s.mg.haltMgmt = false → s.nv.jrnl = some j → j.done = false →
    j.units + 1 = 2 + 2 * j.payload → j.target = .saved key d → ∃ s', exec (.mramProgramDone t readOk) s = .next s' ∧
    keepsBut [.mg, .nv] (s.advance t) s' ∧
    s'.nv = { s.nv with jrnl := some { j with units := j.units + 1 }, saved := aput s.nv.saved key d }) ∧
  (∀ (t : Nat) (j : Journal) (readOk : Bool) (s : State), s.pw.dev ≠ .off → blockPowered s 12 = true →
    s.mg.haltMgmt = false → s.nv.jrnl = some j → j.done = false → j.units + 1 = 3 + 2 * j.payload → s.nv.jrnlWait = [] →
    ∃ s', exec (.mramProgramDone t readOk) s = .next s' ∧ keepsBut [.mg, .nv] (s.advance t) s' ∧
    s'.nv = { s.nv with jrnl := some { j with units := j.units + 1, done := true } }) ∧
  (∀ (t : Nat) (j : Journal) (s : State), s.pw.dev ≠ .off → blockPowered s 12 = true → s.mg.haltMgmt = false →
    s.nv.jrnl = some j → j.done = false → j.units + 1 = 2 + 2 * j.payload → j.target = .copy (1 - s.nv.copy) →
    ∃ s', exec (.mramProgramDone t false) s = .next s' ∧ keepsBut (.nv :: .comp :: raiseBlks) (s.advance t) s' ∧
    s'.nv.copy = 1 - s.nv.copy ∧ s'.nv.psBad = true ∧ s'.mg.psResult = 4 ∧ bmGet s'.saf.causes 0xC5 = true)

/-- IDENTIFY_RANGE, ASSIGN, QUERY, NODE_COLLISION and COLLISION_CLEAR. Each clause: under its hypotheses on the state
and the operands exec answers a next state, in which no part of the state but those it lists differs from the state at
the command's instant, and there (1) an engine whose identifier lies in the range answers PRESENT under node 0, one
with a node number only where all are asked (R480); (2) another stays silent (R480); (3) a frame for another node, or
that is no such frame, does nothing (R479); (4) ASSIGN to its identifier gives a node number, answered with IDENT, and
a change of the number in force ends the CAN transfer and session (R480, R481, R490, R499); (5) ASSIGN of 0 takes the
number away without an answer (R480); (6) ASSIGN to another identifier, or of no number from 0 to 127, changes no
number (R480); (7) another frame is no ASSIGN (R479); (8) QUERY to all or to its node is answered IDENT (R480); (9) an
engine without a node number does not answer (R480); (10) a QUERY to another node does nothing (R479); (11) a foreign
frame under its node number sets COLLISION, is counted and is the cause of 0xD1 (R482); (12) without a node number or
off the bus there is no collision (R482); (13) 2 s without one clear the bit and the cause (R482); (14) less does not
(R482). -/
def Obligations.NodesAreAssigned : Prop :=
  (∀ (t : Nat) (f : CanFrame) (s : State), s.pw.dev ≠ .off → identFrame s f 1 = true → canNode f = 0 →
    inRange s f = true → (bitOf (canField f 1 1) 0 = false ∨ nodeOf s = 0) → canUp s = true →
    ∃ s', exec (.identifyRange t f) s = .next s' ∧ keepsBut [.can, .out] (s.advance t) s' ∧
    s'.out = .can 768 true (brsSet s) (padTo 16 [0x81]) :: s.out) ∧
  (∀ (t : Nat) (f : CanFrame) (s : State), s.pw.dev ≠ .off → identFrame s f 1 = true → canNode f = 0 →
    (inRange s f = false ∨ (bitOf (canField f 1 1) 0 = true ∧ nodeOf s ≠ 0)) →
    ∃ s', exec (.identifyRange t f) s = .next s' ∧ keepsBut [.can] (s.advance t) s' ∧
    s'.can = { s.can with rxFrames := s.can.rxFrames + 1 }) ∧
  (∀ (t : Nat) (f : CanFrame) (s : State), s.pw.dev ≠ .off → (identFrame s f 1 = false ∨ canNode f ≠ 0) →
    ∃ s', exec (.identifyRange t f) s = .next s' ∧ keepsBut [] (s.advance t) s' ∧ s'.can = s.can) ∧
  (∀ (t : Nat) (f : CanFrame) (s : State), s.pw.dev ≠ .off → identFrame s f 2 = true → canNode f = 0 →
    canField f 8 8 = s.uid → 1 ≤ canField f 1 1 → canField f 1 1 ≤ 127 → canUp s = true →
    ∃ s', exec (.assign t f) s = .next s' ∧ keepsBut [.can, .out, .dict] (s.advance t) s' ∧
    s'.can.assigned = canField f 1 1 ∧ s'.out = .can (768 + nodeOf s') true (brsSet s') (identMsg s') :: s.out ∧
    (nodeOf s' ≠ nodeOf s → s'.dict.xferCan = none ∧ s'.dict.sesCan.isOpen = false)) ∧
  (∀ (t : Nat) (f : CanFrame) (s : State), s.pw.dev ≠ .off → identFrame s f 2 = true → canNode f = 0 →
    canField f 8 8 = s.uid → canField f 1 1 = 0 → ∃ s', exec (.assign t f) s = .next s' ∧
    keepsBut [.can, .dict] (s.advance t) s' ∧ s'.can = { s.can with assigned := 0, rxFrames := s.can.rxFrames + 1 }) ∧
  (∀ (t : Nat) (f : CanFrame) (s : State), s.pw.dev ≠ .off → identFrame s f 2 = true → canNode f = 0 →
    (canField f 8 8 ≠ s.uid ∨ 127 < canField f 1 1) → ∃ s', exec (.assign t f) s = .next s' ∧
    keepsBut [.can] (s.advance t) s' ∧ s'.can = { s.can with rxFrames := s.can.rxFrames + 1 }) ∧
  (∀ (t : Nat) (f : CanFrame) (s : State), s.pw.dev ≠ .off → (identFrame s f 2 = false ∨ canNode f ≠ 0) →
    ∃ s', exec (.assign t f) s = .next s' ∧ keepsBut [] (s.advance t) s' ∧ s'.can = s.can) ∧
  (∀ (t : Nat) (f : CanFrame) (s : State), s.pw.dev ≠ .off → identFrame s f 3 = true →
    (canNode f = 0 ∨ canNode f = nodeOf s) → nodeOf s ≠ 0 → canUp s = true → ∃ s', exec (.query t f) s = .next s' ∧
    keepsBut [.can, .out] (s.advance t) s' ∧ s'.out = .can (768 + nodeOf s) true (brsSet s) (identMsg s) :: s.out) ∧
  (∀ (t : Nat) (f : CanFrame) (s : State), s.pw.dev ≠ .off → identFrame s f 3 = true → canNode f = 0 → nodeOf s = 0 →
    ∃ s', exec (.query t f) s = .next s' ∧ keepsBut [.can] (s.advance t) s' ∧
    s'.can = { s.can with rxFrames := s.can.rxFrames + 1 }) ∧
  (∀ (t : Nat) (f : CanFrame) (s : State), s.pw.dev ≠ .off → (identFrame s f 3 = false ∨ (canNode f ≠ 0 ∧
    canNode f ≠ nodeOf s)) → ∃ s', exec (.query t f) s = .next s' ∧ keepsBut [] (s.advance t) s' ∧ s'.can = s.can) ∧
  (∀ (t : Nat) (s : State), s.pw.dev ≠ .off → nodeOf s ≠ 0 → canListens s = true →
    ∃ s', exec (.nodeCollision t) s = .next s' ∧ keepsBut raiseBlks (s.advance t) s' ∧ s'.can.collision = true ∧
    s'.can.collisionAt = (s.advance t).now ∧ s'.can.collisions = s.can.collisions + 1 ∧ bmGet s'.saf.causes 0xD1 = true) ∧
  (∀ (t : Nat) (s : State), s.pw.dev ≠ .off → (nodeOf s = 0 ∨ canListens s = false) →
    ∃ s', exec (.nodeCollision t) s = .next s' ∧ keepsBut [] (s.advance t) s' ∧ s'.can = s.can) ∧
  (∀ (t : Nat) (s : State), s.pw.dev ≠ .off → s.can.collision = true →
    spanOver (s.advance t) s.can.collisionAt 2000000000000 = true → ∃ s', exec (.collisionClear t) s = .next s' ∧
    keepsBut [.can, .saf] (s.advance t) s' ∧ s'.can = { s.can with collision := false } ∧
    bmGet s'.saf.causes 0xD1 = false) ∧
  (∀ (t : Nat) (s : State), s.pw.dev ≠ .off →
    (s.can.collision = false ∨ spanOver (s.advance t) s.can.collisionAt 2000000000000 = false) →
    ∃ s', exec (.collisionClear t) s = .next s' ∧ keepsBut [] (s.advance t) s' ∧ s'.can = s.can ∧ s'.saf = s.saf)

/-- BUS_OFF, BUS_OFF_RECOVERY, CAN_JOIN and HEARTBEAT_MESSAGE. STATE_COMMAND. Each clause: under its hypotheses on the
state and the operands exec answers a next state, in which no part of the state but those it lists differs from the
state at the command's instant, and there (1) bus-off is counted, closes the CAN session, ends the CAN transfer and is
the cause of 0xD0 (R478, R490, R499); (2) a controller that takes no part in the bus does not enter it (R476, R478);
(3) the recovery ends it with both error counters 0 and clears the cause (R478); (4) a controller that is not in
bus-off has none to recover from (R478); (5) the controller joins the bus while TB6 runs from TB0 or from a QUALIFIED
keeper (R476); (6) with TB6 on another clock it does not (R476); (7) a period after the last, the heartbeat message
carries the device state, the safety state, its flags, the Ferry address, the last event sequence number and its own
count (R504); (8) earlier, with a period of 0, without a node number, or unable to send, there is none (R504); (9) a
state command for all or for the engine acts as the write of power.command, here QUIET, and has no answer (R505); (10)
a refusal is reported as an event, 0x10B, which takes the next ESEQ (R505); (11) a frame for another node, of another
length or with a reserved byte that is not 0 is ignored (R479, R505). -/
def Obligations.CanStatesAndCommands : Prop :=
  (∀ (t : Nat) (s : State), s.pw.dev ≠ .off → canListens s = true → ∃ s', exec (.busOff t) s = .next s' ∧
    keepsBut raiseBlks (s.advance t) s' ∧ s'.can.busOff = true ∧ s'.can.busOffs = s.can.busOffs + 1 ∧
    s'.dict.sesCan.isOpen = false ∧ s'.dict.xferCan = none ∧ bmGet s'.saf.causes 0xD0 = true) ∧
  (∀ (t : Nat) (s : State), s.pw.dev ≠ .off → canListens s = false → ∃ s', exec (.busOff t) s = .next s' ∧
    keepsBut [] (s.advance t) s' ∧ s'.can = s.can) ∧
  (∀ (t : Nat) (s : State), s.pw.dev ≠ .off → s.can.busOff = true → ∃ s', exec (.busOffRecovery t) s = .next s' ∧
    keepsBut [.can, .saf] (s.advance t) s' ∧ s'.can = { s.can with busOff := false, tecErr := 0, recErr := 0 } ∧
    bmGet s'.saf.causes 0xD0 = false) ∧
  (∀ (t : Nat) (s : State), s.pw.dev ≠ .off → s.can.busOff = false → ∃ s', exec (.busOffRecovery t) s = .next s' ∧
    keepsBut [] (s.advance t) s' ∧ s'.can = s.can ∧ s'.saf = s.saf) ∧
  (∀ (t : Nat) (s : State), s.pw.dev ≠ .off → clockOn s = true → vcanOk s = true → ticks s 9 6 = true →
    (nth s.tb.src 6 2 = 0 ∨ s.tb.keeper = .qualified) → ∃ s', exec (.canJoin t) s = .next s' ∧
    keepsBut [.can] (s.advance t) s' ∧ s'.can = { s.can with joined := true }) ∧
  (∀ (t : Nat) (s : State), s.pw.dev ≠ .off →
    (clockOn s = false ∨ vcanOk s = false ∨ ticks s 9 6 = false ∨ (nth s.tb.src 6 2 ≠ 0 ∧ s.tb.keeper ≠ .qualified)) →
    ∃ s', exec (.canJoin t) s = .next s' ∧ keepsBut [] (s.advance t) s' ∧ s'.can = s.can) ∧
  (∀ (t : Nat) (s : State), s.pw.dev ≠ .off → running s = true → nodeOf s ≠ 0 → s.objN 0x1010 6 ≠ 0 → canUp s = true →
    s.can.hbAt.all (fun a => spanOver (s.advance t) a (s.objN 0x1010 6 * 1000000000)) = true →
    ∃ s', exec (.heartbeatMessage t) s = .next s' ∧ keepsBut [.can, .out] (s.advance t) s' ∧
    s'.can.hbCount = (s.can.hbCount + 1) % 256 ∧ s'.can.hbAt = some (s.advance t).now ∧
    s'.out = .can (896 + nodeOf s) false false (leBytes 1 s.pw.dev.code ++ leBytes 1 s.saf.state.code ++ leBytes 1 (b2n s.clk.valid + 2 * b2n s.can.collision + 4 * b2n (s.fy.address = 63) + 8 * b2n (s.dict.sesCan.isOpen || s.dict.sesFerry.isOpen)) ++ leBytes 1 s.fy.address ++ leBytes 2 s.dict.eventSeq.toNat ++ leBytes 1 s.can.hbCount ++ [0]) :: s.out) ∧
  (∀ (t : Nat) (s : State), s.pw.dev ≠ .off →
    (running s = false ∨ nodeOf s = 0 ∨ s.objN 0x1010 6 = 0 ∨ canUp s = false ∨ s.can.hbAt.all (fun a => spanOver (s.advance t) a (s.objN 0x1010 6 * 1000000000)) = false) →
    ∃ s', exec (.heartbeatMessage t) s = .next s' ∧ keepsBut [] (s.advance t) s' ∧ s'.can = s.can) ∧
  (∀ (t : Nat) (f : CanFrame) (vccOk : Bool) (s : State), s.pw.dev ≠ .off → canHears s f = true → canFunc f = 0 →
    (canNode f = 0 ∨ canNode f = nodeOf s) → f.data = [1, 2, 0, 0, 0, 0, 0, 0] → takes s .can 0x2E00 1 [2] = true →
    s.pw.seq = .idle → s.pw.dev ≠ .quiet → ∃ s', exec (.stateCommand t f vccOk) s = .next s' ∧
    keepsBut [.pw, .mg, .can] (s.advance t) s' ∧ s'.pw.seq = .preparing ∧ s'.pw.target = .quiet ∧ s'.pw.answered = [] ∧
    s'.pw.repeats = 0 ∧ s'.can = { s.can with rxFrames := s.can.rxFrames + 1 } ∧ s'.dict = s.dict) ∧
  (∀ (t : Nat) (f : CanFrame) (vccOk : Bool) (s : State), s.pw.dev ≠ .off → canHears s f = true → canFunc f = 0 →
    (canNode f = 0 ∨ canNode f = nodeOf s) → f.data = [1, 2, 0, 0, 0, 0, 0, 0] → takes s .can 0x2E00 1 [2] = true →
    s.pw.dev = .quiet → ∃ s', exec (.stateCommand t f vccOk) s = .next s' ∧
    keepsBut [.pw, .can, .dict, .fy, .out] (s.advance t) s' ∧ s'.pw = { s.pw with vccOk := vccOk } ∧
    s'.dict.eventSeq = s.dict.eventSeq + 1) ∧
  (∀ (t : Nat) (f : CanFrame) (vccOk : Bool) (s : State), s.pw.dev ≠ .off →
    (canHears s f = false ∨ canFunc f ≠ 0 ∨ (canNode f ≠ 0 ∧
    canNode f ≠ nodeOf s) ∨ f.data.length ≠ 8 ∨ canField f 0 1 ≠ 1 ∨ (f.data.drop 2).all (· == 0) = false ∨ served s 0x2E00 = false) →
    ∃ s', exec (.stateCommand t f vccOk) s = .next s' ∧ keepsBut [] (s.advance t) s' ∧ s'.pw = s.pw)

/-- EVENT_MODERATION and SUMMARY. Each clause: under its hypotheses on the state and the operands exec answers a next
state, in which no part of the state but those it lists differs from the state at the command's instant, and there (1)
at the end of the hold-off the events accumulated under a code leave over CAN as one message that counts them, and
those it stands for are counted (R501, R503); (2) over the Ferry they leave as one DICT packet (R502, R503); (3) on a
path that cannot send, the code joins the pending-events set, which holds the first and the last sequence number of
all (R503); (4) before the hold-off has ended, or with nothing accumulated, nothing leaves (R503); (5) a SUMMARY over
CAN with the first and last sequence number and the codes held empties the pending-events set, is counted and takes
the next ESEQ (R503); (6) over the Ferry it joins the insertion queue (R502, R503); (7) with none held, or a path that
cannot send, there is no SUMMARY (R503). -/
def Obligations.EventsAreModerated : Prop :=
  (∀ (t code : Nat) (a : EvAcc) (s : State), s.pw.dev ≠ .off →
    s.dict.evCan.acc.find? (fun a => a.code == code && spanOver (s.advance t) a.since (modWord s code / 256 % 65536 * 1000000)) = some a →
    evReady s .can = true → ∃ s', exec (.eventModeration t .can code) s = .next s' ∧
    keepsBut [.dict, .can, .out] (s.advance t) s' ∧ s'.out = .can (256 + nodeOf s) true (brsSet s) a.bytes :: s.out ∧
    s'.dict.evCan = { s.dict.evCan with acc := s.dict.evCan.acc.filter (fun a => a.code ≠ code) } ∧
    s'.dict.coalesced = s.dict.coalesced + BitVec.ofNat 32 (a.num - 1)) ∧
  (∀ (t code : Nat) (a : EvAcc) (s : State), s.pw.dev ≠ .off →
    s.dict.evFerry.acc.find? (fun a => a.code == code && spanOver (s.advance t) a.since (modWord s code / 256 % 65536 * 1000000)) = some a →
    evReady s .ferry = true → ∃ s', exec (.eventModeration t .ferry code) s = .next s' ∧
    keepsBut [.dict, .fy] (s.advance t) s' ∧ s'.fy = (ownPacket 3 4 0 (dictPayload a.bytes) s).fy ∧
    s'.dict.evFerry = { s.dict.evFerry with acc := s.dict.evFerry.acc.filter (fun a => a.code ≠ code) } ∧
    s'.dict.coalesced = s.dict.coalesced + BitVec.ofNat 32 (a.num - 1)) ∧
  (∀ (t code : Nat) (a : EvAcc) (p : Path) (s : State), s.pw.dev ≠ .off →
    (evPath s p).acc.find? (fun a => a.code == code && spanOver (s.advance t) a.since (modWord s code / 256 % 65536 * 1000000)) = some a →
    evReady s p = false → ∃ s', exec (.eventModeration t p code) s = .next s' ∧ keepsBut [.dict] (s.advance t) s' ∧
    (evPath s' p).last = (if (evPath s p).codes = [] ∨ evAge s a.eseq < evAge s (evPath s p).last then a.eseq else (evPath s p).last) ∧
    (evPath s' p).first = (if (evPath s p).codes = [] ∨ evAge s (evPath s p).first < evAge s a.first then a.first else (evPath s p).first) ∧
    a.code ∈ (evPath s' p).codes ∧ (evPath s' p).acc = (evPath s p).acc.filter (fun a => a.code ≠ code)) ∧
  (∀ (t code : Nat) (p : Path) (s : State), s.pw.dev ≠ .off →
    (evPath s p).acc.find? (fun a => a.code == code && spanOver (s.advance t) a.since (modWord s code / 256 % 65536 * 1000000)) = none →
    ∃ s', exec (.eventModeration t p code) s = .next s' ∧ keepsBut [] (s.advance t) s' ∧ s'.dict = s.dict) ∧
  (∀ (t : Nat) (s : State), s.pw.dev ≠ .off → s.dict.evCan.codes ≠ [] → evReady s .can = true →
    ∃ s', exec (.summary t .can) s = .next s' ∧ keepsBut [.dict, .can, .out] (s.advance t) s' ∧
    s'.dict.evCan = { s.dict.evCan with codes := [], first := 0, last := 0 } ∧ s'.dict.eventSeq = s.dict.eventSeq + 1 ∧
    s'.dict.summaries = s.dict.summaries + 1 ∧
    s'.out = .can (256 + nodeOf s) true (brsSet s) (EvAcc.bytes { code := 0x100, num := 1, eseq := (s.dict.eventSeq + 1).toNat, cls := 255, time := (s.advance t).time, since := (s.advance t).now, ctx := leBytes 2 s.dict.evCan.first ++ leBytes 2 s.dict.evCan.last ++ codeMap s.dict.evCan.codes }) :: s.out) ∧
  (∀ (t : Nat) (s : State), s.pw.dev ≠ .off → s.dict.evFerry.codes ≠ [] → evReady s .ferry = true →
    ∃ s', exec (.summary t .ferry) s = .next s' ∧ keepsBut [.dict, .fy] (s.advance t) s' ∧
    s'.dict.evFerry = { s.dict.evFerry with codes := [], first := 0, last := 0 } ∧
    s'.dict.eventSeq = s.dict.eventSeq + 1 ∧ s'.dict.summaries = s.dict.summaries + 1 ∧
    s'.fy.insert.length = s.fy.insert.length + 1) ∧
  (∀ (t : Nat) (p : Path) (s : State), s.pw.dev ≠ .off → ((evPath s p).codes = [] ∨ evReady s p = false) →
    ∃ s', exec (.summary t p) s = .next s' ∧ keepsBut [] (s.advance t) s' ∧ s'.dict = s.dict)

/-- COMM_SAVE, COMM_RESTORE and COMM_SNAPSHOT, accepted writes of comm.save, comm.restore and comm.snapshot. Each
clause: under its hypotheses on the state and the operands exec answers a next state, in which no part of the state
but those it lists differs from the state at the command's instant, and there (1) comm.save asks the journal for one
transaction for each persist object, here behind the open one (R462, R494); (2) with none open the first of them opens
at once and the others wait (R462, R494); (3) comm.restore asks for one that empties the saved values (R462, R494);
(4) in a sequence of Table 16.5 comm.save is refused with PRESENT_STATE (R494); (5) and so is comm.restore (R494); (6)
comm.snapshot freezes for its path every measurement object that has values, all at one instant (R496). -/
def Obligations.ValuesAreSaved : Prop :=
  (∀ (t v : Nat) (p : Path) (s : State), s.pw.dev ≠ .off → takes s p 0x1013 1 (leBytes 1 v) = true →
    s.pw.seq = .idle → jrnlOpen s = true → ∃ s', exec (.commSave t p v) s = .next s' ∧
    keepsBut [.nv, .mg, .dict] (s.advance t) s' ∧ s'.dict.answer = 0 ∧
    s'.nv = { s.nv with jrnlWait := s.nv.jrnlWait ++ persistObjs.map (fun k => JTarget.saved (okey k.1 k.2) (s.obj k.1 k.2)) }) ∧
  (∀ (t v : Nat) (p : Path) (k : Nat × Nat) (ks : List (Nat × Nat)) (s : State), s.pw.dev ≠ .off →
    takes s p 0x1013 1 (leBytes 1 v) = true → s.pw.seq = .idle → jrnlOpen s = false → s.nv.jrnlWait = [] →
    prepared s (.block 12) = false → s.mg.haltMgmt = false → persistObjs = k :: ks →
    ∃ s', exec (.commSave t p v) s = .next s' ∧ keepsBut [.nv, .mg, .dict] (s.advance t) s' ∧ s'.dict.answer = 0 ∧
    (∃ j, s'.nv.jrnl = some j ∧ j.target = .saved (okey k.1 k.2) (s.obj k.1 k.2) ∧ j.units = 0 ∧ j.done = false) ∧
    s'.nv.jrnlWait = ks.map (fun k => JTarget.saved (okey k.1 k.2) (s.obj k.1 k.2))) ∧
  (∀ (t v : Nat) (p : Path) (s : State), s.pw.dev ≠ .off → takes s p 0x1013 2 (leBytes 1 v) = true →
    s.pw.seq = .idle → s.nv.jrnlWait = [] → jrnlOpen s = false → prepared s (.block 12) = false →
    s.mg.haltMgmt = false → ∃ s', exec (.commRestore t p v) s = .next s' ∧ keepsBut [.nv, .mg, .dict] (s.advance t) s' ∧
    s'.dict.answer = 0 ∧
    s'.nv = { s.nv with jrnl := some { target := .restore, seq := s.nv.jrnlSeq.toNat, off := JTarget.off .restore, crc := crcOf crcIeee (JTarget.payload .restore), units := 0, payload := 1, done := false } }) ∧
  (∀ (t v : Nat) (p : Path) (s : State), s.pw.dev ≠ .off → takes s p 0x1013 1 (leBytes 1 v) = true →
    s.pw.seq ≠ .idle → ∃ s', exec (.commSave t p v) s = .next s' ∧ keepsBut [.dict] (s.advance t) s' ∧
    s'.dict.answer = abState) ∧
  (∀ (t v : Nat) (p : Path) (s : State), s.pw.dev ≠ .off → takes s p 0x1013 2 (leBytes 1 v) = true →
    s.pw.seq ≠ .idle → ∃ s', exec (.commRestore t p v) s = .next s' ∧ keepsBut [.dict] (s.advance t) s' ∧
    s'.dict.answer = abState) ∧
  (∀ (t v : Nat) (p : Path) (s : State), s.pw.dev ≠ .off → takes s p 0x1013 3 (leBytes 1 v) = true →
    ∃ s', exec (.commSnapshot t p v) s = .next s' ∧ keepsBut [.dict] (s.advance t) s' ∧ s'.dict.answer = 0 ∧
    (∀ idx ∈ measAll, afind (frozenOf s' p) idx = if (afind s.measSeq idx).isSome then some ((0, leBytes 4 (seqWord s idx)) :: measVals (s.advance t) idx) else none))

/-- SESSION_CHALLENGE, SESSION_RESPONSE, SESSION_CLOSE, SESSION_KEY, SESSION_TIMEOUT and LOCKOUT_END. Each clause:
under its hypotheses on the state and the operands exec answers a next state, in which no part of the state but those
it lists differs from the state at the command's instant, and there (1) a read of session.challenge gives 16 new
random bytes, which are free values, and notes them with their instant (R498); (2) during a lockout of the path it
answers LOCKOUT (R500); (3) while the object is not served there is no answer (R467); (4) the right response within 10
s of the challenge opens the session of the path (R498); (5) a wrong or late one is counted, latches 0xD2 and voids
the challenge, and the third in a row starts a lockout of 60 s (R500); (6) so does one without a challenge (R500); (7)
without a key the write is refused with PRESENT_STATE (R498); (8) session.close closes the session of its path (R499);
(9) over the Ferry it leaves that of CAN alone (R499); (10) session.key, where no key is held and both channels are
off, goes to the journal (R497); (11) else it is refused with PRESENT_STATE (R497); (12) a session without an accepted
write for session.timeout closes (R499); (13) earlier it does not (R499); (14) a lockout ends at its instant (R500);
(15) and not before (R500). -/
def Obligations.SessionsAreGuarded : Prop :=
  (∀ (t : Nat) (p : Path) (s : State), s.pw.dev ≠ .off → served s 0x1020 = true → lockedOut s p = false →
    ∃ s', exec (.sessionChallenge t p) s = .next s' ∧ keepsBut [.dict, .free] (s.advance t) s' ∧ s'.dict.answer = 0 ∧
    sess s' p = { sess s p with challenge := some ((upTo 16).map (fun i => Config.randomByte (16 * s.free + i)), (s.advance t).now) } ∧
    s'.free = s.free + 1) ∧
  (∀ (t : Nat) (p : Path) (s : State), s.pw.dev ≠ .off → served s 0x1020 = true → lockedOut s p = true →
    ∃ s', exec (.sessionChallenge t p) s = .next s' ∧ keepsBut [.dict] (s.advance t) s' ∧
    s'.dict = { s.dict with answer := abLockout }) ∧
  (∀ (t : Nat) (p : Path) (s : State), s.pw.dev ≠ .off → served s 0x1020 = false →
    ∃ s', exec (.sessionChallenge t p) s = .next s' ∧ keepsBut [] (s.advance t) s' ∧ s'.dict = s.dict) ∧
  (∀ (t a : Nat) (p : Path) (data key c : List Byte) (s : State), s.pw.dev ≠ .off → takes s p 0x1020 2 data = true →
    s.nv.sessKey = some key → (sess s p).challenge = some (c, a) → (s.advance t).now ≤ a + 10000000000000 →
    data = wanted s p key c → ∃ s', exec (.sessionResponse t p data) s = .next s' ∧
    keepsBut [.dict, .mg] (s.advance t) s' ∧ s'.dict.answer = 0 ∧
    sess s' p = { sess s p with isOpen := true, lastWrite := (s.advance t).now, challenge := none, fails := 0 } ∧
    s'.dict.failures = s.dict.failures ∧ s'.mg = { s.mg with psStaged := false }) ∧
  (∀ (t a : Nat) (p : Path) (data key c : List Byte) (s : State), s.pw.dev ≠ .off → takes s p 0x1020 2 data = true →
    s.nv.sessKey = some key → (sess s p).challenge = some (c, a) →
    (a + 10000000000000 < (s.advance t).now ∨ data ≠ wanted s p key c) →
    ∃ s', exec (.sessionResponse t p data) s = .next s' ∧ keepsBut raiseBlks (s.advance t) s' ∧ s'.dict.answer = 0 ∧
    s'.dict.failures = s.dict.failures + 1 ∧ bmGet s'.saf.latched 0xD2 = true ∧
    sess s' p = { sess s p with challenge := none, fails := (if (sess s p).fails = 2 then 0 else (sess s p).fails + 1), lockUntil := (if (sess s p).fails = 2 then some ((s.advance t).now + 60000000000000) else (sess s p).lockUntil) }) ∧
  (∀ (t : Nat) (p : Path) (data key : List Byte) (s : State), s.pw.dev ≠ .off → takes s p 0x1020 2 data = true →
    s.nv.sessKey = some key → (sess s p).challenge = none → ∃ s', exec (.sessionResponse t p data) s = .next s' ∧
    keepsBut raiseBlks (s.advance t) s' ∧ s'.dict.answer = 0 ∧ s'.dict.failures = s.dict.failures + 1 ∧
    bmGet s'.saf.latched 0xD2 = true ∧ (sess s' p).isOpen = (sess s p).isOpen) ∧
  (∀ (t : Nat) (p : Path) (data : List Byte) (s : State), s.pw.dev ≠ .off → takes s p 0x1020 2 data = true →
    s.nv.sessKey = none → ∃ s', exec (.sessionResponse t p data) s = .next s' ∧ keepsBut [.dict] (s.advance t) s' ∧
    s'.dict = { s.dict with answer := abState }) ∧
  (∀ (t v : Nat) (p : Path) (s : State), s.pw.dev ≠ .off → takes s p 0x1020 3 (leBytes 1 v) = true →
    ∃ s', exec (.sessionClose t p v) s = .next s' ∧ keepsBut [.dict] (s.advance t) s' ∧ s'.dict.answer = 0 ∧
    sess s' p = { sess s p with isOpen := false }) ∧
  (∀ (t v : Nat) (s : State), s.pw.dev ≠ .off → takes s .ferry 0x1020 3 (leBytes 1 v) = true →
    ∃ s', exec (.sessionClose t .ferry v) s = .next s' ∧ keepsBut [.dict] (s.advance t) s' ∧
    s'.dict.sesCan = s.dict.sesCan) ∧
  (∀ (t : Nat) (p : Path) (data : List Byte) (s : State), s.pw.dev ≠ .off → takes s p 0x1020 6 data = true →
    sessKeyHeld s = false → s.saf.lenA = false → s.saf.lenB = false → s.nv.jrnlWait = [] → jrnlOpen s = false →
    prepared s (.block 12) = false → s.mg.haltMgmt = false → ∃ s', exec (.sessionKey t p data) s = .next s' ∧
    keepsBut [.nv, .mg, .dict] (s.advance t) s' ∧ s'.dict.answer = 0 ∧
    s'.nv.jrnl = some { target := .sessKey data, seq := s.nv.jrnlSeq.toNat, off := JTarget.off (.sessKey data), crc := crcOf crcIeee (JTarget.payload (.sessKey data)), units := 0, payload := 1, done := false }) ∧
  (∀ (t : Nat) (p : Path) (data : List Byte) (s : State), s.pw.dev ≠ .off → takes s p 0x1020 6 data = true →
    (sessKeyHeld s = true ∨ s.saf.lenA = true ∨ s.saf.lenB = true) → ∃ s', exec (.sessionKey t p data) s = .next s' ∧
    keepsBut [.dict] (s.advance t) s' ∧ s'.dict = { s.dict with answer := abState }) ∧
  (∀ (t : Nat) (p : Path) (s : State), s.pw.dev ≠ .off → (sess s p).isOpen = true →
    (sess s p).lastWrite + s.objN 0x1020 5 * 1000000000000 ≤ (s.advance t).now →
    ∃ s', exec (.sessionTimeout t p) s = .next s' ∧ keepsBut [.dict] (s.advance t) s' ∧
    sess s' p = { sess s p with isOpen := false }) ∧
  (∀ (t : Nat) (p : Path) (s : State), s.pw.dev ≠ .off →
    ((sess s p).isOpen = false ∨ (s.advance t).now < (sess s p).lastWrite + s.objN 0x1020 5 * 1000000000000) →
    ∃ s', exec (.sessionTimeout t p) s = .next s' ∧ keepsBut [] (s.advance t) s' ∧ s'.dict = s.dict) ∧
  (∀ (t a : Nat) (p : Path) (s : State), s.pw.dev ≠ .off → (sess s p).lockUntil = some a → a ≤ (s.advance t).now →
    ∃ s', exec (.lockoutEnd t p) s = .next s' ∧ keepsBut [.dict] (s.advance t) s' ∧
    sess s' p = { sess s p with lockUntil := none }) ∧
  (∀ (t a : Nat) (p : Path) (s : State), s.pw.dev ≠ .off → (sess s p).lockUntil = some a → (s.advance t).now < a →
    ∃ s', exec (.lockoutEnd t p) s = .next s' ∧ keepsBut [] (s.advance t) s' ∧ s'.dict = s.dict)

/-- READ, a message of an unknown CMD, and WRITE. MEASUREMENT_READ. Each clause: under its hypotheses on the state and
the operands exec answers a next state, in which no part of the state but those it lists differs from the state at the
command's instant, and there (1) over CAN a READ of an object that is no measurement and at most 56 bytes long is
answered READ_OK with its value (R487); (2) a READ of an object that does not exist is answered with NO_OBJECT, or
NO_SUB where its index has other subindices (R491); (3) a WRITE of an object that only stores takes effect and is
answered WRITE_OK (R487); (4) a WRITE that fails a check of Table 18.7 before its length is answered with the abort
code of the first, and stores nothing (R491); (5) one with a wrong length or a value out of its range is answered so
(R491); (6) a message whose LEN disagrees with it, or of an unknown CMD, is answered UNKNOWN_CMD (R483, R485); (7) a
request that waits over Ferry is executed before one over CAN that came after it (R485); (8) while a request is under
execution another waits in the queue of four (R485); (9) a full queue drops it, which is counted (R485); (10) over the
Ferry the request at the head of the queue is answered with a packet under its SEQ, which is kept among the last eight
(R485, R487); (11) and a WRITE there takes effect (R485, R487); (12) behind a request under execution, or with no
place for its answer, a request waits on (R485); (13) READ does nothing with a message of another command of the table
(R483); (14) WRITE does nothing with another message, on an engine without a node number, off the bus, or where the
object is not served (R479, R485); (15) reading subindex 0 of a measurement object whose block serves it is answered,
and freezes its SEQ and values for the path; an object without a first result freezes nothing (R495); (16) an
unpowered block answers NO_POWER, which is a bus error that latches 0xC8 (R440); (17) an object that is not served, or
is no measurement, is not read so (R467, R495). -/
def Obligations.ReadsAndWritesAreAnswered : Prop :=
  (∀ (t : Nat) (b : Bool) (m : List Byte) (r : ObjRow) (v : List Byte) (s : State), s.pw.dev ≠ .off →
    canTakes s b 1 m = true → mLen m = 0 → isCust (mIdx m) = false → objFind (mIdx m) (mSub m) = some r → r.acc ≠ .wo →
    (r.acc = .rwf → s.saf.factory = true) → (isMeas (mIdx m) = false ∨ r.acc ≠ .ro) → (mIdx m ≠ 0x1020 ∨ mSub m ≠ 1) →
    readNow (s.advance t) (mIdx m) (mSub m) = (0, v) → v.length ≤ 56 → ∃ s', exec (.read t .can b m) s = .next s' ∧
    keepsBut [.can, .mg, .dict, .out] (s.advance t) s' ∧ s'.dict.answer = 0 ∧
    s'.out = canAnswer s (msgOf 0x81 (mTag m) (mIdx m) (mSub m) 0 v) :: s.out ∧
    s'.can = { s.can with rxFrames := s.can.rxFrames + 1, txFrames := s.can.txFrames + 1 }) ∧
  (∀ (t : Nat) (b : Bool) (m : List Byte) (s : State), s.pw.dev ≠ .off → canTakes s b 1 m = true → mLen m = 0 →
    isCust (mIdx m) = false → objFind (mIdx m) (mSub m) = none → ∃ s', exec (.read t .can b m) s = .next s' ∧
    keepsBut [.can, .mg, .dict, .out] (s.advance t) s' ∧
    s'.dict.answer = (if objIndex (mIdx m) = true then abNoSub else abNoObject) ∧
    s'.out = canAnswer s (abortOf m s'.dict.answer) :: s.out) ∧
  (∀ (t : Nat) (b : Bool) (m : List Byte) (s : State), s.pw.dev ≠ .off → canTakes s b 2 m = true →
    isCust (mIdx m) = false → takes s .can (mIdx m) (mSub m) (mData m) = true →
    handlerOf .can (mIdx m) (mSub m) = storeH (mIdx m) (mSub m) → rising s.objs = true →
    ∃ s', exec (.write t .can b m) s = .next s' ∧ keepsBut [.can, .mg, .dict, .out, .objs] (s.advance t) s' ∧
    s'.dict.answer = 0 ∧ s'.obj (mIdx m) (mSub m) = mData m ∧ (nodeOf s' ≠ 0 →
    s'.out = canAnswer s' (msgOf 0x82 (mTag m) (mIdx m) (mSub m) 0 []) :: s.out)) ∧
  (∀ (t c : Nat) (b : Bool) (m : List Byte) (s : State), s.pw.dev ≠ .off → canTakes s b 2 m = true →
    isCust (mIdx m) = false → wrCheck s .can (mIdx m) (mSub m) = some c → c ≠ abPower →
    ∃ s', exec (.write t .can b m) s = .next s' ∧ keepsBut [.can, .mg, .dict, .out] (s.advance t) s' ∧
    s'.dict.answer = c ∧ s'.out = canAnswer s (abortOf m c) :: s.out) ∧
  (∀ (t c : Nat) (b : Bool) (m : List Byte) (r : ObjRow) (s : State), s.pw.dev ≠ .off → canTakes s b 2 m = true →
    isCust (mIdx m) = false → wrCheck s .can (mIdx m) (mSub m) = none → objFind (mIdx m) (mSub m) = some r →
    ((lenOk r.ty (mData m).length = false ∧ c = lenAbort (mIdx m)) ∨ (lenOk r.ty (mData m).length = true ∧
    valueOk r (mData m) = false ∧ c = abRange)) → c ≠ 0 → ∃ s', exec (.write t .can b m) s = .next s' ∧
    keepsBut [.can, .mg, .dict, .out] (s.advance t) s' ∧ s'.dict.answer = c ∧
    s'.out = canAnswer s (abortOf m c) :: s.out) ∧
  (∀ (t : Nat) (m : List Byte) (s : State), s.pw.dev ≠ .off → canUp s = true → nodeOf s ≠ 0 →
    servedMsg s .can m = true → serverBusy s = false → s.dict.canQueue = [] → s.dict.queue = [] → mCmd m ≠ 2 →
    mCmd m ≠ 3 → mCmd m ≠ 4 → mCmd m ≠ 5 → mCmd m ≠ 7 → (mCmd m ≠ 1 ∨ framed ⟨.can, false, 0, m⟩ = false) →
    ∃ s', exec (.read t .can false m) s = .next s' ∧ keepsBut [.can, .mg, .dict, .out] (s.advance t) s' ∧
    s'.dict.answer = abUnknown ∧ s'.out = canAnswer s (abortOf m abUnknown) :: s.out) ∧
  (∀ (t q : Nat) (b : Bool) (m m2 : List Byte) (s : State), s.pw.dev ≠ .off → canUp s = true → nodeOf s ≠ 0 →
    servedMsg s .can m = true → s.dict.canQueue = [] → s.dict.queue = [(q, b, m2)] → ferryRuns s m2 = true →
    queueFree s = true → 5 < mCmd m → mCmd m ≠ 7 → 7 < mCmd m2 → ∃ s', exec (.read t .can false m) s = .next s' ∧
    keepsBut [.can, .mg, .dict, .out, .fy] (s.advance t) s' ∧ s'.dict.queue = [] ∧
    s'.out = canAnswer s (abortOf m abUnknown) :: s.out ∧
    s'.fy.doneDict = ((q, dictPayload (abortOf m2 abUnknown)) :: s.fy.doneDict).take 8) ∧
  (∀ (t : Nat) (b : Bool) (m : List Byte) (s : State), s.pw.dev ≠ .off → canUp s = true → nodeOf s ≠ 0 →
    servedMsg s .can m = true → serverBusy s = true → s.dict.canQueue.length < 4 → mCmd m = 2 →
    ∃ s', exec (.write t .can b m) s = .next s' ∧ keepsBut [.can, .mg, .dict] (s.advance t) s' ∧
    s'.dict.canQueue = s.dict.canQueue ++ [(s.dict.queue.length, b, m)] ∧ s'.can.busyDrops = s.can.busyDrops) ∧
  (∀ (t : Nat) (b : Bool) (m : List Byte) (s : State), s.pw.dev ≠ .off → canUp s = true → nodeOf s ≠ 0 →
    servedMsg s .can m = true → s.dict.canQueue.length = 4 → mCmd m = 2 → ∃ s', exec (.write t .can b m) s = .next s' ∧
    keepsBut [.can, .mg] (s.advance t) s' ∧ s'.can.busyDrops = s.can.busyDrops + 1) ∧
  (∀ (t q : Nat) (b : Bool) (m : List Byte) (rest : List (Nat × Bool × List Byte)) (r : ObjRow) (v : List Byte) (s : State), s.pw.dev ≠ .off →
    s.dict.queue = (q, b, m) :: rest → serverBusy s = false → servedMsg s .ferry m = true → queueFree s = true →
    framed ⟨.ferry, b, q, m⟩ = true → mCmd m = 1 → mLen m = 0 → isCust (mIdx m) = false →
    objFind (mIdx m) (mSub m) = some r → r.acc ≠ .wo → (r.acc = .rwf → s.saf.factory = true) →
    (isMeas (mIdx m) = false ∨ r.acc ≠ .ro) → (mIdx m ≠ 0x1020 ∨ mSub m ≠ 1) →
    readNow (s.advance t) (mIdx m) (mSub m) = (0, v) → v.length ≤ 224 → ∃ s', exec (.read t .ferry b m) s = .next s' ∧
    keepsBut [.mg, .dict, .fy] (s.advance t) s' ∧ s'.dict.answer = 0 ∧ s'.dict.queue = rest ∧
    s'.fy.insert = (ownPacket 3 4 q (dictPayload (msgOf 0x81 (mTag m) (mIdx m) (mSub m) 0 v)) s).fy.insert ∧
    s'.fy.doneDict = ((q, dictPayload (msgOf 0x81 (mTag m) (mIdx m) (mSub m) 0 v)) :: s.fy.doneDict).take 8) ∧
  (∀ (t q : Nat) (b : Bool) (m : List Byte) (rest : List (Nat × Bool × List Byte)) (s : State), s.pw.dev ≠ .off →
    s.dict.queue = (q, b, m) :: rest → serverBusy s = false → servedMsg s .ferry m = true → queueFree s = true →
    framed ⟨.ferry, b, q, m⟩ = true → mCmd m = 2 → isCust (mIdx m) = false →
    takes s .ferry (mIdx m) (mSub m) (mData m) = true → handlerOf .ferry (mIdx m) (mSub m) = storeH (mIdx m) (mSub m) →
    rising s.objs = true → ∃ s', exec (.write t .ferry b m) s = .next s' ∧
    keepsBut [.mg, .dict, .fy, .objs] (s.advance t) s' ∧ s'.dict.answer = 0 ∧ s'.dict.queue = rest ∧
    s'.obj (mIdx m) (mSub m) = mData m) ∧
  (∀ (t q : Nat) (b : Bool) (m : List Byte) (rest : List (Nat × Bool × List Byte)) (s : State), s.pw.dev ≠ .off →
    s.dict.queue = (q, b, m) :: rest → (serverBusy s = true ∨ servedMsg s .ferry m = false ∨ queueFree s = false) →
    ∃ s', exec (.write t .ferry b m) s = .next s' ∧ keepsBut [] (s.advance t) s' ∧ s'.dict = s.dict ∧ s'.objs = s.objs) ∧
  (∀ (t : Nat) (b : Bool) (m : List Byte) (s : State), s.pw.dev ≠ .off →
    (mCmd m = 2 ∨ mCmd m = 3 ∨ mCmd m = 4 ∨ mCmd m = 5 ∨ mCmd m = 7) → ∃ s', exec (.read t .can b m) s = .next s' ∧
    keepsBut [] (s.advance t) s' ∧ s'.dict = s.dict ∧ s'.can = s.can) ∧
  (∀ (t : Nat) (b : Bool) (m : List Byte) (s : State), s.pw.dev ≠ .off →
    (mCmd m ≠ 2 ∨ nodeOf s = 0 ∨ servedMsg s .can m = false ∨ canListens s = false) →
    ∃ s', exec (.write t .can b m) s = .next s' ∧ keepsBut [] (s.advance t) s' ∧ s'.dict = s.dict ∧ s'.can = s.can) ∧
  (∀ (t idx : Nat) (p : Path) (r : ObjRow) (s : State), s.pw.dev ≠ .off → served s idx = true → isMeas idx = true →
    objFind idx 0 = some r → r.acc = .ro → blockOn s (servedBy idx) = true →
    ∃ s', exec (.measurementRead t p idx) s = .next s' ∧ keepsBut [.dict] (s.advance t) s' ∧ s'.dict.answer = 0 ∧
    afind (frozenOf s' p) idx = (if (afind s.measSeq idx).isSome then some ((0, leBytes 4 (seqWord s idx)) :: measVals (s.advance t) idx) else none)) ∧
  (∀ (t idx : Nat) (p : Path) (r : ObjRow) (s : State), s.pw.dev ≠ .off → served s idx = true → isMeas idx = true →
    objFind idx 0 = some r → r.acc = .ro → blockOn s (servedBy idx) = false →
    ∃ s', exec (.measurementRead t p idx) s = .next s' ∧ keepsBut (.pw :: raiseBlks) (s.advance t) s' ∧
    s'.dict.answer = abPower ∧ bmGet s'.saf.latched 0xC8 = true ∧ s'.pw.busErrors = s.pw.busErrors + 1) ∧
  (∀ (t idx : Nat) (p : Path) (s : State), s.pw.dev ≠ .off → (served s idx = false ∨ isMeas idx = false) →
    ∃ s', exec (.measurementRead t p idx) s = .next s' ∧ keepsBut [] (s.advance t) s' ∧ s'.dict = s.dict)

/-- DOWN_INIT, SEGMENT and ABORT on CAN. BULK_SEGMENT, BULK_ACK_TIMEOUT, BULK_ACK and TRANSFER_TIMEOUT. Each clause:
under its hypotheses on the state and the operands exec answers a next state, in which no part of the state but those
it lists differs from the state at the command's instant, and there (1) DOWN_INIT opens a transfer of its SIZE and is
answered DOWN_READY (R488); (2) a transfer open on the path is answered REPLACED first (R490); (3) or is refused with
the first check that fails (R488, R491); (4) an initiation by broadcast is refused (R486); (5) a full segment with the
next TAG is appended and acknowledged (R488); (6) a wrong length closes the transfer with LENGTH (R488); (7) an upload
segment carries the next 56 bytes (R488); (8) the final one has LAST and closes the transfer (R488, R490); (9) another
TAG closes the transfer with SEQUENCE (R488); (10) a repeat of the previous segment is answered with the same message
again and applied to nothing but the time of the transfer (R488, R490); (11) a SEGMENT with no transfer is answered
NO_TRANSFER (R488); (12) ABORT closes the transfer without an answer (R490); (13) one by broadcast does nothing
(R486); (14) a bulk frame within the block is kept (R489); (15) a frame for another node or of another length is
ignored (R479, R489); (16) so is one that is not of the block (R489); (17) 10 ms after the latest frame of an
incomplete block BULK_ACK carries the highest SEQ received with every lower one, and the data up to it count (R489);
(18) earlier, with no frame of the block, or in another transfer, it does not (R489); (19) the BULK_ACK of the host
asks for the next block of an upload, which is sent (R489); (20) or ends it after the last frame (R489, R490); (21)
with no transfer open it is answered NO_TRANSFER (R488); (22) a transfer on CAN without a message for
comm.transfer_timeout is aborted with TIMEOUT (R490); (23) so is one on the Ferry (R490); (24) earlier, or with none
open, nothing happens (R490). -/
def Obligations.TransfersRun : Prop :=
  (∀ (t : Nat) (m : List Byte) (s : State), s.pw.dev ≠ .off → canTakes s false 3 m = true → (mData m).length = 5 →
    leField (mData m) 4 1 = 0 → initCode ⟨.can, false, 0, m⟩ (leField (mData m) 0 4) s = 0 → s.dict.xferCan = none →
    ∃ s', exec (.downInit t .can false m) s = .next s' ∧ keepsBut [.can, .mg, .dict, .out, .free] (s.advance t) s' ∧
    s'.dict.answer = 0 ∧ s'.dict.lastCan = none ∧
    (∃ blk, s'.dict.xferCan = some { idx := mIdx m, sub := mSub m, upload := false, bulk := false, size := leField (mData m) 0 4, crc := leField (mData m) 5 4, data := [], seg := 0, blk := blk, got := [], tag := mTag m, at_ := (s.advance t).now }) ∧
    s'.out = canAnswer s (msgOf 0x84 (mTag m) (mIdx m) (mSub m) 0 [0]) :: s.out) ∧
  (∀ (t : Nat) (m : List Byte) (y : Xfer) (s : State), s.pw.dev ≠ .off → canTakes s false 3 m = true →
    (mData m).length = 5 → leField (mData m) 4 1 = 0 → initCode ⟨.can, false, 0, m⟩ (leField (mData m) 0 4) s = 0 →
    s.dict.xferCan = some y → ∃ s', exec (.downInit t .can false m) s = .next s' ∧
    keepsBut [.can, .mg, .dict, .out, .free] (s.advance t) s' ∧ s'.dict.answer = 0 ∧ (∃ x, s'.dict.xferCan = some x ∧
    x.idx = mIdx m ∧ x.sub = mSub m ∧ x.data = []) ∧
    s'.out = canAnswer s (msgOf 0x84 (mTag m) (mIdx m) (mSub m) 0 [0]) :: canAnswer s (msgOf 0xFF y.tag y.idx y.sub 0 (leBytes 4 abReplaced)) :: s.out) ∧
  (∀ (t c : Nat) (m : List Byte) (s : State), s.pw.dev ≠ .off → canTakes s false 3 m = true → (mData m).length = 5 →
    leField (mData m) 4 1 = 0 → initCode ⟨.can, false, 0, m⟩ (leField (mData m) 0 4) s = c → c ≠ 0 → c ≠ abPower →
    ∃ s', exec (.downInit t .can false m) s = .next s' ∧ keepsBut [.can, .mg, .dict, .out] (s.advance t) s' ∧
    s'.dict.answer = c ∧ s'.dict.xferCan = s.dict.xferCan ∧ s'.out = canAnswer s (abortOf m c) :: s.out) ∧
  (∀ (t : Nat) (m : List Byte) (s : State), s.pw.dev ≠ .off → canTakes s true 3 m = true →
    ∃ s', exec (.downInit t .can true m) s = .next s' ∧ keepsBut [.can, .mg, .dict, .out] (s.advance t) s' ∧
    s'.dict.answer = abBroadcast ∧ s'.dict.xferCan = s.dict.xferCan ∧
    s'.out = canAnswer s (abortOf m abBroadcast) :: s.out) ∧
  (∀ (t : Nat) (m : List Byte) (x : Xfer) (s : State), s.pw.dev ≠ .off → canTakes s false 4 m = true →
    s.dict.xferCan = some x → s.dict.lastCan = none → x.idx = mIdx m → x.sub = mSub m → x.bulk = false →
    x.upload = false → mTag m = x.seg % 256 → mFlags m = 0 → mLen m = 56 → x.data.length + 56 ≤ x.size →
    ∃ s', exec (.segment t .can false m) s = .next s' ∧ keepsBut [.can, .mg, .dict, .out] (s.advance t) s' ∧
    s'.dict.answer = 0 ∧
    s'.dict.xferCan = some { x with data := x.data ++ mData m, seg := x.seg + 1, at_ := (s.advance t).now } ∧
    s'.out = canAnswer s (msgOf 0x86 (mTag m) (mIdx m) (mSub m) 0 []) :: s.out) ∧
  (∀ (t : Nat) (m : List Byte) (x : Xfer) (s : State), s.pw.dev ≠ .off → canTakes s false 4 m = true →
    s.dict.xferCan = some x → s.dict.lastCan = none → x.idx = mIdx m → x.sub = mSub m → x.bulk = false →
    x.upload = false → mTag m = x.seg % 256 → ((mFlags m % 2 = 0 ∧
    mLen m ≠ 56) ∨ x.size < x.data.length + mLen m ∨ (mFlags m % 2 = 1 ∧ x.data.length + mLen m ≠ x.size)) →
    ∃ s', exec (.segment t .can false m) s = .next s' ∧ keepsBut [.can, .mg, .dict, .out] (s.advance t) s' ∧
    s'.dict.answer = abLength ∧ s'.dict.xferCan = none ∧ s'.out = canAnswer s (abortOf m abLength) :: s.out) ∧
  (∀ (t : Nat) (m : List Byte) (x : Xfer) (s : State), s.pw.dev ≠ .off → canTakes s false 4 m = true →
    s.dict.xferCan = some x → s.dict.lastCan = none → x.idx = mIdx m → x.sub = mSub m → x.bulk = false →
    x.upload = true → mTag m = x.seg % 256 → mLen m = 0 → 56 * (x.seg + 1) < x.size →
    ∃ s', exec (.segment t .can false m) s = .next s' ∧ keepsBut [.can, .mg, .dict, .out] (s.advance t) s' ∧
    s'.dict.answer = 0 ∧ s'.dict.xferCan = some { x with seg := x.seg + 1, at_ := (s.advance t).now } ∧
    s'.out = canAnswer s (msgOf 0x85 (mTag m) (mIdx m) (mSub m) 0 ((x.data.drop (56 * x.seg)).take 56)) :: s.out) ∧
  (∀ (t : Nat) (m : List Byte) (x : Xfer) (s : State), s.pw.dev ≠ .off → canTakes s false 4 m = true →
    s.dict.xferCan = some x → s.dict.lastCan = none → x.idx = mIdx m → x.sub = mSub m → x.bulk = false →
    x.upload = true → mTag m = x.seg % 256 → mLen m = 0 → x.size ≤ 56 * (x.seg + 1) →
    ∃ s', exec (.segment t .can false m) s = .next s' ∧ keepsBut [.can, .mg, .dict, .out] (s.advance t) s' ∧
    s'.dict.answer = 0 ∧ s'.dict.xferCan = none ∧
    s'.out = canAnswer s (msgOf 0x85 (mTag m) (mIdx m) (mSub m) 1 ((x.data.drop (56 * x.seg)).take 56)) :: s.out) ∧
  (∀ (t : Nat) (m : List Byte) (x : Xfer) (s : State), s.pw.dev ≠ .off → canTakes s false 4 m = true →
    s.dict.xferCan = some x → s.dict.lastCan = none → x.idx = mIdx m → x.sub = mSub m → x.bulk = false →
    mTag m ≠ x.seg % 256 → ∃ s', exec (.segment t .can false m) s = .next s' ∧
    keepsBut [.can, .mg, .dict, .out] (s.advance t) s' ∧ s'.dict.answer = abSequence ∧ s'.dict.xferCan = none ∧
    s'.out = canAnswer s (abortOf m abSequence) :: s.out) ∧
  (∀ (t : Nat) (m : List Byte) (a : SegAns) (s : State), s.pw.dev ≠ .off → canTakes s false 4 m = true →
    s.dict.lastCan = some a → a.tag = mTag m → a.idx = mIdx m → a.sub = mSub m →
    (a.final = true ∨ s.dict.xferCan.isSome = true) → ∃ s', exec (.segment t .can false m) s = .next s' ∧
    keepsBut [.can, .mg, .dict, .out] (s.advance t) s' ∧ s'.out = canAnswer s a.msg :: s.out ∧
    s'.dict = { s.dict with xferCan := s.dict.xferCan.map (fun x => { x with at_ := (s.advance t).now }) }) ∧
  (∀ (t : Nat) (m : List Byte) (s : State), s.pw.dev ≠ .off → canTakes s false 4 m = true → s.dict.xferCan = none →
    s.dict.lastCan = none → ∃ s', exec (.segment t .can false m) s = .next s' ∧
    keepsBut [.can, .mg, .dict, .out] (s.advance t) s' ∧ s'.dict.answer = abNoTransfer ∧
    s'.out = canAnswer s (abortOf m abNoTransfer) :: s.out) ∧
  (∀ (t : Nat) (m : List Byte) (s : State), s.pw.dev ≠ .off → canTakes s false 5 m = true →
    ∃ s', exec (.abortTransfer t .can false m) s = .next s' ∧ keepsBut [.can, .mg, .dict] (s.advance t) s' ∧
    s'.dict = { s.dict with xferCan := none, lastCan := none }) ∧
  (∀ (t : Nat) (m : List Byte) (s : State), s.pw.dev ≠ .off → canTakes s true 5 m = true →
    ∃ s', exec (.abortTransfer t .can true m) s = .next s' ∧ keepsBut [.can, .mg] (s.advance t) s' ∧ s'.dict = s.dict) ∧
  (∀ (t : Nat) (f : CanFrame) (x : Xfer) (s : State), s.pw.dev ≠ .off → canHears s f = true → f.fd = true →
    canFunc f = 5 → nodeOf s ≠ 0 → canNode f = nodeOf s → f.data.length = 64 → s.dict.xferCan = some x → x.bulk = true →
    x.upload = false → 1 ≤ canField f 0 1 → canField f 0 1 < x.blk → x.blk ≤ 127 → x.got.length + 1 < x.blk →
    ∃ s', exec (.bulkSegment t f) s = .next s' ∧ keepsBut [.can, .dict] (s.advance t) s' ∧
    s'.dict = { s.dict with xferCan := some { x with got := x.got ++ [(canField f 0 1, false, f.data.drop 1)], at_ := (s.advance t).now } } ∧
    s'.can.rxFrames = s.can.rxFrames + 1) ∧
  (∀ (t : Nat) (f : CanFrame) (s : State), s.pw.dev ≠ .off →
    (canHears s f = false ∨ f.fd = false ∨ canFunc f ≠ 5 ∨ nodeOf s = 0 ∨ canNode f ≠ nodeOf s ∨ f.data.length ≠ 64) →
    ∃ s', exec (.bulkSegment t f) s = .next s' ∧ keepsBut [] (s.advance t) s' ∧ s'.dict = s.dict ∧ s'.can = s.can) ∧
  (∀ (t : Nat) (f : CanFrame) (x : Xfer) (s : State), s.pw.dev ≠ .off → canHears s f = true → f.fd = true →
    canFunc f = 5 → nodeOf s ≠ 0 → canNode f = nodeOf s → f.data.length = 64 → s.dict.xferCan = some x →
    (x.bulk = false ∨ x.upload = true ∨ canField f 0 1 % 128 = 0 ∨ x.blk < canField f 0 1 % 128) →
    ∃ s', exec (.bulkSegment t f) s = .next s' ∧ keepsBut [.can] (s.advance t) s' ∧ s'.dict = s.dict) ∧
  (∀ (t : Nat) (x : Xfer) (s : State), s.pw.dev ≠ .off → s.dict.xferCan = some x → x.bulk = true → x.upload = false →
    x.got ≠ [] → spanOver (s.advance t) x.at_ 10000000000 = true → (∀ g ∈ x.got, g.2.1 = false) → canUp s = true →
    nodeOf s ≠ 0 → ∃ s', exec (.bulkAckTimeout t) s = .next s' ∧ keepsBut [.can, .dict, .out] (s.advance t) s' ∧
    s'.out = canAnswer s (msgOf 0x87 x.tag x.idx x.sub 0 (leBytes 1 (ackSeq x.got) ++ leBytes 1 x.blk)) :: s.out ∧
    (∃ y, s'.dict.xferCan = some y ∧ y.seg = x.seg + ackSeq x.got ∧ y.got = [] ∧ x.data <+: y.data ∧ y.blk = x.blk)) ∧
  (∀ (t : Nat) (x : Xfer) (s : State), s.pw.dev ≠ .off → s.dict.xferCan = some x →
    (x.bulk = false ∨ x.upload = true ∨ x.got = [] ∨ spanOver (s.advance t) x.at_ 10000000000 = false) →
    ∃ s', exec (.bulkAckTimeout t) s = .next s' ∧ keepsBut [] (s.advance t) s' ∧ s'.dict = s.dict ∧ s'.out = s.out) ∧
  (∀ (t : Nat) (m : List Byte) (x : Xfer) (s : State), s.pw.dev ≠ .off → canTakes s false 7 m = true →
    s.dict.xferCan = some x → x.idx = mIdx m → x.sub = mSub m → x.bulk = true → x.upload = true → mLen m = 2 →
    (x.blk = 0 ∨ x.seg + min (leField (mData m) 0 1) x.blk < bulkFrames x.size) → 1 ≤ leField (mData m) 1 1 →
    leField (mData m) 1 1 ≤ 127 → ∃ s', exec (.bulkAck t .can false m) s = .next s' ∧
    keepsBut [.can, .mg, .dict, .out] (s.advance t) s' ∧
    s'.dict.xferCan = some { x with seg := x.seg + min (leField (mData m) 0 1) x.blk, blk := min (leField (mData m) 1 1) (bulkFrames x.size - (x.seg + min (leField (mData m) 0 1) x.blk)), at_ := (s.advance t).now } ∧
    s'.out.length = s.out.length + min (leField (mData m) 1 1) (bulkFrames x.size - (x.seg + min (leField (mData m) 0 1) x.blk))) ∧
  (∀ (t : Nat) (m : List Byte) (x : Xfer) (s : State), s.pw.dev ≠ .off → canTakes s false 7 m = true →
    s.dict.xferCan = some x → x.idx = mIdx m → x.sub = mSub m → x.bulk = true → x.upload = true → mLen m = 2 →
    x.blk ≠ 0 → bulkFrames x.size ≤ x.seg + min (leField (mData m) 0 1) x.blk →
    ∃ s', exec (.bulkAck t .can false m) s = .next s' ∧ keepsBut [.can, .mg, .dict] (s.advance t) s' ∧
    s'.dict = { s.dict with xferCan := none }) ∧
  (∀ (t : Nat) (m : List Byte) (s : State), s.pw.dev ≠ .off → canTakes s false 7 m = true → s.dict.xferCan = none →
    ∃ s', exec (.bulkAck t .can false m) s = .next s' ∧ keepsBut [.can, .mg, .dict, .out] (s.advance t) s' ∧
    s'.dict.answer = abNoTransfer ∧ s'.out = canAnswer s (abortOf m abNoTransfer) :: s.out) ∧
  (∀ (t : Nat) (x : Xfer) (s : State), s.pw.dev ≠ .off → s.dict.xferCan = some x →
    spanOver (s.advance t) x.at_ (s.objN 0x1010 7 * 1000000000) = true → canUp s = true → nodeOf s ≠ 0 →
    ∃ s', exec (.transferTimeout t .can) s = .next s' ∧ keepsBut [.can, .dict, .out] (s.advance t) s' ∧
    s'.dict = { s.dict with xferCan := none, lastCan := none } ∧
    s'.out = canAnswer s (msgOf 0xFF x.tag x.idx x.sub 0 (leBytes 4 abTimeout)) :: s.out) ∧
  (∀ (t : Nat) (x : Xfer) (s : State), s.pw.dev ≠ .off → s.dict.xferFerry = some x →
    spanOver (s.advance t) x.at_ (s.objN 0x1010 7 * 1000000000) = true →
    ∃ s', exec (.transferTimeout t .ferry) s = .next s' ∧ keepsBut [.dict, .fy] (s.advance t) s' ∧
    s'.dict = { s.dict with xferFerry := none, lastFerry := none } ∧
    s'.fy = (ownPacket 3 4 0 (dictPayload (msgOf 0xFF x.tag x.idx x.sub 0 (leBytes 4 abTimeout))) s).fy) ∧
  (∀ (t : Nat) (p : Path) (s : State), s.pw.dev ≠ .off →
    (∀ x ∈ xferOf s p, spanOver (s.advance t) x.at_ (s.objN 0x1010 7 * 1000000000) = false) →
    ∃ s', exec (.transferTimeout t p) s = .next s' ∧ keepsBut [] (s.advance t) s' ∧ s'.dict = s.dict)

/-- OBJECT_WRITE, OBJECT_DONE and MAILBOX_TIMEOUT. Each clause: under its hypotheses on the state and the operands
exec answers a next state, in which no part of the state but those it lists differs from the state at the command's
instant, and there (1) a write of an object that only stores takes effect (R491); (2) of one that is not served it
does nothing (R467); (3) a customer object goes to the mailbox while a customer image runs (R449, R455); (4) behind a
request that waits for its answer it does nothing yet (R485); (5) one of more than 1,024 bytes is answered LENGTH
(R455); (6) with no image running it is answered NOT_SERVED (R449); (7) OBJECT_DONE with the tag of the request
answers it with its abort code (R455); (8) or with the value (R455); (9) one with another tag changes nothing (R455);
(10) 100 ms without it answer TIMEOUT (R455); (11) less does not (R455). -/
def Obligations.CustomerObjectsAreAnswered : Prop :=
  (∀ (t idx sub : Nat) (p : Path) (data : List Byte) (s : State), s.pw.dev ≠ .off → isCust idx = false →
    takes s p idx sub data = true → handlerOf p idx sub = storeH idx sub → rising s.objs = true →
    ∃ s', exec (.objectWrite t p idx sub data) s = .next s' ∧ keepsBut [.objs, .mg, .dict] (s.advance t) s' ∧
    s'.dict.answer = 0 ∧ s'.obj idx sub = data) ∧
  (∀ (t idx sub : Nat) (p : Path) (data : List Byte) (s : State), s.pw.dev ≠ .off → servedAt s p idx sub = false →
    ∃ s', exec (.objectWrite t p idx sub data) s = .next s' ∧ keepsBut [] (s.advance t) s' ∧ s'.dict = s.dict ∧
    s'.objs = s.objs) ∧
  (∀ (t idx sub : Nat) (p : Path) (data : List Byte) (s : State), s.pw.dev ≠ .off → servedAt s p idx sub = true →
    isCust idx = true → s.mg.custState = 2 → data.length ≤ 1024 → serverBusy s = false →
    ∃ s', exec (.objectWrite t p idx sub data) s = .next s' ∧ keepsBut [.mg] (s.advance t) s' ∧
    s'.mg.mbx = some { tag := s.mg.mbxTag, idx := idx % 65536, sub := sub % 256, write := true, data := data, ans := .none, path := p, bcast := false, bulk := false, reqTag := 0, seq := 0, at_ := (s.advance t).now } ∧
    s'.mg.mbxTag = (s.mg.mbxTag + 1) % 65536 ∧ bmGet s'.mg.irqP.lines 46 = true) ∧
  (∀ (t idx sub : Nat) (p : Path) (data : List Byte) (s : State), s.pw.dev ≠ .off → servedAt s p idx sub = true →
    isCust idx = true → s.mg.custState = 2 → data.length ≤ 1024 → serverBusy s = true →
    ∃ s', exec (.objectWrite t p idx sub data) s = .next s' ∧ keepsBut [] (s.advance t) s' ∧ s'.mg = s.mg ∧
    s'.dict = s.dict) ∧
  (∀ (t idx sub : Nat) (p : Path) (data : List Byte) (s : State), s.pw.dev ≠ .off → servedAt s p idx sub = true →
    isCust idx = true → s.mg.custState = 2 → 1024 < data.length →
    ∃ s', exec (.objectWrite t p idx sub data) s = .next s' ∧ keepsBut [.dict] (s.advance t) s' ∧
    s'.dict = { s.dict with answer := abLength }) ∧
  (∀ (t idx sub : Nat) (p : Path) (data : List Byte) (s : State), s.pw.dev ≠ .off → servedAt s p idx sub = true →
    isCust idx = true → s.mg.custState ≠ 2 → ∃ s', exec (.objectWrite t p idx sub data) s = .next s' ∧
    keepsBut [.dict] (s.advance t) s' ∧ s'.dict = { s.dict with answer := abNotServed }) ∧
  (∀ (t code tag : Nat) (data : List Byte) (m : MbxReq) (s : State), s.pw.dev ≠ .off → s.mg.mbx = some m →
    s.mg.custState = 2 → m.tag = tag % 65536 → m.ans = .writeOk → m.path = .can → s.dict.canQueue = [] →
    canUp s = true → nodeOf s ≠ 0 → m.write = true → m.reqTag < 256 → m.idx < 65536 → m.sub < 256 → 1 ≤ code →
    code < 4294967296 → ∃ s', exec (.objectDone t tag code data) s = .next s' ∧
    keepsBut [.mg, .dict, .can, .out] (s.advance t) s' ∧ s'.mg.mbx = none ∧ s'.dict.answer = code ∧
    s'.out = canAnswer s (msgOf 0xFF m.reqTag m.idx m.sub 0 (leBytes 4 code)) :: s.out) ∧
  (∀ (t code tag : Nat) (data : List Byte) (m : MbxReq) (s : State), s.pw.dev ≠ .off → s.mg.mbx = some m →
    s.mg.custState = 2 → m.tag = tag % 65536 → m.ans = .readOk → m.path = .can → s.dict.canQueue = [] → canUp s = true →
    nodeOf s ≠ 0 → m.write = false → m.reqTag < 256 → m.idx < 65536 → m.sub < 256 → code = 0 → data.length ≤ 56 →
    ∃ s', exec (.objectDone t tag code data) s = .next s' ∧ keepsBut [.mg, .dict, .can, .out] (s.advance t) s' ∧
    s'.mg.mbx = none ∧ s'.dict.answer = 0 ∧ s'.out = canAnswer s (msgOf 0x81 m.reqTag m.idx m.sub 0 data) :: s.out) ∧
  (∀ (t code tag : Nat) (data : List Byte) (s : State), s.pw.dev ≠ .off → (∀ m, s.mg.mbx = some m →
    m.tag ≠ tag % 65536) → ∃ s', exec (.objectDone t tag code data) s = .next s' ∧ keepsBut [] (s.advance t) s' ∧
    s'.mg = s.mg) ∧
  (∀ (t : Nat) (m : MbxReq) (s : State), s.pw.dev ≠ .off → s.mg.mbx = some m →
    spanOver (s.advance t) m.at_ 100000000000 = true → m.ans = .readOk → m.path = .can → s.dict.canQueue = [] →
    canUp s = true → nodeOf s ≠ 0 → m.write = false → m.reqTag < 256 → m.idx < 65536 → m.sub < 256 →
    ∃ s', exec (.mailboxTimeout t) s = .next s' ∧ keepsBut [.mg, .dict, .can, .out] (s.advance t) s' ∧
    s'.mg.mbx = none ∧ s'.dict.answer = abTimeout ∧
    s'.out = canAnswer s (msgOf 0xFF m.reqTag m.idx m.sub 0 (leBytes 4 abTimeout)) :: s.out) ∧
  (∀ (t : Nat) (s : State), s.pw.dev ≠ .off → (∀ m ∈ s.mg.mbx, spanOver (s.advance t) m.at_ 100000000000 = false) →
    ∃ s', exec (.mailboxTimeout t) s = .next s' ∧ keepsBut [] (s.advance t) s' ∧ s'.mg = s.mg ∧ s'.dict = s.dict)

/-- PACKET_HEADER and HUNT_CONFIRM. Each clause: under its hypotheses on the state and the operands exec answers a
next state, in which no part of the state but those it lists differs from the state at the command's instant, and
there (1) each invalid block header of the packet is counted on its lane, and a data slot ends a row of EI1 or EI2
(R113); (2) a header that fails, lies in an invalid block, or whose LEN runs into a packet already known starts a
hunt, which is counted; the stretch goes on unchanged, and its units with a good header are candidates (R154); (3) in
hunt every unit goes on unchanged, and one with a good header is a candidate too (R154); (4) a good header LEN plus 1
units after a candidate ends the hunt, and its packet is handled (R154); (5) HUNT_CONFIRM with such a header ends the
hunt as well (R154); (6) without such a candidate it does not (R154); (7) a packet that is not for the engine goes on
with its trailer (R135, R136); (8) one that fails goes on with the complement of its right trailer and is counted,
apart where it came so from upstream (R155); (9) an IDLE packet stands open in the output as received, for an own
packet to replace (R135, R137); (10) in place of a packet for this engine alone an IDLE packet of its LEN opens, and
the time and the count at its header are kept (R135, R150, R151); (11) one by broadcast goes on as well (R135); (12)
one of a reserved type, or of an operation without a meaning, is dropped and counted as malformed (R134); (13) out of
FL0 no packet arrives (R134). -/
def Obligations.HeadersDecideHandling : Prop :=
  (∀ (t : Nat) (k : Packet) (badBlock : Bool) (bad : List (Fin 4)) (s : State), s.pw.dev ≠ .off → s.lane.st = .fl0 →
    ∃ s', exec (.packetHeader t k badBlock bad) s = .next s' ∧ keepsBut (.lane :: .phy :: raiseBlks) (s.advance t) s' ∧
    s'.lane = { s.lane with badHeaders := bad.foldl (fun c i => modNth c i.val (· + 1)) s.lane.badHeaders, ei1Run := 0, ei2Run := 0 }) ∧
  (∀ (t : Nat) (k : Packet) (badBlock : Bool) (bad : List (Fin 4)) (s : State), s.pw.dev ≠ .off → s.lane.st = .fl0 →
    s.fy.hunt = false → (badBlock = true ∨ hdrOk k.hdr = false ∨ k.payload.length < 16 * kLen k) →
    ∃ s', exec (.packetHeader t k badBlock bad) s = .next s' ∧ keepsBut [.fy, .lane, .phy, .out] (s.advance t) s' ∧
    s'.fy.hunt = true ∧ s'.fy.hunts = s.fy.hunts + 1 ∧ s'.fy.cands = huntUnits badBlock [] (unitHeads k) ∧
    s'.out = .forward k.hdr k.payload k.trailer :: (flushIdle s).out) ∧
  (∀ (t : Nat) (k : Packet) (badBlock : Bool) (bad : List (Fin 4)) (s : State), s.pw.dev ≠ .off → s.lane.st = .fl0 →
    s.fy.hunt = true → (confirms s k.hdr = false ∨ badBlock = true) →
    ∃ s', exec (.packetHeader t k badBlock bad) s = .next s' ∧ keepsBut [.fy, .lane, .phy, .out] (s.advance t) s' ∧
    s'.fy.hunt = true ∧ s'.fy.hunts = s.fy.hunts ∧ s'.fy.cands = huntUnits badBlock s.fy.cands (unitHeads k) ∧
    s'.out = .forward k.hdr k.payload k.trailer :: (flushIdle s).out) ∧
  (∀ (t : Nat) (k : Packet) (bad : List (Fin 4)) (s : State), s.pw.dev ≠ .off → s.lane.st = .fl0 → s.fy.hunt = true →
    confirms s k.hdr = true → 16 * kLen k ≤ k.payload.length → ∃ s', exec (.packetHeader t k false bad) s = .next s' ∧
    keepsBut (.lane :: .phy :: raiseBlks) (s.advance t) s' ∧ s'.fy.hunt = false ∧ s'.fy.cands = []) ∧
  (∀ (t : Nat) (h : BitVec 64) (s : State), s.pw.dev ≠ .off → s.lane.st = .fl0 → s.fy.hunt = true →
    confirms s h = true → ∃ s', exec (.huntConfirm t h) s = .next s' ∧ keepsBut [.fy] (s.advance t) s' ∧
    s'.fy = { s.fy with hunt := false, cands := [] }) ∧
  (∀ (t : Nat) (h : BitVec 64) (s : State), s.pw.dev ≠ .off →
    (s.lane.st ≠ .fl0 ∨ s.fy.hunt = false ∨ confirms s h = false) → ∃ s', exec (.huntConfirm t h) s = .next s' ∧
    keepsBut [] (s.advance t) s' ∧ s'.fy = s.fy) ∧
  (∀ (t : Nat) (k : Packet) (bad : List (Fin 4)) (s : State), s.pw.dev ≠ .off → kHere s k = true → kTy k ≠ 0 →
    consumes s k = false → kPass k = true → ∃ s', exec (.packetHeader t k false bad) s = .next s' ∧
    keepsBut [.fy, .lane, .phy, .out] (s.advance t) s' ∧ s'.fy.crcErrors = s.fy.crcErrors ∧
    s'.fy.crcPassed = s.fy.crcPassed ∧ s'.fy.idle = none ∧
    s'.out = .forward k.hdr k.payload k.trailer :: (flushIdle s).out) ∧
  (∀ (t : Nat) (k : Packet) (bad : List (Fin 4)) (s : State), s.pw.dev ≠ .off → kHere s k = true → kTy k ≠ 0 →
    consumes s k = false → kPass k = false → ∃ s', exec (.packetHeader t k false bad) s = .next s' ∧
    keepsBut [.fy, .lane, .phy, .out] (s.advance t) s' ∧
    s'.fy.crcErrors + s'.fy.crcPassed = s.fy.crcErrors + s.fy.crcPassed + 1 ∧
    s'.fy.crcPassed = s.fy.crcPassed + (if kPassedOn k = true then 1 else 0) ∧
    s'.out = .forward k.hdr k.payload (BitVec.ofNat 32 (4294967295 - kCrc k)) :: (flushIdle s).out) ∧
  (∀ (t : Nat) (k : Packet) (bad : List (Fin 4)) (s : State), s.pw.dev ≠ .off → kHere s k = true → kTy k = 0 →
    ∃ s', exec (.packetHeader t k false bad) s = .next s' ∧ keepsBut [.fy, .lane, .phy, .out] (s.advance t) s' ∧
    s'.fy.idle = some (kLen k + 1, some k) ∧ s'.out = (flushIdle s).out) ∧
  (∀ (t : Nat) (k : Packet) (bad : List (Fin 4)) (s : State), s.pw.dev ≠ .off → kHere s k = true →
    consumes s k = true → hasRow k = true → kAddr k ≠ 63 → ∃ s', exec (.packetHeader t k false bad) s = .next s' ∧
    keepsBut [.fy, .lane, .phy, .out] (s.advance t) s' ∧ s'.fy.idle = some (kLen k + 1, none) ∧
    s'.out = (flushIdle s).out ∧ s'.fy.head = some (k.hdr, (s.advance t).time, s.lane.count)) ∧
  (∀ (t : Nat) (k : Packet) (bad : List (Fin 4)) (s : State), s.pw.dev ≠ .off → kHere s k = true →
    consumes s k = true → hasRow k = true → kAddr k = 63 → kTy k ≠ 6 → kPass k = true →
    ∃ s', exec (.packetHeader t k false bad) s = .next s' ∧ keepsBut [.fy, .lane, .phy, .out] (s.advance t) s' ∧
    s'.out = .forward k.hdr k.payload k.trailer :: (flushIdle s).out) ∧
  (∀ (t : Nat) (k : Packet) (bad : List (Fin 4)) (s : State), s.pw.dev ≠ .off → kHere s k = true →
    consumes s k = true → hasRow k = false → kAddr k ≠ 63 → kPass k = true → kTy k ≠ 3 → kTy k ≠ 4 →
    (s.pw.exiting = false ∨ kTy k = 6) → ∃ s', exec (.packetHeader t k false bad) s = .next s' ∧
    keepsBut (.lane :: .phy :: raiseBlks) (s.advance t) s' ∧ s'.fy.malformed = s.fy.malformed + 1 ∧
    s'.fy.consumed = s.fy.consumed) ∧
  (∀ (t : Nat) (k : Packet) (badBlock : Bool) (bad : List (Fin 4)) (s : State), s.pw.dev ≠ .off → s.lane.st ≠ .fl0 →
    ∃ s', exec (.packetHeader t k badBlock bad) s = .next s' ∧ keepsBut [] (s.advance t) s' ∧ s'.fy = s.fy)

/-- ENUM, ECHO, STATUS_REQ and STATUS_PERIOD. OWN_PACKET_INSERT. Each clause: under its hypotheses on the state and
the operands exec answers a next state, in which no part of the state but those it lists differs from the state at the
command's instant, and there (1) ENUM gives the engine the address COUNT plus 1 and goes on with the new COUNT; a new
address discards the lists kept under the old one, ends the Ferry session and owes a STATUS packet (R144, R145, R146,
R499); (2) of the insertion queue the ECHO answers alone stay, and an IDENT packet follows (R146); (3) the address the
engine already has discards nothing (R146); (4) once 62 addresses are taken the engine stays unaddressed with
OVERFLOW, the cause of 0x14 (R144, R145); (5) an ENUM that fails gives no address, is counted and goes on as a failed
packet (R145, R155); (6) a malformed one gives none, is counted and goes on (R134); (7) another packet is no ENUM
(R145); (8) ECHO goes back with its TAG and the local time at which its header arrived (R151); (9) with the insertion
queue full it is dropped, which is counted (R139); (10) another packet, or one not for the engine, is no ECHO (R143,
R151); (11) STATUS_REQ makes a STATUS packet owed (R152); (12) another packet is none (R143, R151); (13) so does the
end of ferry.status_period (R152); (14) before it nothing is owed for it (R152); (15) an own packet of the highest
precedence, oldest first, replaces an IDLE packet it fits, with UP set, its header check and its CRC; of the units
left over an IDLE packet opens (R132, R133, R137, R139); (16) one that does not fit waits (R137); (17) with the queue
empty a STATUS packet that is owed leaves, 100 µs after the last or as the IDENT answer, with the state and the row
errors; it stays owed while row errors are left (R139, R152, R157); (18) else the IDLE packet leaves whole (R137,
R152); (19) in hunt nothing is inserted (R154). -/
def Obligations.ChainAndOwnPackets : Prop :=
  (∀ (t : Nat) (k : Packet) (s : State), s.pw.dev ≠ .off → pktTakes s k = true → kTy k = 6 → kAddr k = 63 →
    kF k 0 1 = 1 → kLen k = 1 → kZero k 4 12 = true → kF k 2 1 < 2 → kF k 1 1 < 62 → kF k 1 1 + 1 ≠ s.fy.address →
    ∃ s', exec (.enum t k) s = .next s' ∧ keepsBut [.fy, .phy, .out, .saf, .mg, .dict] (s.advance t) s' ∧
    s'.fy.address = kF k 1 1 + 1 ∧ s'.fy.overflow = false ∧ s'.fy.enumGen = kF k 3 1 ∧
    s'.fy.consumed = s.fy.consumed + 1 ∧ s'.fy.doneDict = [] ∧ s'.fy.doneFrame = [] ∧ s'.fy.nackDict = [] ∧
    s'.fy.nackFrame = [] ∧ s'.statusDue = true ∧ bmGet s'.saf.causes 0x14 = false ∧ s'.dict.sesFerry.isOpen = false ∧
    s'.out = .forward k.hdr ([1, BitVec.ofNat 8 (kF k 1 1 + 1), BitVec.ofNat 8 (kF k 2 1)] ++ k.payload.drop 3) (BitVec.ofNat 32 (kCrc { k with payload := [1, BitVec.ofNat 8 (kF k 1 1 + 1), BitVec.ofNat 8 (kF k 2 1)] ++ k.payload.drop 3 })) :: (flushIdle s).out) ∧
  (∀ (t : Nat) (k : Packet) (s : State), s.pw.dev ≠ .off → pktTakes s k = true → kTy k = 6 → kAddr k = 63 →
    kF k 0 1 = 1 → kLen k = 1 → kZero k 4 12 = true → kF k 2 1 < 2 → kF k 1 1 < 62 → kF k 1 1 + 1 ≠ s.fy.address →
    s.dict.xferFerry = none → ∃ s', exec (.enum t k) s = .next s' ∧
    keepsBut [.fy, .phy, .out, .saf, .mg, .dict] (s.advance t) s' ∧
    s'.fy.insert = s.fy.insert.filter (fun o => o.prec == 2) ++ [⟨4, 6, kF k 1 1 + 1, 0, padTo 16 ([4, BitVec.ofNat 8 s.grade, 0, 0, 0, 0, 0, 0] ++ leBytes 8 s.uid)⟩]) ∧
  (∀ (t : Nat) (k : Packet) (s : State), s.pw.dev ≠ .off → pktTakes s k = true → kTy k = 6 → kAddr k = 63 →
    kF k 0 1 = 1 → kLen k = 1 → kZero k 4 12 = true → kF k 2 1 < 2 → kF k 1 1 < 62 → kF k 1 1 + 1 = s.fy.address →
    ∃ s', exec (.enum t k) s = .next s' ∧ keepsBut [.fy, .phy, .out, .saf, .mg] (s.advance t) s' ∧
    s'.fy.address = s.fy.address ∧ s'.fy.insert = s.fy.insert ∧ s'.fy.doneDict = s.fy.doneDict ∧
    s'.out = .forward k.hdr ([1, BitVec.ofNat 8 (kF k 1 1 + 1), BitVec.ofNat 8 (kF k 2 1)] ++ k.payload.drop 3) (BitVec.ofNat 32 (kCrc { k with payload := [1, BitVec.ofNat 8 (kF k 1 1 + 1), BitVec.ofNat 8 (kF k 2 1)] ++ k.payload.drop 3 })) :: (flushIdle s).out) ∧
  (∀ (t : Nat) (k : Packet) (s : State), s.pw.dev ≠ .off → pktTakes s k = true → kTy k = 6 → kAddr k = 63 →
    kF k 0 1 = 1 → kLen k = 1 → kZero k 4 12 = true → kF k 2 1 < 2 → 62 ≤ kF k 1 1 →
    ∃ s', exec (.enum t k) s = .next s' ∧ keepsBut (.phy :: raiseBlks) (s.advance t) s' ∧ s'.fy.address = 63 ∧
    s'.fy.overflow = true ∧ s'.fy.enumGen = kF k 3 1 ∧ bmGet s'.saf.causes 0x14 = true) ∧
  (∀ (t : Nat) (k : Packet) (s : State), s.pw.dev ≠ .off → kTy k = 6 → kF k 0 1 = 1 → kAddr k = 63 →
    kHere s k = true → consumes s k = true → kPass k = false → ∃ s', exec (.enum t k) s = .next s' ∧
    keepsBut [.fy, .phy, .out, .mg] (s.advance t) s' ∧ s'.fy.address = s.fy.address ∧
    s'.fy.crcErrors + s'.fy.crcPassed = s.fy.crcErrors + s.fy.crcPassed + 1 ∧
    s'.out = .forward k.hdr k.payload (BitVec.ofNat 32 (4294967295 - kCrc k)) :: (flushIdle s).out) ∧
  (∀ (t : Nat) (k : Packet) (s : State), s.pw.dev ≠ .off → pktTakes s k = true → kTy k = 6 → kAddr k = 63 →
    kF k 0 1 = 1 → (kLen k ≠ 1 ∨ kZero k 4 12 = false ∨ 2 ≤ kF k 2 1) → ∃ s', exec (.enum t k) s = .next s' ∧
    keepsBut [.fy, .phy, .out, .mg] (s.advance t) s' ∧ s'.fy.address = s.fy.address ∧
    s'.fy.malformed = s.fy.malformed + 1 ∧ s'.out = .forward k.hdr k.payload k.trailer :: (flushIdle s).out) ∧
  (∀ (t : Nat) (k : Packet) (s : State), s.pw.dev ≠ .off →
    (kTy k ≠ 6 ∨ kF k 0 1 ≠ 1 ∨ kAddr k ≠ 63 ∨ kHere s k = false) → ∃ s', exec (.enum t k) s = .next s' ∧
    keepsBut [] (s.advance t) s' ∧ s'.fy = s.fy ∧ s'.dict = s.dict) ∧
  (∀ (t : Nat) (k : Packet) (s : State), s.pw.dev ≠ .off → pktTakes s k = true → kTy k = 6 → kF k 0 1 = 3 →
    kLen k = 2 → kZero k 1 7 = true → kZero k 26 6 = true → ∃ s', exec (.echo t k) s = .next s' ∧
    keepsBut [.fy, .mg] (s.advance t) s' ∧
    s'.fy = { s.fy with consumed := s.fy.consumed + 1, insert := s.fy.insert ++ [⟨2, 6, s.fy.address, kSeq k, padTo 32 ([3, 0, 0, 0, 0, 0, 0, 0] ++ (k.payload.drop 8).take 8 ++ (headTime (s.advance t) k).bytes ++ List.replicate 6 0)⟩] }) ∧
  (∀ (t : Nat) (k : Packet) (s : State), s.pw.dev ≠ .off → kHere s k = true → consumes s k = true → kPass k = true →
    hdrBits k.hdr 47 38 = 0 → queueFree s = false → kTy k = 6 → kF k 0 1 = 3 → kLen k = 2 → kZero k 1 7 = true →
    kZero k 26 6 = true → ∃ s', exec (.echo t k) s = .next s' ∧ keepsBut [.fy, .mg] (s.advance t) s' ∧
    s'.fy = { s.fy with busyDrops := s.fy.busyDrops + 1 }) ∧
  (∀ (t : Nat) (k : Packet) (s : State), s.pw.dev ≠ .off →
    (kTy k ≠ 6 ∨ kF k 0 1 ≠ 3 ∨ kHere s k = false ∨ consumes s k = false) → ∃ s', exec (.echo t k) s = .next s' ∧
    keepsBut [] (s.advance t) s' ∧ s'.fy = s.fy ∧ s'.dict = s.dict) ∧
  (∀ (t : Nat) (k : Packet) (s : State), s.pw.dev ≠ .off → pktTakes s k = true → kTy k = 6 → kF k 0 1 = 5 →
    kLen k = 1 → kZero k 1 15 = true → ∃ s', exec (.statusReq t k) s = .next s' ∧ keepsBut [.fy, .mg] (s.advance t) s' ∧
    s'.statusDue = true ∧ s'.fy = { s.fy with consumed := s.fy.consumed + 1 }) ∧
  (∀ (t : Nat) (k : Packet) (s : State), s.pw.dev ≠ .off →
    (kTy k ≠ 6 ∨ kF k 0 1 ≠ 5 ∨ kHere s k = false ∨ consumes s k = false) → ∃ s', exec (.statusReq t k) s = .next s' ∧
    keepsBut [] (s.advance t) s' ∧ s'.fy = s.fy ∧ s'.dict = s.dict) ∧
  (∀ (t : Nat) (s : State), s.pw.dev ≠ .off →
    spanOver (s.advance t) s.fy.periodAt (s.objN 0x2300 4 * 1000000000) = true →
    ∃ s', exec (.statusPeriod t) s = .next s' ∧ keepsBut [.fy] (s.advance t) s' ∧ s'.statusDue = true ∧
    s'.fy = { s.fy with periodAt := (s.advance t).now }) ∧
  (∀ (t : Nat) (s : State), s.pw.dev ≠ .off →
    spanOver (s.advance t) s.fy.periodAt (s.objN 0x2300 4 * 1000000000) = false →
    ∃ s', exec (.statusPeriod t) s = .next s' ∧ keepsBut [] (s.advance t) s' ∧ s'.statusDue = s.statusDue ∧
    s'.fy = s.fy) ∧
  (∀ (t units : Nat) (o : Own) (s : State), s.pw.dev ≠ .off → s.lane.st = .fl0 → s.fy.hunt = false →
    nextOwn s.fy.insert = some o → o.payload.length / 16 + 1 ≤ units →
    ∃ s', exec (.ownPacketInsert t units) s = .next s' ∧ keepsBut [.fy, .phy, .out] (s.advance t) s' ∧
    s'.out = .packet (mkHdr o.ptype o.addr (o.payload.length / 16) o.seq true false) o.payload (crcOf crcIeee (leBytes 8 (mkHdr o.ptype o.addr (o.payload.length / 16) o.seq true false) ++ o.payload)) :: (atIdle units s).out ∧
    s'.fy.insert = eraseFirst (fun x => decide (x = o)) s.fy.insert ∧ s'.fy.inserted = s.fy.inserted + 1 ∧
    s'.fy.idle = (if units = o.payload.length / 16 + 1 then none else some (units - (o.payload.length / 16 + 1), none))) ∧
  (∀ (t units : Nat) (o : Own) (s : State), s.pw.dev ≠ .off → s.lane.st = .fl0 → s.fy.hunt = false →
    nextOwn s.fy.insert = some o → units ≤ o.payload.length / 16 → ∃ s', exec (.ownPacketInsert t units) s = .next s' ∧
    keepsBut [.fy, .phy, .out] (s.advance t) s' ∧ s'.out = (atIdle units s).out ∧ s'.fy = (atIdle units s).fy) ∧
  (∀ (t units : Nat) (s : State), s.pw.dev ≠ .off → s.lane.st = .fl0 → s.fy.hunt = false →
    nextOwn s.fy.insert = none → s.statusDue = true → 7 ≤ units →
    (s.fy.identPend = true ∨ s.fy.statusAt.all (fun a => decide (a + 100000000 ≤ (s.advance t).now)) = true) →
    ∃ s', exec (.ownPacketInsert t units) s = .next s' ∧ keepsBut [.fy, .phy, .out] (s.advance t) s' ∧
    s'.fy.statusSeq = s.fy.statusSeq + 1 ∧ s'.fy.statusAt = some (s.advance t).now ∧
    s'.fy.rowPend = rowsSent 8 s.fy.rowPend ∧ s'.fy.inserted = s.fy.inserted + 1 ∧
    s'.out = .packet (mkHdr 6 s.fy.address 6 0 true false) (statusPayload s) (crcOf crcIeee (leBytes 8 (mkHdr 6 s.fy.address 6 0 true false) ++ statusPayload s)) :: (atIdle units s).out ∧
    s'.statusDue = !(rowsSent 8 s.fy.rowPend).isEmpty) ∧
  (∀ (t units : Nat) (s : State), s.pw.dev ≠ .off → s.lane.st = .fl0 → s.fy.hunt = false →
    nextOwn s.fy.insert = none → (s.statusDue = false ∨ units < 7 ∨ (s.fy.identPend = false ∧
    s.fy.statusAt.all (fun a => decide (a + 100000000 ≤ (s.advance t).now)) = false)) →
    ∃ s', exec (.ownPacketInsert t units) s = .next s' ∧ keepsBut [.fy, .phy, .out] (s.advance t) s' ∧
    s'.out = (atIdle units s).out ∧ s'.fy = (atIdle units s).fy) ∧
  (∀ (t units : Nat) (s : State), s.pw.dev ≠ .off → (s.lane.st ≠ .fl0 ∨ s.fy.hunt = true) →
    ∃ s', exec (.ownPacketInsert t units) s = .next s' ∧ keepsBut [] (s.advance t) s' ∧ s'.fy = s.fy ∧ s'.out = s.out)

/-- DICT_REQUEST and TIME_PACKET. Each clause: under its hypotheses on the state and the operands exec answers a next
state, in which no part of the state but those it lists differs from the state at the command's instant, and there (1)
a DICT request joins the queue of the server with its SEQ (R149, R485); (2) a full queue drops it, which is counted
(R139, R485); (3) a malformed one is NACKed with cause 2; that the third of one SEQ also raises 0x12 is left out here
(R134, R156); (4) the third failure of one SEQ latches 0x12 (R157); (5) an earlier failed DICT packet is counted and
NACKed with cause 1, its SEQ kept and its first failure counted (R155, R156, R388); (6) a RETRY of an executed packet
is answered again, counted, and executes nothing, whether or not the queue of the server is full (R156); (7) one of a
packet still under execution is dropped (R159); (8) a RETRY that passes after a NACK of its SEQ is counted as a
transient, and the SEQ leaves the list (R157); (9) another packet, or one not for the engine, is no DICT request
(R149); (10) a TIME packet whose MARKER is not the count of the last good ALIGN slot before its header is stale
(R150); (11) the first sample of an invalid clock is a sync sample of domain A: theta is the marker's time less the
packet's and the configured delay, the domain is selected, and a step by it is set for the next tick of TB2 (R150,
R362, R364); (12) one that names the marker of before FL0, of which no capture is held, is discarded, which is counted
(R364); (13) one whose nanoseconds or interval lie out of range, or whose marker is more than 2 s old, is discarded,
which is counted (R150, R364); (14) a failed one is stale too (R155); (15) another packet is no TIME packet (R150). -/
def Obligations.DictAndTimePacketsAct : Prop :=
  (∀ (t n : Nat) (k : Packet) (s : State), s.pw.dev ≠ .off → pktTakes s k = true → kTy k = 4 → kF k 0 1 = 1 →
    kF k 1 1 = 0 → kF k 2 2 = n → 8 + n ≤ k.payload.length → kZero k 4 4 = true →
    kZero k (8 + n) k.payload.length = true → s.dict.queue.length < 4 → slotMsg s ((k.payload.drop 8).take n) = false →
    ∃ s', exec (.dictRequest t k) s = .next s' ∧ keepsBut [.fy, .mg, .dict] (s.advance t) s' ∧
    s'.dict.queue = s.dict.queue ++ [(kSeq k, kAddr k == 63, (k.payload.drop 8).take n)] ∧
    s'.fy.consumed = s.fy.consumed + 1) ∧
  (∀ (t n : Nat) (k : Packet) (s : State), s.pw.dev ≠ .off → pktTakes s k = true → kTy k = 4 → kF k 0 1 = 1 →
    kF k 1 1 = 0 → kF k 2 2 = n → 8 + n ≤ k.payload.length → kZero k 4 4 = true →
    kZero k (8 + n) k.payload.length = true → 4 ≤ s.dict.queue.length → ∃ s', exec (.dictRequest t k) s = .next s' ∧
    keepsBut [.fy, .mg] (s.advance t) s' ∧ s'.fy = { s.fy with busyDrops := s.fy.busyDrops + 1 }) ∧
  (∀ (t : Nat) (k : Packet) (s : State), s.pw.dev ≠ .off → pktTakes s k = true → kTy k = 4 →
    (kF k 0 1 ≠ 1 ∨ kF k 1 1 ≠ 0 ∨ kZero k 4 4 = false ∨ k.payload.length < 8 + kF k 2 2) →
    alook s.fy.nackDict (kSeq k) 0 ≠ 2 → ∃ s', exec (.dictRequest t k) s = .next s' ∧
    keepsBut raiseBlks (s.advance t) s' ∧ s'.fy.nacksSent = s.fy.nacksSent + 1 ∧
    s'.fy.insert = s.fy.insert ++ [⟨1, 4, s.fy.address, kSeq k, padTo 16 ([0x82, 2] ++ leBytes 2 (kSeq k))⟩] ∧
    s'.dict.queue = s.dict.queue) ∧
  (∀ (t : Nat) (k : Packet) (s : State), s.pw.dev ≠ .off → kHere s k = true → consumes s k = true →
    s.pw.exiting = false → queueFree s = true → kTy k = 4 → kPass k = false → alook s.fy.nackDict (kSeq k) 0 = 2 →
    ∃ s', exec (.dictRequest t k) s = .next s' ∧ keepsBut raiseBlks (s.advance t) s' ∧
    s'.fy.nacksSent = s.fy.nacksSent + 1 ∧ s'.dict.queue = s.dict.queue ∧ bmGet s'.saf.latched 0x12 = true) ∧
  (∀ (t : Nat) (k : Packet) (s : State), s.pw.dev ≠ .off → kHere s k = true → consumes s k = true →
    s.pw.exiting = false → queueFree s = true → kTy k = 4 → kPass k = false → alook s.fy.nackDict (kSeq k) 0 + 1 < 3 →
    ∃ s', exec (.dictRequest t k) s = .next s' ∧ keepsBut [.fy, .mg, .saf] (s.advance t) s' ∧
    s'.fy.nacksSent = s.fy.nacksSent + 1 ∧ s'.fy.crcErrors + s'.fy.crcPassed = s.fy.crcErrors + s.fy.crcPassed + 1 ∧
    s'.fy.insert = s.fy.insert ++ [⟨1, 4, s.fy.address, kSeq k, padTo 16 ([0x82, 1] ++ leBytes 2 (kSeq k))⟩] ∧
    alook s'.fy.nackDict (kSeq k) 0 = alook s.fy.nackDict (kSeq k) 0 + 1 ∧ s'.saf.latched = s.saf.latched ∧
    s'.saf.transients = (if alook s.fy.nackDict (kSeq k) 0 = 0 then s.saf.transients.modify 0x12 satInc16 else s.saf.transients)) ∧
  (∀ (t : Nat) (k : Packet) (p : List Byte) (s : State), s.pw.dev ≠ .off → kHere s k = true → consumes s k = true →
    s.pw.exiting = false → queueFree s = true → kTy k = 4 → kPass k = true → kRetry k = true →
    dictRuns (kSeq k) s = false → afind s.fy.nackDict (kSeq k) = none → afind s.fy.doneDict (kSeq k) = some p → p ≠ [] →
    ∃ s', exec (.dictRequest t k) s = .next s' ∧ keepsBut [.fy, .mg] (s.advance t) s' ∧
    s'.fy = { s.fy with duplicates := s.fy.duplicates + 1, insert := s.fy.insert ++ [⟨3, 4, s.fy.address, kSeq k, padTo (16 * ((p.length + 15) / 16)) p⟩] }) ∧
  (∀ (t n : Nat) (k : Packet) (s : State), s.pw.dev ≠ .off → kHere s k = true → consumes s k = true →
    s.pw.exiting = false → queueFree s = true → kTy k = 4 → kPass k = true → hdrBits k.hdr 47 38 = 0 → kF k 0 1 = 1 →
    kF k 1 1 = 0 → kF k 2 2 = n → 8 + n ≤ k.payload.length → kZero k 4 4 = true →
    kZero k (8 + n) k.payload.length = true → kRetry k = true → dictRuns (kSeq k) s = true →
    afind s.fy.nackDict (kSeq k) = none → ∃ s', exec (.dictRequest t k) s = .next s' ∧ keepsBut [.mg] (s.advance t) s' ∧
    s'.fy = s.fy ∧ s'.dict = s.dict) ∧
  (∀ (t n : Nat) (k : Packet) (s : State), s.pw.dev ≠ .off → kHere s k = true → consumes s k = true →
    s.pw.exiting = false → queueFree s = true → kTy k = 4 → kPass k = true → hdrBits k.hdr 47 38 = 0 → kF k 0 1 = 1 →
    kF k 1 1 = 0 → kF k 2 2 = n → 8 + n ≤ k.payload.length → kZero k 4 4 = true →
    kZero k (8 + n) k.payload.length = true → kRetry k = true → dictRuns (kSeq k) s = true →
    (afind s.fy.nackDict (kSeq k)).isSome = true → ∃ s', exec (.dictRequest t k) s = .next s' ∧
    keepsBut [.fy, .mg, .saf] (s.advance t) s' ∧
    s'.fy = { s.fy with transients := s.fy.transients + 1, nackDict := adel s.fy.nackDict (kSeq k) } ∧ s'.dict = s.dict) ∧
  (∀ (t : Nat) (k : Packet) (s : State), s.pw.dev ≠ .off → (kTy k ≠ 4 ∨ kHere s k = false ∨ consumes s k = false) →
    ∃ s', exec (.dictRequest t k) s = .next s' ∧ keepsBut [] (s.advance t) s' ∧ s'.fy = s.fy ∧ s'.dict = s.dict) ∧
  (∀ (t : Nat) (k : Packet) (s : State), s.pw.dev ≠ .off → pktTakes s k = true → kTy k = 5 → kLen k = 2 →
    kZero k 0x1A 6 = true → headCount s k ≠ some (kF k 0 4) → ∃ s', exec (.timePacket t k) s = .next s' ∧
    keepsBut [.fy, .mg] (s.advance t) s' ∧ s'.fy = { s.fy with staleTime := s.fy.staleTime + 1 }) ∧
  (∀ (t : Nat) (k : Packet) (m : Marker) (th : Int) (s : State), s.pw.dev ≠ .off → pktTakes s k = true → kTy k = 5 →
    kLen k = 2 → kZero k 0x1A 6 = true → headCount s k = some (kF k 0 4) →
    s.lane.markers.find? (fun m => m.count == kF k 0 4) = some m → kF k 10 4 ≤ 999999999 → 1 ≤ kF k 24 2 →
    kF k 24 2 ≤ 1000 → (s.advance t).now ≤ m.at_ + 2000000000000 →
    th = m.time - (((kF k 4 6 * 1000000000 + kF k 10 4) * 4294967296 + kF k 14 2 * 65536 : Nat) : Int) * 1000 - psU (s.objN 0x2C00 2) →
    s.clk.valid = false → s.clk.step = none → (domOf s 0).st = 0 → s.tim.doms.length = 2 →
    ∃ s', exec (.timePacket t k) s = .next s' ∧ keepsBut (.tim :: .clk :: .free :: raiseBlks) (s.advance t) s' ∧
    s'.clk.step = some (-(roundFree 1 th 1000)) ∧ s'.clk.fix = (s.advance t).clk.fix ∧ s'.tim.selected = 1 ∧
    (domOf s' 0).theta = th ∧ (domOf s' 0).master = kF k 16 8 ∧ (domOf s' 0).interval = kF k 24 2) ∧
  (∀ (t : Nat) (k : Packet) (s : State), s.pw.dev ≠ .off → pktTakes s k = true → kTy k = 5 → kLen k = 2 →
    kZero k 0x1A 6 = true → headCount s k = some (kF k 0 4) →
    s.lane.markers.find? (fun m => m.count == kF k 0 4) = none → ∃ s', exec (.timePacket t k) s = .next s' ∧
    keepsBut [.tim, .mg] (s.advance t) s' ∧ s'.tim = { s.tim with discards := s.tim.discards + 1 }) ∧
  (∀ (t : Nat) (k : Packet) (m : Marker) (s : State), s.pw.dev ≠ .off → pktTakes s k = true → kTy k = 5 → kLen k = 2 →
    kZero k 0x1A 6 = true → headCount s k = some (kF k 0 4) →
    s.lane.markers.find? (fun m => m.count == kF k 0 4) = some m →
    (999999999 < kF k 10 4 ∨ kF k 24 2 = 0 ∨ 1000 < kF k 24 2 ∨ m.at_ + 2000000000000 < (s.advance t).now) →
    ∃ s', exec (.timePacket t k) s = .next s' ∧ keepsBut [.tim, .mg] (s.advance t) s' ∧
    s'.tim = { s.tim with discards := s.tim.discards + 1 }) ∧
  (∀ (t : Nat) (k : Packet) (s : State), s.pw.dev ≠ .off → kHere s k = true → consumes s k = true → kTy k = 5 →
    kPass k = false → ∃ s', exec (.timePacket t k) s = .next s' ∧ keepsBut [.fy, .mg] (s.advance t) s' ∧
    s'.fy.staleTime = s.fy.staleTime + 1 ∧ s'.fy.consumed = s.fy.consumed) ∧
  (∀ (t : Nat) (k : Packet) (s : State), s.pw.dev ≠ .off → (kTy k ≠ 5 ∨ kHere s k = false ∨ consumes s k = false) →
    ∃ s', exec (.timePacket t k) s = .next s' ∧ keepsBut [] (s.advance t) s' ∧ s'.fy = s.fy ∧ s'.dict = s.dict)

/-- SURF, PROBE_PACKET and SCRUB. Each clause: under its hypotheses on the state and the operands exec answers a next
state, in which no part of the state but those it lists differs from the state at the command's instant, and there (1)
an accepted SURF packet puts its data bytes at the address that its slot, row and column, or its offset, give, leaves
every other byte of surface memory and every other slot as it was, and the slot is FILLING (R174, R175, R177); (2) it
does so whatever errors it finds in words it replaces in part (R163); (3) a word replaced in part that has two bits in
error is poisoned, counted and latches the source of its domain (R163); (4) a rejected one counts with its reason, is
an event and writes nothing (R174); (5) where the launch of the same instant, which waits behind the write, releases
the last pin of a slot with RELEASE_PENDING, the release comes first and the write meets a FREE slot (R184); (6) a
malformed sub-header drops the packet, which is counted (R134, R147); (7) a packet that fails is counted, is a first
failure of its row and leaves a row error for the next STATUS packet, which is owed (R155, R157, R388); (8) another
packet is no SURF packet (R147); (9) an accepted PROBE packet does the same with its row, and ONES follows the change
of the row (R174, R175); (10) whatever errors it finds (R163); (11) a rejected one, of MODE 1 or to a slot of another
format among them, counts, is an event and writes nothing (R174); (12) a malformed one is dropped and counted (R134,
R147); (13) the scrubber counts a corrected bit of a word of a slot area or of the flatten cache (R163, R165); (14) a
word with two or more bits in error is poisoned, counted, its bytes as they were, and latches the source of its domain
(R163, R164, R165); (15) a word outside both, without an error or poisoned already, changes nothing (R165). -/
def Obligations.SurfacesAreWritten : Prop :=
  (∀ (t : Nat) (k : Packet) (s : State), s.pw.dev ≠ .off → pktTakes s k = true → kTy k = 1 → surfMalformed k = false →
    surfReject (slotAtWrite (s.advance t) (kF k 0 1)) false (kF k 1 1) (kF k 2 2) (kF k 4 2) (kF k 6 2) (kF k 2 4) = none →
    memOk s → ∃ s', exec (.surf t k []) s = .next s' ∧ keepsBut [.fy, .mg, .surf, .comp] (s.advance t) s' ∧
    (∀ a, surfRd s' a = if (if kF k 1 1 = 0 then (slotOf s (kF k 0 1)).base + kF k 2 2 * (slotOf s (kF k 0 1)).stride + pixByte (slotOf s (kF k 0 1)).format (kF k 4 2) else (slotOf s (kF k 0 1)).base + kF k 2 4) ≤ a ∧
    a < (if kF k 1 1 = 0 then (slotOf s (kF k 0 1)).base + kF k 2 2 * (slotOf s (kF k 0 1)).stride + pixByte (slotOf s (kF k 0 1)).format (kF k 4 2) else (slotOf s (kF k 0 1)).base + kF k 2 4) + kF k 6 2 then nth k.payload (8 + (a - (if kF k 1 1 = 0 then (slotOf s (kF k 0 1)).base + kF k 2 2 * (slotOf s (kF k 0 1)).stride + pixByte (slotOf s (kF k 0 1)).format (kF k 4 2) else (slotOf s (kF k 0 1)).base + kF k 2 4))) 0 else surfRd s a) ∧
    (slotOf s' (kF k 0 1)).state = 1 ∧ s'.fy.consumed = s.fy.consumed + 1 ∧ (∀ m, m ≠ kF k 0 1 →
    slotOf s' m = slotOf s m)) ∧
  (∀ (t : Nat) (k : Packet) (ecc : List (Nat × Nat)) (s : State), s.pw.dev ≠ .off → pktTakes s k = true → kTy k = 1 →
    surfMalformed k = false →
    surfReject (slotAtWrite (s.advance t) (kF k 0 1)) false (kF k 1 1) (kF k 2 2) (kF k 4 2) (kF k 6 2) (kF k 2 4) = none →
    memOk s → ∃ s', exec (.surf t k ecc) s = .next s' ∧ keepsBut (.surf :: .comp :: raiseBlks) (s.advance t) s' ∧
    (∀ a, surfRd s' a = if (if kF k 1 1 = 0 then (slotOf s (kF k 0 1)).base + kF k 2 2 * (slotOf s (kF k 0 1)).stride + pixByte (slotOf s (kF k 0 1)).format (kF k 4 2) else (slotOf s (kF k 0 1)).base + kF k 2 4) ≤ a ∧
    a < (if kF k 1 1 = 0 then (slotOf s (kF k 0 1)).base + kF k 2 2 * (slotOf s (kF k 0 1)).stride + pixByte (slotOf s (kF k 0 1)).format (kF k 4 2) else (slotOf s (kF k 0 1)).base + kF k 2 4) + kF k 6 2 then nth k.payload (8 + (a - (if kF k 1 1 = 0 then (slotOf s (kF k 0 1)).base + kF k 2 2 * (slotOf s (kF k 0 1)).stride + pixByte (slotOf s (kF k 0 1)).format (kF k 4 2) else (slotOf s (kF k 0 1)).base + kF k 2 4))) 0 else surfRd s a) ∧
    (slotOf s' (kF k 0 1)).state = 1) ∧
  (∀ (t w : Nat) (k : Packet) (s : State), s.pw.dev ≠ .off → pktTakes s k = true → kTy k = 1 →
    surfMalformed k = false →
    surfReject (slotAtWrite (s.advance t) (kF k 0 1)) false (kF k 1 1) (kF k 2 2) (kF k 4 2) (kF k 6 2) (kF k 2 4) = none →
    partWord (if kF k 1 1 = 0 then (slotOf s (kF k 0 1)).base + kF k 2 2 * (slotOf s (kF k 0 1)).stride + pixByte (slotOf s (kF k 0 1)).format (kF k 4 2) else (slotOf s (kF k 0 1)).base + kF k 2 4) (kF k 6 2) w = true →
    s.surf.poison.contains w = false → ∃ s', exec (.surf t k [(w, 2)]) s = .next s' ∧
    keepsBut (.surf :: .comp :: raiseBlks) (s.advance t) s' ∧ s'.surf.poison.contains w = true ∧
    s'.surf.eccPoisoned = s.surf.eccPoisoned + 1 ∧ bmGet s'.saf.latched (0x20 + min 3 (8 * w / 0x600000)) = true) ∧
  (∀ (t reason c : Nat) (k : Packet) (ecc : List (Nat × Nat)) (s : State), s.pw.dev ≠ .off → pktTakes s k = true →
    kTy k = 1 → surfMalformed k = false →
    surfReject (slotAtWrite (s.advance t) (kF k 0 1)) false (kF k 1 1) (kF k 2 2) (kF k 4 2) (kF k 6 2) (kF k 2 4) = some (reason, c) →
    ∃ s', exec (.surf t k ecc) s = .next s' ∧ keepsBut [.fy, .mg, .surf, .dict, .can, .out] (s.advance t) s' ∧
    s'.surf = { s.surf with rejFree := if c = 1 then s.surf.rejFree + 1 else s.surf.rejFree, rejPinned := if c = 2 then s.surf.rejPinned + 1 else s.surf.rejPinned, rejShape := if c = 3 then s.surf.rejShape + 1 else s.surf.rejShape } ∧
    s'.fy.consumed = s.fy.consumed ∧ s'.dict.eventSeq = s.dict.eventSeq + 1) ∧
  (∀ (t n : Nat) (k : Packet) (ecc : List (Nat × Nat)) (v : Snap) (f : Desc) (s : State), s.pw.dev ≠ .off →
    pktTakes s k = true → kTy k = 1 → surfMalformed k = false → n = kF k 0 1 → (slotOf s n).state = 3 →
    (slotOf s n).pins = 1 → (slotOf s n).pending = true → s.frm.snap = some v → v.new = true → v.pops = true →
    snapHolds v s = true → s.frm.windowOpen = false → s.pending.head? = some (.frameLaunch t) → s.frm.cur = some f →
    f.pins.contains n = true → ∃ s', exec (.surf t k ecc) s = .next s' ∧
    keepsBut [.fy, .mg, .surf, .dict, .can, .out] (s.advance t) s' ∧
    s'.surf = { s.surf with rejFree := s.surf.rejFree + 1 }) ∧
  (∀ (t : Nat) (k : Packet) (ecc : List (Nat × Nat)) (s : State), s.pw.dev ≠ .off → pktTakes s k = true → kTy k = 1 →
    surfMalformed k = true → ∃ s', exec (.surf t k ecc) s = .next s' ∧ keepsBut [.fy, .mg] (s.advance t) s' ∧
    s'.fy = { s.fy with malformed := s.fy.malformed + 1 }) ∧
  (∀ (t : Nat) (k : Packet) (ecc : List (Nat × Nat)) (s : State), s.pw.dev ≠ .off → kHere s k = true →
    consumes s k = true → s.pw.exiting = false → kTy k = 1 → kPass k = false → s.fy.rowPend.length < 64 →
    rowHit s.fy.rowPrev (kF k 0 1) (if kF k 1 1 = 0 then kF k 2 2 else 0) (decide (kF k 1 1 ≠ 0)) = false →
    ∃ s', exec (.surf t k ecc) s = .next s' ∧ keepsBut [.fy, .mg, .saf] (s.advance t) s' ∧
    s'.fy.rowErrors = s.fy.rowErrors + 1 ∧ s'.fy.rowPend.length = s.fy.rowPend.length + 1 ∧ s'.statusDue = true ∧
    s'.saf.latched = s.saf.latched ∧ s'.saf.transients = s.saf.transients.modify 0x13 satInc16 ∧
    s'.fy.crcErrors + s'.fy.crcPassed = s.fy.crcErrors + s.fy.crcPassed + 1) ∧
  (∀ (t : Nat) (k : Packet) (ecc : List (Nat × Nat)) (s : State), s.pw.dev ≠ .off →
    (kTy k ≠ 1 ∨ kHere s k = false ∨ consumes s k = false) → ∃ s', exec (.surf t k ecc) s = .next s' ∧
    keepsBut [] (s.advance t) s' ∧ s'.surf = s.surf ∧ s'.fy = s.fy) ∧
  (∀ (t : Nat) (k : Packet) (s : State), s.pw.dev ≠ .off → pktTakes s k = true → kTy k = 7 → surfMalformed k = false →
    surfReject (slotAtWrite (s.advance t) (kF k 0 1)) true (kF k 1 1) (kF k 2 2) (kF k 4 2) (kF k 6 2) (kF k 2 4) = none →
    memOk s → ∃ s', exec (.probePacket t k []) s = .next s' ∧ keepsBut [.fy, .mg, .surf, .comp] (s.advance t) s' ∧
    (∀ a, surfRd s' a = if (if kF k 1 1 = 0 then (slotOf s (kF k 0 1)).base + kF k 2 2 * (slotOf s (kF k 0 1)).stride + pixByte (slotOf s (kF k 0 1)).format (kF k 4 2) else (slotOf s (kF k 0 1)).base + kF k 2 4) ≤ a ∧
    a < (if kF k 1 1 = 0 then (slotOf s (kF k 0 1)).base + kF k 2 2 * (slotOf s (kF k 0 1)).stride + pixByte (slotOf s (kF k 0 1)).format (kF k 4 2) else (slotOf s (kF k 0 1)).base + kF k 2 4) + kF k 6 2 then nth k.payload (8 + (a - (if kF k 1 1 = 0 then (slotOf s (kF k 0 1)).base + kF k 2 2 * (slotOf s (kF k 0 1)).stride + pixByte (slotOf s (kF k 0 1)).format (kF k 4 2) else (slotOf s (kF k 0 1)).base + kF k 2 4))) 0 else surfRd s a) ∧
    (slotOf s' (kF k 0 1)).state = 1 ∧
    (slotOf s' (kF k 0 1)).ones = (slotOf s (kF k 0 1)).ones + rowOnes s' (slotOf s (kF k 0 1)) (kF k 2 2) - rowOnes s (slotOf s (kF k 0 1)) (kF k 2 2)) ∧
  (∀ (t : Nat) (k : Packet) (ecc : List (Nat × Nat)) (s : State), s.pw.dev ≠ .off → pktTakes s k = true → kTy k = 7 →
    surfMalformed k = false →
    surfReject (slotAtWrite (s.advance t) (kF k 0 1)) true (kF k 1 1) (kF k 2 2) (kF k 4 2) (kF k 6 2) (kF k 2 4) = none →
    memOk s → ∃ s', exec (.probePacket t k ecc) s = .next s' ∧ keepsBut (.surf :: .comp :: raiseBlks) (s.advance t) s' ∧
    (∀ a, surfRd s' a = if (if kF k 1 1 = 0 then (slotOf s (kF k 0 1)).base + kF k 2 2 * (slotOf s (kF k 0 1)).stride + pixByte (slotOf s (kF k 0 1)).format (kF k 4 2) else (slotOf s (kF k 0 1)).base + kF k 2 4) ≤ a ∧
    a < (if kF k 1 1 = 0 then (slotOf s (kF k 0 1)).base + kF k 2 2 * (slotOf s (kF k 0 1)).stride + pixByte (slotOf s (kF k 0 1)).format (kF k 4 2) else (slotOf s (kF k 0 1)).base + kF k 2 4) + kF k 6 2 then nth k.payload (8 + (a - (if kF k 1 1 = 0 then (slotOf s (kF k 0 1)).base + kF k 2 2 * (slotOf s (kF k 0 1)).stride + pixByte (slotOf s (kF k 0 1)).format (kF k 4 2) else (slotOf s (kF k 0 1)).base + kF k 2 4))) 0 else surfRd s a) ∧
    (slotOf s' (kF k 0 1)).state = 1) ∧
  (∀ (t reason c : Nat) (k : Packet) (ecc : List (Nat × Nat)) (s : State), s.pw.dev ≠ .off → pktTakes s k = true →
    kTy k = 7 → surfMalformed k = false →
    surfReject (slotAtWrite (s.advance t) (kF k 0 1)) true (kF k 1 1) (kF k 2 2) (kF k 4 2) (kF k 6 2) (kF k 2 4) = some (reason, c) →
    ∃ s', exec (.probePacket t k ecc) s = .next s' ∧ keepsBut [.fy, .mg, .surf, .dict, .can, .out] (s.advance t) s' ∧
    s'.surf = { s.surf with rejFree := if c = 1 then s.surf.rejFree + 1 else s.surf.rejFree, rejPinned := if c = 2 then s.surf.rejPinned + 1 else s.surf.rejPinned, rejShape := if c = 3 then s.surf.rejShape + 1 else s.surf.rejShape } ∧
    s'.fy.consumed = s.fy.consumed ∧ s'.dict.eventSeq = s.dict.eventSeq + 1) ∧
  (∀ (t : Nat) (k : Packet) (ecc : List (Nat × Nat)) (s : State), s.pw.dev ≠ .off → pktTakes s k = true → kTy k = 7 →
    surfMalformed k = true → ∃ s', exec (.probePacket t k ecc) s = .next s' ∧ keepsBut [.fy, .mg] (s.advance t) s' ∧
    s'.fy = { s.fy with malformed := s.fy.malformed + 1 }) ∧
  (∀ (t word errors : Nat) (s : State), s.pw.dev ≠ .off → active s = true → 8 * word < surfBytes →
    (cacheBase s ≤ 8 * word ∨ s.surf.slots.any (fun k => k.holds (8 * word)) = true) →
    s.surf.poison.contains word = false → errors = 1 → ∃ s', exec (.scrub t word errors) s = .next s' ∧
    keepsBut [.surf] (s.advance t) s' ∧ s'.surf = { s.surf with eccCorrected := s.surf.eccCorrected + 1 }) ∧
  (∀ (t word errors : Nat) (s : State), s.pw.dev ≠ .off → active s = true → 8 * word < surfBytes →
    (cacheBase s ≤ 8 * word ∨ s.surf.slots.any (fun k => k.holds (8 * word)) = true) →
    s.surf.poison.contains word = false → 2 ≤ errors → ∃ s', exec (.scrub t word errors) s = .next s' ∧
    keepsBut (.surf :: raiseBlks) (s.advance t) s' ∧ s'.surf.poison = word :: s.surf.poison ∧ s'.surf.mem = s.surf.mem ∧
    s'.surf.eccPoisoned = s.surf.eccPoisoned + 1 ∧ bmGet s'.saf.latched (0x20 + min 3 (8 * word / 0x600000)) = true) ∧
  (∀ (t word errors : Nat) (s : State), s.pw.dev ≠ .off →
    (active s = false ∨ surfBytes ≤ 8 * word ∨ (8 * word < cacheBase s ∧
    s.surf.slots.any (fun k => k.holds (8 * word)) = false) ∨ s.surf.poison.contains word = true ∨ errors = 0) →
    ∃ s', exec (.scrub t word errors) s = .next s' ∧ keepsBut [] (s.advance t) s' ∧ s'.surf = s.surf)

/-- SLOT_CONFIGURE, SLOT_READY, SLOT_CHECK_END, SLOT_RELEASE, CACHE_SIZE_WRITE and PALETTE_WRITE, accepted writes of
their objects. Each clause: under its hypotheses on the state and the operands exec answers a next state, in which no
part of the state but those it lists differs from the state at the command's instant, and there (1) slot.configure
with no cause of Table 6.7 sets the descriptor, FILLING, with the next GEN, and leaves every byte outside its area and
every other slot as it was (R176, R177); (2) of a probe pattern ONES is that of the area's content, which is undefined
(R175, R177); (3) else it is refused with PRESENT_STATE and the cause in slot.result (R176); (4) one with a reserved
byte that is not 0 with the value-range abort (R176); (5) READY of an uncompressed FILLING slot makes it READY, or
PINNED where it has pins, at once (R177); (6) of a compressed one it starts the check (R173, R177); (7) of a slot in
another state, or under a check, it is refused with PRESENT_STATE and result 6 (R176, R177); (8) a command with a
reserved bit is refused with the value-range abort and result 1 (R176); (9) the end of the check leaves its outcome in
CHECK, and the slot READY, PINNED where it has pins, or FILLING after a failure, and no byte and no other slot changed
(R173, R177); (10) it does so whatever errors it finds, a word with two of them decoded as stored (R163, R173; the
latter the model's choice, log 164); (11) with no check under way nothing ends (R173); (12) RELEASE frees a slot
without pins (R177); (13) of one with pins it waits for them as RELEASE_PENDING, and is counted (R177); (14) of a FREE
slot or one under a check it is refused with PRESENT_STATE and result 6 (R176, R177); (15) with a reserved bit it is
refused as READY is (R176); (16) surf.cache_size takes effect and empties the cache (R162, R209); (17) over a slot
area, or while a descriptor that continues the cache is queued or in force, it is refused with PRESENT_STATE (R162,
R209); (18) palette.data of a palette that no pinned slot uses takes effect, and no other palette changes (R169); (19)
it empties a flatten cache whose run uses it (R208); (20) one that a pinned slot uses is refused with PRESENT_STATE
(R169); (21) a KEY from 256 to 65,534 is refused with the value-range abort (R169). -/
def Obligations.SlotsMoveOn : Prop :=
  (∀ (t : Nat) (p : Path) (data : List Byte) (s : State), s.pw.dev ≠ .off → takes s p 0x2410 1 data = true →
    cfgCheck s data = 0 → leField data 0 1 < s.surf.slots.length → leField data 18 1 ≠ 7 →
    ∃ s', exec (.slotConfigure t p data) s = .next s' ∧ keepsBut [.surf, .free, .dict] (s.advance t) s' ∧
    s'.dict.answer = 0 ∧ s'.surf.result = 0 ∧
    slotOf s' (leField data 0 1) = { cfgSlot data with state := 1, gen := (slotOf s (leField data 0 1)).gen + 1, retSeq := (slotOf s (leField data 0 1)).retSeq } ∧
    (∀ a, a < (cfgSlot data).base ∨ (cfgSlot data).base + (cfgSlot data).size ≤ a → surfRd s' a = surfRd s a) ∧
    (∀ m, m ≠ leField data 0 1 → slotOf s' m = slotOf s m)) ∧
  (∀ (t : Nat) (p : Path) (data : List Byte) (s : State), s.pw.dev ≠ .off → takes s p 0x2410 1 data = true →
    cfgCheck s data = 0 → leField data 0 1 < s.surf.slots.length → leField data 18 1 = 7 →
    ∃ s', exec (.slotConfigure t p data) s = .next s' ∧ keepsBut [.surf, .free, .dict] (s.advance t) s' ∧
    s'.dict.answer = 0 ∧ s'.surf.result = 0 ∧
    slotOf s' (leField data 0 1) = { cfgSlot data with state := 1, gen := (slotOf s (leField data 0 1)).gen + 1, retSeq := (slotOf s (leField data 0 1)).retSeq, ones := areaOnes s' (cfgSlot data) } ∧
    (∀ a, a < (cfgSlot data).base ∨ (cfgSlot data).base + (cfgSlot data).size ≤ a → surfRd s' a = surfRd s a) ∧
    (∀ m, m ≠ leField data 0 1 → slotOf s' m = slotOf s m)) ∧
  (∀ (t c : Nat) (p : Path) (data : List Byte) (s : State), s.pw.dev ≠ .off → takes s p 0x2410 1 data = true →
    cfgCheck s data = c → c ≠ 0 → leField data 1 3 = 0 → leField data 21 3 = 0 →
    ∃ s', exec (.slotConfigure t p data) s = .next s' ∧ keepsBut [.surf, .dict] (s.advance t) s' ∧
    s'.dict.answer = abState ∧ s'.surf = { s.surf with result := c }) ∧
  (∀ (t : Nat) (p : Path) (data : List Byte) (s : State), s.pw.dev ≠ .off → takes s p 0x2410 1 data = true →
    (leField data 1 3 ≠ 0 ∨ leField data 21 3 ≠ 0) → ∃ s', exec (.slotConfigure t p data) s = .next s' ∧
    keepsBut [.surf, .dict] (s.advance t) s' ∧ s'.dict.answer = abRange ∧ s'.surf = { s.surf with result := 1 }) ∧
  (∀ (t v : Nat) (p : Path) (s : State), s.pw.dev ≠ .off → takes s p 0x2410 2 (leBytes 4 (256 + v)) = true → v < 256 →
    (slotOf s v).state = 1 → (slotOf s v).checking = false → (slotOf s v).compressed = false →
    ∃ s', exec (.slotReady t p v) s = .next s' ∧ keepsBut [.surf, .dict] (s.advance t) s' ∧ s'.dict.answer = 0 ∧
    s'.surf = { s.surf with result := 0, slots := s.surf.slots.modify v (fun k => { k with state := if k.pins = 0 then 2 else 3, check := 0 }) }) ∧
  (∀ (t v : Nat) (p : Path) (s : State), s.pw.dev ≠ .off → takes s p 0x2410 2 (leBytes 4 (256 + v)) = true → v < 256 →
    (slotOf s v).state = 1 → (slotOf s v).checking = false → (slotOf s v).compressed = true →
    ∃ s', exec (.slotReady t p v) s = .next s' ∧ keepsBut [.surf, .dict] (s.advance t) s' ∧ s'.dict.answer = 0 ∧
    s'.surf.result = 0 ∧ (slotOf s' v).checking = true ∧ (slotOf s' v).state = 1) ∧
  (∀ (t v : Nat) (p : Path) (s : State), s.pw.dev ≠ .off → takes s p 0x2410 2 (leBytes 4 (256 + v)) = true → v < 256 →
    ((slotOf s v).state ≠ 1 ∨ (slotOf s v).checking = true) → ∃ s', exec (.slotReady t p v) s = .next s' ∧
    keepsBut [.surf, .dict] (s.advance t) s' ∧ s'.dict.answer = abState ∧ s'.surf = { s.surf with result := 6 }) ∧
  (∀ (t v : Nat) (p : Path) (s : State), s.pw.dev ≠ .off →
    takes s p 0x2410 2 (leBytes 4 (256 + v % 256 + 65536 * (v / 65536))) = true → 65536 ≤ v → v < 4294967296 →
    ∃ s', exec (.slotReady t p v) s = .next s' ∧ keepsBut [.surf, .dict] (s.advance t) s' ∧ s'.dict.answer = abRange ∧
    s'.surf = { s.surf with result := 1 }) ∧
  (∀ (t : Nat) (n : Fin 256) (s : State), s.pw.dev ≠ .off → (slotOf s n.val).checking = true →
    ∃ s', exec (.slotCheckEnd t n []) s = .next s' ∧ keepsBut [.surf] (s.advance t) s' ∧
    (slotOf s' n.val).checking = false ∧
    (slotOf s' n.val).check = areaCheck (surfRd s) (slotOf s n.val).base (slotOf s n.val).size (slotOf s n.val).format (slotOf s n.val).width (slotOf s n.val).height ∧
    ((slotOf s' n.val).check ≠ 0 → (slotOf s' n.val).state = 1) ∧ ((slotOf s' n.val).check = 0 →
    (slotOf s' n.val).state = if (slotOf s n.val).pins = 0 then 2 else 3) ∧ s'.surf.mem = s.surf.mem ∧ (∀ m, m ≠ n.val →
    slotOf s' m = slotOf s m)) ∧
  (∀ (t : Nat) (n : Fin 256) (ecc : List (Nat × Nat)) (s : State), s.pw.dev ≠ .off →
    (slotOf s n.val).checking = true → ∃ s', exec (.slotCheckEnd t n ecc) s = .next s' ∧
    keepsBut (.surf :: raiseBlks) (s.advance t) s' ∧ (slotOf s' n.val).checking = false ∧
    (slotOf s' n.val).check = areaCheck (surfRd s) (slotOf s n.val).base (slotOf s n.val).size (slotOf s n.val).format (slotOf s n.val).width (slotOf s n.val).height ∧
    s'.surf.mem = s.surf.mem) ∧
  (∀ (t : Nat) (n : Fin 256) (ecc : List (Nat × Nat)) (s : State), s.pw.dev ≠ .off →
    (slotOf s n.val).checking = false → ∃ s', exec (.slotCheckEnd t n ecc) s = .next s' ∧ keepsBut [] (s.advance t) s' ∧
    s'.surf = s.surf) ∧
  (∀ (t v : Nat) (p : Path) (s : State), s.pw.dev ≠ .off → takes s p 0x2410 2 (leBytes 4 (512 + v)) = true → v < 256 →
    (slotOf s v).state ≠ 0 → (slotOf s v).checking = false → (slotOf s v).pins = 0 →
    ∃ s', exec (.slotRelease t p v) s = .next s' ∧ keepsBut [.surf, .dict] (s.advance t) s' ∧ s'.dict.answer = 0 ∧
    s'.surf.result = 0 ∧ (slotOf s' v).state = 0 ∧ s'.surf.mem = s.surf.mem ∧ (∀ m, m ≠ v → slotOf s' m = slotOf s m)) ∧
  (∀ (t v : Nat) (p : Path) (s : State), s.pw.dev ≠ .off → takes s p 0x2410 2 (leBytes 4 (512 + v)) = true → v < 256 →
    (slotOf s v).state ≠ 0 → (slotOf s v).checking = false → 0 < (slotOf s v).pins →
    ∃ s', exec (.slotRelease t p v) s = .next s' ∧ keepsBut [.surf, .dict] (s.advance t) s' ∧ s'.dict.answer = 0 ∧
    s'.surf.result = 0 ∧ (slotOf s' v).pending = true ∧ (slotOf s' v).state = (slotOf s v).state ∧
    s'.surf.releaseDeferred = s.surf.releaseDeferred + 1 ∧ (∀ m, m ≠ v → slotOf s' m = slotOf s m)) ∧
  (∀ (t v : Nat) (p : Path) (s : State), s.pw.dev ≠ .off → takes s p 0x2410 2 (leBytes 4 (512 + v)) = true → v < 256 →
    ((slotOf s v).state = 0 ∨ (slotOf s v).checking = true) → ∃ s', exec (.slotRelease t p v) s = .next s' ∧
    keepsBut [.surf, .dict] (s.advance t) s' ∧ s'.dict.answer = abState ∧ s'.surf = { s.surf with result := 6 }) ∧
  (∀ (t v : Nat) (p : Path) (s : State), s.pw.dev ≠ .off →
    takes s p 0x2410 2 (leBytes 4 (512 + v % 256 + 65536 * (v / 65536))) = true → 65536 ≤ v → v < 4294967296 →
    ∃ s', exec (.slotRelease t p v) s = .next s' ∧ keepsBut [.surf, .dict] (s.advance t) s' ∧ s'.dict.answer = abRange ∧
    s'.surf = { s.surf with result := 1 }) ∧
  (∀ (t v : Nat) (p : Path) (s : State), s.pw.dev ≠ .off → takes s p 0x2400 1 (leBytes 1 v) = true → v < 256 →
    (∀ k ∈ s.surf.slots, k.state ≠ 0 → k.base + k.size ≤ surfBytes - 65536 * v) →
    s.frm.queue.any (fun x => x.contd) = false → s.frm.cur.any (fun x => x.contd) = false → rising s.objs = true →
    ∃ s', exec (.cacheSizeWrite t p v) s = .next s' ∧ keepsBut [.objs, .comp, .dict] (s.advance t) s' ∧
    s'.dict.answer = 0 ∧ s'.objN 0x2400 1 = v ∧ s'.comp.cache = .empty ∧ s'.comp.cacheRun = none) ∧
  (∀ (t v : Nat) (p : Path) (s : State), s.pw.dev ≠ .off → takes s p 0x2400 1 (leBytes 1 v) = true → v < 256 →
    ((∃ k ∈ s.surf.slots, k.state ≠ 0 ∧
    surfBytes - 65536 * v < k.base + k.size) ∨ s.frm.queue.any (fun x => x.contd) = true ∨ s.frm.cur.any (fun x => x.contd) = true) →
    ∃ s', exec (.cacheSizeWrite t p v) s = .next s' ∧ keepsBut [.dict] (s.advance t) s' ∧ s'.dict.answer = abState) ∧
  (∀ (t : Nat) (p : Path) (n : Fin 32) (data : List Byte) (s : State), s.pw.dev ≠ .off →
    takes s p (0x2420 + n.val) 1 data = true →
    (data.length ≠ 514 ∨ leField data 512 2 < 256 ∨ leField data 512 2 = 65535) → (∀ k ∈ s.surf.slots, 0 < k.pins →
    (k.format = 4 ∨ k.format = 5) → k.palette ≠ n.val) → ∃ s', exec (.paletteWrite t p n data) s = .next s' ∧
    keepsBut [.surf, .comp, .dict] (s.advance t) s' ∧ s'.dict.answer = 0 ∧ paletteOf s' n.val = data ∧ (∀ m, m ≠ n.val →
    paletteOf s' m = paletteOf s m)) ∧
  (∀ (t : Nat) (p : Path) (n : Fin 32) (data : List Byte) (r : Run) (s : State), s.pw.dev ≠ .off →
    takes s p (0x2420 + n.val) 1 data = true → (leField data 512 2 < 256 ∨ leField data 512 2 = 65535) →
    (∀ k ∈ s.surf.slots, 0 < k.pins → (k.format = 4 ∨ k.format = 5) → k.palette ≠ n.val) → s.comp.cacheRun = some r →
    r.slots.any (fun m => ((slotOf s m).format = 4 || (slotOf s m).format = 5) && decide ((slotOf s m).palette = n.val)) = true →
    ∃ s', exec (.paletteWrite t p n data) s = .next s' ∧ keepsBut [.surf, .comp, .dict] (s.advance t) s' ∧
    s'.comp.cache = .empty ∧ s'.comp.cacheRun = none) ∧
  (∀ (t : Nat) (p : Path) (n : Fin 32) (data : List Byte) (s : State), s.pw.dev ≠ .off →
    takes s p (0x2420 + n.val) 1 data = true →
    (data.length ≠ 514 ∨ leField data 512 2 < 256 ∨ leField data 512 2 = 65535) → (∃ k ∈ s.surf.slots, 0 < k.pins ∧
    (k.format = 4 ∨ k.format = 5) ∧ k.palette = n.val) → ∃ s', exec (.paletteWrite t p n data) s = .next s' ∧
    keepsBut [.dict] (s.advance t) s' ∧ s'.dict.answer = abState) ∧
  (∀ (t : Nat) (p : Path) (n : Fin 32) (data : List Byte) (s : State), s.pw.dev ≠ .off →
    takes s p (0x2420 + n.val) 1 data = true → data.length = 514 → 256 ≤ leField data 512 2 →
    leField data 512 2 ≠ 65535 → ∃ s', exec (.paletteWrite t p n data) s = .next s' ∧
    keepsBut [.dict] (s.advance t) s' ∧ s'.dict.answer = abRange)

/-- FRAME_WRITE, FRAME_COMMIT, FRAME_WRITE_COMMIT and FRAME_DISCARD. Each clause: under its hypotheses on the state
and the operands exec answers a next state, in which no part of the state but those it lists differs from the state at
the command's instant, and there (1) WRITE places a descriptor in the shadow and is acknowledged with status 0 (R86,
R148); (2) a malformed one, but the third of its SEQ, which raises 0x12 too, is NACKed with cause 2 and does nothing
(R134, R156); (3) another packet, or one not for the engine, is none for it (R143, R148); (4) COMMIT without a shadow
descriptor is refused with NO_SHADOW, counted, and acknowledged so, the FRAME_SEQ of the answer and the recorded SEQ 0
(R88, R148; the two zeros the model's choice, logs 109 and 161); (5) one that fails a check of Table 3.4 is refused
with the code of the first, counted, recorded, and acknowledged with it (R87, R88); (6) so is one that fails a check
of the Square, with the item at fault (R88, R210); (7) one that passes joins the tail of the queue with its pins (R88,
R180); (8) a RETRY of an executed one is answered again, counted, and executes nothing (R156); (9) a malformed one,
but the third of its SEQ, which raises 0x12 too, is NACKed with cause 2 and does nothing (R134, R156); (10) another
packet, or one not for the engine, is none for it (R143, R148); (11) WRITE_COMMIT places its descriptor in the shadow
and commits it, here refused by the Square (R86, R88, R210); (12) here by a check of Table 3.4 (R87, R88); (13) and
here accepted (R86, R88); (14) a malformed one, but the third of its SEQ, which raises 0x12 too, is NACKed with cause
2 and does nothing (R134, R156); (15) another packet, or one not for the engine, is none for it (R143, R148); (16) one
that fails is counted, NACKed and does nothing (R155, R156); (17) DISCARD empties the shadow and is acknowledged with
the SEQ it held, or 0 (R86, R148; the 0 the model's choice, log 161); (18) a malformed one, but the third of its SEQ,
which raises 0x12 too, is NACKed with cause 2 and does nothing (R134, R156); (19) another packet, or one not for the
engine, is none for it (R143, R148). -/
def Obligations.FramePacketsAct : Prop :=
  (∀ (t : Nat) (k : Packet) (s : State), s.pw.dev ≠ .off → pktTakes s k = true → kTy k = 3 → kF k 0 1 = 1 →
    writeBad k = false → ∃ s', exec (.frameWrite t k) s = .next s' ∧ keepsBut [.fy, .mg, .frm] (s.advance t) s' ∧
    s'.frm = { s.frm with shadowDesc := some (writeDesc k) } ∧
    s'.fy.insert = s.fy.insert ++ [ackOf s k 0 (dF (writeDesc k) 0 4)] ∧ s'.fy.consumed = s.fy.consumed + 1) ∧
  (∀ (t : Nat) (k : Packet) (s : State), s.pw.dev ≠ .off → pktTakes s k = true → kTy k = 3 → kF k 0 1 = 1 →
    writeBad k = true → alook s.fy.nackFrame (kSeq k) 0 ≠ 2 → ∃ s', exec (.frameWrite t k) s = .next s' ∧
    keepsBut raiseBlks (s.advance t) s' ∧ s'.fy.nacksSent = s.fy.nacksSent + 1 ∧
    s'.fy.insert = s.fy.insert ++ [⟨1, 3, s.fy.address, kSeq k, padTo 16 ([0x82, 2] ++ leBytes 2 (kSeq k))⟩] ∧
    s'.frm.shadowDesc = s.frm.shadowDesc ∧ s'.frm.queue = s.frm.queue) ∧
  (∀ (t : Nat) (k : Packet) (s : State), s.pw.dev ≠ .off →
    (kTy k ≠ 3 ∨ kF k 0 1 ≠ 1 ∨ kHere s k = false ∨ consumes s k = false) → ∃ s', exec (.frameWrite t k) s = .next s' ∧
    keepsBut [] (s.advance t) s' ∧ s'.frm = s.frm ∧ s'.fy = s.fy) ∧
  (∀ (t : Nat) (k : Packet) (s : State), s.pw.dev ≠ .off → pktTakes s k = true → kTy k = 3 → kF k 0 1 = 2 →
    kZero k 1 k.payload.length = true → s.frm.shadowDesc = none → ∃ s', exec (.frameCommit t k) s = .next s' ∧
    keepsBut [.fy, .mg, .frm] (s.advance t) s' ∧
    s'.frm = { s.frm with rejectReason := 0x0C, rejectSeq := 0, refused := s.frm.refused + 1 } ∧
    s'.fy.insert = s.fy.insert ++ [ackOf s k 0x0C (0)] ∧ s'.fy.consumed = s.fy.consumed + 1) ∧
  (∀ (t c : Nat) (k : Packet) (raw : List Byte) (s : State), s.pw.dev ≠ .off → pktTakes s k = true → kTy k = 3 →
    kF k 0 1 = 2 → kZero k 1 k.payload.length = true → s.frm.shadowDesc = some raw → frameCheck (s.advance t) raw = c →
    c ≠ 0 → ∃ s', exec (.frameCommit t k) s = .next s' ∧ keepsBut [.fy, .mg, .frm] (s.advance t) s' ∧
    s'.frm = { s.frm with rejectReason := c, rejectSeq := dF raw 0 4, refused := s.frm.refused + 1 } ∧
    s'.fy.insert = s.fy.insert ++ [ackOf s k c (dF raw 0 4)] ∧ s'.fy.consumed = s.fy.consumed + 1) ∧
  (∀ (t c item : Nat) (k : Packet) (raw : List Byte) (s : State), s.pw.dev ≠ .off → pktTakes s k = true → kTy k = 3 →
    kF k 0 1 = 2 → kZero k 1 k.payload.length = true → s.frm.shadowDesc = some raw → frameCheck (s.advance t) raw = 0 →
    squareCheck s raw = some (c, item) → ∃ s', exec (.frameCommit t k) s = .next s' ∧
    keepsBut [.fy, .mg, .frm, .comp] (s.advance t) s' ∧
    s'.frm = { s.frm with rejectReason := c, rejectSeq := dF raw 0 4, refused := s.frm.refused + 1 } ∧
    s'.comp.rejectLayer = item ∧ s'.fy.insert = s.fy.insert ++ [ackOf s k c (dF raw 0 4)] ∧
    s'.fy.consumed = s.fy.consumed + 1) ∧
  (∀ (t : Nat) (k : Packet) (raw : List Byte) (s : State), s.pw.dev ≠ .off → pktTakes s k = true → kTy k = 3 →
    kF k 0 1 = 2 → kZero k 1 k.payload.length = true → s.frm.shadowDesc = some raw → frameCheck (s.advance t) raw = 0 →
    squareCheck s raw = none → ∃ s', exec (.frameCommit t k) s = .next s' ∧
    keepsBut [.fy, .mg, .frm, .comp, .surf] (s.advance t) s' ∧
    s'.frm = { s.frm with queue := s.frm.queue ++ [acceptDesc raw s], lastSeq := some (dF raw 0 4) } ∧
    s'.surf = ((descSlots raw).foldl (fun s n => takePin n s) s).surf ∧
    s'.fy.insert = s.fy.insert ++ [ackOf s k 0 (dF raw 0 4)] ∧ s'.fy.consumed = s.fy.consumed + 1) ∧
  (∀ (t : Nat) (k : Packet) (p : List Byte) (s : State), s.pw.dev ≠ .off → kHere s k = true → consumes s k = true →
    s.pw.exiting = false → queueFree s = true → kTy k = 3 → kF k 0 1 = 2 → kPass k = true → kRetry k = true →
    afind s.fy.nackFrame (kSeq k) = none → afind s.fy.doneFrame (kSeq k) = some p → p ≠ [] →
    ∃ s', exec (.frameCommit t k) s = .next s' ∧ keepsBut [.fy, .mg] (s.advance t) s' ∧
    s'.fy = { s.fy with duplicates := s.fy.duplicates + 1, insert := s.fy.insert ++ [⟨1, 3, s.fy.address, kSeq k, padTo (16 * ((p.length + 15) / 16)) p⟩] }) ∧
  (∀ (t : Nat) (k : Packet) (s : State), s.pw.dev ≠ .off → pktTakes s k = true → kTy k = 3 → kF k 0 1 = 2 →
    kZero k 1 k.payload.length = false → alook s.fy.nackFrame (kSeq k) 0 ≠ 2 →
    ∃ s', exec (.frameCommit t k) s = .next s' ∧ keepsBut raiseBlks (s.advance t) s' ∧
    s'.fy.nacksSent = s.fy.nacksSent + 1 ∧
    s'.fy.insert = s.fy.insert ++ [⟨1, 3, s.fy.address, kSeq k, padTo 16 ([0x82, 2] ++ leBytes 2 (kSeq k))⟩] ∧
    s'.frm.shadowDesc = s.frm.shadowDesc ∧ s'.frm.queue = s.frm.queue) ∧
  (∀ (t : Nat) (k : Packet) (s : State), s.pw.dev ≠ .off →
    (kTy k ≠ 3 ∨ kF k 0 1 ≠ 2 ∨ kHere s k = false ∨ consumes s k = false) → ∃ s', exec (.frameCommit t k) s = .next s' ∧
    keepsBut [] (s.advance t) s' ∧ s'.frm = s.frm ∧ s'.fy = s.fy) ∧
  (∀ (t c item : Nat) (k : Packet) (s : State), s.pw.dev ≠ .off → pktTakes s k = true → kTy k = 3 → kF k 0 1 = 3 →
    writeBad k = false → frameCheck (s.advance t) (writeDesc k) = 0 → squareCheck s (writeDesc k) = some (c, item) →
    ∃ s', exec (.frameWriteCommit t k) s = .next s' ∧ keepsBut [.fy, .mg, .frm, .comp] (s.advance t) s' ∧
    s'.frm = { s.frm with shadowDesc := some (writeDesc k), rejectReason := c, rejectSeq := dF (writeDesc k) 0 4, refused := s.frm.refused + 1 } ∧
    s'.comp.rejectLayer = item ∧ s'.fy.insert = s.fy.insert ++ [ackOf s k c (dF (writeDesc k) 0 4)] ∧
    s'.fy.consumed = s.fy.consumed + 1) ∧
  (∀ (t c : Nat) (k : Packet) (s : State), s.pw.dev ≠ .off → pktTakes s k = true → kTy k = 3 → kF k 0 1 = 3 →
    writeBad k = false → frameCheck (s.advance t) (writeDesc k) = c → c ≠ 0 →
    ∃ s', exec (.frameWriteCommit t k) s = .next s' ∧ keepsBut [.fy, .mg, .frm] (s.advance t) s' ∧
    s'.frm = { s.frm with shadowDesc := some (writeDesc k), rejectReason := c, rejectSeq := dF (writeDesc k) 0 4, refused := s.frm.refused + 1 } ∧
    s'.fy.insert = s.fy.insert ++ [ackOf s k c (dF (writeDesc k) 0 4)] ∧ s'.fy.consumed = s.fy.consumed + 1) ∧
  (∀ (t : Nat) (k : Packet) (s : State), s.pw.dev ≠ .off → pktTakes s k = true → kTy k = 3 → kF k 0 1 = 3 →
    writeBad k = false → frameCheck (s.advance t) (writeDesc k) = 0 → squareCheck s (writeDesc k) = none →
    ∃ s', exec (.frameWriteCommit t k) s = .next s' ∧ keepsBut [.fy, .mg, .frm, .comp, .surf] (s.advance t) s' ∧
    s'.frm = { s.frm with shadowDesc := some (writeDesc k), queue := s.frm.queue ++ [acceptDesc (writeDesc k) s], lastSeq := some (dF (writeDesc k) 0 4) } ∧
    s'.fy.insert = s.fy.insert ++ [ackOf s k 0 (dF (writeDesc k) 0 4)] ∧ s'.fy.consumed = s.fy.consumed + 1) ∧
  (∀ (t : Nat) (k : Packet) (s : State), s.pw.dev ≠ .off → pktTakes s k = true → kTy k = 3 → kF k 0 1 = 3 →
    writeBad k = true → alook s.fy.nackFrame (kSeq k) 0 ≠ 2 → ∃ s', exec (.frameWriteCommit t k) s = .next s' ∧
    keepsBut raiseBlks (s.advance t) s' ∧ s'.fy.nacksSent = s.fy.nacksSent + 1 ∧
    s'.fy.insert = s.fy.insert ++ [⟨1, 3, s.fy.address, kSeq k, padTo 16 ([0x82, 2] ++ leBytes 2 (kSeq k))⟩] ∧
    s'.frm.shadowDesc = s.frm.shadowDesc ∧ s'.frm.queue = s.frm.queue) ∧
  (∀ (t : Nat) (k : Packet) (s : State), s.pw.dev ≠ .off →
    (kTy k ≠ 3 ∨ kF k 0 1 ≠ 3 ∨ kHere s k = false ∨ consumes s k = false) →
    ∃ s', exec (.frameWriteCommit t k) s = .next s' ∧ keepsBut [] (s.advance t) s' ∧ s'.frm = s.frm ∧ s'.fy = s.fy) ∧
  (∀ (t : Nat) (k : Packet) (s : State), s.pw.dev ≠ .off → kHere s k = true → consumes s k = true →
    s.pw.exiting = false → queueFree s = true → kTy k = 3 → kPass k = false → kF k 0 1 = 3 →
    alook s.fy.nackFrame (kSeq k) 0 + 1 < 3 → ∃ s', exec (.frameWriteCommit t k) s = .next s' ∧
    keepsBut [.fy, .mg, .saf] (s.advance t) s' ∧ s'.fy.nacksSent = s.fy.nacksSent + 1 ∧
    s'.fy.crcErrors + s'.fy.crcPassed = s.fy.crcErrors + s.fy.crcPassed + 1 ∧ s'.frm = s.frm) ∧
  (∀ (t : Nat) (k : Packet) (s : State), s.pw.dev ≠ .off → pktTakes s k = true → kTy k = 3 → kF k 0 1 = 4 →
    kZero k 1 k.payload.length = true → ∃ s', exec (.frameDiscard t k) s = .next s' ∧
    keepsBut [.fy, .mg, .frm] (s.advance t) s' ∧ s'.frm = { s.frm with shadowDesc := none } ∧
    s'.fy.insert = s.fy.insert ++ [ackOf s k 0 (match s.frm.shadowDesc with | some raw => dF raw 0 4 | none => 0)] ∧
    s'.fy.consumed = s.fy.consumed + 1) ∧
  (∀ (t : Nat) (k : Packet) (s : State), s.pw.dev ≠ .off → pktTakes s k = true → kTy k = 3 → kF k 0 1 = 4 →
    kZero k 1 k.payload.length = false → alook s.fy.nackFrame (kSeq k) 0 ≠ 2 →
    ∃ s', exec (.frameDiscard t k) s = .next s' ∧ keepsBut raiseBlks (s.advance t) s' ∧
    s'.fy.nacksSent = s.fy.nacksSent + 1 ∧
    s'.fy.insert = s.fy.insert ++ [⟨1, 3, s.fy.address, kSeq k, padTo 16 ([0x82, 2] ++ leBytes 2 (kSeq k))⟩] ∧
    s'.frm.shadowDesc = s.frm.shadowDesc ∧ s'.frm.queue = s.frm.queue) ∧
  (∀ (t : Nat) (k : Packet) (s : State), s.pw.dev ≠ .off →
    (kTy k ≠ 3 ∨ kF k 0 1 ≠ 4 ∨ kHere s k = false ∨ consumes s k = false) →
    ∃ s', exec (.frameDiscard t k) s = .next s' ∧ keepsBut [] (s.advance t) s' ∧ s'.frm = s.frm ∧ s'.fy = s.fy)

/-- MODE_COMMIT, an accepted write of frame.mode_commit, and RETIMING_END. GATE_WINDOW_OPEN and GATE_WINDOW_CLOSE.
Each clause: under its hypotheses on the state and the operands exec answers a next state, in which no part of the
state but those it lists differs from the state at the command's instant, and there (1) a mode that passes every check
of Table 3.1 is pending, retiming if its rate or subframes differ from those in force, the forced pulses then gone,
and marked as committed after the snapshot of a boundary whose window is open (R73, R74, R75, R76); (2) a mode that
fails leaves the reason and nothing else (R73); (3) the end of retiming ends the hold (R75); (4) the window of a
boundary with nothing queued takes the snapshot of a repeat, and drive words are held (R24, R44, R90); (5) with an
untimed head that is complete it takes that of a new frame (R24, R90); (6) the window of a subframe takes K and the
shed set in force and the plane of the rules under the mask set known in time (R24, R53, R227); (7) in LIMP it takes
the plane of the limp beam, or the one in force before its first launch (R97); (8) that of the start of a
maskable-only off-window has its plane under rule 7 (R53, R77, R227); (9) that of its end without it (R53, R77, R227);
(10) that of a probe slot's start has the plane of its pattern (R53, R81, R227); (11) a single error in a word of the
pattern poisons nothing (R163); (12) that of its end has the plane of the rules again (R53, R81, R227); (13) no window
opens before the launch of the one before, nor in HOLD or DARK without a return, nor out of READY and LIT (R79, R97);
(14) at its closing the shadow gate bits hold the plane of the snapshot (R21); (15) with no window open none closes
(R21). -/
def Obligations.WindowsOpenAndClose : Prop :=
  (∀ (t v : Nat) (p : Path) (s : State), s.pw.dev ≠ .off → takes s p 0x2104 3 (leBytes 1 v) = true →
    modeCheck s (modeShadow s) = 0 → ∃ s', exec (.modeCommit t p v) s = .next s' ∧
    keepsBut [.frm, .diag, .dict] (s.advance t) s' ∧ s'.dict.answer = 0 ∧
    s'.frm = { s.frm with pend := some (modeShadow s), retiming := decide ((modeShadow s).rate ≠ s.frm.mode.rate) || decide ((modeShadow s).subframes ≠ s.frm.mode.subframes), modeNew := s.frm.snap.any (fun x => x.kind == .boundary) } ∧
    s'.diag = { s.diag with pulses := if (modeShadow s).rate ≠ s.frm.mode.rate ∨ (modeShadow s).subframes ≠ s.frm.mode.subframes then [] else s.diag.pulses }) ∧
  (∀ (t v c : Nat) (p : Path) (s : State), s.pw.dev ≠ .off → takes s p 0x2104 3 (leBytes 1 v) = true →
    modeCheck s (modeShadow s) = c → c ≠ 0 → ∃ s', exec (.modeCommit t p v) s = .next s' ∧
    keepsBut [.frm, .dict] (s.advance t) s' ∧ s'.dict.answer = 0 ∧ s'.frm = { s.frm with modeReason := c }) ∧
  (∀ (t : Nat) (s : State), s.pw.dev ≠ .off → ∃ s', exec (.retimingEnd t) s = .next s' ∧
    keepsBut [.frm] (s.advance t) s' ∧ s'.frm = { s.frm with retiming := false }) ∧
  (∀ (t a : Nat) (ecc : List (Nat × Nat)) (s : State), s.pw.dev ≠ .off → scheduleRuns s = true → hostBeam s = true →
    s.saf.pendingReturn = false → s.frm.snap = none → s.frm.queue = [] → s.quay.repeatCur = false →
    ∃ s', exec (.gateWindowOpen t .boundary a ecc) s = .next s' ∧ keepsBut launchBlks (s.advance t) s' ∧
    (∃ x, s'.frm.snap = some x ∧ x.kind = .boundary ∧ x.at_ = a ∧ x.new = false ∧ x.pops = false ∧
    x.flags = 1 + (if s.frm.pend.isSome = true ∧ s.frm.retiming = true then 16 else 0)) ∧ s'.frm.windowOpen = true ∧
    s'.frm.held = true) ∧
  (∀ (t a : Nat) (ecc : List (Nat × Nat)) (q : Desc) (rest : List Desc) (s : State), s.pw.dev ≠ .off →
    scheduleRuns s = true → hostBeam s = true → s.saf.pendingReturn = false → s.frm.snap = none →
    s.frm.queue = q :: rest → s.quay.repeatCur = false → dTimed q.raw = false → q.missed = false → headDone s = true →
    (s.frm.pend.isSome = false ∨ s.frm.retiming = false) → ∃ s', exec (.gateWindowOpen t .boundary a ecc) s = .next s' ∧
    keepsBut launchBlks (s.advance t) s' ∧ (∃ x, s'.frm.snap = some x ∧ x.kind = .boundary ∧ x.at_ = a ∧ x.new = true ∧
    x.pops = true ∧ x.flags = 0) ∧ s'.frm.windowOpen = true ∧ s'.frm.held = true) ∧
  (∀ (t a i : Nat) (ecc : List (Nat × Nat)) (s : State), s.pw.dev ≠ .off → scheduleRuns s = true → hostBeam s = true →
    s.frm.snap = none → 1 ≤ i → i < s.frm.mode.subframes → s.frm.queue = [] →
    ∃ s', exec (.gateWindowOpen t (.subframe i) a ecc) s = .next s' ∧ keepsBut [.frm, .mask] (s.advance t) s' ∧
    s'.frm.windowOpen = true ∧ s'.frm.held = true ∧ (∃ x, s'.frm.snap = some x ∧ x.kind = .subframe i ∧ x.at_ = a ∧
    x.k = s.arr.k ∧ x.shed = s.arr.shed ∧ x.plane = planeNow (maskTake a (s.advance t)) false)) ∧
  (∀ (t a i : Nat) (ecc : List (Nat × Nat)) (s : State), s.pw.dev ≠ .off → active s = true → s.saf.state = .limp →
    s.frm.snap = none → 1 ≤ i → i < s.frm.mode.subframes →
    ∃ s', exec (.gateWindowOpen t (.subframe i) a ecc) s = .next s' ∧ keepsBut [.frm] (s.advance t) s' ∧
    s'.frm.windowOpen = true ∧ s'.frm.held = true ∧ (∃ x, s'.frm.snap = some x ∧ x.kind = .subframe i ∧ x.at_ = a ∧
    x.k = s.arr.k ∧ x.shed = s.arr.shed ∧ x.plane = planeNow s false)) ∧
  (∀ (t a : Nat) (w : Nat) (ecc : List (Nat × Nat)) (s : State), s.pw.dev ≠ .off → scheduleRuns s = true →
    hostBeam s = true → s.frm.snap = none → placed s w = true → isWhole s.frm.mode w = false →
    ∃ s', exec (.gateWindowOpen t (.offStart w) a ecc) s = .next s' ∧ keepsBut [.frm, .mask] (s.advance t) s' ∧
    s'.frm.windowOpen = true ∧ s'.frm.held = true ∧ (∃ x, s'.frm.snap = some x ∧ x.kind = .offStart w ∧ x.at_ = a ∧
    x.k = s.arr.k ∧ x.shed = s.arr.shed ∧ x.plane = planeNow (maskTake a (s.advance t)) true)) ∧
  (∀ (t a : Nat) (w : Nat) (ecc : List (Nat × Nat)) (s : State), s.pw.dev ≠ .off → scheduleRuns s = true →
    hostBeam s = true → s.frm.snap = none → placed s w = true → isWhole s.frm.mode w = false →
    ∃ s', exec (.gateWindowOpen t (.offEnd w) a ecc) s = .next s' ∧ keepsBut [.frm, .mask] (s.advance t) s' ∧
    s'.frm.windowOpen = true ∧ s'.frm.held = true ∧ (∃ x, s'.frm.snap = some x ∧ x.kind = .offEnd w ∧ x.at_ = a ∧
    x.k = s.arr.k ∧ x.shed = s.arr.shed ∧ x.plane = planeNow (maskTake a (s.advance t)) false)) ∧
  (∀ (t a : Nat) (q : Nat) (s : State), s.pw.dev ≠ .off → scheduleRuns s = true → hostBeam s = true →
    s.frm.snap = none → placed s (4 + q) = true → ∃ s', exec (.gateWindowOpen t (.probeStart q) a []) s = .next s' ∧
    keepsBut [.frm, .mask] (s.advance t) s' ∧ s'.frm.windowOpen = true ∧ s'.frm.held = true ∧
    (∃ x, s'.frm.snap = some x ∧ x.kind = .probeStart q ∧ x.at_ = a ∧ x.k = s.arr.k ∧ x.shed = s.arr.shed ∧
    x.plane = planeProbe s (probeSlot s q))) ∧
  (∀ (t a : Nat) (q : Nat) (ecc : List (Nat × Nat)) (s : State), s.pw.dev ≠ .off → scheduleRuns s = true →
    hostBeam s = true → s.frm.snap = none → placed s (4 + q) = true → (∀ e ∈ ecc, e.2 ≤ 1) →
    ∃ s', exec (.gateWindowOpen t (.probeStart q) a ecc) s = .next s' ∧ keepsBut [.frm, .mask, .surf] (s.advance t) s' ∧
    s'.frm.windowOpen = true ∧ s'.frm.held = true ∧ s'.surf.poison = s.surf.poison) ∧
  (∀ (t a : Nat) (q : Nat) (ecc : List (Nat × Nat)) (s : State), s.pw.dev ≠ .off → scheduleRuns s = true →
    hostBeam s = true → s.frm.snap = none → placed s (4 + q) = true →
    ∃ s', exec (.gateWindowOpen t (.probeEnd q) a ecc) s = .next s' ∧ keepsBut [.frm, .mask] (s.advance t) s' ∧
    s'.frm.windowOpen = true ∧ s'.frm.held = true ∧ (∃ x, s'.frm.snap = some x ∧ x.kind = .probeEnd q ∧ x.at_ = a ∧
    x.k = s.arr.k ∧ x.shed = s.arr.shed ∧ x.plane = planeNow (maskTake a (s.advance t)) false)) ∧
  (∀ (t a : Nat) (k : GateKind) (ecc : List (Nat × Nat)) (s : State), s.pw.dev ≠ .off →
    (scheduleRuns s = false ∨ s.frm.snap.isSome = true) → ∃ s', exec (.gateWindowOpen t k a ecc) s = .next s' ∧
    keepsBut [] (s.advance t) s' ∧ s'.frm = s.frm) ∧
  (∀ (t : Nat) (x : Snap) (s : State), s.pw.dev ≠ .off → s.frm.snap = some x → s.frm.windowOpen = true →
    ∃ s', exec (.gateWindowClose t) s = .next s' ∧ keepsBut [.frm, .arr] (s.advance t) s' ∧
    s'.frm = { s.frm with windowOpen := false } ∧ s'.arr = { s.arr with gateShadow := x.plane }) ∧
  (∀ (t : Nat) (s : State), s.pw.dev ≠ .off → s.frm.windowOpen = false →
    ∃ s', exec (.gateWindowClose t) s = .next s' ∧ keepsBut [] (s.advance t) s' ∧ s'.frm = s.frm ∧ s'.arr = s.arr)

/-- GATE_LAUNCH and FRAME_LAUNCH. OFFWIN_START, OFFWIN_END, PROBE_SLOT_START, PROBE_SLOT_END, PROBE_PAUSE,
CALIBRATION_CLAIM and RAMP_TAIL. Each clause: under its hypotheses on the state and the operands exec answers a next
state, in which no part of the state but those it lists differs from the state at the command's instant, and there (1)
a subframe launch copies every shadow gate bit, an all-zero plane where no light may be emitted and none under the
hold lines, and starts the ramp of its subframe (R23, R43, R46, R71); (2) in HOLD and DARK it is void (R97); (3)
before its window has closed there is none, and a boundary is no such launch (R43); (4) a frame launch in HOLD or DARK
is void unless it is that of the return (R97); (5) before its window has closed there is none (R43); (6) a repeat
keeps the words, the queue and the frame in force, and starts subframe 0 under the mode, the lengths in ticks of the
source in use, and the K of its snapshot; the plane is copied, or a safety state that the launch itself raises clears
it (R43, R46, R71, R90, R96); (7) that of a new frame makes the words loaded the active ones and the head the frame in
force with its SEQ, and releases the pins of the frame before (R43, R89, R90, R182); (8) that of a reload of the frame
in force leaves the queue, a descriptor committed since the window opened included (R90, R249); (9) the first launch
in LIMP whose snapshot has the limp beam loaded makes its words the active ones and releases the hold lines (R394);
(10) a launch that LIMP has overtaken is a repeat that changes no word and no gate bit, unless a safety state that it
raises clears them (R97); (11) the launch of a return takes the target state, unless it raises a higher one itself,
with the words of the reload (R392); (12) a whole-array off-window pauses the ramp from its start, a ramp in TAIL
apart (R46, R77); (13) a maskable-only one launches its plane, and the ramp runs on (R23, R43, R77); (14) one that is
not placed, or in LIMP, HOLD or DARK, does not begin (R77, R97); (15) its end lets the ramp run on, or be in TAIL
where its steps are done, but not inside a calibration claim, whose PAUSE lasts (R46, R77, R84); (16) a ramp in TAIL
stays so (R46); (17) the end of a maskable-only one launches its plane (R43, R77); (18) one that has not begun does
not end (R77); (19) a probe slot launches its plane with the ramp in FORCE (R43, R46, R81); (20) without its window it
does not begin (R43, R97); (21) its end launch restores the plane, and the ramp goes on as after an off-window (R43,
R46, R81, R84); (22) without its window it does not end (R43); (23) one shorter than 56 µs is in PAUSE from its end to
its end launch (R82); (24) a longer one is not (R82); (25) a calibration claim begins in the last subframe and pauses
the ramp (R84); (26) a ramp in TAIL stays so (R46, R84); (27) in a frame without one, in LIMP, or earlier in the
frame, it does not begin (R84, R97); (28) at step 8192 the ramp is in TAIL (R46); (29) before it, it is not (R46). -/
def Obligations.LaunchesAndItems : Prop :=
  (∀ (t i : Nat) (x : Snap) (s : State), s.pw.dev ≠ .off → s.frm.snap = some x → x.kind = .subframe i →
    s.frm.windowOpen = false → active s = true → s.saf.state.code ≤ 2 → ∃ s', exec (.gateLaunch t) s = .next s' ∧
    keepsBut [.frm, .arr, .diag, .mask, .meas] (s.advance t) s' ∧
    s'.arr.gate = (if s.saf.holdN = true then s.arr.gate else if lightOn s = true then s.arr.gateShadow else .zero) ∧
    s'.arr.active = s.arr.active ∧ s'.frm.sub = i ∧ s'.frm.snap = none ∧ s'.frm.held = false ∧ s'.arr.ramp = .run ∧
    s'.arr.rampTicks = 0 ∧ s'.arr.u = subLen s.frm.fPrime s.frm.mode.subframes i ∧ s'.arr.k = s.arr.k) ∧
  (∀ (t : Nat) (x : Snap) (s : State), s.pw.dev ≠ .off → s.frm.snap = some x → x.kind ≠ .boundary →
    s.frm.windowOpen = false → (active s = false ∨ 2 < s.saf.state.code) → ∃ s', exec (.gateLaunch t) s = .next s' ∧
    keepsBut [.frm] (s.advance t) s' ∧ s'.frm = { s.frm with snap := none, held := false }) ∧
  (∀ (t : Nat) (s : State), s.pw.dev ≠ .off → (∀ x ∈ s.frm.snap, s.frm.windowOpen = true ∨ x.kind = .boundary) →
    ∃ s', exec (.gateLaunch t) s = .next s' ∧ keepsBut [] (s.advance t) s' ∧ s'.frm = s.frm ∧ s'.arr = s.arr) ∧
  (∀ (t : Nat) (x : Snap) (s : State), s.pw.dev ≠ .off → s.frm.snap = some x → s.frm.windowOpen = false →
    (scheduleRuns s = false ∨ (2 < s.saf.state.code ∧ x.ret = false)) → ∃ s', exec (.frameLaunch t) s = .next s' ∧
    keepsBut [.frm] (s.advance t) s' ∧
    s'.frm = (if x.kind = .boundary then { s.frm with snap := none, held := false } else s.frm)) ∧
  (∀ (t : Nat) (s : State), s.pw.dev ≠ .off → (∀ x ∈ s.frm.snap, s.frm.windowOpen = true ∨ x.kind ≠ .boundary) →
    ∃ s', exec (.frameLaunch t) s = .next s' ∧ keepsBut [] (s.advance t) s' ∧ s'.frm = s.frm ∧ s'.arr = s.arr) ∧
  (∀ (t : Nat) (x : Snap) (s : State), s.pw.dev ≠ .off → s.frm.snap = some x → x.kind = .boundary →
    s.frm.windowOpen = false → x.new = false → x.ret = false → x.back = false → x.limp = false → scheduleRuns s = true →
    hostBeam s = true → ∃ s', exec (.frameLaunch t) s = .next s' ∧ keepsBut launchBlks (s.advance t) s' ∧
    s'.arr.active = s.arr.active ∧ s'.frm.queue = s.frm.queue ∧ s'.frm.cur = s.frm.cur ∧
    s'.frm.launchedSeq = s.frm.launchedSeq ∧ s'.frm.mode = x.mode ∧ s'.frm.fPrime = (rescale s x).fPrime ∧
    s'.frm.frameAt = (s.advance t).now ∧ s'.frm.sub = 0 ∧ s'.frm.flags = x.flags ∧ s'.arr.k = x.k ∧ s'.arr.ramp = .run ∧
    s'.arr.u = subLen (rescale s x).fPrime x.mode.subframes 0 ∧ s'.frm.snap = none ∧
    (s'.arr.gate = .zero ∨ s'.arr.gate = (if s.saf.holdN = true then s.arr.gate else if lightOn s = true then s.arr.gateShadow else .zero))) ∧
  (∀ (t : Nat) (x : Snap) (d : Desc) (rest : List Desc) (s : State), s.pw.dev ≠ .off → s.frm.snap = some x →
    x.kind = .boundary → s.frm.windowOpen = false → x.new = true → x.pops = true → x.ret = false → x.back = false →
    x.limp = false → scheduleRuns s = true → hostBeam s = true → s.frm.queue = d :: rest →
    ∃ s', exec (.frameLaunch t) s = .next s' ∧ keepsBut launchBlks (s.advance t) s' ∧ s'.arr.active = s.arr.shadow ∧
    s'.frm.queue = rest ∧ s'.frm.cur = some d ∧ s'.frm.launchedSeq = d.seq ∧
    (∀ o ∈ s.frm.cur, s'.surf.retiredSeq = o.seq) ∧ s'.comp.job = none ∧ s'.frm.mode = x.mode ∧
    s'.frm.fPrime = (rescale s x).fPrime ∧ s'.frm.frameAt = (s.advance t).now ∧ s'.frm.sub = 0 ∧
    s'.frm.flags = x.flags ∧ s'.arr.k = x.k ∧ s'.arr.ramp = .run ∧
    s'.arr.u = subLen (rescale s x).fPrime x.mode.subframes 0 ∧ s'.frm.snap = none ∧
    (s'.arr.gate = .zero ∨ s'.arr.gate = (if s.saf.holdN = true then s.arr.gate else if lightOn s = true then s.arr.gateShadow else .zero))) ∧
  (∀ (t : Nat) (x : Snap) (s : State), s.pw.dev ≠ .off → s.frm.snap = some x → x.kind = .boundary →
    s.frm.windowOpen = false → x.new = true → x.pops = false → x.ret = false → x.back = false → x.limp = false →
    scheduleRuns s = true → hostBeam s = true → ∃ s', exec (.frameLaunch t) s = .next s' ∧
    keepsBut launchBlks (s.advance t) s' ∧ s'.arr.active = s.arr.shadow ∧ s'.frm.queue = s.frm.queue ∧
    s'.frm.cur = s.frm.cur ∧ s'.frm.launchedSeq = s.frm.launchedSeq ∧ s'.frm.mode = x.mode ∧
    s'.frm.fPrime = (rescale s x).fPrime ∧ s'.frm.frameAt = (s.advance t).now ∧ s'.frm.sub = 0 ∧
    s'.frm.flags = x.flags ∧ s'.arr.k = x.k ∧ s'.arr.ramp = .run ∧
    s'.arr.u = subLen (rescale s x).fPrime x.mode.subframes 0 ∧ s'.frm.snap = none) ∧
  (∀ (t : Nat) (x : Snap) (s : State), s.pw.dev ≠ .off → s.frm.snap = some x → x.kind = .boundary →
    s.frm.windowOpen = false → x.limp = true → x.loaded = true → x.new = false → x.ret = false → x.back = false →
    active s = true → s.saf.state = .limp → s.saf.limpLaunched = false → ∃ s', exec (.frameLaunch t) s = .next s' ∧
    keepsBut launchBlks (s.advance t) s' ∧ s'.saf.limpLaunched = true ∧ s'.arr.active = s.arr.shadow ∧
    s'.frm.cur = s.frm.cur ∧ s'.frm.snap = none ∧ (s'.saf.state = .limp → s'.saf.holdN = false ∧ s'.saf.holdS = false)) ∧
  (∀ (t : Nat) (x : Snap) (s : State), s.pw.dev ≠ .off → s.frm.snap = some x → x.kind = .boundary →
    s.frm.windowOpen = false → x.limp = false → x.ret = false → x.back = false → active s = true → s.saf.state = .limp →
    ∃ s', exec (.frameLaunch t) s = .next s' ∧ keepsBut launchBlks (s.advance t) s' ∧ s'.arr.active = s.arr.active ∧
    (s'.arr.gate = s.arr.gate ∨ s'.arr.gate = .zero) ∧ s'.frm.queue = s.frm.queue ∧ s'.frm.cur = s.frm.cur ∧
    bitOf s'.frm.flags 0 = true ∧ s'.frm.snap = none) ∧
  (∀ (t : Nat) (x : Snap) (s : State), s.pw.dev ≠ .off → s.frm.snap = some x → x.kind = .boundary →
    s.frm.windowOpen = false → x.ret = true → x.new = true → x.limp = false → x.back = false → scheduleRuns s = true →
    s.saf.pendingReturn = true → targetClass s ≤ 1 → ∃ s', exec (.frameLaunch t) s = .next s' ∧
    keepsBut launchBlks (s.advance t) s' ∧ s'.arr.active = s.arr.shadow ∧ s'.saf.pendingReturn = false ∧
    (s'.saf.state.code ≤ 1 → s'.saf.state = Safety.ofClass (targetClass s) ∨ s'.saf.state = .degraded)) ∧
  (∀ (t : Nat) (w : Fin 4) (s : State), s.pw.dev ≠ .off → placed s w.val = true → scheduleRuns s = true →
    hostBeam s = true → isWhole s.frm.mode w.val = true → ∃ s', exec (.offwinStart t w) s = .next s' ∧
    keepsBut [.frm, .arr] (s.advance t) s' ∧ s'.frm = { s.frm with inItem := some (.offStart w.val) } ∧
    s'.arr.ramp = (if s.arr.ramp = .tail then .tail else .pause) ∧ s'.arr.gate = s.arr.gate) ∧
  (∀ (t : Nat) (w : Fin 4) (x : Snap) (s : State), s.pw.dev ≠ .off → placed s w.val = true → scheduleRuns s = true →
    hostBeam s = true → isWhole s.frm.mode w.val = false → s.frm.snap = some x → x.kind = .offStart w.val →
    s.frm.windowOpen = false → ∃ s', exec (.offwinStart t w) s = .next s' ∧
    keepsBut [.frm, .arr, .mask, .meas] (s.advance t) s' ∧
    s'.arr.gate = (if s.saf.holdN = true then s.arr.gate else if lightOn s = true then s.arr.gateShadow else .zero) ∧
    s'.frm.inItem = some (.offStart w.val) ∧ s'.frm.snap = none ∧ s'.arr.ramp = s.arr.ramp) ∧
  (∀ (t : Nat) (w : Fin 4) (s : State), s.pw.dev ≠ .off →
    (placed s w.val = false ∨ scheduleRuns s = false ∨ hostBeam s = false) →
    ∃ s', exec (.offwinStart t w) s = .next s' ∧ keepsBut [] (s.advance t) s' ∧ s'.frm = s.frm ∧ s'.arr = s.arr) ∧
  (∀ (t : Nat) (w : Fin 4) (s : State), s.pw.dev ≠ .off → s.frm.inItem = some (.offStart w.val) →
    scheduleRuns s = true → isWhole s.frm.mode w.val = true → s.arr.ramp = .pause →
    ∃ s', exec (.offwinEnd t w) s = .next s' ∧ keepsBut [.frm, .arr] (s.advance t) s' ∧
    s'.frm = { s.frm with inItem := none } ∧
    s'.arr.ramp = (if s.frm.claiming = true then .pause else if rampEnd s ≤ s.arr.rampTicks then .tail else .run) ∧
    s'.arr.rampTicks = s.arr.rampTicks) ∧
  (∀ (t : Nat) (w : Fin 4) (s : State), s.pw.dev ≠ .off → s.frm.inItem = some (.offStart w.val) →
    scheduleRuns s = true → isWhole s.frm.mode w.val = true → s.arr.ramp ≠ .pause →
    ∃ s', exec (.offwinEnd t w) s = .next s' ∧ keepsBut [.frm] (s.advance t) s' ∧
    s'.frm = { s.frm with inItem := none }) ∧
  (∀ (t : Nat) (w : Fin 4) (x : Snap) (s : State), s.pw.dev ≠ .off → s.frm.inItem = some (.offStart w.val) →
    active s = true → s.saf.state.code ≤ 2 → isWhole s.frm.mode w.val = false → s.frm.snap = some x →
    x.kind = .offEnd w.val → s.frm.windowOpen = false → ∃ s', exec (.offwinEnd t w) s = .next s' ∧
    keepsBut [.frm, .arr, .mask, .meas] (s.advance t) s' ∧
    s'.arr.gate = (if s.saf.holdN = true then s.arr.gate else if lightOn s = true then s.arr.gateShadow else .zero) ∧
    s'.frm.inItem = none ∧ s'.frm.snap = none ∧ s'.arr.ramp = s.arr.ramp) ∧
  (∀ (t : Nat) (w : Fin 4) (s : State), s.pw.dev ≠ .off →
    (s.frm.inItem ≠ some (.offStart w.val) ∨ scheduleRuns s = false) → ∃ s', exec (.offwinEnd t w) s = .next s' ∧
    keepsBut [] (s.advance t) s' ∧ s'.frm = s.frm ∧ s'.arr = s.arr) ∧
  (∀ (t : Nat) (q : Fin 2) (x : Snap) (s : State), s.pw.dev ≠ .off → active s = true → s.saf.state.code ≤ 2 →
    s.frm.snap = some x → x.kind = .probeStart q.val → s.frm.windowOpen = false →
    ∃ s', exec (.probeSlotStart t q) s = .next s' ∧ keepsBut [.frm, .arr, .mask, .meas] (s.advance t) s' ∧
    s'.arr.gate = (if s.saf.holdN = true then s.arr.gate else if lightOn s = true then s.arr.gateShadow else .zero) ∧
    s'.frm.inItem = some (.probeStart q.val) ∧ s'.frm.snap = none ∧ s'.arr.ramp = .force) ∧
  (∀ (t : Nat) (q : Fin 2) (s : State), s.pw.dev ≠ .off →
    (∀ x ∈ s.frm.snap, x.kind ≠ .probeStart q.val ∨ s.frm.windowOpen = true) →
    ∃ s', exec (.probeSlotStart t q) s = .next s' ∧ keepsBut [] (s.advance t) s' ∧ s'.frm = s.frm ∧ s'.arr = s.arr) ∧
  (∀ (t : Nat) (q : Fin 2) (x : Snap) (s : State), s.pw.dev ≠ .off → active s = true → s.saf.state.code ≤ 2 →
    s.frm.snap = some x → x.kind = .probeEnd q.val → s.frm.windowOpen = false →
    ∃ s', exec (.probeSlotEnd t q) s = .next s' ∧ keepsBut [.frm, .arr, .mask, .meas] (s.advance t) s' ∧
    s'.arr.gate = (if s.saf.holdN = true then s.arr.gate else if lightOn s = true then s.arr.gateShadow else .zero) ∧
    s'.frm.inItem = none ∧ s'.frm.snap = none ∧
    s'.arr.ramp = (if s.frm.claiming = true then .pause else if rampEnd s ≤ rampRun (s.advance t) then .tail else .run)) ∧
  (∀ (t : Nat) (q : Fin 2) (s : State), s.pw.dev ≠ .off →
    (∀ x ∈ s.frm.snap, x.kind ≠ .probeEnd q.val ∨ s.frm.windowOpen = true) →
    ∃ s', exec (.probeSlotEnd t q) s = .next s' ∧ keepsBut [] (s.advance t) s' ∧ s'.frm = s.frm ∧ s'.arr = s.arr) ∧
  (∀ (t : Nat) (q : Fin 2) (s : State), s.pw.dev ≠ .off → s.frm.inItem = some (.probeStart q.val) →
    s.arr.ramp = .force → nsTicks (tickPs s) (itemCfg s.frm.mode (4 + q.val)).length < leadTicks (tickPs s) →
    ∃ s', exec (.probePause t q) s = .next s' ∧ keepsBut [.arr] (s.advance t) s' ∧
    s'.arr = { s.arr with ramp := .pause, rampAt := (s.advance t).now }) ∧
  (∀ (t : Nat) (q : Fin 2) (s : State), s.pw.dev ≠ .off →
    (s.frm.inItem ≠ some (.probeStart q.val) ∨ s.arr.ramp ≠ .force ∨ leadTicks (tickPs s) ≤ nsTicks (tickPs s) (itemCfg s.frm.mode (4 + q.val)).length) →
    ∃ s', exec (.probePause t q) s = .next s' ∧ keepsBut [] (s.advance t) s' ∧ s'.frm = s.frm ∧ s'.arr = s.arr) ∧
  (∀ (t : Nat) (s : State), s.pw.dev ≠ .off → s.frm.claim = true → scheduleRuns s = true → hostBeam s = true →
    s.frm.sub + 1 = s.frm.mode.subframes → s.arr.ramp ≠ .tail → ∃ s', exec (.calibrationClaim t) s = .next s' ∧
    keepsBut [.arr, .frm] (s.advance t) s' ∧ s'.frm = { s.frm with claiming := true } ∧ s'.arr.ramp = .pause ∧
    s'.arr.rampAt = (s.advance t).now ∧ s'.arr.rampTicks = rampRun (s.advance t)) ∧
  (∀ (t : Nat) (s : State), s.pw.dev ≠ .off → s.frm.claim = true → scheduleRuns s = true → hostBeam s = true →
    s.frm.sub + 1 = s.frm.mode.subframes → s.arr.ramp = .tail → ∃ s', exec (.calibrationClaim t) s = .next s' ∧
    keepsBut [.frm] (s.advance t) s' ∧ s'.frm = { s.frm with claiming := true }) ∧
  (∀ (t : Nat) (s : State), s.pw.dev ≠ .off →
    (s.frm.claim = false ∨ scheduleRuns s = false ∨ hostBeam s = false ∨ s.frm.sub + 1 ≠ s.frm.mode.subframes) →
    ∃ s', exec (.calibrationClaim t) s = .next s' ∧ keepsBut [] (s.advance t) s' ∧ s'.frm = s.frm ∧ s'.arr = s.arr) ∧
  (∀ (t : Nat) (s : State), s.pw.dev ≠ .off → s.arr.ramp = .run → rampEnd s ≤ rampRun (s.advance t) →
    ∃ s', exec (.rampTail t) s = .next s' ∧ keepsBut [.arr] (s.advance t) s' ∧ s'.arr.ramp = .tail ∧
    s'.arr.rampTicks = rampRun (s.advance t)) ∧
  (∀ (t : Nat) (s : State), s.pw.dev ≠ .off → (s.arr.ramp ≠ .run ∨ rampRun (s.advance t) < rampEnd s) →
    ∃ s', exec (.rampTail t) s = .next s' ∧ keepsBut [] (s.advance t) s' ∧ s'.frm = s.frm ∧ s'.arr = s.arr)

/-- COMPOSITION_START, COMPOSE_ROW and PROTECTED_LAYER_WRITE, an accepted write of protected.layer. Each clause: under
its hypotheses on the state and the operands exec answers a next state, in which no part of the state but those it
lists differs from the state at the command's instant, and there (1) the composition of the head descriptor samples
what R213 and R236 name, its load begins from no rows and its job is that descriptor (R213, R236); (2) gain updates
that waited for the load before it are written first (R237); (3) with nothing queued, the head's started already, a
reload of the frame in force under way, or out of the states in which loads run, none starts (R213, R249); (4) each
row of codes enters the line buffer of its half in order, no surface byte below the cache changes, and with the last
row the composition is complete (R187, R213, R242); (5) without a load, or with the line buffer full, none comes
(R242); (6) a word of the protected bank found uncorrectable latches 0x24 (R204); (7) a check window on the codes has
with its last row the CRC of its pixels as its result, in mode 3 CAPTURED (R253, R254); (8) in mode 1 it matches where
that is the value expected (R254); (9) a first mismatch is counted and a transient, and the frame is loaded again from
its first rows (R255); (10) one in that reload is lasting and latches the source of the window (R255); (11) a
protected layer that keeps its rules is staged (R201, R464); (12) another is refused with the value-range abort
(R201). -/
def Obligations.RowsAreComposed : Prop :=
  (∀ (t : Nat) (d : Desc) (rest : List Desc) (s : State), s.pw.dev ≠ .off → loadsRun s = true →
    s.quay.repeatCur = false → s.frm.queue = d :: rest → s.comp.job.any (fun j => j.desc.seq == d.seq) = false →
    s.diag.gainWait = [] → ∃ s', exec (.compositionStart t) s = .next s' ∧
    keepsBut [.comp, .mask, .quay, .sup, .surf, .frm, .dict, .can, .fy, .out, .meas] (s.advance t) s' ∧
    s'.quay.loading = true ∧ s'.quay.seq = d.seq ∧ s'.quay.complete = false ∧ s'.quay.north.nextComp = 0 ∧
    s'.quay.south.nextComp = 512 ∧ s'.quay.smp = quaySample s ∧ (∃ j, s'.comp.job = some j ∧ j.desc.seq = d.seq ∧
    j.complete = false ∧ j.map = s.arr.map ∧ j.level = beamOffset s) ∧ s'.surf.mem = s.surf.mem) ∧
  (∀ (t : Nat) (d : Desc) (rest : List Desc) (s : State), s.pw.dev ≠ .off → loadsRun s = true →
    s.quay.repeatCur = false → s.frm.queue = d :: rest → s.comp.job.any (fun j => j.desc.seq == d.seq) = false →
    ∃ s', exec (.compositionStart t) s = .next s' ∧
    keepsBut [.comp, .mask, .quay, .sup, .surf, .frm, .dict, .can, .fy, .out, .meas, .diag, .saf] (s.advance t) s' ∧
    s'.diag.gainWait = [] ∧ s'.quay.loading = true ∧ s'.quay.seq = d.seq) ∧
  (∀ (t : Nat) (s : State), s.pw.dev ≠ .off →
    (loadsRun s = false ∨ s.quay.repeatCur = true ∨ s.frm.queue = [] ∨ (∃ d ∈ s.frm.queue.head?, s.comp.job.any (fun j => j.desc.seq == d.seq) = true)) →
    ∃ s', exec (.compositionStart t) s = .next s' ∧ keepsBut [] (s.advance t) s' ∧ s'.comp = s.comp ∧ s'.quay = s.quay) ∧
  (∀ (t : Nat) (south : Bool) (j : Job) (s : State), s.pw.dev ≠ .off → loadsRun s = true → s.quay.loading = true →
    s.comp.job = some j → j.complete = false → j.useCache = false → (halfOf s south).nextComp < halfEnd south →
    (halfOf s south).nextCorr ≤ (halfOf s south).nextComp → (halfOf s south).lines.length < 7 →
    s.quay.retryPend = false → (∀ w ∈ s.quay.win, w.valid = false) →
    ∃ s', exec (.composeRow t south [] []) s = .next s' ∧ keepsBut [.comp, .quay, .surf, .meas] (s.advance t) s' ∧
    (halfOf s' south).nextComp = (halfOf s south).nextComp + 1 ∧
    (halfOf s' south).lines = (halfOf s south).lines ++ [((halfOf s south).nextComp, codeRow s j (halfOf s south).nextComp)] ∧
    (∀ a, a < cacheBase s → surfRd s' a = surfRd s a) ∧ (s'.quay.north.nextComp = 512 ∧ s'.quay.south.nextComp = 1024 →
    s'.comp.composedSeq = j.desc.seq ∧ (∃ q, s'.comp.job = some q ∧ q.complete = true))) ∧
  (∀ (t : Nat) (south : Bool) (ecc : List (Nat × Nat)) (bankErr : List Nat) (s : State), s.pw.dev ≠ .off →
    (loadsRun s = false ∨ s.quay.loading = false ∨ s.comp.job.any (fun j => !j.complete) = false ∨ halfEnd south ≤ (halfOf s south).nextComp ∨ 7 ≤ (halfOf s south).lines.length) →
    ∃ s', exec (.composeRow t south ecc bankErr) s = .next s' ∧ keepsBut [] (s.advance t) s' ∧ s'.comp = s.comp ∧
    s'.quay = s.quay) ∧
  (∀ (t : Nat) (south : Bool) (a : Nat) (rest : List Nat) (j : Job) (s : State), s.pw.dev ≠ .off → loadsRun s = true →
    s.quay.loading = true → s.comp.job = some j → j.complete = false → j.useCache = false →
    (halfOf s south).nextComp < halfEnd south → (halfOf s south).nextCorr ≤ (halfOf s south).nextComp →
    (halfOf s south).lines.length < 7 → ∃ s', exec (.composeRow t south [] (a :: rest)) s = .next s' ∧
    keepsBut (.comp :: .surf :: .meas :: raiseBlks) (s.advance t) s' ∧ bmGet s'.saf.latched 0x24 = true) ∧
  (∀ (t : Nat) (south : Bool) (j : Job) (w : WinSt) (s : State), s.pw.dev ≠ .off → loadsRun s = true →
    s.quay.loading = true → s.comp.job = some j → j.complete = false → j.useCache = false →
    (halfOf s south).nextComp < halfEnd south → (halfOf s south).nextCorr ≤ (halfOf s south).nextComp →
    (halfOf s south).lines.length < 7 → w = nth s.quay.win 0 {} → w.valid = true → w.tap = 0 →
    w.y0 ≤ (halfOf s south).nextComp → w.y1 = (halfOf s south).nextComp → (∀ m < 16, m ≠ 0 →
    (nth s.quay.win m {}).valid = false) → s.quay.win.length ≠ 0 → s.quay.retryPend = false →
    ¬ (s.quay.north.nextComp + (if south = true then 0 else 1) = 512 ∧
    s.quay.south.nextComp + (if south = true then 1 else 0) = 1024) → w.mode = 3 →
    ∃ s', exec (.composeRow t south [] []) s = .next s' ∧ keepsBut [.comp, .quay, .surf, .meas, .mg] (s.advance t) s' ∧
    (nth s'.quay.win 0 {}).result = crcFinish w.params (((((codeRow s j w.y1).drop w.x0).take (w.x1 + 1 - w.x0)).flatMap (fun v => leBytes 2 v)).foldl (crcByte w.params) w.acc) ∧
    (nth s'.quay.win 0 {}).status = 2 ∧ (nth s'.quay.win 0 {}).frameSeq = j.desc.seq) ∧
  (∀ (t : Nat) (south : Bool) (j : Job) (w : WinSt) (s : State), s.pw.dev ≠ .off → loadsRun s = true →
    s.quay.loading = true → s.comp.job = some j → j.complete = false → j.useCache = false →
    (halfOf s south).nextComp < halfEnd south → (halfOf s south).nextCorr ≤ (halfOf s south).nextComp →
    (halfOf s south).lines.length < 7 → w = nth s.quay.win 0 {} → w.valid = true → w.tap = 0 →
    w.y0 ≤ (halfOf s south).nextComp → w.y1 = (halfOf s south).nextComp → (∀ m < 16, m ≠ 0 →
    (nth s.quay.win m {}).valid = false) → s.quay.win.length ≠ 0 → s.quay.retryPend = false →
    ¬ (s.quay.north.nextComp + (if south = true then 0 else 1) = 512 ∧
    s.quay.south.nextComp + (if south = true then 1 else 0) = 1024) → w.mode = 1 → w.failed = false →
    w.expected % 2 ^ w.params.width = crcFinish w.params (((((codeRow s j w.y1).drop w.x0).take (w.x1 + 1 - w.x0)).flatMap (fun v => leBytes 2 v)).foldl (crcByte w.params) w.acc) →
    ∃ s', exec (.composeRow t south [] []) s = .next s' ∧ keepsBut [.comp, .quay, .surf, .meas, .mg] (s.advance t) s' ∧
    (nth s'.quay.win 0 {}).status = 1 ∧ (nth s'.quay.win 0 {}).mismatches = w.mismatches) ∧
  (∀ (t : Nat) (south : Bool) (j : Job) (w : WinSt) (s : State), s.pw.dev ≠ .off → loadsRun s = true →
    s.quay.loading = true → s.comp.job = some j → j.complete = false → j.useCache = false →
    (halfOf s south).nextComp < halfEnd south → (halfOf s south).nextCorr ≤ (halfOf s south).nextComp →
    (halfOf s south).lines.length < 7 → w = nth s.quay.win 0 {} → w.valid = true → w.tap = 0 →
    w.y0 ≤ (halfOf s south).nextComp → w.y1 = (halfOf s south).nextComp → (∀ m < 16, m ≠ 0 →
    (nth s.quay.win m {}).valid = false) → s.quay.win.length ≠ 0 → s.quay.retryPend = false →
    ¬ (s.quay.north.nextComp + (if south = true then 0 else 1) = 512 ∧
    s.quay.south.nextComp + (if south = true then 1 else 0) = 1024) → w.mode = 1 →
    w.expected % 2 ^ w.params.width ≠ crcFinish w.params (((((codeRow s j w.y1).drop w.x0).take (w.x1 + 1 - w.x0)).flatMap (fun v => leBytes 2 v)).foldl (crcByte w.params) w.acc) →
    s.quay.retried = false → ∃ s', exec (.composeRow t south [] []) s = .next s' ∧
    keepsBut [.comp, .quay, .surf, .meas, .mg, .saf, .sup] (s.advance t) s' ∧
    (nth s'.quay.win 0 {}).mismatches = w.mismatches + 1 ∧ (nth s'.quay.win 0 {}).failed = true ∧
    s'.quay.retries = s.quay.retries + 1 ∧ s'.quay.retried = true ∧ s'.quay.reload = true ∧ s'.quay.north.nextComp = 0 ∧
    s'.quay.south.nextComp = 512 ∧ s'.saf.latched = s.saf.latched) ∧
  (∀ (t : Nat) (south : Bool) (j : Job) (w : WinSt) (s : State), s.pw.dev ≠ .off → loadsRun s = true →
    s.quay.loading = true → s.comp.job = some j → j.complete = false → j.useCache = false →
    (halfOf s south).nextComp < halfEnd south → (halfOf s south).nextCorr ≤ (halfOf s south).nextComp →
    (halfOf s south).lines.length < 7 → w = nth s.quay.win 0 {} → w.valid = true → w.tap = 0 →
    w.y0 ≤ (halfOf s south).nextComp → w.y1 = (halfOf s south).nextComp → (∀ m < 16, m ≠ 0 →
    (nth s.quay.win m {}).valid = false) → s.quay.win.length ≠ 0 → s.quay.retryPend = false →
    ¬ (s.quay.north.nextComp + (if south = true then 0 else 1) = 512 ∧
    s.quay.south.nextComp + (if south = true then 1 else 0) = 1024) → w.mode = 1 →
    w.expected % 2 ^ w.params.width ≠ crcFinish w.params (((((codeRow s j w.y1).drop w.x0).take (w.x1 + 1 - w.x0)).flatMap (fun v => leBytes 2 v)).foldl (crcByte w.params) w.acc) →
    s.quay.retried = true → ∃ s', exec (.composeRow t south [] []) s = .next s' ∧
    keepsBut (.comp :: .surf :: .meas :: raiseBlks) (s.advance t) s' ∧ bmGet s'.saf.latched 0x40 = true) ∧
  (∀ (t : Nat) (p : Path) (data : List Byte) (s : State), s.pw.dev ≠ .off → takes s p 0x2520 1 data = true →
    protOk data = true → prepared s .updatePath = false → s.mg.psVerifying = false →
    protCoded { staging s with layer := data } ≤ 524288 → ∃ s', exec (.protectedLayerWrite t p data) s = .next s' ∧
    keepsBut [.nv, .mg, .dict] (s.advance t) s' ∧ s'.dict.answer = 0 ∧
    s'.nv = { s.nv with copies := s.nv.copies.modify (1 - s.nv.copy) (fun _ => { staging s with layer := data }) } ∧
    s'.mg = { s.mg with psStaged := true }) ∧
  (∀ (t : Nat) (p : Path) (data : List Byte) (s : State), s.pw.dev ≠ .off → takes s p 0x2520 1 data = true →
    protOk data = false → ∃ s', exec (.protectedLayerWrite t p data) s = .next s' ∧ keepsBut [.dict] (s.advance t) s' ∧
    s'.dict.answer = abRange)

/-- MASK_SET, MASK_RENEW and MASK_EXPIRY. Each clause: under its hypotheses on the state and the operands exec answers
a next state, in which no part of the state but those it lists differs from the state at the command's instant, and
there (1) a SET that passes its checks is ACTIVE for its lifetime, with the first tick at or after it as its arrival,
and waits for the gate window that can take it (R219, R226, R229, R230); (2) one that fails a check is counted and
reported with the first reason and changes no set (R219); (3) a malformed one is dropped and counted (R134, R218); (4)
another packet is none for it (R218); (5) RENEW of the set accepted last restarts its lifetime (R219, R229); (6) in
the tick in which the lifetime ended the set lives on, as if it had not: neither the status bit of 0x25 nor its count
keeps the expiry (R229, R234); (7) a later one, or one of another set, is rejected with reason 7 (R219, R229); (8) one
with a lifetime out of range with reason 2 (R219); (9) a malformed one is dropped and counted (R134, R218); (10)
another packet is none for it (R218); (11) at the end of the lifetime the state is EXPIRED, counted, with dimming and
the dead policy, and the cause of 0x25 present (R229, R230, R231); (12) before it, with no set active, or where a
packet that keeps it waits in the same tick, nothing expires (R229). -/
def Obligations.MasksAreSetAndExpire : Prop :=
  (∀ (t : Nat) (k : Packet) (s : State), s.pw.dev ≠ .off → pktTakes s k = true → kTy k = 2 → kF k 0 1 = 1 →
    maskMalformed k = false → setCheck k s = 0 → ∃ s', exec (.maskSet t k) s = .next s' ∧
    keepsBut [.fy, .mg, .mask, .saf] (s.advance t) s' ∧ s'.mask.st = .active ∧ (∃ m, s'.mask.cur = some m ∧
    s'.mask.known = s.mask.known ++ [m] ∧ m.mseq = kF k 2 2 ∧ m.shapes = maskShapes k ∧
    m.arrival = tickUp s (s.advance t).now ∧ m.lifetime = kF k 4 2 ∧
    m.margin = (if kF k 6 1 = 255 then s.objN 0x2600 1 else kF k 6 1)) ∧
    s'.mask.expiry = (s.advance t).now + kF k 4 2 * 1000000000 ∧ s'.mask.lifeFrom = (s.advance t).now ∧
    s'.mask.accepted = s.mask.accepted + 1 ∧ s'.mask.force = s.mask.force ∧ bmGet s'.saf.causes 0x25 = false ∧
    s'.fy.consumed = s.fy.consumed + 1) ∧
  (∀ (t c : Nat) (k : Packet) (s : State), s.pw.dev ≠ .off → pktTakes s k = true → kTy k = 2 → kF k 0 1 = 1 →
    maskMalformed k = false → setCheck k s = c → c ≠ 0 → ∃ s', exec (.maskSet t k) s = .next s' ∧
    keepsBut [.fy, .mg, .mask, .dict, .can, .out] (s.advance t) s' ∧
    s'.mask = { s.mask with rejected := s.mask.rejected + 1, rejectReason := c, rejectMseq := kF k 2 2 } ∧
    s'.fy.consumed = s.fy.consumed ∧ s'.dict.eventSeq = s.dict.eventSeq + 1) ∧
  (∀ (t : Nat) (k : Packet) (s : State), s.pw.dev ≠ .off → pktTakes s k = true → kTy k = 2 → kF k 0 1 = 1 →
    maskMalformed k = true → ∃ s', exec (.maskSet t k) s = .next s' ∧ keepsBut [.fy, .mg] (s.advance t) s' ∧
    s'.fy = { s.fy with malformed := s.fy.malformed + 1 }) ∧
  (∀ (t : Nat) (k : Packet) (s : State), s.pw.dev ≠ .off →
    (kTy k ≠ 2 ∨ kF k 0 1 ≠ 1 ∨ kHere s k = false ∨ consumes s k = false) → ∃ s', exec (.maskSet t k) s = .next s' ∧
    keepsBut [] (s.advance t) s' ∧ s'.mask = s.mask ∧ s'.fy = s.fy) ∧
  (∀ (t : Nat) (k : Packet) (m : MaskSet) (s : State), s.pw.dev ≠ .off → pktTakes s k = true → kTy k = 2 →
    kF k 0 1 = 2 → maskMalformed k = false → 1 ≤ kF k 4 2 → kF k 4 2 ≤ 1000 → s.mask.st = .active →
    s.mask.cur = some m → m.mseq = kF k 2 2 → ∃ s', exec (.maskRenew t k) s = .next s' ∧
    keepsBut [.fy, .mg, .mask] (s.advance t) s' ∧
    s'.mask = { s.mask with expiry := (s.advance t).now + kF k 4 2 * 1000000000, lifeFrom := (s.advance t).now, renewals := s.mask.renewals + 1, cur := some { m with lifetime := kF k 4 2 } } ∧
    s'.fy.consumed = s.fy.consumed + 1) ∧
  (∀ (t : Nat) (k : Packet) (m : MaskSet) (u : MaskUndo) (s : State), s.pw.dev ≠ .off → pktTakes s k = true →
    kTy k = 2 → kF k 0 1 = 2 → maskMalformed k = false → 1 ≤ kF k 4 2 → kF k 4 2 ≤ 1000 → s.mask.st = .expired →
    s.mask.cur = some m → m.mseq = kF k 2 2 → s.mask.expiredAt = some u → tickOf (s.advance t).now = tickOf u.at_ →
    0x25 < s.saf.raises.length → ∃ s', exec (.maskRenew t k) s = .next s' ∧
    keepsBut [.fy, .mg, .mask, .saf] (s.advance t) s' ∧
    s'.mask = { s.mask with expiry := (s.advance t).now + kF k 4 2 * 1000000000, lifeFrom := (s.advance t).now, renewals := s.mask.renewals + 1, cur := some { m with lifetime := kF k 4 2 }, st := .active, dim := u.dim, dead := u.dead, expiries := s.mask.expiries - 1, expiredAt := none } ∧
    bmGet s'.saf.causes 0x25 = false ∧ (bmGet u.saf.latched 0x25 = false → bmGet s'.saf.latched 0x25 = false) ∧
    nth s'.saf.raises 0x25 0 = nth u.saf.raises 0x25 0) ∧
  (∀ (t : Nat) (k : Packet) (s : State), s.pw.dev ≠ .off → pktTakes s k = true → kTy k = 2 → kF k 0 1 = 2 →
    maskMalformed k = false → 1 ≤ kF k 4 2 → kF k 4 2 ≤ 1000 →
    (s.mask.cur.any (fun m => m.mseq == kF k 2 2) = false ∨ s.mask.st = .none ∨ (s.mask.st = .expired ∧
    s.mask.expiredAt.any (fun u => tickOf (s.advance t).now == tickOf u.at_) = false)) →
    ∃ s', exec (.maskRenew t k) s = .next s' ∧ keepsBut [.fy, .mg, .mask, .dict, .can, .out] (s.advance t) s' ∧
    s'.mask = { s.mask with rejected := s.mask.rejected + 1, rejectReason := 7, rejectMseq := kF k 2 2 } ∧
    s'.fy.consumed = s.fy.consumed ∧ s'.dict.eventSeq = s.dict.eventSeq + 1) ∧
  (∀ (t : Nat) (k : Packet) (s : State), s.pw.dev ≠ .off → pktTakes s k = true → kTy k = 2 → kF k 0 1 = 2 →
    maskMalformed k = false → (kF k 4 2 = 0 ∨ 1000 < kF k 4 2) → ∃ s', exec (.maskRenew t k) s = .next s' ∧
    keepsBut [.fy, .mg, .mask, .dict, .can, .out] (s.advance t) s' ∧
    s'.mask = { s.mask with rejected := s.mask.rejected + 1, rejectReason := 2, rejectMseq := kF k 2 2 } ∧
    s'.fy.consumed = s.fy.consumed ∧ s'.dict.eventSeq = s.dict.eventSeq + 1) ∧
  (∀ (t : Nat) (k : Packet) (s : State), s.pw.dev ≠ .off → pktTakes s k = true → kTy k = 2 → kF k 0 1 = 2 →
    maskMalformed k = true → ∃ s', exec (.maskRenew t k) s = .next s' ∧ keepsBut [.fy, .mg] (s.advance t) s' ∧
    s'.fy = { s.fy with malformed := s.fy.malformed + 1 }) ∧
  (∀ (t : Nat) (k : Packet) (s : State), s.pw.dev ≠ .off →
    (kTy k ≠ 2 ∨ kF k 0 1 ≠ 2 ∨ kHere s k = false ∨ consumes s k = false) → ∃ s', exec (.maskRenew t k) s = .next s' ∧
    keepsBut [] (s.advance t) s' ∧ s'.mask = s.mask ∧ s'.fy = s.fy) ∧
  (∀ (t : Nat) (s : State), s.pw.dev ≠ .off → s.mask.st = .active → maskDue (s.advance t) = true →
    s.pending.any (maskWaits (s.advance t)) = false → ∃ s', exec (.maskExpiry t) s = .next s' ∧
    keepsBut (.mask :: raiseBlks) (s.advance t) s' ∧
    s'.mask = { s.mask with st := .expired, dead := true, dim := true, expiries := s.mask.expiries + 1, expiredAt := some { at_ := (s.advance t).now, dim := s.mask.dim, dead := s.mask.dead, saf := s.saf, logQueue := s.mg.logQueue } } ∧
    bmGet s'.saf.causes 0x25 = true) ∧
  (∀ (t : Nat) (s : State), s.pw.dev ≠ .off →
    (s.mask.st ≠ .active ∨ maskDue (s.advance t) = false ∨ s.pending.any (maskWaits (s.advance t)) = true) →
    ∃ s', exec (.maskExpiry t) s = .next s' ∧ keepsBut [] (s.advance t) s' ∧ s'.mask = s.mask ∧ s'.saf = s.saf)

/-- QUAY_ROW_CORRECT, ROW_UNDERRUN and ROW_SEND. Each clause: under its hypotheses on the state and the operands exec
answers a next state, in which no part of the state but those it lists differs from the state at the command's
instant, and there (1) a row whose codes and donors are there is corrected into the output buffer and leaves the line
buffer, its clamped pixels counted (R238, R242, R243); (2) without a row, a load or room none is (R242, R243); (3) one
whose turn has not come, or that needs the row below, waits (R243); (4) a row that waits for a code longer than
quay.row_timeout is an underrun: the row goes on, counted, flagged, and latches 0x38 (R245, R246); (5) where that
raises no higher state, its words from the column on are the last one corrected before it (R245); (6) earlier, or with
no code missing, there is none (R245); (7) a row sent outside gate windows enters the shadow words at its place and
changes nothing else of the array (R44, R247); (8) with the last row of both halves the load is complete (R247); (9)
and the gain updates that waited for it are written (R237); (10) in a gate window, behind the limp loader, or without
a row, none is sent (R20, R44). -/
def Obligations.RowsAreLoaded : Prop :=
  (∀ (t y : Nat) (south : Bool) (codes : List Nat) (rest : List (Nat × List Nat)) (j : Job) (s : State), s.pw.dev ≠ .off →
    loadsRun s = true → s.quay.loading = true → (halfOf s south).outs.length < 2 →
    (halfOf s south).lines = (y, codes) :: rest → y = (halfOf s south).nextCorr → s.comp.job = some j →
    (rest ≠ [] ∨ halfEnd south ≤ y + 1 ∨ needsNext s.quay.smp j.map y = false) → (∀ r ∈ rest, r.1 ≠ y) →
    ∃ s', exec (.quayRowCorrect t south) s = .next s' ∧ keepsBut [.quay] (s.advance t) s' ∧
    (halfOf s' south).outs = (halfOf s south).outs ++ [(y, (correctRow s j.map (halfOf s south).prev codes (match rest.head? with | some r => r.2 | none => []) 2048 y).map Prod.fst)] ∧
    (halfOf s' south).nextCorr = y + 1 ∧ (halfOf s' south).lines = rest ∧ (halfOf s' south).prev = codes ∧
    s'.quay.saturated = s.quay.saturated + ((correctRow s j.map (halfOf s south).prev codes (match rest.head? with | some r => r.2 | none => []) 2048 y).filter (fun w => w.2.1)).length) ∧
  (∀ (t : Nat) (south : Bool) (s : State), s.pw.dev ≠ .off →
    (loadsRun s = false ∨ s.quay.loading = false ∨ 2 ≤ (halfOf s south).outs.length ∨ (halfOf s south).lines = [] ∨ s.comp.job = none) →
    ∃ s', exec (.quayRowCorrect t south) s = .next s' ∧ keepsBut [] (s.advance t) s' ∧ s'.quay = s.quay) ∧
  (∀ (t y : Nat) (south : Bool) (codes : List Nat) (j : Job) (s : State), s.pw.dev ≠ .off →
    (halfOf s south).lines = [(y, codes)] → s.comp.job = some j →
    (y ≠ (halfOf s south).nextCorr ∨ (y + 1 < halfEnd south ∧ needsNext s.quay.smp j.map y = true)) →
    ∃ s', exec (.quayRowCorrect t south) s = .next s' ∧ keepsBut [] (s.advance t) s' ∧ s'.quay = s.quay) ∧
  (∀ (t x y : Nat) (south : Bool) (j : Job) (s : State), s.pw.dev ≠ .off → loadsRun s = true → s.quay.loading = true →
    (halfOf s south).outs.length < 2 → y = (halfOf s south).nextCorr → y < halfEnd south → 1 ≤ x → x < 2048 →
    s.comp.job = some j → codeMissing s j south x y = true → rowTimedOut (s.advance t) south = true →
    ∃ s', exec (.rowUnderrun t south x) s = .next s' ∧ keepsBut raiseBlks (s.advance t) s' ∧
    s'.quay.underruns = s.quay.underruns + 1 ∧ (s'.quay.flagged.contains y = true ∨ s'.quay.flagOvf = true) ∧
    bmGet s'.saf.latched 0x38 = true ∧ s'.arr.active = s.arr.active) ∧
  (∀ (t x y : Nat) (south : Bool) (j : Job) (s : State), s.pw.dev ≠ .off → loadsRun s = true → hostBeam s = true →
    classOf s 0x38 ≤ s.saf.state.code → targetClass s ≤ s.saf.state.code → s.quay.loading = true →
    (halfOf s south).outs.length < 2 → y = (halfOf s south).nextCorr → y < halfEnd south → 1 ≤ x → x < 2048 →
    s.comp.job = some j → codeMissing s j south x y = true → rowTimedOut (s.advance t) south = true →
    ∃ s', exec (.rowUnderrun t south x) s = .next s' ∧ keepsBut raiseBlks (s.advance t) s' ∧
    (∃ ws : List Nat, (halfOf s' south).outs = (halfOf s south).outs ++ [(y, ws ++ List.replicate (2048 - x) (nth ws (x - 1) 0))] ∧
    ws.length = x) ∧ (halfOf s' south).nextCorr = y + 1) ∧
  (∀ (t x : Nat) (south : Bool) (s : State), s.pw.dev ≠ .off →
    (loadsRun s = false ∨ s.quay.loading = false ∨ x = 0 ∨ 2048 ≤ x ∨ rowTimedOut (s.advance t) south = false ∨ s.comp.job.any (fun j => codeMissing s j south x (halfOf s south).nextCorr) = false) →
    ∃ s', exec (.rowUnderrun t south x) s = .next s' ∧ keepsBut [] (s.advance t) s' ∧ s'.quay = s.quay) ∧
  (∀ (t y : Nat) (south : Bool) (words : List Nat) (rest : List (Nat × List Nat)) (j : Job) (s : State), s.pw.dev ≠ .off →
    loadsRun s = true → s.quay.loading = true → s.quay.retryPend = false → s.frm.held = false →
    limpHasBridge s = false → (halfOf s south).outs = (y, words) :: rest → s.comp.job = some j →
    (∀ w ∈ s.quay.win, w.valid = false) → (s.quay.smp.lineMatch ≠ y) →
    (if south = true then s.quay.north.nextSend ≠ 512 ∨ y + 1 ≠ 1024 else s.quay.south.nextSend ≠ 1024 ∨ y + 1 ≠ 512) →
    ∃ s', exec (.rowSend t south) s = .next s' ∧ keepsBut [.arr, .sup, .quay] (s.advance t) s' ∧
    s'.arr = { s.arr with shadow := (writeShadow y words s).arr.shadow } ∧ (halfOf s' south).outs = rest ∧
    (halfOf s' south).nextSend = y + 1 ∧ s'.quay.sums = sumsRow j s.quay.smp.order y words s.quay.sums) ∧
  (∀ (t : Nat) (words : List Nat) (rest : List (Nat × List Nat)) (j : Job) (s : State), s.pw.dev ≠ .off →
    loadsRun s = true → s.quay.loading = true → s.quay.retryPend = false → s.frm.held = false →
    limpHasBridge s = false → s.quay.south.outs = (1023, words) :: rest → s.quay.north.nextSend = 512 →
    s.comp.job = some j → (∀ w ∈ s.quay.win, w.valid = false) → s.diag.gainWait = [] →
    ∃ s', exec (.rowSend t true) s = .next s' ∧
    keepsBut [.arr, .sup, .quay, .mg, .dict, .can, .fy, .out, .meas] (s.advance t) s' ∧ s'.quay.loading = false ∧
    s'.quay.complete = true ∧ s'.quay.lastSeq = s.quay.seq ∧
    s'.arr = { s.arr with shadow := (writeShadow 1023 words s).arr.shadow }) ∧
  (∀ (t : Nat) (words : List Nat) (rest : List (Nat × List Nat)) (j : Job) (s : State), s.pw.dev ≠ .off →
    loadsRun s = true → s.quay.loading = true → s.quay.retryPend = false → s.frm.held = false →
    limpHasBridge s = false → s.quay.south.outs = (1023, words) :: rest → s.quay.north.nextSend = 512 →
    s.comp.job = some j → (∀ w ∈ s.quay.win, w.valid = false) → ∃ s', exec (.rowSend t true) s = .next s' ∧
    keepsBut [.arr, .sup, .quay, .mg, .dict, .can, .fy, .out, .meas, .diag, .saf] (s.advance t) s' ∧
    s'.quay.complete = true ∧ s'.diag.gainWait = []) ∧
  (∀ (t : Nat) (south : Bool) (s : State), s.pw.dev ≠ .off →
    (loadsRun s = false ∨ s.quay.loading = false ∨ s.frm.held = true ∨ limpHasBridge s = true ∨ (halfOf s south).outs = []) →
    ∃ s', exec (.rowSend t south) s = .next s' ∧ keepsBut [] (s.advance t) s' ∧ s'.quay = s.quay ∧ s'.arr = s.arr)

/-- PROGRAM_WRITE, PE_LOAD, ARM, STOP, TRIGGER, TRIGGER_SET and TIME_TRIGGER. Each clause: under its hypotheses on the
state and the operands exec answers a next state, in which no part of the state but those it lists differs from the
state at the command's instant, and there (1) a program that passes Table 13.4 is installed in an engine that is IDLE,
STOPPED or DONE, which is then STOPPED with its trigger withdrawn (R347, R348); (2) in an engine that is ARMED,
RUNNING or WAITING it is refused with the device-state abort (R348); (3) one that fails is refused with the
value-range abort, its first failing check and its engine recorded (R347, R348); (4) PE_LOAD installs a program of
SRAM in the same way, as the LEN bytes at the address, and is BUSY for a time that is not stated (log 203); (5) a
failing check is its result (R456); (6) a busy engine is 0xFC (R456); (7) and an address outside the SRAM its context
may read is 0xFD (R456); (8) a load while BUSY is dropped with result 0xFE (R456); (9) with the core off nothing is
loaded (R30); (10) with the engines off the write is a bus error, which latches 0xC8, and is dropped (R439); (11) ARM
arms a STOPPED or DONE engine that has a program (R353, log 75); (12) and is refused with the device-state abort
otherwise; (13) through PE_CMD it is the same, with result 0; (14) or 0xFC (R353, R456); (15) STOP makes any engine
STOPPED, its latched trigger dropped, through PE_CMD; (16) and through pattern.command (R353); (17) TRIGGER latches a
trigger in an ARMED or WAITING engine whose source is DICT (R354); (18) one in a state that takes none, or with one
latched already, is ignored and counted (R354); (19) of an engine with another source it is refused with the
device-state abort (R357); (20) PE_CMD triggers likewise; (21) or answers 0xFC (R456); (22) while a load is BUSY
PE_CMD is dropped with result 0xFE (R456); (23) with the core off PE_CMD does nothing (R30); (24) and with the engines
off it is a bus error, which latches 0xC8 (R439); (25) TRIGGER_SET triggers each of the engines it names whose source
is DICT, through PE_TRIGGER_SET; (26) and through pattern.trigger_set (R354, R357); (27) and does nothing while the
core is off; (28) and is a bus error while the engines are (R439); (29) and a TIME trigger fires once, when valid
local time reaches its time in READY or LIT (R354); (30) not before, nor again. -/
def Obligations.EnginesAreProgrammed : Prop :=
  (∀ (t : Nat) (p : Path) (e : Fin 8) (data : List Byte) (s : State), s.pw.dev ≠ .off →
    takes s p (0x2B10 + e.val) 1 data = true → pgCheck e.val data = 0 →
    ((engOf s e.val).st = .idle ∨ (engOf s e.val).st = .stopped ∨ (engOf s e.val).st = .done) →
    e.val < s.pat.eng.length → rising s.objs = true → ∃ s', exec (.programWrite t p e data) s = .next s' ∧
    keepsBut [.objs, .pat, .dict] (s.advance t) s' ∧ s'.dict.answer = 0 ∧
    engOf s' e.val = { engOf s e.val with prog := data, st := .stopped, latched := false, fired := false } ∧
    s'.obj (0x2B10 + e.val) 1 = data ∧ (∀ m, m ≠ e.val → engOf s' m = engOf s m)) ∧
  (∀ (t : Nat) (p : Path) (e : Fin 8) (data : List Byte) (s : State), s.pw.dev ≠ .off →
    takes s p (0x2B10 + e.val) 1 data = true → pgCheck e.val data = 0 → (engOf s e.val).st ≠ .idle →
    (engOf s e.val).st ≠ .stopped → (engOf s e.val).st ≠ .done → ∃ s', exec (.programWrite t p e data) s = .next s' ∧
    keepsBut [.dict] (s.advance t) s' ∧ s'.dict.answer = abState) ∧
  (∀ (t : Nat) (p : Path) (e : Fin 8) (data : List Byte) (s : State), s.pw.dev ≠ .off →
    takes s p (0x2B10 + e.val) 1 data = true → pgCheck e.val data ≠ 0 →
    ∃ s', exec (.programWrite t p e data) s = .next s' ∧ keepsBut [.pat, .dict] (s.advance t) s' ∧
    s'.dict.answer = abRange ∧ s'.pat = { s.pat with loadReason := pgCheck e.val data, loadEngine := e.val }) ∧
  (∀ (t addr len : Nat) (e : Fin 8) (c : Bool) (data : List Byte) (s : State), s.pw.dev ≠ .off → blockOn s 13 = true →
    blockOn s 11 = true → peBusy (s.advance t) e.val = false → sramOk c addr len = true → len < 65536 →
    pgCheck e.val (padTo len data) = 0 →
    ((engOf s e.val).st = .idle ∨ (engOf s e.val).st = .stopped ∨ (engOf s e.val).st = .done) →
    e.val < s.pat.eng.length → ∃ s', exec (.peLoad t e addr len c data) s = .next s' ∧
    keepsBut [.objs, .pat, .mg, .free] (s.advance t) s' ∧
    s'.mg.peBusy = s.mg.peBusy.modify e.val (fun _ => (s.advance t).now + Config.peLoadTime s.free) ∧
    engOf s' e.val = { engOf s e.val with prog := padTo len data, st := .stopped, latched := false, fired := false } ∧
    (∀ m, m ≠ e.val → engOf s' m = engOf s m)) ∧
  (∀ (t addr len : Nat) (e : Fin 8) (c : Bool) (data : List Byte) (s : State), s.pw.dev ≠ .off → blockOn s 13 = true →
    blockOn s 11 = true → peBusy (s.advance t) e.val = false → sramOk c addr (len % 65536) = true →
    pgCheck e.val (padTo (len % 65536) data) ≠ 0 → ∃ s', exec (.peLoad t e addr len c data) s = .next s' ∧
    keepsBut [.pat, .mg, .free] (s.advance t) s' ∧
    s'.pat = { s.pat with loadReason := pgCheck e.val (padTo (len % 65536) data), loadEngine := e.val } ∧
    s'.mg = { s.mg with peAddr := s.mg.peAddr.modify e.val (fun _ => addr), peLoadResult := s.mg.peLoadResult.modify e.val (fun _ => pgCheck e.val (padTo (len % 65536) data)), peBusy := s.mg.peBusy.modify e.val (fun _ => (s.advance t).now + Config.peLoadTime s.free) }) ∧
  (∀ (t addr len : Nat) (e : Fin 8) (c : Bool) (data : List Byte) (s : State), s.pw.dev ≠ .off → blockOn s 13 = true →
    blockOn s 11 = true → peBusy (s.advance t) e.val = false → sramOk c addr (len % 65536) = true →
    pgCheck e.val (padTo (len % 65536) data) = 0 → (engOf s e.val).st ≠ .idle → (engOf s e.val).st ≠ .stopped →
    (engOf s e.val).st ≠ .done → ∃ s', exec (.peLoad t e addr len c data) s = .next s' ∧
    keepsBut [.mg, .free] (s.advance t) s' ∧
    s'.mg = { s.mg with peAddr := s.mg.peAddr.modify e.val (fun _ => addr), peLoadResult := s.mg.peLoadResult.modify e.val (fun _ => 0xFC), peBusy := s.mg.peBusy.modify e.val (fun _ => (s.advance t).now + Config.peLoadTime s.free) }) ∧
  (∀ (t addr len : Nat) (e : Fin 8) (c : Bool) (data : List Byte) (s : State), s.pw.dev ≠ .off → blockOn s 13 = true →
    blockOn s 11 = true → peBusy (s.advance t) e.val = false → sramOk c addr (len % 65536) = false →
    ∃ s', exec (.peLoad t e addr len c data) s = .next s' ∧ keepsBut [.mg, .free] (s.advance t) s' ∧
    s'.mg = { s.mg with peAddr := s.mg.peAddr.modify e.val (fun _ => addr), peLoadResult := s.mg.peLoadResult.modify e.val (fun _ => 0xFD), peBusy := s.mg.peBusy.modify e.val (fun _ => (s.advance t).now + Config.peLoadTime s.free) }) ∧
  (∀ (t addr len : Nat) (e : Fin 8) (c : Bool) (data : List Byte) (s : State), s.pw.dev ≠ .off → blockOn s 13 = true →
    blockOn s 11 = true → peBusy (s.advance t) e.val = true → ∃ s', exec (.peLoad t e addr len c data) s = .next s' ∧
    keepsBut [.mg] (s.advance t) s' ∧
    s'.mg = { s.mg with peAddr := s.mg.peAddr.modify e.val (fun _ => addr), peLoadResult := s.mg.peLoadResult.modify e.val (fun _ => 0xFE) }) ∧
  (∀ (t addr len : Nat) (e : Fin 8) (c : Bool) (data : List Byte) (s : State), s.pw.dev ≠ .off →
    blockOn s 11 = false → ∃ s', exec (.peLoad t e addr len c data) s = .next s' ∧ keepsBut [] (s.advance t) s' ∧
    s'.pat = s.pat ∧ s'.mg = s.mg) ∧
  (∀ (t addr len : Nat) (e : Fin 8) (c : Bool) (data : List Byte) (s : State), s.pw.dev ≠ .off →
    blockOn s 13 = false → blockOn s 11 = true → ∃ s', exec (.peLoad t e addr len c data) s = .next s' ∧
    keepsBut (.pw :: .free :: raiseBlks) (s.advance t) s' ∧ bmGet s'.saf.latched 0xC8 = true ∧
    s'.pw.busErrors = s.pw.busErrors + 1 ∧ s'.pat = s.pat ∧ s'.mg.peLoadResult = s.mg.peLoadResult) ∧
  (∀ (t : Nat) (p : Path) (e : Fin 8) (s : State), s.pw.dev ≠ .off → takes s p (0x2B10 + e.val) 2 [1] = true →
    ((engOf s e.val).st = .stopped ∨ (engOf s e.val).st = .done) → (engOf s e.val).prog ≠ [] →
    e.val < s.pat.eng.length → ∃ s', exec (.arm t (some p) e) s = .next s' ∧ keepsBut [.pat, .dict] (s.advance t) s' ∧
    s'.dict.answer = 0 ∧ engOf s' e.val = { engOf s e.val with st := .armed, latched := false, fired := false } ∧
    (∀ m, m ≠ e.val → engOf s' m = engOf s m)) ∧
  (∀ (t : Nat) (p : Path) (e : Fin 8) (s : State), s.pw.dev ≠ .off → takes s p (0x2B10 + e.val) 2 [1] = true →
    ((engOf s e.val).prog = [] ∨ ((engOf s e.val).st ≠ .stopped ∧ (engOf s e.val).st ≠ .done)) →
    ∃ s', exec (.arm t (some p) e) s = .next s' ∧ keepsBut [.dict] (s.advance t) s' ∧ s'.dict.answer = abState) ∧
  (∀ (t : Nat) (e : Fin 8) (s : State), s.pw.dev ≠ .off → blockOn s 13 = true → blockOn s 11 = true →
    peBusy (s.advance t) e.val = false → ((engOf s e.val).st = .stopped ∨ (engOf s e.val).st = .done) →
    (engOf s e.val).prog ≠ [] → e.val < s.pat.eng.length → ∃ s', exec (.arm t none e) s = .next s' ∧
    keepsBut [.pat, .mg] (s.advance t) s' ∧
    engOf s' e.val = { engOf s e.val with st := .armed, latched := false, fired := false } ∧
    s'.mg = { s.mg with peCmdResult := s.mg.peCmdResult.modify e.val (fun _ => 0) } ∧ (∀ m, m ≠ e.val →
    engOf s' m = engOf s m)) ∧
  (∀ (t : Nat) (e : Fin 8) (s : State), s.pw.dev ≠ .off → blockOn s 13 = true → blockOn s 11 = true →
    peBusy (s.advance t) e.val = false → ((engOf s e.val).prog = [] ∨ ((engOf s e.val).st ≠ .stopped ∧
    (engOf s e.val).st ≠ .done)) → ∃ s', exec (.arm t none e) s = .next s' ∧ keepsBut [.mg] (s.advance t) s' ∧
    s'.mg = { s.mg with peCmdResult := s.mg.peCmdResult.modify e.val (fun _ => 0xFC) }) ∧
  (∀ (t : Nat) (e : Fin 8) (s : State), s.pw.dev ≠ .off → blockOn s 13 = true → blockOn s 11 = true →
    peBusy (s.advance t) e.val = false → e.val < s.pat.eng.length → ∃ s', exec (.stop t none e) s = .next s' ∧
    keepsBut [.pat, .mg] (s.advance t) s' ∧ engOf s' e.val = { engOf s e.val with st := .stopped, latched := false } ∧
    s'.mg = { s.mg with peCmdResult := s.mg.peCmdResult.modify e.val (fun _ => 0) } ∧ (∀ m, m ≠ e.val →
    engOf s' m = engOf s m)) ∧
  (∀ (t : Nat) (p : Path) (e : Fin 8) (s : State), s.pw.dev ≠ .off → takes s p (0x2B10 + e.val) 2 [2] = true →
    e.val < s.pat.eng.length → ∃ s', exec (.stop t (some p) e) s = .next s' ∧ keepsBut [.pat, .dict] (s.advance t) s' ∧
    s'.dict.answer = 0 ∧ engOf s' e.val = { engOf s e.val with st := .stopped, latched := false } ∧ (∀ m, m ≠ e.val →
    engOf s' m = engOf s m)) ∧
  (∀ (t : Nat) (p : Path) (e : Fin 8) (s : State), s.pw.dev ≠ .off → takes s p (0x2B10 + e.val) 2 [3] = true →
    pgTrig (engOf s e.val).prog = 0 → ((engOf s e.val).st = .armed ∨ (engOf s e.val).st = .waiting) →
    (engOf s e.val).latched = false → ∃ s', exec (.trigger t (some p) e) s = .next s' ∧
    keepsBut [.pat, .dict] (s.advance t) s' ∧ s'.dict.answer = 0 ∧
    s'.pat = { s.pat with eng := s.pat.eng.modify e.val (fun x => { x with latched := true }) }) ∧
  (∀ (t : Nat) (p : Path) (e : Fin 8) (s : State), s.pw.dev ≠ .off → takes s p (0x2B10 + e.val) 2 [3] = true →
    pgTrig (engOf s e.val).prog = 0 → (engTakes (engOf s e.val) = false ∨ (engOf s e.val).latched = true) →
    ∃ s', exec (.trigger t (some p) e) s = .next s' ∧ keepsBut [.pat, .dict] (s.advance t) s' ∧ s'.dict.answer = 0 ∧
    s'.pat = { s.pat with trigIgnored := s.pat.trigIgnored + 1 }) ∧
  (∀ (t : Nat) (p : Path) (e : Fin 8) (s : State), s.pw.dev ≠ .off → takes s p (0x2B10 + e.val) 2 [3] = true →
    pgTrig (engOf s e.val).prog ≠ 0 → ∃ s', exec (.trigger t (some p) e) s = .next s' ∧
    keepsBut [.dict] (s.advance t) s' ∧ s'.dict.answer = abState) ∧
  (∀ (t : Nat) (e : Fin 8) (s : State), s.pw.dev ≠ .off → blockOn s 13 = true → blockOn s 11 = true →
    peBusy (s.advance t) e.val = false → pgTrig (engOf s e.val).prog = 0 → engTakes (engOf s e.val) = true →
    (engOf s e.val).latched = false → ∃ s', exec (.trigger t none e) s = .next s' ∧
    keepsBut [.pat, .mg] (s.advance t) s' ∧
    s'.pat = { s.pat with eng := s.pat.eng.modify e.val (fun x => { x with latched := true }) } ∧
    s'.mg = { s.mg with peCmdResult := s.mg.peCmdResult.modify e.val (fun _ => 0) }) ∧
  (∀ (t : Nat) (e : Fin 8) (s : State), s.pw.dev ≠ .off → blockOn s 13 = true → blockOn s 11 = true →
    peBusy (s.advance t) e.val = false → pgTrig (engOf s e.val).prog ≠ 0 → ∃ s', exec (.trigger t none e) s = .next s' ∧
    keepsBut [.mg] (s.advance t) s' ∧
    s'.mg = { s.mg with peCmdResult := s.mg.peCmdResult.modify e.val (fun _ => 0xFC) }) ∧
  (∀ (t : Nat) (e : Fin 8) (c : Instr) (s : State), s.pw.dev ≠ .off → blockOn s 13 = true → blockOn s 11 = true →
    peBusy (s.advance t) e.val = true → (c = .arm t none e ∨ c = .stop t none e ∨ c = .trigger t none e) →
    ∃ s', exec (c) s = .next s' ∧ keepsBut [.mg] (s.advance t) s' ∧
    s'.mg = { s.mg with peCmdResult := s.mg.peCmdResult.modify e.val (fun _ => 0xFE) }) ∧
  (∀ (t : Nat) (e : Fin 8) (c : Instr) (s : State), s.pw.dev ≠ .off → blockOn s 11 = false →
    (c = .arm t none e ∨ c = .stop t none e ∨ c = .trigger t none e) → ∃ s', exec (c) s = .next s' ∧
    keepsBut [] (s.advance t) s' ∧ s'.pat = s.pat ∧ s'.mg = s.mg) ∧
  (∀ (t : Nat) (e : Fin 8) (c : Instr) (s : State), s.pw.dev ≠ .off → blockOn s 13 = false → blockOn s 11 = true →
    (c = .arm t none e ∨ c = .stop t none e ∨ c = .trigger t none e) → ∃ s', exec (c) s = .next s' ∧
    keepsBut (.pw :: .free :: raiseBlks) (s.advance t) s' ∧ bmGet s'.saf.latched 0xC8 = true ∧
    s'.pw.busErrors = s.pw.busErrors + 1 ∧ s'.pat = s.pat ∧ s'.mg.peCmdResult = s.mg.peCmdResult) ∧
  (∀ (t v : Nat) (s : State), s.pw.dev ≠ .off → blockOn s 13 = true → blockOn s 11 = true → v < 256 →
    ∃ s', exec (.triggerSet t none v) s = .next s' ∧ keepsBut [.pat] (s.advance t) s' ∧
    (∀ i < 8, engOf s' i = { engOf s i with latched := (engOf s i).latched || (bitOf v i && pgTrig (engOf s i).prog == 0 && engTakes (engOf s i)) })) ∧
  (∀ (t v : Nat) (p : Path) (s : State), s.pw.dev ≠ .off → takes s p 0x2B00 1 (leBytes 1 v) = true → v < 256 →
    ∃ s', exec (.triggerSet t (some p) v) s = .next s' ∧ keepsBut [.pat, .dict] (s.advance t) s' ∧ s'.dict.answer = 0 ∧
    (∀ i < 8, engOf s' i = { engOf s i with latched := (engOf s i).latched || (bitOf v i && pgTrig (engOf s i).prog == 0 && engTakes (engOf s i)) })) ∧
  (∀ (t v : Nat) (s : State), s.pw.dev ≠ .off → blockOn s 11 = false →
    ∃ s', exec (.triggerSet t none v) s = .next s' ∧ keepsBut [] (s.advance t) s' ∧ s'.pat = s.pat) ∧
  (∀ (t v : Nat) (s : State), s.pw.dev ≠ .off → blockOn s 13 = false → blockOn s 11 = true →
    ∃ s', exec (.triggerSet t none v) s = .next s' ∧ keepsBut (.pw :: .free :: raiseBlks) (s.advance t) s' ∧
    bmGet s'.saf.latched 0xC8 = true ∧ s'.pw.busErrors = s.pw.busErrors + 1 ∧ s'.pat = s.pat) ∧
  (∀ (t : Nat) (e : Fin 8) (s : State), s.pw.dev ≠ .off → active s = true →
    timeDue (s.advance t) (engOf s e.val) = true → e.val < s.pat.eng.length →
    ∃ s', exec (.timeTrigger t e) s = .next s' ∧ keepsBut [.pat] (s.advance t) s' ∧ (engOf s' e.val).fired = true ∧
    (engOf s' e.val).latched = true ∧ (engOf s' e.val).st = .armed ∧
    s'.pat.trigIgnored = s.pat.trigIgnored + b2n (engOf s e.val).latched ∧ (∀ m, m ≠ e.val → engOf s' m = engOf s m)) ∧
  (∀ (t : Nat) (e : Fin 8) (s : State), s.pw.dev ≠ .off →
    (active s = false ∨ timeDue (s.advance t) (engOf s e.val) = false) → ∃ s', exec (.timeTrigger t e) s = .next s' ∧
    keepsBut [] (s.advance t) s' ∧ s'.pat = s.pat)

/-- SENSE_WINDOW_DONE, the end of a window of 2.0 us in a state that measures, for a pixel that is due, and
FORCED_PULSE. Each clause: under its hypotheses on the state and the operands exec answers a next state, in which no
part of the state but those it lists differs from the state at the command's instant, and there (1) a live window cut
short is discarded and counted (R260); (2) so is one whose pixel did not emit at HI throughout, or whose rail leaves
under 300 mV over Vf (R260, R262); (3) a valid one of the pixel that comes first is counted, makes the pixel due again
after T_sw and is judged by Table 10.3 with the sense corrections of its district; one that passes leaves no other
trace (R264, R271, R286); (4) one that fails with a class its table entry has not is a first failure and a transient,
and enters the retry list of its district (R276, R388); (5) in a full list it is only counted (R276); (6) what a lit
window shows of a pixel with a stuck-on entry changes nothing in the table (R275); (7) before the SENSE calibration of
its district a window is measured and not judged (R286); (8) a retry that fails again is lasting: counted, out of the
list, and 0x50 is raised (R277); (9) and one that passes is a transient (R277, R388); (10) the window of a forced
pulse, which ends with the pulse, is judged alike and spends the pulse (R267); (11) cut short it is discarded; (12)
without a pulse, outside NORMAL and DEGRADED, or for a pixel that waits for a stuck-on retry there is none (R275,
R293); (13) a stuck-on retry is read in the dark where Sum mode is permitted, once no screening or search waits and no
retry of its district comes first, and above Lim for one pixel it is lasting (R275, R277); (14) before SENSE it only
takes its time (R286); (15) cut short it is discarded; (16) and elsewhere there is none; (17) a pixel in the LO range
is not judged live (R261); (18) a pixel that is not due is not measured, nor one whose converter another window has
taken, and none out of READY and LIT or in LIMP, HOLD and DARK (R259, R264, R293); (19) nor one that fell due within
the window, to which the frame gives no interval, or before which another comes (R261, R264); (20) a pending forced
pulse is executed in the tick of its instant in LIT with permission (R55, R267); (21) not before, nor in another
state; one whose instant has passed is cancelled (R267). -/
def Obligations.WindowsAreJudged : Prop :=
  (∀ (t px py rail vf i : Nat) (s : State), s.pw.dev ≠ .off → active s = true → ticks s 8 8 = true →
    diagRuns (s.advance t) true = true → px < 2048 → py < 1024 → dueAt s (2048 * py + px) ≤ (s.advance t).now →
    convFree (s.advance t) (keyD (2048 * py + px)) true = true →
    s.diag.retry.any (fun r => r == ((2048 * py + px), 4)) = false →
    ∃ s', exec (.senseWindowDone t px py .liveHi true rail vf i) s = .next s' ∧ keepsBut [.diag] (s.advance t) s' ∧
    s'.diag = { s.diag with discarded := s.diag.discarded + 1, convAt := s.diag.convAt.modify (keyD (2048 * py + px)) (fun _ => some (s.advance t).now) }) ∧
  (∀ (t px py rail vf i : Nat) (s : State), s.pw.dev ≠ .off → active s = true → ticks s 8 8 = true →
    diagRuns (s.advance t) false = true → px < 2048 → py < 1024 → dueAt s (2048 * py + px) ≤ (s.advance t).now →
    convFree (s.advance t) (keyD (2048 * py + px)) false = true →
    s.diag.retry.any (fun r => r == ((2048 * py + px), 4)) = false →
    dueAt s (2048 * py + px) + 2000000 ≤ (s.advance t).now →
    (s.arr.ramp = .force ∨ qualifies (s.advance t) (2048 * py + px) = true) →
    firstLive (s.advance t) (2048 * py + px) = true →
    (emitsHi (s.advance t) px py = false ∨ rail < (senseVf s (keyD (2048 * py + px)) vf) + 300) →
    ∃ s', exec (.senseWindowDone t px py .liveHi false rail vf i) s = .next s' ∧ keepsBut [.diag] (s.advance t) s' ∧
    s'.diag = { s.diag with discarded := s.diag.discarded + 1, convAt := s.diag.convAt.modify (keyD (2048 * py + px)) (fun _ => some (s.advance t).now) }) ∧
  (∀ (t px py rail vf i : Nat) (s : State), s.pw.dev ≠ .off → active s = true → ticks s 8 8 = true →
    diagRuns (s.advance t) false = true → px < 2048 → py < 1024 → dueAt s (2048 * py + px) ≤ (s.advance t).now →
    convFree (s.advance t) (keyD (2048 * py + px)) false = true →
    s.diag.retry.any (fun r => r.1 == (2048 * py + px)) = false →
    dueAt s (2048 * py + px) + 2000000 ≤ (s.advance t).now →
    (s.arr.ramp = .force ∨ qualifies (s.advance t) (2048 * py + px) = true) →
    firstLive (s.advance t) (2048 * py + px) = true → emitsHi (s.advance t) px py = true →
    (senseVf s (keyD (2048 * py + px)) vf) + 300 ≤ rail →
    classifyHi (s.advance t) (2048 * py + px) (senseVf s (keyD (2048 * py + px)) vf) (senseI s (keyD (2048 * py + px)) i) = 0 →
    keyD (2048 * py + px) ∈ s.diag.senseDone →
    ∃ s', exec (.senseWindowDone t px py .liveHi false rail vf i) s = .next s' ∧
    keepsBut [.diag, .th] (s.advance t) s' ∧ s'.diag.measurements = s.diag.measurements + 1 ∧
    dueAt s' (2048 * py + px) = (s.advance t).now + sweepPs s ∧
    s'.diag.convAt = s.diag.convAt.modify (keyD (2048 * py + px)) (fun _ => some (s.advance t).now) ∧
    s'.diag.retry = s.diag.retry ∧ s'.diag.lasting = s.diag.lasting ∧ s'.diag.firstFailures = s.diag.firstFailures) ∧
  (∀ (t px py rail vf i c : Nat) (s : State), s.pw.dev ≠ .off → active s = true → ticks s 8 8 = true →
    diagRuns (s.advance t) false = true → px < 2048 → py < 1024 → dueAt s (2048 * py + px) ≤ (s.advance t).now →
    convFree (s.advance t) (keyD (2048 * py + px)) false = true →
    s.diag.retry.any (fun r => r.1 == (2048 * py + px)) = false →
    dueAt s (2048 * py + px) + 2000000 ≤ (s.advance t).now →
    (s.arr.ramp = .force ∨ qualifies (s.advance t) (2048 * py + px) = true) →
    firstLive (s.advance t) (2048 * py + px) = true → emitsHi (s.advance t) px py = true →
    (senseVf s (keyD (2048 * py + px)) vf) + 300 ≤ rail →
    classifyHi (s.advance t) (2048 * py + px) (senseVf s (keyD (2048 * py + px)) vf) (senseI s (keyD (2048 * py + px)) i) = c →
    c ≠ 0 → tableClass s (2048 * py + px) ≠ 4 → c ≠ tableClass s (2048 * py + px) →
    keyD (2048 * py + px) ∈ s.diag.senseDone →
    (s.diag.retry.filter (fun r => keyD r.1 == keyD (2048 * py + px))).length < 64 →
    ∃ s', exec (.senseWindowDone t px py .liveHi false rail vf i) s = .next s' ∧
    keepsBut [.diag, .th, .saf, .mg] (s.advance t) s' ∧ s'.diag.measurements = s.diag.measurements + 1 ∧
    s'.diag.firstFailures = s.diag.firstFailures + 1 ∧ s'.diag.retry = s.diag.retry ++ [((2048 * py + px), c)] ∧
    s'.saf.latched = s.saf.latched) ∧
  (∀ (t px py rail vf i c : Nat) (s : State), s.pw.dev ≠ .off → active s = true → ticks s 8 8 = true →
    diagRuns (s.advance t) false = true → px < 2048 → py < 1024 → dueAt s (2048 * py + px) ≤ (s.advance t).now →
    convFree (s.advance t) (keyD (2048 * py + px)) false = true →
    s.diag.retry.any (fun r => r.1 == (2048 * py + px)) = false →
    dueAt s (2048 * py + px) + 2000000 ≤ (s.advance t).now →
    (s.arr.ramp = .force ∨ qualifies (s.advance t) (2048 * py + px) = true) →
    firstLive (s.advance t) (2048 * py + px) = true → emitsHi (s.advance t) px py = true →
    (senseVf s (keyD (2048 * py + px)) vf) + 300 ≤ rail →
    classifyHi (s.advance t) (2048 * py + px) (senseVf s (keyD (2048 * py + px)) vf) (senseI s (keyD (2048 * py + px)) i) = c →
    c ≠ 0 → tableClass s (2048 * py + px) ≠ 4 → c ≠ tableClass s (2048 * py + px) →
    keyD (2048 * py + px) ∈ s.diag.senseDone →
    64 ≤ (s.diag.retry.filter (fun r => keyD r.1 == keyD (2048 * py + px))).length →
    ∃ s', exec (.senseWindowDone t px py .liveHi false rail vf i) s = .next s' ∧
    keepsBut [.diag, .th] (s.advance t) s' ∧ s'.diag.firstFailures = s.diag.firstFailures + 1 ∧
    s'.diag.retryFull = s.diag.retryFull + 1 ∧ s'.diag.retry = s.diag.retry) ∧
  (∀ (t px py rail vf i : Nat) (s : State), s.pw.dev ≠ .off → active s = true → ticks s 8 8 = true →
    diagRuns (s.advance t) false = true → px < 2048 → py < 1024 → dueAt s (2048 * py + px) ≤ (s.advance t).now →
    convFree (s.advance t) (keyD (2048 * py + px)) false = true →
    s.diag.retry.any (fun r => r.1 == (2048 * py + px)) = false →
    dueAt s (2048 * py + px) + 2000000 ≤ (s.advance t).now →
    (s.arr.ramp = .force ∨ qualifies (s.advance t) (2048 * py + px) = true) →
    firstLive (s.advance t) (2048 * py + px) = true → emitsHi (s.advance t) px py = true →
    (senseVf s (keyD (2048 * py + px)) vf) + 300 ≤ rail → tableClass s (2048 * py + px) = 4 →
    keyD (2048 * py + px) ∈ s.diag.senseDone →
    ∃ s', exec (.senseWindowDone t px py .liveHi false rail vf i) s = .next s' ∧
    keepsBut [.diag, .th] (s.advance t) s' ∧ s'.diag.measurements = s.diag.measurements + 1 ∧
    dueAt s' (2048 * py + px) = (s.advance t).now + sweepPs s ∧
    s'.diag.convAt = s.diag.convAt.modify (keyD (2048 * py + px)) (fun _ => some (s.advance t).now) ∧
    s'.diag.retry = s.diag.retry ∧ s'.diag.firstFailures = s.diag.firstFailures ∧ s'.nv.table = s.nv.table) ∧
  (∀ (t px py rail vf i : Nat) (s : State), s.pw.dev ≠ .off → active s = true → ticks s 8 8 = true →
    diagRuns (s.advance t) false = true → px < 2048 → py < 1024 → dueAt s (2048 * py + px) ≤ (s.advance t).now →
    convFree (s.advance t) (keyD (2048 * py + px)) false = true →
    s.diag.retry.any (fun r => r == ((2048 * py + px), 4)) = false →
    dueAt s (2048 * py + px) + 2000000 ≤ (s.advance t).now →
    (s.arr.ramp = .force ∨ qualifies (s.advance t) (2048 * py + px) = true) →
    firstLive (s.advance t) (2048 * py + px) = true → emitsHi (s.advance t) px py = true →
    (senseVf s (keyD (2048 * py + px)) vf) + 300 ≤ rail → keyD (2048 * py + px) ∉ s.diag.senseDone →
    ∃ s', exec (.senseWindowDone t px py .liveHi false rail vf i) s = .next s' ∧
    keepsBut [.diag, .th] (s.advance t) s' ∧ s'.diag.measurements = s.diag.measurements + 1 ∧
    dueAt s' (2048 * py + px) = (s.advance t).now + sweepPs s ∧
    s'.diag.convAt = s.diag.convAt.modify (keyD (2048 * py + px)) (fun _ => some (s.advance t).now) ∧
    s'.diag.retry = s.diag.retry ∧ s'.diag.firstFailures = s.diag.firstFailures ∧ s'.diag.lasting = s.diag.lasting) ∧
  (∀ (t px py rail vf i c : Nat) (s : State), s.pw.dev ≠ .off → active s = true → ticks s 8 8 = true →
    diagRuns (s.advance t) false = true → px < 2048 → py < 1024 → dueAt s (2048 * py + px) ≤ (s.advance t).now →
    convFree (s.advance t) (keyD (2048 * py + px)) false = true →
    s.diag.retry.any (fun r => r == ((2048 * py + px), 4)) = false →
    s.diag.retry.any (fun r => r.1 == (2048 * py + px)) = true →
    dueAt s (2048 * py + px) + 2000000 ≤ (s.advance t).now →
    (s.arr.ramp = .force ∨ qualifies (s.advance t) (2048 * py + px) = true) →
    firstLive (s.advance t) (2048 * py + px) = true → emitsHi (s.advance t) px py = true →
    (senseVf s (keyD (2048 * py + px)) vf) + 300 ≤ rail →
    classifyHi (s.advance t) (2048 * py + px) (senseVf s (keyD (2048 * py + px)) vf) (senseI s (keyD (2048 * py + px)) i) = c →
    c ≠ 0 → keyD (2048 * py + px) ∈ s.diag.senseDone →
    ∃ s', exec (.senseWindowDone t px py .liveHi false rail vf i) s = .next s' ∧
    keepsBut (.th :: .nv :: raiseBlks) (s.advance t) s' ∧ s'.diag.lasting = s.diag.lasting + 1 ∧
    bmGet s'.saf.latched 0x50 = true ∧ s'.diag.retry = s.diag.retry.filter (fun r => r.1 ≠ (2048 * py + px))) ∧
  (∀ (t px py rail vf i : Nat) (s : State), s.pw.dev ≠ .off → active s = true → ticks s 8 8 = true →
    diagRuns (s.advance t) false = true → px < 2048 → py < 1024 → dueAt s (2048 * py + px) ≤ (s.advance t).now →
    convFree (s.advance t) (keyD (2048 * py + px)) false = true →
    s.diag.retry.any (fun r => r == ((2048 * py + px), 4)) = false →
    s.diag.retry.any (fun r => r.1 == (2048 * py + px)) = true →
    dueAt s (2048 * py + px) + 2000000 ≤ (s.advance t).now →
    (s.arr.ramp = .force ∨ qualifies (s.advance t) (2048 * py + px) = true) →
    firstLive (s.advance t) (2048 * py + px) = true → emitsHi (s.advance t) px py = true →
    (senseVf s (keyD (2048 * py + px)) vf) + 300 ≤ rail →
    classifyHi (s.advance t) (2048 * py + px) (senseVf s (keyD (2048 * py + px)) vf) (senseI s (keyD (2048 * py + px)) i) = 0 →
    keyD (2048 * py + px) ∈ s.diag.senseDone →
    ∃ s', exec (.senseWindowDone t px py .liveHi false rail vf i) s = .next s' ∧
    keepsBut [.diag, .th, .saf, .mg] (s.advance t) s' ∧ s'.diag.transients = s.diag.transients + 1 ∧
    s'.diag.lasting = s.diag.lasting ∧ s'.diag.retry = s.diag.retry.filter (fun r => r.1 ≠ (2048 * py + px)) ∧
    s'.saf.latched = s.saf.latched) ∧
  (∀ (t px py rail vf i : Nat) (s : State), s.pw.dev ≠ .off → active s = true → ticks s 8 8 = true →
    diagRuns (s.advance t) false = true → px < 2048 → py < 1024 → dueAt s (2048 * py + px) ≤ (s.advance t).now →
    convFree (s.advance t) (keyD (2048 * py + px)) false = true →
    s.diag.retry.any (fun r => r == ((2048 * py + px), 4)) = false →
    pulseEnds (s.advance t) (2048 * py + px) false = true → darkRuns (s.advance t) false = true →
    (senseVf s (keyD (2048 * py + px)) vf) + 300 ≤ rail →
    classifyHi (s.advance t) (2048 * py + px) (senseVf s (keyD (2048 * py + px)) vf) (senseI s (keyD (2048 * py + px)) i) = 0 →
    s.diag.retry.any (fun r => r.1 == (2048 * py + px)) = false →
    ∃ s', exec (.senseWindowDone t px py .forced false rail vf i) s = .next s' ∧
    keepsBut [.diag, .th] (s.advance t) s' ∧ s'.diag.measurements = s.diag.measurements + 1 ∧
    dueAt s' (2048 * py + px) = (s.advance t).now + sweepPs s ∧
    s'.diag.convAt = s.diag.convAt.modify (keyD (2048 * py + px)) (fun _ => some (s.advance t).now) ∧
    s'.diag.darkProbes = s.diag.darkProbes + 1 ∧
    s'.diag.pulsed = s.diag.pulsed.filter (fun p => p.2.1 ≠ (2048 * py + px)) ∧ s'.diag.retry = s.diag.retry) ∧
  (∀ (t px py rail vf i : Nat) (s : State), s.pw.dev ≠ .off → active s = true → ticks s 8 8 = true →
    diagRuns (s.advance t) true = true → px < 2048 → py < 1024 → dueAt s (2048 * py + px) ≤ (s.advance t).now →
    convFree (s.advance t) (keyD (2048 * py + px)) true = true →
    s.diag.retry.any (fun r => r == ((2048 * py + px), 4)) = false →
    pulseEnds (s.advance t) (2048 * py + px) true = true → darkRuns (s.advance t) true = true →
    ∃ s', exec (.senseWindowDone t px py .forced true rail vf i) s = .next s' ∧ keepsBut [.diag] (s.advance t) s' ∧
    s'.diag = { s.diag with pulsed := s.diag.pulsed.filter (fun p => p.2.1 ≠ (2048 * py + px)), discarded := s.diag.discarded + 1, convAt := s.diag.convAt.modify (keyD (2048 * py + px)) (fun _ => some (s.advance t).now) }) ∧
  (∀ (t px py rail vf i : Nat) (cut : Bool) (s : State), s.pw.dev ≠ .off →
    (pulseEnds (s.advance t) (2048 * py + px) cut = false ∨ darkRuns (s.advance t) cut = false ∨ s.diag.retry.any (fun r => r == ((2048 * py + px), 4)) = true) →
    ∃ s', exec (.senseWindowDone t px py .forced cut rail vf i) s = .next s' ∧ keepsBut [] (s.advance t) s' ∧
    s'.diag = s.diag) ∧
  (∀ (t px py rail vf i : Nat) (s : State), s.pw.dev ≠ .off → active s = true → ticks s 8 8 = true →
    diagRuns (s.advance t) false = true → px < 2048 → py < 1024 → dueAt s (2048 * py + px) ≤ (s.advance t).now →
    convFree (s.advance t) (keyD (2048 * py + px)) false = true → hostBeam s = true → sumDark s = true →
    s.diag.retry.any (fun r => r == ((2048 * py + px), 4)) = true → firstDark (s.advance t) (2048 * py + px) = true →
    keyD (2048 * py + px) ∈ s.diag.senseDone →
    stuckLim (s.advance t) 1 (keyD (2048 * py + px)) < (senseI s (keyD (2048 * py + px)) i) →
    ∃ s', exec (.senseWindowDone t px py .dark false rail vf i) s = .next s' ∧
    keepsBut (.th :: .nv :: raiseBlks) (s.advance t) s' ∧ s'.diag.lasting = s.diag.lasting + 1 ∧
    bmGet s'.saf.latched 0x50 = true ∧ s'.diag.retry = s.diag.retry.filter (fun r => r.1 ≠ (2048 * py + px)) ∧
    dueAt s' (2048 * py + px) = (s.advance t).now + sweepPs s) ∧
  (∀ (t px py rail vf i : Nat) (s : State), s.pw.dev ≠ .off → active s = true → ticks s 8 8 = true →
    diagRuns (s.advance t) false = true → px < 2048 → py < 1024 → dueAt s (2048 * py + px) ≤ (s.advance t).now →
    convFree (s.advance t) (keyD (2048 * py + px)) false = true → hostBeam s = true → sumDark s = true →
    s.diag.retry.any (fun r => r == ((2048 * py + px), 4)) = true → firstDark (s.advance t) (2048 * py + px) = true →
    keyD (2048 * py + px) ∉ s.diag.senseDone →
    ∃ s', exec (.senseWindowDone t px py .dark false rail vf i) s = .next s' ∧ keepsBut [.diag] (s.advance t) s' ∧
    s'.diag = { s.diag with due := aput s.diag.due (2048 * py + px) ((s.advance t).now + sweepPs s), convAt := s.diag.convAt.modify (keyD (2048 * py + px)) (fun _ => some (s.advance t).now) }) ∧
  (∀ (t px py rail vf i : Nat) (s : State), s.pw.dev ≠ .off → active s = true → ticks s 8 8 = true →
    diagRuns (s.advance t) true = true → px < 2048 → py < 1024 → dueAt s (2048 * py + px) ≤ (s.advance t).now →
    convFree (s.advance t) (keyD (2048 * py + px)) true = true →
    s.diag.retry.any (fun r => r == ((2048 * py + px), 4)) = true → darkRuns (s.advance t) true = true →
    ∃ s', exec (.senseWindowDone t px py .dark true rail vf i) s = .next s' ∧ keepsBut [.diag] (s.advance t) s' ∧
    s'.diag = { s.diag with discarded := s.diag.discarded + 1, convAt := s.diag.convAt.modify (keyD (2048 * py + px)) (fun _ => some (s.advance t).now) }) ∧
  (∀ (t px py rail vf i : Nat) (cut : Bool) (s : State), s.pw.dev ≠ .off →
    (s.diag.retry.any (fun r => r == ((2048 * py + px), 4)) = false ∨ darkRuns (s.advance t) cut = false ∨ (cut = false ∧
    (sumDark s = false ∨ firstDark (s.advance t) (2048 * py + px) = false))) →
    ∃ s', exec (.senseWindowDone t px py .dark cut rail vf i) s = .next s' ∧ keepsBut [] (s.advance t) s' ∧
    s'.diag = s.diag) ∧
  (∀ (t px py rail vf i : Nat) (cut : Bool) (s : State), s.pw.dev ≠ .off →
    ∃ s', exec (.senseWindowDone t px py .liveLo cut rail vf i) s = .next s' ∧ keepsBut [] (s.advance t) s' ∧
    s'.diag = s.diag) ∧
  (∀ (t px py rail vf i : Nat) (kind : SenseKind) (cut : Bool) (s : State), s.pw.dev ≠ .off →
    (active s = false ∨ ticks s 8 8 = false ∨ diagRuns (s.advance t) cut = false ∨ 2048 ≤ px ∨ 1024 ≤ py ∨ (s.advance t).now < dueAt s (2048 * py + px) ∨ convFree (s.advance t) (keyD (2048 * py + px)) cut = false) →
    ∃ s', exec (.senseWindowDone t px py kind cut rail vf i) s = .next s' ∧ keepsBut [] (s.advance t) s' ∧
    s'.diag = s.diag) ∧
  (∀ (t px py rail vf i : Nat) (s : State), s.pw.dev ≠ .off →
    (s.diag.retry.any (fun r => r == ((2048 * py + px), 4)) = true ∨ (s.advance t).now < dueAt s (2048 * py + px) + 2000000 ∨ (s.arr.ramp ≠ .force ∧
    qualifies (s.advance t) (2048 * py + px) = false) ∨ firstLive (s.advance t) (2048 * py + px) = false) →
    ∃ s', exec (.senseWindowDone t px py .liveHi false rail vf i) s = .next s' ∧ keepsBut [] (s.advance t) s' ∧
    s'.diag = s.diag) ∧
  (∀ (t : Nat) (d : Fin 128) (p : Nat × Nat × Nat) (s : State), s.pw.dev ≠ .off →
    (s.diag.pulses.filter (fun q => decide ((s.advance t).now < q.2.2 + tickPs s))).find? (fun p => p.1 == d.val) = some p →
    probesRun s = true → p.2.2 ≤ (s.advance t).now → ∃ s', exec (.forcedPulse t d) s = .next s' ∧
    keepsBut [.diag, .sup] (s.advance t) s' ∧
    s'.diag.pulsed = s.diag.pulsed.filter (fun q => q.1 ≠ d.val) ++ [(d.val, p.2.1, (s.advance t).now)] ∧
    p ∉ s'.diag.pulses) ∧
  (∀ (t : Nat) (d : Fin 128) (s : State), s.pw.dev ≠ .off →
    (probesRun s = false ∨ (∀ p ∈ (s.diag.pulses.filter (fun q => decide ((s.advance t).now < q.2.2 + tickPs s))).find? (fun p => p.1 == d.val), (s.advance t).now < p.2.2)) →
    ∃ s', exec (.forcedPulse t d) s = .next s' ∧ keepsBut [.diag] (s.advance t) s' ∧
    s'.diag = { s.diag with pulses := (s.diag.pulses.filter (fun q => decide ((s.advance t).now < q.2.2 + tickPs s))) })

/-- STUCK_SCREEN, SWEEP_END, DIAG_TABLE_CLEAR, GAIN_UPDATE, REF_CURRENT, SENSE_CALIBRATION, STORE_CHECK, REXT_MONITOR,
CALIBRATION_NO_GAP, LIGHT_DARK and TEMP_MAP. Each clause: under its hypotheses on the state and the operands exec
answers a next state, in which no part of the state but those it lists differs from the state at the command's
instant, and there (1) a screening sum in a dark interval that permits Sum mode is counted and kept (R274); (2) one
above Lim after the pixels located is suspect and begins a search of its district (R274); (3) the window of a search
reads the sum of the upper half of its rows, and the search goes on in that half if it is suspect and else in the
other; (4) of one row the left half of its columns; (5) and at one pixel it is located: a first failure of class
stuck-on that enters the retry list, its current subtracted from later sums (R274, R276); (6) in a full list it is
only counted (R276); (7) no screening elsewhere (R293); (8) T_sw after the sweep began it is counted, its counts start
again and the next one begins (R265); (9) not before; (10) diag.table_clear empties the table and ends its causes
(R279); (11) a gain update writes the idle bank of its district and puts it in force (R237, R287); (12) where the load
in progress reads that bank it waits for the end of the load (R237); (13) a district above 127, a reserved byte or a
code above 1023 is refused with the value-range abort (R287); (14) REF_CURRENT keeps the current measured under the
gain of SENSE and the code nearest to the target, held within 0 to 1000, for the next launch (R291); (15) with R_EXT
out of range it fails and is the cause of 0x58 (R285, R290); (16) work of a higher rank on the converter, or a hold
line, aborts it, with status 5 (R263, R285); (17) and none runs out of READY and LIT, or untimed (R293); (18) SENSE
sets the offset and the gain of its converter wherever ANA is on (R286, R293); (19) one out of range keeps the values
of before and fails (R286); (20) it is aborted like REF_CURRENT (R263, R285); (21) without ANA it does not run; (22)
the store check rewrites each word that differs and raises 0x55 (R288); (23) a resistance out of 9.0 to 11.0 kOhm
freezes the codes and is the cause of 0x56; (24) one within ends it (R290); (25) without ANA it is not monitored; (26)
and out of READY and LIT the store is not checked; (27) a type without a usable interval has status 4 and is the cause
of its source (R285); (28) the dark offsets of the photodiodes are taken after 20 us of TAIL or of a whole-array
off-window, or with no frames at any time (R293, R333); (29) a shorter interval aborts it (R285); (30) and elsewhere
none is; (31) TEMP_MAP makes the map valid, and with the diode broken it fails and keeps its offset (R321, R328); (32)
without ANA it does not run. -/
def Obligations.CalibrationsComplete : Prop :=
  (∀ (t sum : Nat) (d : Fin 128) (s : State), s.pw.dev ≠ .off → active s = true → hostBeam s = true → tb8Ok s = true →
    sumDark s = true → convFree (s.advance t) d.val false = true → afind s.diag.search d.val = none →
    senseI s d.val sum - locatedIn s (128 * (d.val % 16)) (128 * (d.val / 16)) 128 128 ≤ stuckLim (s.advance t) 16384 d.val →
    ∃ s', exec (.stuckScreen t d sum []) s = .next s' ∧ keepsBut [.diag] (s.advance t) s' ∧
    s'.diag = { s.diag with stuckScreens := s.diag.stuckScreens + 1, darkSum := s.diag.darkSum.modify d.val (fun _ => senseI s d.val sum), screenAt := s.diag.screenAt.modify d.val (fun _ => (s.advance t).now), convAt := s.diag.convAt.modify d.val (fun _ => some (s.advance t).now) }) ∧
  (∀ (t sum : Nat) (d : Fin 128) (s : State), s.pw.dev ≠ .off → active s = true → hostBeam s = true → tb8Ok s = true →
    sumDark s = true → convFree (s.advance t) d.val false = true → afind s.diag.search d.val = none →
    stuckLim (s.advance t) 16384 d.val < senseI s d.val sum - locatedIn s (128 * (d.val % 16)) (128 * (d.val / 16)) 128 128 →
    ∃ s', exec (.stuckScreen t d sum []) s = .next s' ∧ keepsBut [.diag, .sup] (s.advance t) s' ∧
    afind s'.diag.search d.val = some (wholeRect d.val (senseI s d.val sum - locatedIn s (128 * (d.val % 16)) (128 * (d.val / 16)) 128 128)) ∧
    s'.diag.stuckScreens = s.diag.stuckScreens + 1) ∧
  (∀ (t sum r : Nat) (d : Fin 128) (q : StuckRect) (s : State), s.pw.dev ≠ .off → active s = true →
    hostBeam s = true → tb8Ok s = true → sumDark s = true → convFree (s.advance t) d.val false = true →
    afind s.diag.search d.val = some q → 1 < q.h → q.w * (q.h / 2) ≠ 1 →
    ∃ s', exec (.stuckScreen t d sum [r]) s = .next s' ∧ keepsBut [.diag, .sup] (s.advance t) s' ∧
    afind s'.diag.search d.val = some (if stuckLim (s.advance t) (q.w * (q.h / 2)) d.val < senseI s d.val r - locatedIn s q.x0 q.y0 q.w (q.h / 2) then { q with h := q.h / 2, sum := senseI s d.val r - locatedIn s q.x0 q.y0 q.w (q.h / 2) } else { q with y0 := q.y0 + q.h / 2, h := q.h / 2, sum := q.sum - (senseI s d.val r - locatedIn s q.x0 q.y0 q.w (q.h / 2)) })) ∧
  (∀ (t sum r : Nat) (d : Fin 128) (q : StuckRect) (s : State), s.pw.dev ≠ .off → active s = true →
    hostBeam s = true → tb8Ok s = true → sumDark s = true → convFree (s.advance t) d.val false = true →
    afind s.diag.search d.val = some q → q.h = 1 → 1 < q.w → q.w / 2 ≠ 1 →
    ∃ s', exec (.stuckScreen t d sum [r]) s = .next s' ∧ keepsBut [.diag, .sup] (s.advance t) s' ∧
    afind s'.diag.search d.val = some (if stuckLim (s.advance t) (q.w / 2 * q.h) d.val < senseI s d.val r - locatedIn s q.x0 q.y0 (q.w / 2) q.h then { q with w := q.w / 2, sum := senseI s d.val r - locatedIn s q.x0 q.y0 (q.w / 2) q.h } else { q with x0 := q.x0 + q.w / 2, w := q.w / 2, sum := q.sum - (senseI s d.val r - locatedIn s q.x0 q.y0 (q.w / 2) q.h) })) ∧
  (∀ (t sum r k : Nat) (d : Fin 128) (q : StuckRect) (s : State), s.pw.dev ≠ .off → active s = true →
    hostBeam s = true → tb8Ok s = true → sumDark s = true → convFree (s.advance t) d.val false = true →
    afind s.diag.search d.val = some q → q.h = 1 → q.w = 2 →
    k = 2048 * q.y0 + (if stuckLim (s.advance t) 1 d.val < senseI s d.val r - locatedIn s q.x0 q.y0 1 1 then q.x0 else q.x0 + 1) →
    tableClass s k ≠ 4 → s.diag.retry.any (fun r => r.1 == k) = false → s.diag.located.any (fun l => l.1 == k) = false →
    keyD k = d.val → (s.diag.retry.filter (fun r => keyD r.1 == d.val)).length < 64 →
    ∃ s', exec (.stuckScreen t d sum [r]) s = .next s' ∧ keepsBut [.diag, .saf, .mg, .sup] (s.advance t) s' ∧
    s'.diag.located = s.diag.located ++ [(k, (if stuckLim (s.advance t) 1 d.val < senseI s d.val r - locatedIn s q.x0 q.y0 1 1 then senseI s d.val r - locatedIn s q.x0 q.y0 1 1 else q.sum - (senseI s d.val r - locatedIn s q.x0 q.y0 1 1)))] ∧
    s'.diag.retry = s.diag.retry ++ [(k, 4)] ∧ s'.diag.firstFailures = s.diag.firstFailures + 1) ∧
  (∀ (t sum r k : Nat) (d : Fin 128) (q : StuckRect) (s : State), s.pw.dev ≠ .off → active s = true →
    hostBeam s = true → tb8Ok s = true → sumDark s = true → convFree (s.advance t) d.val false = true →
    afind s.diag.search d.val = some q → q.h = 1 → q.w = 2 →
    k = 2048 * q.y0 + (if stuckLim (s.advance t) 1 d.val < senseI s d.val r - locatedIn s q.x0 q.y0 1 1 then q.x0 else q.x0 + 1) →
    tableClass s k ≠ 4 → s.diag.retry.any (fun r => r.1 == k) = false → s.diag.located.any (fun l => l.1 == k) = false →
    keyD k = d.val → 64 ≤ (s.diag.retry.filter (fun r => keyD r.1 == d.val)).length →
    ∃ s', exec (.stuckScreen t d sum [r]) s = .next s' ∧ keepsBut [.diag, .sup] (s.advance t) s' ∧
    s'.diag.located = s.diag.located ∧ s'.diag.retry = s.diag.retry ∧ s'.diag.firstFailures = s.diag.firstFailures + 1 ∧
    s'.diag.retryFull = s.diag.retryFull + 1) ∧
  (∀ (t sum : Nat) (d : Fin 128) (ws : List Nat) (s : State), s.pw.dev ≠ .off →
    (active s = false ∨ hostBeam s = false ∨ tb8Ok s = false ∨ sumDark s = false ∨ convFree (s.advance t) d.val false = false) →
    ∃ s', exec (.stuckScreen t d sum ws) s = .next s' ∧ keepsBut [] (s.advance t) s' ∧ s'.diag = s.diag) ∧
  (∀ (t : Nat) (s : State), s.pw.dev ≠ .off → active s = true →
    spanOver (s.advance t) s.diag.sweepAt (sweepPs s) = true → ∃ s', exec (.sweepEnd t) s = .next s' ∧
    keepsBut [.diag, .meas] (s.advance t) s' ∧ s'.diag.sweeps = s.diag.sweeps + 1 ∧
    s'.diag.liveN = List.replicate 128 0 ∧ s'.diag.probedN = List.replicate 128 0 ∧ s'.diag.retry = s.diag.retry ∧
    s'.diag.sweepAt = (s.advance t).now) ∧
  (∀ (t : Nat) (s : State), s.pw.dev ≠ .off →
    (active s = false ∨ spanOver (s.advance t) s.diag.sweepAt (sweepPs s) = false) →
    ∃ s', exec (.sweepEnd t) s = .next s' ∧ keepsBut [] (s.advance t) s' ∧ s'.diag = s.diag) ∧
  (∀ (t v : Nat) (p : Path) (s : State), s.pw.dev ≠ .off → takes s p 0x2800 8 (leBytes 1 v) = true →
    ∃ s', exec (.diagTableClear t p v) s = .next s' ∧ keepsBut [.diag, .nv, .mg, .saf, .dict] (s.advance t) s' ∧
    s'.dict.answer = 0 ∧ tableNow s' = [] ∧ s'.diag = { s.diag with tableOvf := false, located := [] } ∧
    bmGet s'.saf.causes 0x51 = false ∧ bmGet s'.saf.causes 0x52 = false ∧ bmGet s'.saf.causes 0x53 = false) ∧
  (∀ (t : Nat) (p : Path) (data : List Byte) (s : State), s.pw.dev ≠ .off → takes s p 0x2850 1 data = true →
    leField data 0 1 ≤ 127 → leField data 1 3 = 0 → (∀ i < 16384, leField data (4 + 2 * i) 2 ≤ 1023) →
    leField data 0 1 < s.diag.bank.length → s.diag.cal.length = 8 → gainBusy s (leField data 0 1) = false →
    ∃ s', exec (.gainUpdate t p data) s = .next s' ∧ keepsBut [.diag, .saf, .dict] (s.advance t) s' ∧
    s'.dict.answer = 0 ∧ nth s'.diag.bank (leField data 0 1) false = !nth s.diag.bank (leField data 0 1) false ∧
    nth s'.diag.cal 6 {} = { nth s.diag.cal 6 {} with count := (nth s.diag.cal 6 {}).count + 1, timeA := domTime (s.advance t) 0, timeB := domTime (s.advance t) 1, value := (leField data 0 1 : Nat), status := 2 } ∧
    (∀ i < 16384, afind (if nth s'.diag.bank (leField data 0 1) false = true then s'.diag.gainB else s'.diag.gainA) (distKey (leField data 0 1) i) = some (leField data (4 + 2 * i) 2))) ∧
  (∀ (t : Nat) (p : Path) (data : List Byte) (s : State), s.pw.dev ≠ .off → takes s p 0x2850 1 data = true →
    leField data 0 1 ≤ 127 → leField data 1 3 = 0 → (∀ i < 16384, leField data (4 + 2 * i) 2 ≤ 1023) →
    gainBusy s (leField data 0 1) = true → ∃ s', exec (.gainUpdate t p data) s = .next s' ∧
    keepsBut [.diag, .dict] (s.advance t) s' ∧ s'.dict.answer = 0 ∧
    s'.diag = { s.diag with gainWait := s.diag.gainWait ++ [(leField data 0 1, data)] }) ∧
  (∀ (t : Nat) (p : Path) (data : List Byte) (s : State), s.pw.dev ≠ .off → takes s p 0x2850 1 data = true →
    (127 < leField data 0 1 ∨ leField data 1 3 ≠ 0 ∨ ∃ i < 16384, 1023 < leField data (4 + 2 * i) 2) →
    ∃ s', exec (.gainUpdate t p data) s = .next s' ∧ keepsBut [.dict] (s.advance t) s' ∧ s'.dict.answer = abRange) ∧
  (∀ (t iHi : Nat) (d : Fin 128) (s : State), s.pw.dev ≠ .off → active s = true → ticks s 8 8 = true →
    converterBusy (s.advance t) d.val = false → s.saf.holdN = false → s.diag.rextBad = false →
    d.val < s.diag.iHi.length → s.diag.cal.length = 8 → ∃ s', exec (.refCurrent t d iHi) s = .next s' ∧
    keepsBut raiseBlks (s.advance t) s' ∧ nth s'.diag.iHi d.val 0 = senseI s d.val iHi ∧
    afind s'.diag.codeNew d.val = some (clampI (((nth s.arr.code d.val 500 : Nat) : Int) + nearest 13 ((s.arr.hiTarget : Int) - senseI s d.val iHi) 20) 0 1000).toNat ∧
    (nth s'.diag.cal 0 {}).count = (nth s.diag.cal 0 {}).count + 1) ∧
  (∀ (t iHi : Nat) (d : Fin 128) (s : State), s.pw.dev ≠ .off → active s = true → ticks s 8 8 = true →
    converterBusy (s.advance t) d.val = false → s.saf.holdN = false → s.diag.rextBad = true → s.diag.cal.length = 8 →
    ∃ s', exec (.refCurrent t d iHi) s = .next s' ∧ keepsBut raiseBlks (s.advance t) s' ∧
    nth s'.diag.cal 0 {} = { nth s.diag.cal 0 {} with count := (nth s.diag.cal 0 {}).count + 1, timeA := domTime (s.advance t) 0, timeB := domTime (s.advance t) 1, value := 0, status := 3 } ∧
    bmGet s'.saf.causes 0x58 = true ∧ s'.diag.codeNew = s.diag.codeNew) ∧
  (∀ (t iHi : Nat) (d : Fin 128) (s : State), s.pw.dev ≠ .off → active s = true → ticks s 8 8 = true →
    (converterBusy (s.advance t) d.val = true ∨ s.saf.holdN = true) → ∃ s', exec (.refCurrent t d iHi) s = .next s' ∧
    keepsBut [.diag] (s.advance t) s' ∧
    s'.diag = { s.diag with cal := s.diag.cal.modify 0 (fun c => { c with status := 5 }) }) ∧
  (∀ (t iHi : Nat) (d : Fin 128) (s : State), s.pw.dev ≠ .off → (active s = false ∨ ticks s 8 8 = false) →
    ∃ s', exec (.refCurrent t d iHi) s = .next s' ∧ keepsBut [] (s.advance t) s' ∧ s'.diag = s.diag) ∧
  (∀ (t : Nat) (d : Fin 128) (o g : Int) (s : State), s.pw.dev ≠ .off → anaOn s = true → ticks s 8 8 = true →
    converterBusy (s.advance t) d.val = false → s.diag.rextBad = false → d.val < s.diag.senseOff.length →
    d.val < s.diag.senseGain.length → s.diag.cal.length = 8 → ∃ s', exec (.senseCalibration t d o g true) s = .next s' ∧
    keepsBut [.diag, .saf] (s.advance t) s' ∧ nth s'.diag.senseOff d.val 0 = o ∧ nth s'.diag.senseGain d.val 0 = g ∧
    d.val ∈ s'.diag.senseDone ∧
    nth s'.diag.cal 1 {} = { nth s.diag.cal 1 {} with count := (nth s.diag.cal 1 {}).count + 1, timeA := domTime (s.advance t) 0, timeB := domTime (s.advance t) 1, value := o, status := (if nth s.diag.senseOff d.val 0 = o ∧
    nth s.diag.senseGain d.val 0 = g then 1 else 2) }) ∧
  (∀ (t : Nat) (d : Fin 128) (o g : Int) (r : Bool) (s : State), s.pw.dev ≠ .off → anaOn s = true →
    ticks s 8 8 = true → converterBusy (s.advance t) d.val = false → (s.diag.rextBad = true ∨ r = false) →
    s.diag.cal.length = 8 → ∃ s', exec (.senseCalibration t d o g r) s = .next s' ∧
    keepsBut raiseBlks (s.advance t) s' ∧ s'.diag.senseOff = s.diag.senseOff ∧ s'.diag.senseGain = s.diag.senseGain ∧
    d.val ∈ s'.diag.senseDone ∧
    nth s'.diag.cal 1 {} = { nth s.diag.cal 1 {} with count := (nth s.diag.cal 1 {}).count + 1, timeA := domTime (s.advance t) 0, timeB := domTime (s.advance t) 1, value := o, status := 3 } ∧
    bmGet s'.saf.causes 0x59 = true) ∧
  (∀ (t : Nat) (d : Fin 128) (o g : Int) (r : Bool) (s : State), s.pw.dev ≠ .off → anaOn s = true →
    ticks s 8 8 = true → converterBusy (s.advance t) d.val = true →
    ∃ s', exec (.senseCalibration t d o g r) s = .next s' ∧ keepsBut [.diag] (s.advance t) s' ∧
    s'.diag = { s.diag with cal := s.diag.cal.modify 1 (fun c => { c with status := 5 }) }) ∧
  (∀ (t : Nat) (d : Fin 128) (o g : Int) (r : Bool) (s : State), s.pw.dev ≠ .off →
    (anaOn s = false ∨ ticks s 8 8 = false) → ∃ s', exec (.senseCalibration t d o g r) s = .next s' ∧
    keepsBut [] (s.advance t) s' ∧ s'.diag = s.diag) ∧
  (∀ (t : Nat) (s : State), s.pw.dev ≠ .off → active s = true → s.diag.cal.length = 8 →
    ∃ s', exec (.storeCheck t) s = .next s' ∧ keepsBut raiseBlks (s.advance t) s' ∧ s'.diag.gainA = s.diag.expA ∧
    s'.diag.gainB = s.diag.expB ∧ s'.diag.vbWrong = [] ∧
    (nth s'.diag.cal 7 {}).count = (nth s.diag.cal 7 {}).count + 1 ∧ (s.diag.vbWrong ≠ [] →
    bmGet s'.saf.latched 0x55 = true)) ∧
  (∀ (t ohms : Nat) (s : State), s.pw.dev ≠ .off → anaOn s = true → (ohms < 9000 ∨ 11000 < ohms) →
    ∃ s', exec (.rextMonitor t ohms) s = .next s' ∧ keepsBut raiseBlks (s.advance t) s' ∧ s'.diag.rextBad = true ∧
    bmGet s'.saf.causes 0x56 = true) ∧
  (∀ (t ohms : Nat) (s : State), s.pw.dev ≠ .off → anaOn s = true → 9000 ≤ ohms → ohms ≤ 11000 →
    ∃ s', exec (.rextMonitor t ohms) s = .next s' ∧ keepsBut [.diag, .saf] (s.advance t) s' ∧
    s'.diag = { s.diag with rextBad := false } ∧ bmGet s'.saf.causes 0x56 = false) ∧
  (∀ (t ohms : Nat) (s : State), s.pw.dev ≠ .off → anaOn s = false → ∃ s', exec (.rextMonitor t ohms) s = .next s' ∧
    keepsBut [] (s.advance t) s' ∧ s'.diag = s.diag) ∧
  (∀ (t : Nat) (s : State), s.pw.dev ≠ .off → active s = false → ∃ s', exec (.storeCheck t) s = .next s' ∧
    keepsBut [] (s.advance t) s' ∧ s'.diag = s.diag) ∧
  (∀ (t : Nat) (k : Fin 8) (s : State), s.pw.dev ≠ .off → k.val < s.diag.cal.length →
    ∃ s', exec (.calibrationNoGap t k) s = .next s' ∧ keepsBut raiseBlks (s.advance t) s' ∧
    bmGet s'.saf.causes (0x58 + k.val) = true ∧ (nth s'.diag.cal k.val {}).status = 4) ∧
  (∀ (t : Nat) (offs : List Int) (s : State), s.pw.dev ≠ .off → anaOn s = true →
    (active s = false ∨ ((s.arr.ramp = .tail ∨ (s.arr.ramp = .pause ∧ wholeOff s = true)) ∧
    s.arr.rampAt + 20000000 ≤ (s.advance t).now)) → offs.length = 8 → s.diag.cal.length = 8 →
    ∃ s', exec (.lightDark t offs) s = .next s' ∧ keepsBut [.th, .diag, .saf] (s.advance t) s' ∧
    s'.th = { s.th with dark := offs } ∧ (nth s'.diag.cal 3 {}).status = (if offs = s.th.dark then 1 else 2) ∧
    (nth s'.diag.cal 3 {}).count = (nth s.diag.cal 3 {}).count + 1) ∧
  (∀ (t : Nat) (offs : List Int) (s : State), s.pw.dev ≠ .off → anaOn s = true → active s = true →
    (s.arr.ramp = .tail ∨ (s.arr.ramp = .pause ∧ wholeOff s = true)) → (s.advance t).now < s.arr.rampAt + 20000000 →
    ∃ s', exec (.lightDark t offs) s = .next s' ∧ keepsBut [.diag] (s.advance t) s' ∧
    s'.diag = { s.diag with cal := s.diag.cal.modify 3 (fun c => { c with status := 5 }) }) ∧
  (∀ (t : Nat) (offs : List Int) (s : State), s.pw.dev ≠ .off → (anaOn s = false ∨ (active s = true ∧
    s.arr.ramp ≠ .tail ∧ (s.arr.ramp ≠ .pause ∨ wholeOff s = false))) → ∃ s', exec (.lightDark t offs) s = .next s' ∧
    keepsBut [] (s.advance t) s' ∧ s'.diag = s.diag ∧ s'.th = s.th) ∧
  (∀ (t : Nat) (s : State), s.pw.dev ≠ .off → anaOn s = true → s.diag.cal.length = 8 →
    ∃ s', exec (.tempMap t) s = .next s' ∧ keepsBut (.th :: raiseBlks) (s.advance t) s' ∧ s'.diag.mapDone = true ∧
    (nth s'.diag.cal 4 {}).count = (nth s.diag.cal 4 {}).count + 1 ∧ (nth s.th.broken 0 false = true →
    (nth s'.diag.cal 4 {}).status = 3 ∧ s'.th.mapOff = s.th.mapOff)) ∧
  (∀ (t : Nat) (s : State), s.pw.dev ≠ .off → anaOn s = false → ∃ s', exec (.tempMap t) s = .next s' ∧
    keepsBut [] (s.advance t) s' ∧ s'.diag = s.diag)

/-- CONTROL_SAMPLE, LEVEL_STEP and REP_CLEAR. Each clause: under its hypotheses on the state and the operands exec
answers a next state, in which no part of the state but those it lists differs from the state at the command's
instant, and there (1) while DISC_EN, the switch and the close check allow switching, a sample keeps the voltage and
currents it is given, forms error, feed-forward, reference and bands, stores each stage in block-float, and takes one
step of the VLED channel, unless a raise of the sample changes the safety state; open roundings are free values (R303,
R304, R314, R315); (2) the first sample after free running or a stop starts the channel at the measured voltage, so
that its error is 0, and ends the cause of 0x8E (R305, R315); (3) where it may not switch every PHG line is at 0 and
the integrator and the channel rest; a pending rep_clear clears the table at the sample (R300, R313, R318); (4) held
after an overvoltage it takes its measurements and computes nothing (R317); (5) with the engine, its timebase or its
power off there is no sample (R300); (6) after 1,000 samples the LEVEL channel takes one step (R316); (7) not before
them, nor in free running; (8) a write of supply.rep_clear is taken by the next sample (R318). -/
def Obligations.TheControlEngineSamples : Prop :=
  (∀ (t v : Nat) (i : List Int) (s : State), s.pw.dev ≠ .off → maySwitch s = true → nth s.tb.src 7 2 ≠ 2 →
    s.sup.clearPend = false → s.sup.ovTrip = false → s.sup.mode = .sampled →
    ∃ s', exec (.controlSample t v i) s = .next s' ∧ keepsBut raiseBlks (s.advance t) s' ∧ s'.sup.lastV = v ∧
    s'.sup.lastI = (upTo 4).map (fun p => nth i p 0) ∧ (s'.saf.state = s.saf.state → s'.sup.mode = .sampled ∧
    s'.sup.acc = clampI (s.sup.acc + bfTimes 6 (bfObj s 0x2901 3) (vSet s - v)) (-(s.sup.phases * s.sup.phaseLimit : Nat)) (s.sup.phases * s.sup.phaseLimit : Nat) ∧
    s'.sup.errStage = (bfStore [vSet s - v]).1 ∧
    (∀ u ff iref : Int, u = bfTimes 7 (bfObj s 0x2901 2) (vSet s - v) + s'.sup.acc → ff = feedForward s' →
    iref = clampI (u + ff) 0 (s.sup.phases * s.sup.phaseLimit : Nat) → s'.sup.ffStage = (bfStore [u, ff, iref]).1 ∧
    s'.sup.bandStage = (bfStore (phaseRefs s iref)).1) ∧
    (∀ vm am jm : Nat, (vm, am, jm) = chanLimits (s.objN 0x2904 1) (s.objN 0x2904 2) (s.objN 0x2904 3) →
    (s'.sup.p, s'.sup.v, s'.sup.a) = chanStep (vledTarget (s.advance t) * 4294967296 : Nat) s.sup.p s.sup.v s.sup.a vm am jm))) ∧
  (∀ (t v : Nat) (i : List Int) (s : State), s.pw.dev ≠ .off → maySwitch s = true → nth s.tb.src 7 2 ≠ 2 →
    s.sup.clearPend = false → s.sup.ovTrip = false → s.sup.mode ≠ .sampled →
    ∃ s', exec (.controlSample t v i) s = .next s' ∧ keepsBut raiseBlks (s.advance t) s' ∧ s'.sup.lastV = v ∧
    bmGet s'.saf.causes 0x8E = false ∧ (s'.saf.state = s.saf.state → s'.sup.mode = .sampled ∧
    s'.sup.errStage = (bfStore [0]).1 ∧
    s'.sup.p = (chanStep (vledTarget (s.advance t) * 4294967296 : Nat) (v * 4294967296 : Nat) 0 0 (chanLimits (s.objN 0x2904 1) (s.objN 0x2904 2) (s.objN 0x2904 3)).1 (chanLimits (s.objN 0x2904 1) (s.objN 0x2904 2) (s.objN 0x2904 3)).2.1 (chanLimits (s.objN 0x2904 1) (s.objN 0x2904 2) (s.objN 0x2904 3)).2.2).1 ∧
    s'.sup.acc = clampI (s.sup.acc + bfTimes 6 (bfObj s 0x2901 3) 0) (-(s.sup.phases * s.sup.phaseLimit : Nat)) (s.sup.phases * s.sup.phaseLimit : Nat))) ∧
  (∀ (t v : Nat) (i : List Int) (s : State), s.pw.dev ≠ .off → active s = true → blockOn s 6 = true →
    nth s.tb.src 7 2 ≠ 2 → maySwitch s = false → ∃ s', exec (.controlSample t v i) s = .next s' ∧
    keepsBut raiseBlks (s.advance t) s' ∧ s'.sup.lastV = v ∧ s'.sup.mode = .off ∧
    s'.sup.phg = [false, false, false, false] ∧ s'.sup.acc = s.sup.acc ∧ s'.sup.v = s.sup.v ∧ s'.sup.a = s.sup.a ∧
    s'.sup.p = s.sup.p ∧ (s.sup.clearPend = true → s'.sup.prof = [] ∧ s'.sup.profE = 0 ∧ s'.sup.w = 0 ∧
    s'.sup.rep = .cleared ∧ s'.sup.clearPend = false)) ∧
  (∀ (t v : Nat) (i : List Int) (s : State), s.pw.dev ≠ .off → active s = true → blockOn s 6 = true →
    nth s.tb.src 7 2 ≠ 2 → maySwitch s = true → s.sup.ovTrip = true → ∃ s', exec (.controlSample t v i) s = .next s' ∧
    keepsBut raiseBlks (s.advance t) s' ∧ s'.sup.lastV = v ∧ (s'.saf.state = s.saf.state → s'.sup.acc = s.sup.acc ∧
    s'.sup.p = s.sup.p ∧ s'.sup.mode = s.sup.mode)) ∧
  (∀ (t v : Nat) (i : List Int) (s : State), s.pw.dev ≠ .off →
    (active s = false ∨ blockOn s 6 = false ∨ nth s.tb.src 7 2 = 2) → ∃ s', exec (.controlSample t v i) s = .next s' ∧
    keepsBut [] (s.advance t) s' ∧ s'.sup = s.sup) ∧
  (∀ (t : Nat) (s : State), s.pw.dev ≠ .off → active s = true → blockOn s 6 = true → s.sup.mode ≠ .freeRunning →
    1000 ≤ s.sup.levelCnt → ∃ s', exec (.levelStep t) s = .next s' ∧ keepsBut [.sup] (s.advance t) s' ∧
    (∀ vm am jm : Nat, (vm, am, jm) = chanLimits (s.objN 0x2905 2) (s.objN 0x2905 3) (s.objN 0x2905 4) →
    (s'.sup.lp, s'.sup.lv, s'.sup.la) = chanStep (s.objI16 0x2905 1 * 4294967296) s.sup.lp s.sup.lv s.sup.la vm am jm) ∧
    s'.sup = { s.sup with levelCnt := 0, lp := s'.sup.lp, lv := s'.sup.lv, la := s'.sup.la }) ∧
  (∀ (t : Nat) (s : State), s.pw.dev ≠ .off →
    (active s = false ∨ blockOn s 6 = false ∨ s.sup.mode = .freeRunning ∨ s.sup.levelCnt < 1000) →
    ∃ s', exec (.levelStep t) s = .next s' ∧ keepsBut [] (s.advance t) s' ∧ s'.sup = s.sup) ∧
  (∀ (t v : Nat) (p : Path) (s : State), s.pw.dev ≠ .off → takes s p 0x2903 5 (leBytes 1 v) = true →
    ∃ s', exec (.repClear t p v) s = .next s' ∧ keepsBut [.sup, .dict] (s.advance t) s' ∧ s'.dict.answer = 0 ∧
    s'.sup = { s.sup with clearPend := true })

/-- PHASE_SWITCH of a phase at a current, FREE_RUNNING and FREE_RUN_SWITCH. Each clause: under its hypotheses on the
state and the operands exec answers a next state, in which no part of the state but those it lists differs from the
state at the command's instant, and there (1) a phase that may not be driven has PHG 0 (R300); (2) one above I_lim is
switched off and the hit noted (R302); (3) while sampled a line at 0 rises below i_ref - h after its shortest off
time, as in force since entry to READY, and not otherwise (R298, R301); (4) and a line at 1 falls above i_ref + h
after its shortest on time, and not otherwise (R301); (5) in free running the comparator switches nothing alone
(R305); (6) 5 us after the last sample the engine runs free, which is counted and the cause of 0x8E; (7) and not
before (R305); (8) below V_hold - 50 mV all phases whose shortest off time is over switch on together; (9) above
V_hold + 50 mV all whose shortest on time is over switch off; (10) and between them none switches (R305); (11) nor
does one in sampled running; (12) and where the stage may not switch every line goes to 0 (R300). -/
def Obligations.PhasesSwitch : Prop :=
  (∀ (t : Nat) (ph : Fin 4) (i : Int) (s : State), s.pw.dev ≠ .off → phaseRuns s ph.val = false →
    s.sup.phg.length = 4 → ∃ s', exec (.phaseSwitch t ph i) s = .next s' ∧ keepsBut [.sup] (s.advance t) s' ∧
    nth s'.sup.phg ph.val false = false ∧ (∀ q < 4, q ≠ ph.val → nth s'.sup.phg q false = nth s.sup.phg q false)) ∧
  (∀ (t : Nat) (ph : Fin 4) (i : Int) (s : State), s.pw.dev ≠ .off → phaseRuns s ph.val = true →
    (s.sup.phaseLimit : Int) < i → s.sup.phg.length = 4 → s.sup.limitHit.length = 4 →
    ∃ s', exec (.phaseSwitch t ph i) s = .next s' ∧ keepsBut [.sup] (s.advance t) s' ∧
    nth s'.sup.phg ph.val false = false ∧ nth s'.sup.limitHit ph.val false = true ∧ (∀ q < 4, q ≠ ph.val →
    nth s'.sup.phg q false = nth s.sup.phg q false)) ∧
  (∀ (t : Nat) (ph : Fin 4) (i : Int) (s : State), s.pw.dev ≠ .off → phaseRuns s ph.val = true →
    i ≤ (s.sup.phaseLimit : Int) → s.sup.mode = .sampled → nth s.sup.phg ph.val false = false → s.sup.phg.length = 4 →
    ∃ s', exec (.phaseSwitch t ph i) s = .next s' ∧ keepsBut [.sup] (s.advance t) s' ∧
    nth s'.sup.phg ph.val false = (decide (i * 4294967296 < stageFix s.sup.bandStage ph.val - stageFix s.sup.bandStage (4 + ph.val)) && phgFor (s.advance t) ph.val s.sup.minOff) ∧
    (∀ q < 4, q ≠ ph.val → nth s'.sup.phg q false = nth s.sup.phg q false)) ∧
  (∀ (t : Nat) (ph : Fin 4) (i : Int) (s : State), s.pw.dev ≠ .off → phaseRuns s ph.val = true →
    i ≤ (s.sup.phaseLimit : Int) → s.sup.mode = .sampled → nth s.sup.phg ph.val false = true → s.sup.phg.length = 4 →
    ∃ s', exec (.phaseSwitch t ph i) s = .next s' ∧ keepsBut [.sup] (s.advance t) s' ∧
    nth s'.sup.phg ph.val false = !(decide (stageFix s.sup.bandStage ph.val + stageFix s.sup.bandStage (4 + ph.val) < i * 4294967296) && phgFor (s.advance t) ph.val s.sup.minOn) ∧
    (∀ q < 4, q ≠ ph.val → nth s'.sup.phg q false = nth s.sup.phg q false)) ∧
  (∀ (t : Nat) (ph : Fin 4) (i : Int) (s : State), s.pw.dev ≠ .off → phaseRuns s ph.val = true →
    i ≤ (s.sup.phaseLimit : Int) → s.sup.mode ≠ .sampled → ∃ s', exec (.phaseSwitch t ph i) s = .next s' ∧
    keepsBut [] (s.advance t) s' ∧ s'.sup = s.sup) ∧
  (∀ (t : Nat) (s : State), s.pw.dev ≠ .off → maySwitch s = true → s.sup.mode ≠ .freeRunning →
    s.sup.sampleAt + 5000000 ≤ (s.advance t).now → bmGet s.saf.causes 0x8E = false →
    ∃ s', exec (.freeRunning t) s = .next s' ∧ keepsBut raiseBlks (s.advance t) s' ∧
    s'.sup.freeRuns = s.sup.freeRuns + 1 ∧ bmGet s'.saf.causes 0x8E = true ∧ bmGet s'.saf.latched 0x8E = true ∧
    (s'.saf.state = s.saf.state → s'.sup.mode = .freeRunning)) ∧
  (∀ (t : Nat) (s : State), s.pw.dev ≠ .off →
    (maySwitch s = false ∨ s.sup.mode = .freeRunning ∨ (s.advance t).now < s.sup.sampleAt + 5000000) →
    ∃ s', exec (.freeRunning t) s = .next s' ∧ keepsBut [] (s.advance t) s' ∧ s'.sup = s.sup) ∧
  (∀ (t v : Nat) (s : State), s.pw.dev ≠ .off → s.sup.mode = .freeRunning → maySwitch s = true →
    v + 50 < s.sup.vHold → s.sup.phg.length = 4 → ∃ s', exec (.freeRunSwitch t v) s = .next s' ∧
    keepsBut [.sup] (s.advance t) s' ∧
    (∀ q < 4, nth s'.sup.phg q false = (nth s.sup.phg q false || (phaseRuns s q && phgFor (s.advance t) q s.sup.minOff)))) ∧
  (∀ (t v : Nat) (s : State), s.pw.dev ≠ .off → s.sup.mode = .freeRunning → maySwitch s = true →
    s.sup.vHold + 50 < v → s.sup.phg.length = 4 → ∃ s', exec (.freeRunSwitch t v) s = .next s' ∧
    keepsBut [.sup] (s.advance t) s' ∧
    (∀ q < 4, nth s'.sup.phg q false = (nth s.sup.phg q false && !phgFor (s.advance t) q s.sup.minOn))) ∧
  (∀ (t v : Nat) (s : State), s.pw.dev ≠ .off → s.sup.mode = .freeRunning → maySwitch s = true →
    s.sup.vHold ≤ v + 50 → v ≤ s.sup.vHold + 50 → ∃ s', exec (.freeRunSwitch t v) s = .next s' ∧
    keepsBut [] (s.advance t) s' ∧ s'.sup = s.sup) ∧
  (∀ (t v : Nat) (s : State), s.pw.dev ≠ .off → maySwitch s = true → s.sup.mode ≠ .freeRunning →
    ∃ s', exec (.freeRunSwitch t v) s = .next s' ∧ keepsBut [] (s.advance t) s' ∧ s'.sup = s.sup) ∧
  (∀ (t v : Nat) (s : State), s.pw.dev ≠ .off → maySwitch s = false → ∃ s', exec (.freeRunSwitch t v) s = .next s' ∧
    keepsBut [.sup] (s.advance t) s' ∧ s'.sup = { s.sup with phg := [false, false, false, false], mode := .off })

/-- VLED_OVERVOLTAGE, OVERVOLTAGE_RESTART, VLED_UNDERVOLTAGE, SENSE_FAULT, SENSE_RETRY and PHASE_IMBALANCE. Each
clause: under its hypotheses on the state and the operands exec answers a next state, in which no part of the state
but those it lists differs from the state at the command's instant, and there (1) a first overvoltage holds every PHG
line at 0 and is a transient (R317, R388); (2) one within 100 ms of its restart raises 0x80; (3) a voltage up to
ov_limit is none; (4) below ov_limit - 200 mV the stage restarts, the channel from the measured voltage (R315, R317);
(5) not above; (6) an undervoltage, below V_set - 400 mV, restarts the channel from the measured voltage with the
integrator cleared and is a transient; (7) within 100 ms of another it also raises 0x81; (8) a voltage not so low is
none; (9) a sense fault holds its phase at 0 as a transient; (10) after a retry it holds it for good, with its cause
present; (11) a phase held already, or absent, has none; (12) the retry comes after 1 ms; (13) not before, and once;
(14) an imbalance of more than 25 % is the cause of 0x8A and moves nothing of the supply itself; (15) and a smaller
one is none (R317, Table 11.5). -/
def Obligations.StageFaultsAreTaken : Prop :=
  (∀ (t v : Nat) (s : State), s.pw.dev ≠ .off → active s = true → blockOn s 6 = true → s.sup.ovTrip = false →
    s.sup.ovLimit < v → recent (s.advance t) s.sup.ovRestartAt = false → 0x80 < s.saf.transients.length →
    ∃ s', exec (.vledOvervoltage t v) s = .next s' ∧ keepsBut [.sup, .saf, .mg] (s.advance t) s' ∧
    s'.sup = { s.sup with ovTrip := true, ovLasting := false, phg := [false, false, false, false] } ∧
    s'.saf.latched = s.saf.latched ∧ nth s'.saf.transients 0x80 0 = satInc16 (nth s.saf.transients 0x80 0)) ∧
  (∀ (t v : Nat) (s : State), s.pw.dev ≠ .off → active s = true → blockOn s 6 = true → s.sup.ovTrip = false →
    s.sup.ovLimit < v → recent (s.advance t) s.sup.ovRestartAt = true → ∃ s', exec (.vledOvervoltage t v) s = .next s' ∧
    keepsBut raiseBlks (s.advance t) s' ∧ s'.sup.ovTrip = true ∧ s'.sup.phg = [false, false, false, false] ∧
    bmGet s'.saf.latched 0x80 = true) ∧
  (∀ (t v : Nat) (s : State), s.pw.dev ≠ .off →
    (active s = false ∨ blockOn s 6 = false ∨ s.sup.ovTrip = true ∨ v ≤ s.sup.ovLimit) →
    ∃ s', exec (.vledOvervoltage t v) s = .next s' ∧ keepsBut [] (s.advance t) s' ∧ s'.sup = s.sup) ∧
  (∀ (t v : Nat) (s : State), s.pw.dev ≠ .off → s.sup.ovTrip = true → v + 200 < s.sup.ovLimit →
    ∃ s', exec (.overvoltageRestart t v) s = .next s' ∧ keepsBut [.sup] (s.advance t) s' ∧ s'.sup.ovTrip = false ∧
    s'.sup.ovRestartAt = some (s.advance t).now ∧ s'.sup.acc = s.sup.acc ∧ (s.sup.mode = .sampled →
    s'.sup.p = (v * 4294967296 : Nat) ∧ s'.sup.v = 0 ∧ s'.sup.a = 0)) ∧
  (∀ (t v : Nat) (s : State), s.pw.dev ≠ .off → (s.sup.ovTrip = false ∨ s.sup.ovLimit ≤ v + 200) →
    ∃ s', exec (.overvoltageRestart t v) s = .next s' ∧ keepsBut [] (s.advance t) s' ∧ s'.sup = s.sup) ∧
  (∀ (t v : Nat) (s : State), s.pw.dev ≠ .off → s.sup.mode ≠ .off → maySwitch s = true → s.sup.ovTrip = false →
    (v : Int) < vSet s - 400 → recent (s.advance t) s.sup.uvAt = false →
    ∃ s', exec (.vledUndervoltage t v) s = .next s' ∧ keepsBut [.sup, .saf, .mg] (s.advance t) s' ∧
    s'.sup = { s.sup with p := (v * 4294967296 : Nat), v := 0, a := 0, acc := 0, uvAt := some (s.advance t).now, uvLasting := false } ∧
    s'.saf.latched = s.saf.latched) ∧
  (∀ (t v : Nat) (s : State), s.pw.dev ≠ .off → s.sup.mode ≠ .off → maySwitch s = true → s.sup.ovTrip = false →
    (v : Int) < vSet s - 400 → recent (s.advance t) s.sup.uvAt = true →
    ∃ s', exec (.vledUndervoltage t v) s = .next s' ∧ keepsBut raiseBlks (s.advance t) s' ∧
    s'.sup.p = (v * 4294967296 : Nat) ∧ s'.sup.acc = 0 ∧ s'.sup.uvAt = some (s.advance t).now ∧
    bmGet s'.saf.latched 0x81 = true) ∧
  (∀ (t v : Nat) (s : State), s.pw.dev ≠ .off →
    (s.sup.mode = .off ∨ maySwitch s = false ∨ s.sup.ovTrip = true ∨ vSet s - 400 ≤ v) →
    ∃ s', exec (.vledUndervoltage t v) s = .next s' ∧ keepsBut [] (s.advance t) s' ∧ s'.sup = s.sup) ∧
  (∀ (t : Nat) (ph : Fin 4) (s : State), s.pw.dev ≠ .off → active s = true → blockOn s 6 = true →
    ph.val < s.sup.phases → nth s.sup.senseHeld ph.val 0 = 0 → nth s.sup.senseTried ph.val false = false →
    s.sup.phg.length = 4 → s.sup.senseHeld.length = 4 → s.sup.senseAt.length = 4 →
    ∃ s', exec (.senseFault t ph) s = .next s' ∧ keepsBut [.sup, .saf, .mg] (s.advance t) s' ∧
    nth s'.sup.senseHeld ph.val 0 = 1 ∧ nth s'.sup.senseAt ph.val 0 = (s.advance t).now ∧
    s'.saf.latched = s.saf.latched ∧ nth s'.sup.phg ph.val false = false ∧ (∀ q < 4, q ≠ ph.val →
    nth s'.sup.phg q false = nth s.sup.phg q false)) ∧
  (∀ (t : Nat) (ph : Fin 4) (s : State), s.pw.dev ≠ .off → active s = true → blockOn s 6 = true →
    ph.val < s.sup.phases → nth s.sup.senseHeld ph.val 0 = 0 → nth s.sup.senseTried ph.val false = true →
    bmGet s.saf.causes (0x86 + ph.val) = false → s.sup.phg.length = 4 → s.sup.senseHeld.length = 4 →
    ∃ s', exec (.senseFault t ph) s = .next s' ∧ keepsBut raiseBlks (s.advance t) s' ∧
    nth s'.sup.senseHeld ph.val 0 = 2 ∧ nth s'.sup.phg ph.val false = false ∧
    bmGet s'.saf.causes (0x86 + ph.val) = true ∧ bmGet s'.saf.latched (0x86 + ph.val) = true) ∧
  (∀ (t : Nat) (ph : Fin 4) (s : State), s.pw.dev ≠ .off →
    (active s = false ∨ blockOn s 6 = false ∨ s.sup.phases ≤ ph.val ∨ nth s.sup.senseHeld ph.val 0 ≠ 0) →
    ∃ s', exec (.senseFault t ph) s = .next s' ∧ keepsBut [] (s.advance t) s' ∧ s'.sup = s.sup) ∧
  (∀ (t : Nat) (ph : Fin 4) (s : State), s.pw.dev ≠ .off → nth s.sup.senseHeld ph.val 0 = 1 →
    nth s.sup.senseAt ph.val 0 + 1000000000 ≤ (s.advance t).now → s.sup.senseTried.length = 4 →
    ∃ s', exec (.senseRetry t ph) s = .next s' ∧ keepsBut [.sup] (s.advance t) s' ∧ nth s'.sup.senseHeld ph.val 0 = 0 ∧
    nth s'.sup.senseTried ph.val false = true ∧ (∀ q < 4, q ≠ ph.val →
    nth s'.sup.senseHeld q 0 = nth s.sup.senseHeld q 0) ∧ s'.sup.phg = s.sup.phg) ∧
  (∀ (t : Nat) (ph : Fin 4) (s : State), s.pw.dev ≠ .off →
    (nth s.sup.senseHeld ph.val 0 ≠ 1 ∨ (s.advance t).now < nth s.sup.senseAt ph.val 0 + 1000000000) →
    ∃ s', exec (.senseRetry t ph) s = .next s' ∧ keepsBut [] (s.advance t) s' ∧ s'.sup = s.sup) ∧
  (∀ (t : Nat) (ph : Fin 4) (s : State), s.pw.dev ≠ .off → active s = true → blockOn s 6 = true →
    ph.val < s.sup.phases → imbalanced s ph.val = true → bmGet s.saf.causes 0x8A = false →
    ∃ s', exec (.phaseImbalance t ph) s = .next s' ∧ keepsBut raiseBlks (s.advance t) s' ∧
    bmGet s'.saf.causes 0x8A = true ∧ bmGet s'.saf.latched 0x8A = true ∧ (s'.saf.state = s.saf.state → s'.sup = s.sup)) ∧
  (∀ (t : Nat) (ph : Fin 4) (s : State), s.pw.dev ≠ .off →
    (active s = false ∨ blockOn s 6 = false ∨ s.sup.phases ≤ ph.val ∨ imbalanced s ph.val = false) →
    ∃ s', exec (.phaseImbalance t ph) s = .next s' ∧ keepsBut [] (s.advance t) s' ∧ s'.sup = s.sup ∧ s'.saf = s.saf)

/-- THERMAL_SAMPLE, MANAGEMENT_RESTART and COLD_START_END. Each clause: under its hypotheses on the state and the
operands exec answers a next state, in which no part of the state but those it lists differs from the state at the
command's instant, and there (1) a sample enters the last five of each source, the filtered value being their median;
at LIMP or DARK the level rises at once and at a sample it never falls; a rate above 5 K/s takes one step, none where
a throttle step was taken at the same instant, one above 20 K/s raises 0xA3; at 125 C the management cores halt with
0xA8 present (R323 to R325, R327, R330, R332); (2) a diode that gives no reading is broken: the cause of 0xA4, read as
1 K above the throttle threshold (R328); (3) a control sensor that gives none is the cause of 0xA6, read as 111 C
(R328); (4) without an NTC fitted none is read or judged (R322); (5) an NTC that reads open or shorted is the cause of
0xA5, read as 1 K above its threshold (R322, R328); (6) without the control firmware nothing is sampled; (7) while the
management cores are halted the control sensor alone is watched, for the time since when it reads below 110 C; (8)
when it has for 1 s management boots, with every session closed: its image is being verified, and the cores stay
halted until that has ended (R330, R467); (9) not before, and once only; (10) the cold-start margin of the diode or
the NTC ends 1 s after it became valid (R329); (11) not before. -/
def Obligations.SourcesAreSampled : Prop :=
  (∀ (t c : Nat) (uv : List Nat) (diode : Option Int) (s : State), s.pw.dev ≠ .off → helmRuns s = true →
    nth s.th.subst 2 false = false → c ≤ 2560 → ∃ s', exec (.thermalSample t diode uv (some c)) s = .next s' ∧
    keepsBut (.th :: .meas :: raiseBlks) (s.advance t) s' ∧ s'.th.diodeRaw = diode ∧ s'.th.ctl = push5 c s.th.ctl ∧
    s.th.level ≤ s'.th.level ∧ (levelThr s 3 ≤ fArr s' → 3 ≤ s'.th.level) ∧ (levelThr s 4 ≤ fArr s' → 4 ≤ s'.th.level) ∧
    s'.th.n = (if 80 < s'.th.rate ∧ 4 < s.th.n ∧
    (s.th.rateStepAt = none ∨ heldFor (s.advance t) dwell s.th.rateStepAt = true) ∧
    s.th.stepAt ≠ some (s.advance t).now then s.th.n - 1 else s.th.n) ∧ (320 < s'.th.rate → s.th.rateHigh = false →
    bmGet s'.saf.latched 0xA3 = true) ∧ (2000 ≤ fCtl s' + margin (s.advance t) 2 → s'.mg.haltMgmt = true ∧
    bmGet s'.saf.causes 0xA8 = true) ∧ bmGet s'.saf.causes 0xA0 = (decide (1 ≤ s'.th.level) || s'.th.ntcWarn) ∧
    bmGet s'.saf.causes 0xA1 = decide (3 ≤ s'.th.level) ∧ bmGet s'.saf.causes 0xA2 = decide (s'.th.level = 4)) ∧
  (∀ (t : Nat) (uv : List Nat) (ctl : Option Int) (s : State), s.pw.dev ≠ .off → helmRuns s = true →
    s.th.subst.length = 3 → s.th.broken.length = 3 → ∃ s', exec (.thermalSample t none uv ctl) s = .next s' ∧
    keepsBut (.th :: .meas :: raiseBlks) (s.advance t) s' ∧ nth s'.th.broken 0 false = true ∧
    nth s'.th.subst 0 false = true ∧ bmGet s'.saf.causes 0xA4 = true ∧
    s'.th.diode = push5 (s.objI16 0x2A00 2 + 16) s.th.diode) ∧
  (∀ (t : Nat) (uv : List Nat) (diode : Option Int) (s : State), s.pw.dev ≠ .off → helmRuns s = true →
    s.th.subst.length = 3 → s.th.broken.length = 3 → ∃ s', exec (.thermalSample t diode uv none) s = .next s' ∧
    keepsBut (.th :: .meas :: raiseBlks) (s.advance t) s' ∧ nth s'.th.broken 2 false = true ∧
    bmGet s'.saf.causes 0xA6 = true ∧ s'.th.ctl = push5 1776 s.th.ctl) ∧
  (∀ (t : Nat) (uv : List Nat) (diode ctl : Option Int) (s : State), s.pw.dev ≠ .off → helmRuns s = true →
    s.objB 0x2A00 5 = false → ∃ s', exec (.thermalSample t diode uv ctl) s = .next s' ∧
    keepsBut (.th :: .meas :: raiseBlks) (s.advance t) s' ∧ s'.th.ntc = [] ∧ s'.th.ntcWarn = false ∧
    bmGet s'.saf.causes 0xA5 = false) ∧
  (∀ (t : Nat) (uv : List Nat) (diode ctl : Option Int) (s : State), s.pw.dev ≠ .off → helmRuns s = true →
    s.th.subst.length = 3 → s.th.broken.length = 3 → s.objB 0x2A00 5 = true →
    (1150000 < nth uv 2 0 ∨ nth uv 0 0 < 2000) → ∃ s', exec (.thermalSample t diode uv ctl) s = .next s' ∧
    keepsBut (.th :: .meas :: raiseBlks) (s.advance t) s' ∧ nth s'.th.broken 1 false = true ∧
    bmGet s'.saf.causes 0xA5 = true ∧ s'.th.ntc = push5 (s.objI16 0x2A00 8 + 16) s.th.ntc) ∧
  (∀ (t : Nat) (uv : List Nat) (diode ctl : Option Int) (s : State), s.pw.dev ≠ .off → s.mg.haltMgmt = false →
    helmRuns s = false → ∃ s', exec (.thermalSample t diode uv ctl) s = .next s' ∧ keepsBut [] (s.advance t) s' ∧
    s'.th = s.th ∧ s'.saf = s.saf) ∧
  (∀ (t : Nat) (uv : List Nat) (diode ctl : Option Int) (s : State), s.pw.dev ≠ .off → s.mg.haltMgmt = true →
    ∃ s', exec (.thermalSample t diode uv ctl) s = .next s' ∧ keepsBut [.th] (s.advance t) s' ∧
    s'.th = { s.th with ctlCoolSince := if (ctl.any (fun c => decide (c < 1760))) = true then some (s.th.ctlCoolSince.getD (s.advance t).now) else none }) ∧
  (∀ (t : Nat) (s : State), s.pw.dev ≠ .off → s.mg.haltMgmt = true → s.mg.restarting = false →
    heldFor (s.advance t) oneSec s.th.ctlCoolSince = true → ∃ s', exec (.managementRestart t) s = .next s' ∧
    keepsBut [.th, .mg, .dict, .saf, .can, .fy, .out, .arr, .frm, .diag, .sup, .quay, .nv, .objs, .comp] (s.advance t) s' ∧
    s'.mg.restarting = true ∧ s'.mg.haltMgmt = true ∧ s'.can.arbRate = s'.objN 0x1010 3 ∧
    s'.can.dataRate = s'.objN 0x1010 4 ∧ s'.th.ctlHigh = false ∧ bmGet s'.saf.causes 0xA8 = false ∧
    s'.dict.sesCan.isOpen = false ∧ s'.dict.sesFerry.isOpen = false) ∧
  (∀ (t : Nat) (s : State), s.pw.dev ≠ .off →
    (s.mg.haltMgmt = false ∨ s.mg.restarting = true ∨ heldFor (s.advance t) oneSec s.th.ctlCoolSince = false) →
    ∃ s', exec (.managementRestart t) s = .next s' ∧ keepsBut [] (s.advance t) s' ∧ s'.mg = s.mg ∧ s'.saf = s.saf) ∧
  (∀ (t : Nat) (ntc : Bool) (s : State), s.pw.dev ≠ .off →
    heldFor (s.advance t) oneSec (nth s.th.validAt (if ntc then 1 else 0) none) = true →
    ∃ s', exec (.coldStartEnd t ntc) s = .next s' ∧ keepsBut [.th] (s.advance t) s' ∧
    nth s'.th.validAt (if ntc then 1 else 0) none = none ∧ s'.th = { s.th with validAt := s'.th.validAt } ∧
    nth s'.th.validAt (if ntc then 0 else 1) none = nth s.th.validAt (if ntc then 0 else 1) none) ∧
  (∀ (t : Nat) (ntc : Bool) (s : State), s.pw.dev ≠ .off →
    heldFor (s.advance t) oneSec (nth s.th.validAt (if ntc then 1 else 0) none) = false →
    ∃ s', exec (.coldStartEnd t ntc) s = .next s' ∧ keepsBut [] (s.advance t) s' ∧ s'.th = s.th)

/-- THERMAL_LEVEL_CHANGE, THROTTLE_STEP_DOWN and THROTTLE_STEP_UP. COLOUR_LOOP, once per second, FLUX_FAULT and
COLOUR_FAULT; quotients that divide by zero or leave their range are free values. Each clause: under its hypotheses on
the state and the operands exec answers a next state, in which no part of the state but those it lists differs from
the state at the command's instant, and there (1) when the 250 ms since the last transition are over, the level rises
to the highest whose threshold has held for the dwell, with the causes of 0xA0 to 0xA2 (R324, R325); (2) and otherwise
falls by one when its lower threshold has held (R325); (3) before a dwell is over it keeps its value; (4) a source hot
for its dwell takes one throttle step, n down by one, and both timers start again (R326); (5) not below 4; (6) nor
before the dwell; (7) 1 s of every source cool takes n up by one; (8) not above 16; (9) nor before (R326).; (10)
disabled, the loop holds both gains at 32,768 and forgets the second (R335); in any second with demand the blue share,
the CCT and the flux ratio are formed from the readings (R334); (11) without light in the second, or in LIMP, HOLD and
DARK, it keeps them (R335); (12) otherwise it takes the dark offsets of the second off the readings and moves both
gains towards their targets by at most 0.1 % within 24,576 to 40,960, counted as an update; a second of low flux at a
bound, or of a CCT outside its box, is counted (R333 to R336); (13) out of READY and LIT it does not run; (14) ten
updating seconds of low flux are the cause of 0xA9 (R336); (15) and ten of a CCT outside its box that of 0xAA (R336);
(16) fewer seconds of low flux are not; (17) nor fewer of a wrong CCT, and a cause that is present is not raised again
(R387). -/
def Obligations.ThermalLevelsAndLight : Prop :=
  (∀ (t l : Nat) (s : State), s.pw.dev ≠ .off → helmRuns s = true →
    (s.th.levelAt = none ∨ heldFor (s.advance t) dwell s.th.levelAt = true) → s.th.level < l → l ≤ 4 →
    heldFor (s.advance t) dwell (nth s.th.upSince (l - 1) none) = true → (∀ k < 4, l ≤ k →
    heldFor (s.advance t) dwell (nth s.th.upSince k none) = false) → ∃ s', exec (.thermalLevelChange t) s = .next s' ∧
    keepsBut (.th :: raiseBlks) (s.advance t) s' ∧ s'.th = { s.th with level := l, levelAt := some (s.advance t).now } ∧
    bmGet s'.saf.causes 0xA0 = (decide (1 ≤ s'.th.level) || s'.th.ntcWarn) ∧
    bmGet s'.saf.causes 0xA1 = decide (3 ≤ s'.th.level) ∧ bmGet s'.saf.causes 0xA2 = decide (s'.th.level = 4)) ∧
  (∀ (t : Nat) (s : State), s.pw.dev ≠ .off → helmRuns s = true →
    (s.th.levelAt = none ∨ heldFor (s.advance t) dwell s.th.levelAt = true) → (∀ k < 4, s.th.level ≤ k →
    heldFor (s.advance t) dwell (nth s.th.upSince k none) = false) → 0 < s.th.level →
    heldFor (s.advance t) dwell (nth s.th.fallSince (s.th.level - 1) none) = true →
    ∃ s', exec (.thermalLevelChange t) s = .next s' ∧ keepsBut (.th :: raiseBlks) (s.advance t) s' ∧
    s'.th = { s.th with level := s.th.level - 1, levelAt := some (s.advance t).now } ∧
    bmGet s'.saf.causes 0xA0 = (decide (1 ≤ s'.th.level) || s'.th.ntcWarn) ∧
    bmGet s'.saf.causes 0xA1 = decide (3 ≤ s'.th.level) ∧ bmGet s'.saf.causes 0xA2 = decide (s'.th.level = 4)) ∧
  (∀ (t : Nat) (s : State), s.pw.dev ≠ .off → (helmRuns s = false ∨ (s.th.levelAt.isSome = true ∧
    heldFor (s.advance t) dwell s.th.levelAt = false) ∨ ((∀ k < 4, heldFor (s.advance t) dwell (nth s.th.upSince k none) = false) ∧
    (s.th.level = 0 ∨ heldFor (s.advance t) dwell (nth s.th.fallSince (s.th.level - 1) none) = false))) →
    ∃ s', exec (.thermalLevelChange t) s = .next s' ∧ keepsBut [] (s.advance t) s' ∧ s'.th = s.th ∧ s'.saf = s.saf) ∧
  (∀ (t : Nat) (s : State), s.pw.dev ≠ .off → helmRuns s = true →
    s.th.hotSrc.any (heldFor (s.advance t) dwell) = true → 4 < s.th.n → ∃ s', exec (.throttleStepDown t) s = .next s' ∧
    keepsBut [.th] (s.advance t) s' ∧
    s'.th = { s.th with n := s.th.n - 1, stepsDown := s.th.stepsDown + 1, stepAt := some (s.advance t).now, hotSrc := s.th.hotSrc.map (Option.map (fun _ => (s.advance t).now)), coolSince := s.th.coolSince.map (fun _ => (s.advance t).now) }) ∧
  (∀ (t : Nat) (s : State), s.pw.dev ≠ .off → s.th.n ≤ 4 → ∃ s', exec (.throttleStepDown t) s = .next s' ∧
    keepsBut [] (s.advance t) s' ∧ s'.th = s.th) ∧
  (∀ (t : Nat) (s : State), s.pw.dev ≠ .off →
    (helmRuns s = false ∨ s.th.hotSrc.any (heldFor (s.advance t) dwell) = false) →
    ∃ s', exec (.throttleStepDown t) s = .next s' ∧ keepsBut [] (s.advance t) s' ∧ s'.th = s.th) ∧
  (∀ (t : Nat) (s : State), s.pw.dev ≠ .off → helmRuns s = true → heldFor (s.advance t) oneSec s.th.coolSince = true →
    s.th.n < 16 → ∃ s', exec (.throttleStepUp t) s = .next s' ∧ keepsBut [.th] (s.advance t) s' ∧
    s'.th = { s.th with n := s.th.n + 1, stepsUp := s.th.stepsUp + 1, hotSrc := s.th.hotSrc.map (Option.map (fun _ => (s.advance t).now)), coolSince := some (s.advance t).now }) ∧
  (∀ (t : Nat) (s : State), s.pw.dev ≠ .off → 16 ≤ s.th.n → ∃ s', exec (.throttleStepUp t) s = .next s' ∧
    keepsBut [] (s.advance t) s' ∧ s'.th = s.th) ∧
  (∀ (t : Nat) (s : State), s.pw.dev ≠ .off →
    (helmRuns s = false ∨ heldFor (s.advance t) oneSec s.th.coolSince = false) →
    ∃ s', exec (.throttleStepUp t) s = .next s' ∧ keepsBut [] (s.advance t) s' ∧ s'.th = s.th) ∧
  (∀ (t : Nat) (blue broad : Int) (s : State), s.pw.dev ≠ .off → active s = true → helmRuns s = true →
    s.objB 0x2A10 1 = false → ∃ s', exec (.colourLoop t blue broad) s = .next s' ∧
    keepsBut [.th, .meas] (s.advance t) s' ∧
    s'.th = { (if s.th.demand = 0 then s.th else { s.th with share := colourVal 14 ((lightOf s (blue - s.th.darkSum.1) (broad - s.th.darkSum.2)).sN * 65536) (lightOf s (blue - s.th.darkSum.1) (broad - s.th.darkSum.2)).sD, cct := cctOf (lightOf s (blue - s.th.darkSum.1) (broad - s.th.darkSum.2)), fluxRatio := colourVal 15 ((lightOf s (blue - s.th.darkSum.1) (broad - s.th.darkSum.2)).pN * 32768) (lightOf s (blue - s.th.darkSum.1) (broad - s.th.darkSum.2)).pD }) with lightState := 0, kCool := 32768, kWarm := 32768, demand := 0, litSec := false, darkSum := (0, 0) }) ∧
  (∀ (t : Nat) (blue broad : Int) (s : State), s.pw.dev ≠ .off → active s = true → helmRuns s = true →
    s.objB 0x2A10 1 = true → (hostBeam s = false ∨ s.th.litSec = false) →
    ∃ s', exec (.colourLoop t blue broad) s = .next s' ∧ keepsBut [.th, .meas] (s.advance t) s' ∧
    s'.th = { (if s.th.demand = 0 then s.th else { s.th with share := colourVal 14 ((lightOf s (blue - s.th.darkSum.1) (broad - s.th.darkSum.2)).sN * 65536) (lightOf s (blue - s.th.darkSum.1) (broad - s.th.darkSum.2)).sD, cct := cctOf (lightOf s (blue - s.th.darkSum.1) (broad - s.th.darkSum.2)), fluxRatio := colourVal 15 ((lightOf s (blue - s.th.darkSum.1) (broad - s.th.darkSum.2)).pN * 32768) (lightOf s (blue - s.th.darkSum.1) (broad - s.th.darkSum.2)).pD }) with lightState := 1, demand := 0, litSec := false, darkSum := (0, 0) }) ∧
  (∀ (t : Nat) (blue broad : Int) (s : State), s.pw.dev ≠ .off → active s = true → helmRuns s = true →
    s.objB 0x2A10 1 = true → hostBeam s = true → s.th.litSec = true →
    ∃ s', exec (.colourLoop t blue broad) s = .next s' ∧ keepsBut [.th, .meas, .saf] (s.advance t) s' ∧
    s'.th.kCool = slewGain s.th.kCool (wantCool s (lightOf s (blue - s.th.darkSum.1) (broad - s.th.darkSum.2))) ∧
    s'.th.kWarm = slewGain s.th.kWarm (wantWarm s (lightOf s (blue - s.th.darkSum.1) (broad - s.th.darkSum.2))) ∧
    s'.th.updates = s.th.updates + 1 ∧
    s'.th.lightState = (if s'.th.kCool = 24576 ∨ s'.th.kCool = 40960 ∨ s'.th.kWarm = 24576 ∨ s'.th.kWarm = 40960 then 3 else 2) ∧
    s'.th.share = (if s.th.demand = 0 then s.th else { s.th with share := colourVal 14 ((lightOf s (blue - s.th.darkSum.1) (broad - s.th.darkSum.2)).sN * 65536) (lightOf s (blue - s.th.darkSum.1) (broad - s.th.darkSum.2)).sD, cct := cctOf (lightOf s (blue - s.th.darkSum.1) (broad - s.th.darkSum.2)), fluxRatio := colourVal 15 ((lightOf s (blue - s.th.darkSum.1) (broad - s.th.darkSum.2)).pN * 32768) (lightOf s (blue - s.th.darkSum.1) (broad - s.th.darkSum.2)).pD }).share ∧
    s'.th.cct = (if s.th.demand = 0 then s.th else { s.th with share := colourVal 14 ((lightOf s (blue - s.th.darkSum.1) (broad - s.th.darkSum.2)).sN * 65536) (lightOf s (blue - s.th.darkSum.1) (broad - s.th.darkSum.2)).sD, cct := cctOf (lightOf s (blue - s.th.darkSum.1) (broad - s.th.darkSum.2)), fluxRatio := colourVal 15 ((lightOf s (blue - s.th.darkSum.1) (broad - s.th.darkSum.2)).pN * 32768) (lightOf s (blue - s.th.darkSum.1) (broad - s.th.darkSum.2)).pD }).cct ∧
    s'.th.fluxRatio = (if s.th.demand = 0 then s.th else { s.th with share := colourVal 14 ((lightOf s (blue - s.th.darkSum.1) (broad - s.th.darkSum.2)).sN * 65536) (lightOf s (blue - s.th.darkSum.1) (broad - s.th.darkSum.2)).sD, cct := cctOf (lightOf s (blue - s.th.darkSum.1) (broad - s.th.darkSum.2)), fluxRatio := colourVal 15 ((lightOf s (blue - s.th.darkSum.1) (broad - s.th.darkSum.2)).pN * 32768) (lightOf s (blue - s.th.darkSum.1) (broad - s.th.darkSum.2)).pD }).fluxRatio ∧
    s'.th.demand = 0 ∧ s'.th.litSec = false ∧ s'.th.darkSum = (0, 0) ∧
    s'.th.fluxLow = (if phiLow s (lightOf s (blue - s.th.darkSum.1) (broad - s.th.darkSum.2)) = true ∧
    (s'.th.kCool = 40960 ∨ s'.th.kWarm = 40960) then s.th.fluxLow + 1 else 0) ∧
    s'.th.cctOut = (if cctOf (lightOf s (blue - s.th.darkSum.1) (broad - s.th.darkSum.2)) < s.objN 0x2A10 3 ∨ s.objN 0x2A10 4 < cctOf (lightOf s (blue - s.th.darkSum.1) (broad - s.th.darkSum.2)) then s.th.cctOut + 1 else 0)) ∧
  (∀ (t : Nat) (blue broad : Int) (s : State), s.pw.dev ≠ .off → (active s = false ∨ helmRuns s = false) →
    ∃ s', exec (.colourLoop t blue broad) s = .next s' ∧ keepsBut [] (s.advance t) s' ∧ s'.th = s.th) ∧
  (∀ (t : Nat) (s : State), s.pw.dev ≠ .off → 10 ≤ s.th.fluxLow → bmGet s.saf.causes 0xA9 = false →
    ∃ s', exec (.fluxFault t) s = .next s' ∧ keepsBut raiseBlks (s.advance t) s' ∧ bmGet s'.saf.causes 0xA9 = true ∧
    bmGet s'.saf.latched 0xA9 = true) ∧
  (∀ (t : Nat) (s : State), s.pw.dev ≠ .off → 10 ≤ s.th.cctOut → bmGet s.saf.causes 0xAA = false →
    ∃ s', exec (.colourFault t) s = .next s' ∧ keepsBut raiseBlks (s.advance t) s' ∧ bmGet s'.saf.causes 0xAA = true ∧
    bmGet s'.saf.latched 0xAA = true) ∧
  (∀ (t : Nat) (s : State), s.pw.dev ≠ .off → (s.th.fluxLow < 10 ∨ bmGet s.saf.causes 0xA9 = true) →
    ∃ s', exec (.fluxFault t) s = .next s' ∧ keepsBut [] (s.advance t) s' ∧ s'.saf = s.saf) ∧
  (∀ (t : Nat) (s : State), s.pw.dev ≠ .off → (s.th.cctOut < 10 ∨ bmGet s.saf.causes 0xAA = true) →
    ∃ s', exec (.colourFault t) s = .next s' ∧ keepsBut [] (s.advance t) s' ∧ s'.saf = s.saf)

/-- Of a queue with a command c in front, one step is what c does to the state with the rest of the queue; with
nothing waiting a step changes nothing (the model's choice, log 2). -/
def Obligations.AStepRunsTheFrontCommand : Prop :=
  (∀ (c : Instr) (rest : List Instr) (s : State),
    step { s with pending := c :: rest } = exec c { s with pending := rest }) ∧
  (∀ s : State, s.pending = [] → step s = .next s)

/-- After reset the device state is OFF, nothing waits, light permission is 0, every gate bit is 0, surface memory
lists nothing, every timebase is stopped, and the invariants of the memory and of the light tests hold (R27, R31,
R405, R428). -/
def Obligations.ResetHoldsTheInvariants : Prop :=
  State.reset.pw.dev = .off ∧ State.reset.pending = [] ∧ State.reset.saf.permission = false ∧
  State.reset.saf.state = .normal ∧ State.reset.arr.gate = .zero ∧ State.reset.surf.mem = [] ∧
  memOk State.reset ∧ lightTests State.reset

/-- From every state every command answers a next state; it leaves the waiting commands, the grade, the identifier and
the hardware revision as they are, no command moves the clock of commands back, and in an engine that is OFF every
command but POWER_UP only lets time pass (R5, R428; that the queue stays is log 2). A command that is the write of one
object does nothing where the object is not served (R426, R439); where a check of Table 18.7 fails before the object
is reached it answers that abort code and changes nothing else, but for the bus error of a block without power; and so
it does for a value of the wrong length (LENGTH, for protected.layer the value range, R201) and for one out of range
(R489, R491). -/
def Obligations.EveryCommandCompletes : Prop :=
  (∀ (c : Instr) (s : State), ∃ s', exec c s = .next s' ∧ s'.pending = s.pending ∧ sameBlk s s' .ident ∧ s.now ≤ s'.now ∧
    (s.pw.dev = .off → (∀ t a b d e, c ≠ .powerUp t a b d e) → ∃ t, keepsBut [] (s.advance t) s')) ∧
  (∀ (c : Instr) (w : ObjWrite) (s : State), objWriteOf c = some w → s.pw.dev ≠ .off →
    (servedAt s w.path w.idx w.sub = false → ∃ s', exec c s = .next s' ∧ keepsBut [] (s.advance w.at_) s') ∧
    (servedAt s w.path w.idx w.sub = true → ∀ k, wrCheck s w.path w.idx w.sub = some k → ∃ s', exec c s = .next s' ∧
      s'.dict.answer = k ∧ keepsBut (if k = abPower then .pw :: raiseBlks else [.dict]) (s.advance w.at_) s') ∧
    (servedAt s w.path w.idx w.sub = true → wrCheck s w.path w.idx w.sub = none → ∀ r, objFind w.idx w.sub = some r →
      (lenOk r.ty w.data.length = false → ∃ s', exec c s = .next s' ∧ s'.dict.answer = lenAbort w.idx ∧
        keepsBut [.dict] (s.advance w.at_) s') ∧
      (lenOk r.ty w.data.length = true → valueOk r w.data = false → ∃ s', exec c s = .next s' ∧ s'.dict.answer = abRange ∧
        keepsBut [.dict] (s.advance w.at_) s')))

/-- Whatever command a step runs, surface memory stays a strictly rising list of bytes in which no byte equals what an
unlisted address reads as, so that equal contents are equal data (R160, R177). -/
def Obligations.EveryStepKeepsMemoryCanonical : Prop :=
  ∀ s s' : State, memOk s → step s = .next s' → memOk s'

/-- Whatever command a step runs, light permission 1 means that the start-up test and the disconnect check have passed
and that no discrepancy is latched, if it meant so before (R405 to R407). -/
def Obligations.EveryStepKeepsTheLightTests : Prop :=
  ∀ s s' : State, lightTests s → step s = .next s' → lightTests s'

/-- A drive word holds RANGE in bit 13 and DUTY in bits 12 to 0; its light is DUTY in the LO range and 16 DUTY in the
HI range, from 0 to 131,056; every light up to 8,191 is reached and above it only multiples of 16; a DUTY of 0 is
dark; the Quay never runs light at or below 1/16 of full in HI; no duty lights the last ramp step (R40). -/
def Obligations.DriveWordsCarryLight : Prop :=
  (∀ w < 16384, wRange w = bitsOf w 13 13 ∧ wDuty w = bitsOf w 12 0 ∧
      wLight w = (if wRange w = 0 then wDuty w else 16 * wDuty w) ∧ wLight w ≤ 131056 ∧ (wDuty w = 0 → wLight w = 0) ∧
      (8191 < wLight w → 16 ∣ wLight w) ∧ (∀ o < 2, ¬ rampValue o 8191 < wDuty w)) ∧
  (∀ l ≤ 8191, ∃ w < 16384, wLight w = l) ∧ (∀ m, 16 * m ≤ 131056 → ∃ w < 16384, wLight w = 16 * m) ∧
  (∀ c gp kt d : Nat, (correct c gp kt d).word < 16384 ∧
      (wRange (correct c gp kt d).word = 1 → 8191 < wLight (correct c gp kt d).word))

/-- Under SINGLE r(n) is n, under SPREAD16 it is 16 p + j of the segment j and the position p of n; both map 0 to 8191
one to one onto 0 to 8191, so every DUTY lights exactly DUTY steps; under SPREAD16 segment j holds one pulse at its
start of max(0, ceil((DUTY - j) / 16)) steps, the lengths differ by at most one, a DUTY below 16 lights segments 0 to
DUTY - 1 only, and the worked example holds (R48). -/
def Obligations.RampOrderings : Prop :=
  (∀ n < 8192, rampValue 0 n = n ∧ rampValue 1 n = 16 * (n % 512) + n / 512) ∧
  (∀ o < 2, (∀ n < 8192, rampValue o n < 8192) ∧ (∀ v < 8192, ∃ n < 8192, rampValue o n = v ∧ ∀ m < 8192, rampValue o m = v → m = n)) ∧
  (∀ o < 2, ∀ duty ≤ 8191, ((upTo 8192).filter (fun n => decide (rampValue o n < duty))).length = duty) ∧
  (∀ duty ≤ 8191, ∀ j < 16, (∀ p < 512, rampValue 1 (512 * j + p) < duty ↔ p < segSteps 1 duty j) ∧
      (segSteps 1 duty j : Int) = max 0 (-((j - duty : Int) / 16)) ∧ segSteps 1 duty j ≤ 512 ∧
      (∀ i < 16, segSteps 1 duty i ≤ segSteps 1 duty j + 1) ∧ (duty < 16 → (0 < segSteps 1 duty j ↔ j < duty))) ∧
  segSteps 1 1000 7 = 63 ∧ segSteps 1 1000 8 = 62 ∧ (∀ n < 8192, rampValue 0 n < 1000 ↔ n ≤ 999)

/-- Each sample in which any phase hits I_lim counts one in supply.phase_limits, which wraps at 2^32, and a phase that
hits it in its 1,001st consecutive sample raises its source 0x82 to 0x85; a sample without a hit ends its run (R302).
-/
def Obligations.PhaseLimitsAreCounted : Prop :=
  ∀ (t v : Nat) (i : List Int) (s : State), s.pw.dev ≠ .off → active s = true → blockOn s 6 = true → nth s.tb.src 7 2 ≠ 2 →
    ∃ s', exec (.controlSample t v i) s = .next s' ∧ keepsBut raiseBlks (s.advance t) s' ∧
      s'.sup.phaseLimits = s.sup.phaseLimits + (if (upTo 4).any (hitsLimit s i) = true then 1 else 0) ∧
      (∀ p < 4, nth s'.sup.limitRun p 0 = if hitsLimit s i p = true then nth s.sup.limitRun p 0 + 1 else 0) ∧
      (∀ p < 4, hitsLimit s i p = true → nth s.sup.limitRun p 0 = 1000 → bmGet s'.saf.latched (0x82 + p) = true)
end

