-- ==== Sys2Proof/Laws/State.lean ====
section
/-!
SUPPORT. What the updates every command goes through leave alone, field by field, and the calculus of frames.
-/

namespace Sys2Proof.Machine

set_option Elab.async false

@[simp] theorem advance_grade (s : State) (t : Nat) : (s.advance t).grade = s.grade := by unfold State.advance; split <;> rfl
@[simp] theorem advance_uid (s : State) (t : Nat) : (s.advance t).uid = s.uid := by unfold State.advance; split <;> rfl
@[simp] theorem advance_hwRev (s : State) (t : Nat) : (s.advance t).hwRev = s.hwRev := by unfold State.advance; split <;> rfl
@[simp] theorem advance_objs (s : State) (t : Nat) : (s.advance t).objs = s.objs := by unfold State.advance; split <;> rfl
@[simp] theorem advance_measSeq (s : State) (t : Nat) : (s.advance t).measSeq = s.measSeq := by unfold State.advance; split <;> rfl
@[simp] theorem advance_measVal (s : State) (t : Nat) : (s.advance t).measVal = s.measVal := by unfold State.advance; split <;> rfl
@[simp] theorem advance_statusDue (s : State) (t : Nat) : (s.advance t).statusDue = s.statusDue := by unfold State.advance; split <;> rfl
@[simp] theorem advance_serving (s : State) (t : Nat) : (s.advance t).serving = s.serving := by unfold State.advance; split <;> rfl
@[simp] theorem advance_srSeq (s : State) (t : Nat) : (s.advance t).srSeq = s.srSeq := by unfold State.advance; split <;> rfl
@[simp] theorem advance_free (s : State) (t : Nat) : (s.advance t).free = s.free := by unfold State.advance; split <;> rfl
@[simp] theorem advance_out (s : State) (t : Nat) : (s.advance t).out = s.out := by unfold State.advance; split <;> rfl
@[simp] theorem advance_pending (s : State) (t : Nat) : (s.advance t).pending = s.pending := by unfold State.advance; split <;> rfl
@[simp] theorem advance_tim (s : State) (t : Nat) : (s.advance t).tim = s.tim := by unfold State.advance; split <;> rfl
@[simp] theorem advance_saf (s : State) (t : Nat) : (s.advance t).saf = s.saf := by unfold State.advance; split <;> rfl
@[simp] theorem advance_pw (s : State) (t : Nat) : (s.advance t).pw = s.pw := by unfold State.advance; split <;> rfl
@[simp] theorem advance_tb (s : State) (t : Nat) : (s.advance t).tb = s.tb := by unfold State.advance; split <;> rfl
@[simp] theorem advance_arr (s : State) (t : Nat) : (s.advance t).arr = s.arr := by unfold State.advance; split <;> rfl
@[simp] theorem advance_frm (s : State) (t : Nat) : (s.advance t).frm = s.frm := by unfold State.advance; split <;> rfl
@[simp] theorem advance_mg (s : State) (t : Nat) : (s.advance t).mg = s.mg := by unfold State.advance; split <;> rfl
@[simp] theorem advance_nv (s : State) (t : Nat) : (s.advance t).nv = s.nv := by unfold State.advance; split <;> rfl
@[simp] theorem advance_dict (s : State) (t : Nat) : (s.advance t).dict = s.dict := by unfold State.advance; split <;> rfl
@[simp] theorem advance_can (s : State) (t : Nat) : (s.advance t).can = s.can := by unfold State.advance; split <;> rfl
@[simp] theorem advance_lane (s : State) (t : Nat) : (s.advance t).lane = s.lane := by unfold State.advance; split <;> rfl
@[simp] theorem advance_phy (s : State) (t : Nat) : (s.advance t).phy = s.phy := by unfold State.advance; split <;> rfl
@[simp] theorem advance_fy (s : State) (t : Nat) : (s.advance t).fy = s.fy := by unfold State.advance; split <;> rfl
@[simp] theorem advance_surf (s : State) (t : Nat) : (s.advance t).surf = s.surf := by unfold State.advance; split <;> rfl
@[simp] theorem advance_comp (s : State) (t : Nat) : (s.advance t).comp = s.comp := by unfold State.advance; split <;> rfl
@[simp] theorem advance_mask (s : State) (t : Nat) : (s.advance t).mask = s.mask := by unfold State.advance; split <;> rfl
@[simp] theorem advance_quay (s : State) (t : Nat) : (s.advance t).quay = s.quay := by unfold State.advance; split <;> rfl
@[simp] theorem advance_diag (s : State) (t : Nat) : (s.advance t).diag = s.diag := by unfold State.advance; split <;> rfl
@[simp] theorem advance_sup (s : State) (t : Nat) : (s.advance t).sup = s.sup := by unfold State.advance; split <;> rfl
@[simp] theorem advance_th (s : State) (t : Nat) : (s.advance t).th = s.th := by unfold State.advance; split <;> rfl
@[simp] theorem advance_pat (s : State) (t : Nat) : (s.advance t).pat = s.pat := by unfold State.advance; split <;> rfl
@[simp] theorem settle_grade (a s : State) : (settle a s).grade = s.grade := rfl
@[simp] theorem settle_uid (a s : State) : (settle a s).uid = s.uid := rfl
@[simp] theorem settle_hwRev (a s : State) : (settle a s).hwRev = s.hwRev := rfl
@[simp] theorem settle_objs (a s : State) : (settle a s).objs = s.objs := rfl
@[simp] theorem settle_measVal (a s : State) : (settle a s).measVal = s.measVal := rfl
@[simp] theorem settle_free (a s : State) : (settle a s).free = s.free := rfl
@[simp] theorem settle_out (a s : State) : (settle a s).out = s.out := rfl
@[simp] theorem settle_pending (a s : State) : (settle a s).pending = s.pending := rfl
@[simp] theorem settle_now (a s : State) : (settle a s).now = s.now := rfl
@[simp] theorem settle_clk (a s : State) : (settle a s).clk = s.clk := rfl
@[simp] theorem settle_tim (a s : State) : (settle a s).tim = s.tim := rfl
@[simp] theorem settle_saf (a s : State) : (settle a s).saf = s.saf := rfl
@[simp] theorem settle_pw (a s : State) : (settle a s).pw = s.pw := rfl
@[simp] theorem settle_tb (a s : State) : (settle a s).tb = s.tb := rfl
@[simp] theorem settle_arr (a s : State) : (settle a s).arr = s.arr := rfl
@[simp] theorem settle_frm (a s : State) : (settle a s).frm = s.frm := rfl
@[simp] theorem settle_mg (a s : State) : (settle a s).mg = s.mg := rfl
@[simp] theorem settle_nv (a s : State) : (settle a s).nv = s.nv := rfl
@[simp] theorem settle_dict (a s : State) : (settle a s).dict = s.dict := rfl
@[simp] theorem settle_can (a s : State) : (settle a s).can = s.can := rfl
@[simp] theorem settle_lane (a s : State) : (settle a s).lane = s.lane := rfl
@[simp] theorem settle_phy (a s : State) : (settle a s).phy = s.phy := rfl
@[simp] theorem settle_fy (a s : State) : (settle a s).fy = s.fy := rfl
@[simp] theorem settle_surf (a s : State) : (settle a s).surf = s.surf := rfl
@[simp] theorem settle_comp (a s : State) : (settle a s).comp = s.comp := rfl
@[simp] theorem settle_mask (a s : State) : (settle a s).mask = s.mask := rfl
@[simp] theorem settle_quay (a s : State) : (settle a s).quay = s.quay := rfl
@[simp] theorem settle_diag (a s : State) : (settle a s).diag = s.diag := rfl
@[simp] theorem settle_sup (a s : State) : (settle a s).sup = s.sup := rfl
@[simp] theorem settle_th (a s : State) : (settle a s).th = s.th := rfl
@[simp] theorem settle_pat (a s : State) : (settle a s).pat = s.pat := rfl
@[simp] theorem renode_grade (a s : State) : (renode a s).grade = s.grade := rfl
@[simp] theorem renode_uid (a s : State) : (renode a s).uid = s.uid := rfl
@[simp] theorem renode_hwRev (a s : State) : (renode a s).hwRev = s.hwRev := rfl
@[simp] theorem renode_objs (a s : State) : (renode a s).objs = s.objs := rfl
@[simp] theorem renode_measSeq (a s : State) : (renode a s).measSeq = s.measSeq := rfl
@[simp] theorem renode_measVal (a s : State) : (renode a s).measVal = s.measVal := rfl
@[simp] theorem renode_statusDue (a s : State) : (renode a s).statusDue = s.statusDue := rfl
@[simp] theorem renode_serving (a s : State) : (renode a s).serving = s.serving := rfl
@[simp] theorem renode_srSeq (a s : State) : (renode a s).srSeq = s.srSeq := rfl
@[simp] theorem renode_free (a s : State) : (renode a s).free = s.free := rfl
@[simp] theorem renode_out (a s : State) : (renode a s).out = s.out := rfl
@[simp] theorem renode_pending (a s : State) : (renode a s).pending = s.pending := rfl
@[simp] theorem renode_now (a s : State) : (renode a s).now = s.now := rfl
@[simp] theorem renode_clk (a s : State) : (renode a s).clk = s.clk := rfl
@[simp] theorem renode_tim (a s : State) : (renode a s).tim = s.tim := rfl
@[simp] theorem renode_saf (a s : State) : (renode a s).saf = s.saf := rfl
@[simp] theorem renode_pw (a s : State) : (renode a s).pw = s.pw := rfl
@[simp] theorem renode_tb (a s : State) : (renode a s).tb = s.tb := rfl
@[simp] theorem renode_arr (a s : State) : (renode a s).arr = s.arr := rfl
@[simp] theorem renode_frm (a s : State) : (renode a s).frm = s.frm := rfl
@[simp] theorem renode_mg (a s : State) : (renode a s).mg = s.mg := rfl
@[simp] theorem renode_nv (a s : State) : (renode a s).nv = s.nv := rfl
@[simp] theorem renode_can (a s : State) : (renode a s).can = s.can := rfl
@[simp] theorem renode_lane (a s : State) : (renode a s).lane = s.lane := rfl
@[simp] theorem renode_phy (a s : State) : (renode a s).phy = s.phy := rfl
@[simp] theorem renode_fy (a s : State) : (renode a s).fy = s.fy := rfl
@[simp] theorem renode_surf (a s : State) : (renode a s).surf = s.surf := rfl
@[simp] theorem renode_comp (a s : State) : (renode a s).comp = s.comp := rfl
@[simp] theorem renode_mask (a s : State) : (renode a s).mask = s.mask := rfl
@[simp] theorem renode_quay (a s : State) : (renode a s).quay = s.quay := rfl
@[simp] theorem renode_diag (a s : State) : (renode a s).diag = s.diag := rfl
@[simp] theorem renode_sup (a s : State) : (renode a s).sup = s.sup := rfl
@[simp] theorem renode_th (a s : State) : (renode a s).th = s.th := rfl
@[simp] theorem renode_pat (a s : State) : (renode a s).pat = s.pat := rfl
@[simp] theorem send_grade (o : Out) (s : State) : (send o s).grade = s.grade := rfl
@[simp] theorem tickFree_grade (s : State) : (State.tickFree s).grade = s.grade := rfl
@[simp] theorem send_uid (o : Out) (s : State) : (send o s).uid = s.uid := rfl
@[simp] theorem tickFree_uid (s : State) : (State.tickFree s).uid = s.uid := rfl
@[simp] theorem send_hwRev (o : Out) (s : State) : (send o s).hwRev = s.hwRev := rfl
@[simp] theorem tickFree_hwRev (s : State) : (State.tickFree s).hwRev = s.hwRev := rfl
@[simp] theorem send_objs (o : Out) (s : State) : (send o s).objs = s.objs := rfl
@[simp] theorem tickFree_objs (s : State) : (State.tickFree s).objs = s.objs := rfl
@[simp] theorem send_measSeq (o : Out) (s : State) : (send o s).measSeq = s.measSeq := rfl
@[simp] theorem tickFree_measSeq (s : State) : (State.tickFree s).measSeq = s.measSeq := rfl
@[simp] theorem send_measVal (o : Out) (s : State) : (send o s).measVal = s.measVal := rfl
@[simp] theorem tickFree_measVal (s : State) : (State.tickFree s).measVal = s.measVal := rfl
@[simp] theorem send_statusDue (o : Out) (s : State) : (send o s).statusDue = s.statusDue := rfl
@[simp] theorem send_serving (o : Out) (s : State) : (send o s).serving = s.serving := rfl
@[simp] theorem tickFree_statusDue (s : State) : (State.tickFree s).statusDue = s.statusDue := rfl
@[simp] theorem tickFree_serving (s : State) : (State.tickFree s).serving = s.serving := rfl
@[simp] theorem send_srSeq (o : Out) (s : State) : (send o s).srSeq = s.srSeq := rfl
@[simp] theorem tickFree_srSeq (s : State) : (State.tickFree s).srSeq = s.srSeq := rfl
@[simp] theorem send_free (o : Out) (s : State) : (send o s).free = s.free := rfl
@[simp] theorem tickFree_free (s : State) : (State.tickFree s).free = s.free + 1 := rfl
@[simp] theorem send_pending (o : Out) (s : State) : (send o s).pending = s.pending := rfl
@[simp] theorem tickFree_pending (s : State) : (State.tickFree s).pending = s.pending := rfl
@[simp] theorem send_now (o : Out) (s : State) : (send o s).now = s.now := rfl
@[simp] theorem tickFree_now (s : State) : (State.tickFree s).now = s.now := rfl
@[simp] theorem send_clk (o : Out) (s : State) : (send o s).clk = s.clk := rfl
@[simp] theorem tickFree_clk (s : State) : (State.tickFree s).clk = s.clk := rfl
@[simp] theorem send_tim (o : Out) (s : State) : (send o s).tim = s.tim := rfl
@[simp] theorem tickFree_tim (s : State) : (State.tickFree s).tim = s.tim := rfl
@[simp] theorem send_saf (o : Out) (s : State) : (send o s).saf = s.saf := rfl
@[simp] theorem tickFree_saf (s : State) : (State.tickFree s).saf = s.saf := rfl
@[simp] theorem send_pw (o : Out) (s : State) : (send o s).pw = s.pw := rfl
@[simp] theorem tickFree_pw (s : State) : (State.tickFree s).pw = s.pw := rfl
@[simp] theorem send_tb (o : Out) (s : State) : (send o s).tb = s.tb := rfl
@[simp] theorem tickFree_tb (s : State) : (State.tickFree s).tb = s.tb := rfl
@[simp] theorem send_arr (o : Out) (s : State) : (send o s).arr = s.arr := rfl
@[simp] theorem tickFree_arr (s : State) : (State.tickFree s).arr = s.arr := rfl
@[simp] theorem send_frm (o : Out) (s : State) : (send o s).frm = s.frm := rfl
@[simp] theorem tickFree_frm (s : State) : (State.tickFree s).frm = s.frm := rfl
@[simp] theorem send_mg (o : Out) (s : State) : (send o s).mg = s.mg := rfl
@[simp] theorem tickFree_mg (s : State) : (State.tickFree s).mg = s.mg := rfl
@[simp] theorem send_nv (o : Out) (s : State) : (send o s).nv = s.nv := rfl
@[simp] theorem tickFree_nv (s : State) : (State.tickFree s).nv = s.nv := rfl
@[simp] theorem send_dict (o : Out) (s : State) : (send o s).dict = s.dict := rfl
@[simp] theorem tickFree_dict (s : State) : (State.tickFree s).dict = s.dict := rfl
@[simp] theorem send_can (o : Out) (s : State) : (send o s).can = s.can := rfl
@[simp] theorem tickFree_can (s : State) : (State.tickFree s).can = s.can := rfl
@[simp] theorem send_lane (o : Out) (s : State) : (send o s).lane = s.lane := rfl
@[simp] theorem send_phy (o : Out) (s : State) : (send o s).phy = s.phy := rfl
@[simp] theorem tickFree_lane (s : State) : (State.tickFree s).lane = s.lane := rfl
@[simp] theorem tickFree_phy (s : State) : (State.tickFree s).phy = s.phy := rfl
@[simp] theorem send_fy (o : Out) (s : State) : (send o s).fy = s.fy := rfl
@[simp] theorem tickFree_fy (s : State) : (State.tickFree s).fy = s.fy := rfl
@[simp] theorem send_surf (o : Out) (s : State) : (send o s).surf = s.surf := rfl
@[simp] theorem tickFree_surf (s : State) : (State.tickFree s).surf = s.surf := rfl
@[simp] theorem send_comp (o : Out) (s : State) : (send o s).comp = s.comp := rfl
@[simp] theorem tickFree_comp (s : State) : (State.tickFree s).comp = s.comp := rfl
@[simp] theorem send_mask (o : Out) (s : State) : (send o s).mask = s.mask := rfl
@[simp] theorem tickFree_mask (s : State) : (State.tickFree s).mask = s.mask := rfl
@[simp] theorem send_quay (o : Out) (s : State) : (send o s).quay = s.quay := rfl
@[simp] theorem tickFree_quay (s : State) : (State.tickFree s).quay = s.quay := rfl
@[simp] theorem send_diag (o : Out) (s : State) : (send o s).diag = s.diag := rfl
@[simp] theorem tickFree_diag (s : State) : (State.tickFree s).diag = s.diag := rfl
@[simp] theorem send_sup (o : Out) (s : State) : (send o s).sup = s.sup := rfl
@[simp] theorem tickFree_sup (s : State) : (State.tickFree s).sup = s.sup := rfl
@[simp] theorem send_th (o : Out) (s : State) : (send o s).th = s.th := rfl
@[simp] theorem tickFree_th (s : State) : (State.tickFree s).th = s.th := rfl
@[simp] theorem send_pat (o : Out) (s : State) : (send o s).pat = s.pat := rfl
@[simp] theorem tickFree_pat (s : State) : (State.tickFree s).pat = s.pat := rfl
@[simp] theorem setSess_grade (p : Path) (x : Sess) (s : State) : (setSess p x s).grade = s.grade := by cases p <;> rfl
@[simp] theorem answered_grade (n : Nat) (s : State) : (answered (n, s)).grade = s.grade := rfl
@[simp] theorem setSess_uid (p : Path) (x : Sess) (s : State) : (setSess p x s).uid = s.uid := by cases p <;> rfl
@[simp] theorem answered_uid (n : Nat) (s : State) : (answered (n, s)).uid = s.uid := rfl
@[simp] theorem setSess_hwRev (p : Path) (x : Sess) (s : State) : (setSess p x s).hwRev = s.hwRev := by cases p <;> rfl
@[simp] theorem answered_hwRev (n : Nat) (s : State) : (answered (n, s)).hwRev = s.hwRev := rfl
@[simp] theorem setSess_objs (p : Path) (x : Sess) (s : State) : (setSess p x s).objs = s.objs := by cases p <;> rfl
@[simp] theorem answered_objs (n : Nat) (s : State) : (answered (n, s)).objs = s.objs := rfl
@[simp] theorem setSess_measSeq (p : Path) (x : Sess) (s : State) : (setSess p x s).measSeq = s.measSeq := by cases p <;> rfl
@[simp] theorem answered_measSeq (n : Nat) (s : State) : (answered (n, s)).measSeq = s.measSeq := rfl
@[simp] theorem setSess_measVal (p : Path) (x : Sess) (s : State) : (setSess p x s).measVal = s.measVal := by cases p <;> rfl
@[simp] theorem answered_measVal (n : Nat) (s : State) : (answered (n, s)).measVal = s.measVal := rfl
@[simp] theorem setSess_statusDue (p : Path) (x : Sess) (s : State) : (setSess p x s).statusDue = s.statusDue := by cases p <;> rfl
@[simp] theorem setSess_serving (p : Path) (x : Sess) (s : State) : (setSess p x s).serving = s.serving := by cases p <;> rfl
@[simp] theorem answered_statusDue (n : Nat) (s : State) : (answered (n, s)).statusDue = s.statusDue := rfl
@[simp] theorem answered_serving (n : Nat) (s : State) : (answered (n, s)).serving = s.serving := rfl
@[simp] theorem setSess_srSeq (p : Path) (x : Sess) (s : State) : (setSess p x s).srSeq = s.srSeq := by cases p <;> rfl
@[simp] theorem answered_srSeq (n : Nat) (s : State) : (answered (n, s)).srSeq = s.srSeq := rfl
@[simp] theorem setSess_free (p : Path) (x : Sess) (s : State) : (setSess p x s).free = s.free := by cases p <;> rfl
@[simp] theorem answered_free (n : Nat) (s : State) : (answered (n, s)).free = s.free := rfl
@[simp] theorem setSess_out (p : Path) (x : Sess) (s : State) : (setSess p x s).out = s.out := by cases p <;> rfl
@[simp] theorem answered_out (n : Nat) (s : State) : (answered (n, s)).out = s.out := rfl
@[simp] theorem setSess_pending (p : Path) (x : Sess) (s : State) : (setSess p x s).pending = s.pending := by cases p <;> rfl
@[simp] theorem answered_pending (n : Nat) (s : State) : (answered (n, s)).pending = s.pending := rfl
@[simp] theorem setSess_now (p : Path) (x : Sess) (s : State) : (setSess p x s).now = s.now := by cases p <;> rfl
@[simp] theorem answered_now (n : Nat) (s : State) : (answered (n, s)).now = s.now := rfl
@[simp] theorem setSess_clk (p : Path) (x : Sess) (s : State) : (setSess p x s).clk = s.clk := by cases p <;> rfl
@[simp] theorem answered_clk (n : Nat) (s : State) : (answered (n, s)).clk = s.clk := rfl
@[simp] theorem setSess_tim (p : Path) (x : Sess) (s : State) : (setSess p x s).tim = s.tim := by cases p <;> rfl
@[simp] theorem answered_tim (n : Nat) (s : State) : (answered (n, s)).tim = s.tim := rfl
@[simp] theorem setSess_saf (p : Path) (x : Sess) (s : State) : (setSess p x s).saf = s.saf := by cases p <;> rfl
@[simp] theorem answered_saf (n : Nat) (s : State) : (answered (n, s)).saf = s.saf := rfl
@[simp] theorem setSess_pw (p : Path) (x : Sess) (s : State) : (setSess p x s).pw = s.pw := by cases p <;> rfl
@[simp] theorem answered_pw (n : Nat) (s : State) : (answered (n, s)).pw = s.pw := rfl
@[simp] theorem setSess_tb (p : Path) (x : Sess) (s : State) : (setSess p x s).tb = s.tb := by cases p <;> rfl
@[simp] theorem answered_tb (n : Nat) (s : State) : (answered (n, s)).tb = s.tb := rfl
@[simp] theorem setSess_arr (p : Path) (x : Sess) (s : State) : (setSess p x s).arr = s.arr := by cases p <;> rfl
@[simp] theorem answered_arr (n : Nat) (s : State) : (answered (n, s)).arr = s.arr := rfl
@[simp] theorem setSess_frm (p : Path) (x : Sess) (s : State) : (setSess p x s).frm = s.frm := by cases p <;> rfl
@[simp] theorem answered_frm (n : Nat) (s : State) : (answered (n, s)).frm = s.frm := rfl
@[simp] theorem setSess_mg (p : Path) (x : Sess) (s : State) : (setSess p x s).mg = s.mg := by cases p <;> rfl
@[simp] theorem answered_mg (n : Nat) (s : State) : (answered (n, s)).mg = s.mg := rfl
@[simp] theorem setSess_nv (p : Path) (x : Sess) (s : State) : (setSess p x s).nv = s.nv := by cases p <;> rfl
@[simp] theorem answered_nv (n : Nat) (s : State) : (answered (n, s)).nv = s.nv := rfl
@[simp] theorem setSess_can (p : Path) (x : Sess) (s : State) : (setSess p x s).can = s.can := by cases p <;> rfl
@[simp] theorem answered_can (n : Nat) (s : State) : (answered (n, s)).can = s.can := rfl
@[simp] theorem setSess_lane (p : Path) (x : Sess) (s : State) : (setSess p x s).lane = s.lane := by cases p <;> rfl
@[simp] theorem setSess_phy (p : Path) (x : Sess) (s : State) : (setSess p x s).phy = s.phy := by cases p <;> rfl
@[simp] theorem answered_lane (n : Nat) (s : State) : (answered (n, s)).lane = s.lane := rfl
@[simp] theorem answered_phy (n : Nat) (s : State) : (answered (n, s)).phy = s.phy := rfl
@[simp] theorem setSess_fy (p : Path) (x : Sess) (s : State) : (setSess p x s).fy = s.fy := by cases p <;> rfl
@[simp] theorem answered_fy (n : Nat) (s : State) : (answered (n, s)).fy = s.fy := rfl
@[simp] theorem setSess_surf (p : Path) (x : Sess) (s : State) : (setSess p x s).surf = s.surf := by cases p <;> rfl
@[simp] theorem answered_surf (n : Nat) (s : State) : (answered (n, s)).surf = s.surf := rfl
@[simp] theorem setSess_comp (p : Path) (x : Sess) (s : State) : (setSess p x s).comp = s.comp := by cases p <;> rfl
@[simp] theorem answered_comp (n : Nat) (s : State) : (answered (n, s)).comp = s.comp := rfl
@[simp] theorem setSess_mask (p : Path) (x : Sess) (s : State) : (setSess p x s).mask = s.mask := by cases p <;> rfl
@[simp] theorem answered_mask (n : Nat) (s : State) : (answered (n, s)).mask = s.mask := rfl
@[simp] theorem setSess_quay (p : Path) (x : Sess) (s : State) : (setSess p x s).quay = s.quay := by cases p <;> rfl
@[simp] theorem answered_quay (n : Nat) (s : State) : (answered (n, s)).quay = s.quay := rfl
@[simp] theorem setSess_diag (p : Path) (x : Sess) (s : State) : (setSess p x s).diag = s.diag := by cases p <;> rfl
@[simp] theorem answered_diag (n : Nat) (s : State) : (answered (n, s)).diag = s.diag := rfl
@[simp] theorem setSess_sup (p : Path) (x : Sess) (s : State) : (setSess p x s).sup = s.sup := by cases p <;> rfl
@[simp] theorem answered_sup (n : Nat) (s : State) : (answered (n, s)).sup = s.sup := rfl
@[simp] theorem setSess_th (p : Path) (x : Sess) (s : State) : (setSess p x s).th = s.th := by cases p <;> rfl
@[simp] theorem answered_th (n : Nat) (s : State) : (answered (n, s)).th = s.th := rfl
@[simp] theorem setSess_pat (p : Path) (x : Sess) (s : State) : (setSess p x s).pat = s.pat := by cases p <;> rfl
@[simp] theorem answered_pat (n : Nat) (s : State) : (answered (n, s)).pat = s.pat := rfl
@[simp] theorem setObj_grade (s : State) (i k : Nat) (v : List Byte) : (s.setObj i k v).grade = s.grade := rfl
@[simp] theorem setObj_uid (s : State) (i k : Nat) (v : List Byte) : (s.setObj i k v).uid = s.uid := rfl
@[simp] theorem setObj_hwRev (s : State) (i k : Nat) (v : List Byte) : (s.setObj i k v).hwRev = s.hwRev := rfl
@[simp] theorem setObj_measSeq (s : State) (i k : Nat) (v : List Byte) : (s.setObj i k v).measSeq = s.measSeq := rfl
@[simp] theorem setObj_measVal (s : State) (i k : Nat) (v : List Byte) : (s.setObj i k v).measVal = s.measVal := rfl
@[simp] theorem setObj_statusDue (s : State) (i k : Nat) (v : List Byte) : (s.setObj i k v).statusDue = s.statusDue := rfl
@[simp] theorem setObj_serving (s : State) (i k : Nat) (v : List Byte) : (s.setObj i k v).serving = s.serving := rfl
@[simp] theorem setObj_srSeq (s : State) (i k : Nat) (v : List Byte) : (s.setObj i k v).srSeq = s.srSeq := rfl
@[simp] theorem setObj_free (s : State) (i k : Nat) (v : List Byte) : (s.setObj i k v).free = s.free := rfl
@[simp] theorem setObj_out (s : State) (i k : Nat) (v : List Byte) : (s.setObj i k v).out = s.out := rfl
@[simp] theorem setObj_pending (s : State) (i k : Nat) (v : List Byte) : (s.setObj i k v).pending = s.pending := rfl
@[simp] theorem setObj_now (s : State) (i k : Nat) (v : List Byte) : (s.setObj i k v).now = s.now := rfl
@[simp] theorem setObj_clk (s : State) (i k : Nat) (v : List Byte) : (s.setObj i k v).clk = s.clk := rfl
@[simp] theorem setObj_tim (s : State) (i k : Nat) (v : List Byte) : (s.setObj i k v).tim = s.tim := rfl
@[simp] theorem setObj_saf (s : State) (i k : Nat) (v : List Byte) : (s.setObj i k v).saf = s.saf := rfl
@[simp] theorem setObj_pw (s : State) (i k : Nat) (v : List Byte) : (s.setObj i k v).pw = s.pw := rfl
@[simp] theorem setObj_tb (s : State) (i k : Nat) (v : List Byte) : (s.setObj i k v).tb = s.tb := rfl
@[simp] theorem setObj_arr (s : State) (i k : Nat) (v : List Byte) : (s.setObj i k v).arr = s.arr := rfl
@[simp] theorem setObj_frm (s : State) (i k : Nat) (v : List Byte) : (s.setObj i k v).frm = s.frm := rfl
@[simp] theorem setObj_mg (s : State) (i k : Nat) (v : List Byte) : (s.setObj i k v).mg = s.mg := rfl
@[simp] theorem setObj_nv (s : State) (i k : Nat) (v : List Byte) : (s.setObj i k v).nv = s.nv := rfl
@[simp] theorem setObj_dict (s : State) (i k : Nat) (v : List Byte) : (s.setObj i k v).dict = s.dict := rfl
@[simp] theorem setObj_can (s : State) (i k : Nat) (v : List Byte) : (s.setObj i k v).can = s.can := rfl
@[simp] theorem setObj_lane (s : State) (i k : Nat) (v : List Byte) : (s.setObj i k v).lane = s.lane := rfl
@[simp] theorem setObj_phy (s : State) (i k : Nat) (v : List Byte) : (s.setObj i k v).phy = s.phy := rfl
@[simp] theorem setObj_fy (s : State) (i k : Nat) (v : List Byte) : (s.setObj i k v).fy = s.fy := rfl
@[simp] theorem setObj_surf (s : State) (i k : Nat) (v : List Byte) : (s.setObj i k v).surf = s.surf := rfl
@[simp] theorem setObj_comp (s : State) (i k : Nat) (v : List Byte) : (s.setObj i k v).comp = s.comp := rfl
@[simp] theorem setObj_mask (s : State) (i k : Nat) (v : List Byte) : (s.setObj i k v).mask = s.mask := rfl
@[simp] theorem setObj_quay (s : State) (i k : Nat) (v : List Byte) : (s.setObj i k v).quay = s.quay := rfl
@[simp] theorem setObj_diag (s : State) (i k : Nat) (v : List Byte) : (s.setObj i k v).diag = s.diag := rfl
@[simp] theorem setObj_sup (s : State) (i k : Nat) (v : List Byte) : (s.setObj i k v).sup = s.sup := rfl
@[simp] theorem setObj_th (s : State) (i k : Nat) (v : List Byte) : (s.setObj i k v).th = s.th := rfl
@[simp] theorem setObj_pat (s : State) (i k : Nat) (v : List Byte) : (s.setObj i k v).pat = s.pat := rfl

@[simp] theorem advance_obj (s : State) (t i k : Nat) : (s.advance t).obj i k = s.obj i k := by simp [State.obj]
@[simp] theorem advance_objN (s : State) (t i k : Nat) : (s.advance t).objN i k = s.objN i k := by simp [State.objN]
@[simp] theorem advance_objB (s : State) (t i k : Nat) : (s.advance t).objB i k = s.objB i k := by simp [State.objB]
@[simp] theorem advance_objI16 (s : State) (t i k : Nat) : (s.advance t).objI16 i k = s.objI16 i k := by simp [State.objI16]
@[simp] theorem advance_objT (s : State) (t i k : Nat) : (s.advance t).objT i k = s.objT i k := by simp [State.objT]

/-- The answer of the latest access is the code of the handler. -/
@[simp] theorem answered_answer (n : Nat) (s : State) : (answered (n, s)).dict.answer = n := rfl

/-- Time does not pass twice. -/
@[simp] theorem advance_advance (s : State) (t : Nat) : (s.advance t).advance t = s.advance t := by
  unfold State.advance; split <;> simp_all

/-- With supplies, a command is its effect at its instant, then the end of a command. -/
theorem act_on {s : State} (t : Nat) (f : State → State) (h : s.pw.dev ≠ .off) :
    act t f s = .next (settle s (renode s (f (s.advance t)))) := by
  simp [act, h]

/-- A command always answers a next state. -/
theorem act_next (t : Nat) (f : State → State) (s : State) : ∃ s', act t f s = .next s' := ⟨_, rfl⟩

@[simp] theorem active_advance (s : State) (t : Nat) : active (s.advance t) = active s := by simp [active]
@[simp] theorem lit_advance (s : State) (t : Nat) : lit (s.advance t) = lit s := by simp [lit]
@[simp] theorem running_advance (s : State) (t : Nat) : running (s.advance t) = running s := by simp [running]
@[simp] theorem trimmed_advance (s : State) (t : Nat) : trimmed (s.advance t) = trimmed s := by simp [trimmed]

/-- Whether an object is served depends on the power state and the management core alone. -/
@[simp] theorem served_advance (s : State) (t idx : Nat) : served (s.advance t) idx = served s idx := by simp [served]
@[simp] theorem servedAt_advance (s : State) (t : Nat) (p : Path) (idx sub : Nat) :
    servedAt (s.advance t) p idx sub = servedAt s p idx sub := by simp [servedAt]

/-- The checks of a write do not depend on the instant. -/
@[simp] theorem wrCheck_advance (s : State) (t : Nat) (p : Path) (idx sub : Nat) :
    wrCheck (s.advance t) p idx sub = wrCheck s p idx sub := by
  have h1 : ∀ b, blockPowered (s.advance t) b = blockPowered s b := fun b => by simp [blockPowered]
  have h0 : ∀ b, coreWaits (s.advance t) b = coreWaits s b := fun b => by simp [coreWaits]
  have h2 : ∀ b, tbSet (s.advance t) b = tbSet s b := fun b => by simp [tbSet, h0]
  have h3 : ∀ b, blockTimed (s.advance t) b = blockTimed s b := fun b => by simp [blockTimed, h2]
  have h4 : sessOpen (s.advance t) p = sessOpen s p := by cases p <;> simp [sessOpen, sess]
  simp [wrCheck, blockOn, h1, h3, h4]

end Sys2Proof.Machine

namespace Sys2Proof

open Sys2Proof.Machine

/-- Nothing changes where nothing is done. -/
theorem keeps_refl (bs : List Blk) (s : State) : keepsBut bs s s := by
  intro b _; cases b <;> simp [sameBlk]

/-- Sameness of a part passes on. -/
theorem sameBlk_trans {b : Blk} {s s' s'' : State} (h : sameBlk s s' b) (h' : sameBlk s' s'' b) : sameBlk s s'' b := by
  cases b <;> simp_all [sameBlk]

/-- Frames compose. -/
theorem keeps_trans {bs : List Blk} {s s' s'' : State} (h : keepsBut bs s s') (h' : keepsBut bs s' s'') : keepsBut bs s s'' :=
  fun b hb => sameBlk_trans (h b hb) (h' b hb)

/-- A frame holds with more parts listed. -/
theorem keeps_mono {bs bs' : List Blk} {s s' : State} (h : keepsBut bs s s') (hs : ∀ b ∈ bs, b ∈ bs') : keepsBut bs' s s' :=
  fun b hb => h b (fun hb' => hb (hs b hb'))

/-- The end of a command changes no part but, with a change of node, the dictionary server. -/
theorem keeps_end (a s : State) : keepsBut [.dict] s (settle a (renode a s)) := by
  intro b hb; cases b <;> simp [sameBlk] at *

theorem keeps_clk (s : State) (x : Clk) : keepsBut [.clk] s { s with clk := x } := by
  intro b hb; cases b <;> simp_all [sameBlk]

theorem keeps_tim (s : State) (x : Tim) : keepsBut [.tim] s { s with tim := x } := by
  intro b hb; cases b <;> simp_all [sameBlk]

theorem keeps_saf (s : State) (x : Saf) : keepsBut [.saf] s { s with saf := x } := by
  intro b hb; cases b <;> simp_all [sameBlk]

theorem keeps_pw (s : State) (x : Pw) : keepsBut [.pw] s { s with pw := x } := by
  intro b hb; cases b <;> simp_all [sameBlk]

theorem keeps_tb (s : State) (x : Tb) : keepsBut [.tb] s { s with tb := x } := by
  intro b hb; cases b <;> simp_all [sameBlk]

theorem keeps_arr (s : State) (x : Arr) : keepsBut [.arr] s { s with arr := x } := by
  intro b hb; cases b <;> simp_all [sameBlk]

theorem keeps_frm (s : State) (x : Machine.Frm) : keepsBut [.frm] s { s with frm := x } := by
  intro b hb; cases b <;> simp_all [sameBlk]

theorem keeps_mg (s : State) (x : Mg) : keepsBut [.mg] s { s with mg := x } := by
  intro b hb; cases b <;> simp_all [sameBlk]

theorem keeps_nv (s : State) (x : Nv) : keepsBut [.nv] s { s with nv := x } := by
  intro b hb; cases b <;> simp_all [sameBlk]

theorem keeps_dict (s : State) (x : Dict) : keepsBut [.dict] s { s with dict := x } := by
  intro b hb; cases b <;> simp_all [sameBlk]

theorem keeps_can (s : State) (x : Can) : keepsBut [.can] s { s with can := x } := by
  intro b hb; cases b <;> simp_all [sameBlk]

theorem keeps_lane (s : State) (x : Lane) : keepsBut [.lane] s { s with lane := x } := by
  intro b hb; cases b <;> simp_all [sameBlk]

theorem keeps_phy (s : State) (x : Phy) : keepsBut [.phy] s { s with phy := x } := by
  intro b hb; cases b <;> simp_all [sameBlk]

theorem keeps_fy (s : State) (x : Fy) : keepsBut [.fy] s { s with fy := x } := by
  intro b hb; cases b <;> simp_all [sameBlk]

theorem keeps_surf (s : State) (x : Surf) : keepsBut [.surf] s { s with surf := x } := by
  intro b hb; cases b <;> simp_all [sameBlk]

theorem keeps_comp (s : State) (x : Comp) : keepsBut [.comp] s { s with comp := x } := by
  intro b hb; cases b <;> simp_all [sameBlk]

theorem keeps_mask (s : State) (x : Mask) : keepsBut [.mask] s { s with mask := x } := by
  intro b hb; cases b <;> simp_all [sameBlk]

theorem keeps_quay (s : State) (x : Quay) : keepsBut [.quay] s { s with quay := x } := by
  intro b hb; cases b <;> simp_all [sameBlk]

theorem keeps_diag (s : State) (x : Diag) : keepsBut [.diag] s { s with diag := x } := by
  intro b hb; cases b <;> simp_all [sameBlk]

theorem keeps_sup (s : State) (x : Sup) : keepsBut [.sup] s { s with sup := x } := by
  intro b hb; cases b <;> simp_all [sameBlk]

theorem keeps_th (s : State) (x : Therm) : keepsBut [.th] s { s with th := x } := by
  intro b hb; cases b <;> simp_all [sameBlk]

theorem keeps_pat (s : State) (x : Pat) : keepsBut [.pat] s { s with pat := x } := by
  intro b hb; cases b <;> simp_all [sameBlk]

/-- A frame goes on through one more operation. -/
theorem keeps_step {bs cs : List Blk} {s s1 s2 : State} (h : keepsBut bs s s1) (hx : keepsBut cs s1 s2)
    (hs : ∀ b ∈ cs, b ∈ bs := by decide) : keepsBut bs s s2 := keeps_trans h (keeps_mono hx hs)

/-- A frame passes through a choice. -/
theorem keeps_ite {bs : List Blk} {s a b : State} {c : Prop} [Decidable c] (h : keepsBut bs s a) (h' : keepsBut bs s b) :
    keepsBut bs s (if c then a else b) := by split <;> assumption

/-- The node number depends on three parts alone. -/
theorem nodeOf_congr {s s' : State} (h : s'.objs = s.objs) (hg : s'.grade = s.grade) (hc : s'.can = s.can) (hf : s'.fy = s.fy) :
    nodeOf s' = nodeOf s := by
  simp [nodeOf, State.objN, State.obj, h, hg, hc, hf]

/-- The end of a command whose effect leaves objects, CAN and packets alone changes no part. -/
theorem keeps_end_same {bs : List Blk} {s s' : State} (h : keepsBut bs s s')
    (hn : Blk.objs ∉ bs ∧ Blk.ident ∉ bs ∧ Blk.can ∉ bs ∧ Blk.fy ∉ bs) (a : State)
    (ha : sameBlk s a .objs ∧ sameBlk s a .ident ∧ sameBlk s a .can ∧ sameBlk s a .fy) :
    keepsBut [] s' (settle a (renode a s')) := by
  have ho := h .objs hn.1; have hi := h .ident hn.2.1; have hc := h .can hn.2.2.1; have hf := h .fy hn.2.2.2
  obtain ⟨ao, ai, ac, af⟩ := ha
  have e1 : nodeOf a = nodeOf s' := by
    rw [nodeOf_congr ho hi.1 hc hf, nodeOf_congr ao ai.1 ac af]
  have e2 : a.fy.address = s'.fy.address := by simp only [sameBlk] at hf af; rw [hf, af]
  intro b hb; cases b <;> simp [sameBlk, renode, e1, e2]

/-- A command with supplies: its next state agrees with its effect but for the dictionary server after a change of node. -/
theorem act_runs {s : State} (t : Nat) (f : State → State) (hd : s.pw.dev ≠ .off) :
    ∃ s', act t f s = .next s' ∧ keepsBut [.dict] (f (s.advance t)) s' :=
  ⟨_, act_on t f hd, keeps_end _ _⟩

/-- A command with supplies whose effect leaves objects, CAN and packets alone: its next state agrees with its effect. -/
theorem act_keeps {bs : List Blk} {s : State} (t : Nat) (f : State → State) (hd : s.pw.dev ≠ .off)
    (hf : keepsBut bs (s.advance t) (f (s.advance t)))
    (hn : Blk.objs ∉ bs ∧ Blk.ident ∉ bs ∧ Blk.can ∉ bs ∧ Blk.fy ∉ bs := by decide) :
    ∃ s', act t f s = .next s' ∧ keepsBut [] (f (s.advance t)) s' ∧ keepsBut bs (s.advance t) s' := by
  have he := keeps_end_same hf hn s (by simp [sameBlk])
  exact ⟨_, act_on t f hd, he, keeps_step hf he (by simp)⟩

/-- A command whose effect leaves objects, CAN and packets alone: it answers a next state with its frame and whatever
follows from its effect. -/
theorem act_does {bs : List Blk} {s : State} {P : State → Prop} (t : Nat) (f : State → State) (hd : s.pw.dev ≠ .off)
    (hf : keepsBut bs (s.advance t) (f (s.advance t))) (hp : ∀ s', keepsBut [] (f (s.advance t)) s' → P s')
    (hn : Blk.objs ∉ bs ∧ Blk.ident ∉ bs ∧ Blk.can ∉ bs ∧ Blk.fy ∉ bs := by decide) :
    ∃ s', act t f s = .next s' ∧ keepsBut bs (s.advance t) s' ∧ P s' := by
  obtain ⟨s', e, h, h'⟩ := act_keeps t f hd hf hn
  exact ⟨s', e, h', hp s' h⟩

/-- The same for any command; the dictionary server may change at the end. -/
theorem act_does_dict {bs : List Blk} {s : State} {P : State → Prop} (t : Nat) (f : State → State) (hd : s.pw.dev ≠ .off)
    (hf : keepsBut bs (s.advance t) (f (s.advance t))) (hp : ∀ s', keepsBut [.dict] (f (s.advance t)) s' → P s')
    (hn : Blk.dict ∈ bs := by decide) :
    ∃ s', act t f s = .next s' ∧ keepsBut bs (s.advance t) s' ∧ P s' := by
  obtain ⟨s', e, h⟩ := act_runs t f hd
  exact ⟨s', e, keeps_step hf h (by simpa using hn), hp s' h⟩

theorem kept_clk {bs : List Blk} {s s' : State} (h : keepsBut bs s s') (hn : Blk.clk ∉ bs := by decide) : s'.clk = s.clk :=
  h .clk hn

theorem kept_tim {bs : List Blk} {s s' : State} (h : keepsBut bs s s') (hn : Blk.tim ∉ bs := by decide) : s'.tim = s.tim :=
  h .tim hn

theorem kept_saf {bs : List Blk} {s s' : State} (h : keepsBut bs s s') (hn : Blk.saf ∉ bs := by decide) : s'.saf = s.saf :=
  h .saf hn

theorem kept_pw {bs : List Blk} {s s' : State} (h : keepsBut bs s s') (hn : Blk.pw ∉ bs := by decide) : s'.pw = s.pw :=
  h .pw hn

theorem kept_tb {bs : List Blk} {s s' : State} (h : keepsBut bs s s') (hn : Blk.tb ∉ bs := by decide) : s'.tb = s.tb :=
  h .tb hn

theorem kept_arr {bs : List Blk} {s s' : State} (h : keepsBut bs s s') (hn : Blk.arr ∉ bs := by decide) : s'.arr = s.arr :=
  h .arr hn

theorem kept_frm {bs : List Blk} {s s' : State} (h : keepsBut bs s s') (hn : Blk.frm ∉ bs := by decide) : s'.frm = s.frm :=
  h .frm hn

theorem kept_mg {bs : List Blk} {s s' : State} (h : keepsBut bs s s') (hn : Blk.mg ∉ bs := by decide) : s'.mg = s.mg :=
  h .mg hn

theorem kept_nv {bs : List Blk} {s s' : State} (h : keepsBut bs s s') (hn : Blk.nv ∉ bs := by decide) : s'.nv = s.nv :=
  h .nv hn

theorem kept_dict {bs : List Blk} {s s' : State} (h : keepsBut bs s s') (hn : Blk.dict ∉ bs := by decide) : s'.dict = s.dict :=
  h .dict hn

theorem kept_can {bs : List Blk} {s s' : State} (h : keepsBut bs s s') (hn : Blk.can ∉ bs := by decide) : s'.can = s.can :=
  h .can hn

theorem kept_lane {bs : List Blk} {s s' : State} (h : keepsBut bs s s') (hn : Blk.lane ∉ bs := by decide) : s'.lane = s.lane :=
  h .lane hn

theorem kept_fy {bs : List Blk} {s s' : State} (h : keepsBut bs s s') (hn : Blk.fy ∉ bs := by decide) : s'.fy = s.fy :=
  h .fy hn

theorem kept_surf {bs : List Blk} {s s' : State} (h : keepsBut bs s s') (hn : Blk.surf ∉ bs := by decide) : s'.surf = s.surf :=
  h .surf hn

theorem kept_comp {bs : List Blk} {s s' : State} (h : keepsBut bs s s') (hn : Blk.comp ∉ bs := by decide) : s'.comp = s.comp :=
  h .comp hn

theorem kept_mask {bs : List Blk} {s s' : State} (h : keepsBut bs s s') (hn : Blk.mask ∉ bs := by decide) : s'.mask = s.mask :=
  h .mask hn

theorem kept_quay {bs : List Blk} {s s' : State} (h : keepsBut bs s s') (hn : Blk.quay ∉ bs := by decide) : s'.quay = s.quay :=
  h .quay hn

theorem kept_diag {bs : List Blk} {s s' : State} (h : keepsBut bs s s') (hn : Blk.diag ∉ bs := by decide) : s'.diag = s.diag :=
  h .diag hn

theorem kept_sup {bs : List Blk} {s s' : State} (h : keepsBut bs s s') (hn : Blk.sup ∉ bs := by decide) : s'.sup = s.sup :=
  h .sup hn

theorem kept_th {bs : List Blk} {s s' : State} (h : keepsBut bs s s') (hn : Blk.th ∉ bs := by decide) : s'.th = s.th :=
  h .th hn

theorem kept_pat {bs : List Blk} {s s' : State} (h : keepsBut bs s s') (hn : Blk.pat ∉ bs := by decide) : s'.pat = s.pat :=
  h .pat hn

theorem kept_objs {bs : List Blk} {s s' : State} (h : keepsBut bs s s') (hn : Blk.objs ∉ bs := by decide) : s'.objs = s.objs :=
  h .objs hn

/-- What a write that passes the checks does: the handler, in a session for an object of access RWS. -/
theorem objWrite_takes {s : State} {t : Nat} {p : Path} {idx sub : Nat} {data : List Byte} {h : List Byte → State → Nat × State}
    (hd : s.pw.dev ≠ .off) (ht : takes s p idx sub data = true) :
    ∃ touch : Bool, objWrite t p idx sub data h s =
      .next (settle s (renode s (answered (h data (if touch then touchSess p (s.advance t) else s.advance t))))) := by
  simp only [takes, Bool.and_eq_true, Option.isNone_iff_eq_none] at ht
  obtain ⟨⟨hs, hw⟩, hr⟩ := ht
  cases ho : objFind idx sub with
  | none => simp [ho] at hr
  | some r =>
    simp only [ho, Bool.and_eq_true] at hr
    refine ⟨decide (r.acc = .rws), ?_⟩
    simp [objWrite, act_on t _ hd, hs, wr, hw, ho, hr.1, hr.2]

end Sys2Proof
end

