-- ==== Sys2Proof/Laws/Ops.lean ====
section
/-!
SUPPORT. What the shared operations can do: the frame of raising a source and of everything below it, and what a raise
and a clear leave in the latched bits (R387, R391, R466, R501).
-/

namespace Sys2Proof

set_option Elab.async false

open Sys2Proof.Machine

/-- An update of the dictionary server's block. -/
theorem keeps_setEvPath (p : Path) (e : EvPath) (s : State) : keepsBut [.dict] s (setEvPath p e s) := by
  intro b hb; cases p <;> cases b <;> simp_all [sameBlk, setEvPath]

theorem keeps_canSend (id : Nat) (fd : Bool) (d : List Byte) (s : State) : keepsBut [.can, .out] s (canSend id fd d s) := by
  unfold canSend; split
  · intro b hb; cases b <;> simp_all [sameBlk, send]
  · exact keeps_refl _ _

theorem keeps_putOwn (a b c : Nat) (d : List Byte) (s : State) : keepsBut [.fy] s (putOwn a b c d s) := keeps_fy _ _

theorem keeps_ownPacket (a b c : Nat) (d : List Byte) (s : State) : keepsBut [.fy] s (ownPacket a b c d s) := by
  unfold ownPacket; exact keeps_ite (keeps_putOwn _ _ _ _ _) (keeps_refl _ _)

theorem keeps_sendEvent (p : Path) (a : EvAcc) (s : State) : keepsBut eventBlks s (sendEvent p a s) := by
  unfold sendEvent; split
  · have h : keepsBut eventBlks s { s with dict := { s.dict with coalesced := s.dict.coalesced + BitVec.ofNat 32 (a.num - 1) } } := by
      intro b hb; cases b <;> simp_all [sameBlk]
    cases p
    · exact keeps_trans h (keeps_mono (keeps_canSend _ _ _ _) (by simp))
    · exact keeps_trans h (keeps_mono (keeps_ownPacket _ _ _ _ _) (by simp))
  · exact keeps_mono (keeps_setEvPath _ _ _) (by simp)

theorem keeps_eventOn (p : Path) (a : EvAcc) (s : State) : keepsBut eventBlks s (eventOn p a s) := by
  unfold eventOn; extract_lets w e b rest
  refine keeps_ite (keeps_sendEvent _ _ _) (keeps_ite ?_ ?_)
  · exact keeps_trans (keeps_mono (keeps_setEvPath _ _ _) (by simp)) (keeps_sendEvent _ _ _)
  · exact keeps_mono (keeps_setEvPath _ _ _) (by simp)

theorem keeps_event (c k : Nat) (x : List Byte) (s : State) : keepsBut eventBlks s (event c k x s) := by
  unfold event; extract_lets n a d s1 s2
  have h1 : keepsBut eventBlks s s1 := keeps_mono (keeps_dict _ _) (by simp)
  have h2 : keepsBut eventBlks s s2 := keeps_ite (keeps_trans h1 (keeps_eventOn _ _ _)) h1
  exact keeps_ite (keeps_trans h2 (keeps_eventOn _ _ _)) h2

theorem keeps_logAdd (a c : Nat) (tr : Bool) (x : List Byte) (s : State) : keepsBut [.mg] s (logAdd a c tr x s) := by
  unfold logAdd; extract_lets q p e
  refine keeps_ite ?_ ?_ <;> (intro b hb; cases b <;> simp_all [sameBlk])

theorem keeps_noteEvent (c : Nat) (x : List Byte) (s : State) : keepsBut (.mg :: eventBlks) s (noteEvent c x s) :=
  keeps_trans (keeps_mono (keeps_logAdd _ _ _ _ _) (by simp)) (keeps_mono (keeps_event _ _ _ _) (by simp))

theorem keeps_irqHelm (i : Nat) (s : State) : keepsBut [.mg] s (irqHelm i s) := by
  intro b hb; cases b <;> simp_all [sameBlk, irqHelm]

theorem keeps_irqPurser (i : Nat) (s : State) : keepsBut [.mg] s (irqPurser i s) := by
  intro b hb; cases b <;> simp_all [sameBlk, irqPurser]

theorem keeps_lineHelm (i : Nat) (o : Bool) (s : State) : keepsBut [.mg] s (lineHelm i o s) := by
  intro b hb; cases b <;> simp_all [sameBlk, lineHelm]

theorem keeps_linePurser (i : Nat) (o : Bool) (s : State) : keepsBut [.mg] s (linePurser i o s) := by
  intro b hb; cases b <;> simp_all [sameBlk, linePurser]

theorem keeps_blank (s : State) : keepsBut [.arr, .diag, .frm] s (blank s) := by
  intro b hb; cases b <;> simp_all [sameBlk, blank]

theorem keeps_setHold (on : Bool) (s : State) : keepsBut [.saf, .arr] s (setHold on s) := by
  intro b hb; cases on <;> cases b <;> simp_all [sameBlk, setHold]

theorem keeps_supplyRest (s : State) : keepsBut [.sup] s (supplyRest s) := by
  intro b hb; cases b <;> simp_all [sameBlk, supplyRest]

theorem keeps_discAgree (s : State) : keepsBut [.saf] s (discAgree s) := by
  unfold discAgree; exact keeps_ite (keeps_saf _ _) (keeps_refl _ _)

theorem keeps_dropDisc (s : State) : keepsBut [.saf, .sup] s (dropDisc s) := by
  unfold dropDisc; extract_lets was z s1 z2
  have h : keepsBut [.saf, .sup] s s1 := keeps_mono (keeps_saf _ _) (by simp)
  clear_value s1
  refine keeps_step (keeps_ite (keeps_step (keeps_step h (keeps_saf _ _)) (keeps_supplyRest _)) h) (keeps_discAgree _)

theorem keeps_assertDisc (s : State) : keepsBut [.saf] s (assertDisc s) := by
  unfold assertDisc
  exact keeps_ite (keeps_refl _ _) (keeps_ite (keeps_saf _ _) (keeps_ite (keeps_saf _ _) (keeps_saf _ _)))

theorem keeps_modQuay (f : Quay → Quay) (s : State) : keepsBut [.quay] s (modQuay f s) := keeps_quay _ _

theorem keeps_modHalf (h : Bool) (f : HalfQ → HalfQ) (s : State) : keepsBut [.quay] s (modHalf h f s) := by
  unfold modHalf; split <;> exact keeps_modQuay _ _

theorem keeps_urgency (h : Bool) (s : State) : keepsBut [.quay] s (urgency h s) := by
  unfold urgency; extract_lets x low s1
  exact keeps_trans (keeps_ite (keeps_modQuay _ _) (keeps_refl _ _)) (keeps_modHalf _ _ _)

theorem keeps_emptyHalves (s : State) : keepsBut [.quay] s (emptyHalves s) :=
  keeps_trans (keeps_trans (keeps_modQuay _ _) (keeps_urgency _ _)) (keeps_urgency _ _)

theorem keeps_gainWrite (d : Nat) (x : List Byte) (s : State) : keepsBut [.saf, .diag] s (gainWrite d x s) := by
  intro b hb; cases b <;> simp_all [sameBlk, gainWrite, calPut]

theorem keeps_gainFold (l : List (Nat × List Byte)) (s : State) :
    keepsBut [.saf, .diag] s (l.foldl (fun s w => gainWrite w.1 w.2 s) s) := by
  induction l generalizing s with
  | nil => exact keeps_refl _ _
  | cons a l ih => exact keeps_step (keeps_gainWrite _ _ _) (ih _)

theorem keeps_gainDrain (s : State) : keepsBut [.saf, .diag] s (gainDrain s) :=
  keeps_trans (keeps_mono (keeps_diag _ _) (by simp)) (keeps_gainFold _ _)

theorem keeps_abandonLoad (s : State) : keepsBut [.quay, .sup, .saf, .diag] s (abandonLoad s) := by
  unfold abandonLoad; extract_lets s1
  have h : keepsBut [.quay, .sup, .saf, .diag] s s1 := keeps_mono (keeps_emptyHalves s) (by simp)
  clear_value s1
  refine keeps_step (keeps_trans h ?_) (keeps_gainDrain _)
  intro b hb; cases b <;> simp_all [sameBlk]

theorem keeps_setRamp (r : Ramp) (s : State) : keepsBut [.arr] s (setRamp r s) := keeps_arr _ _

theorem keeps_stopSchedule (s : State) : keepsBut [.frm, .arr] s (stopSchedule s) := by
  intro b hb; cases b <;> simp_all [sameBlk, stopSchedule, modArr, modFrm]

theorem keeps_dropItems (s : State) : keepsBut [.frm, .arr] s (dropItems s) := by
  unfold dropItems; extract_lets k s1
  have h : keepsBut [.frm, .arr] s s1 := keeps_ite (keeps_mono (keeps_setRamp _ _) (by simp)) (keeps_refl _ _)
  exact keeps_step h (keeps_frm _ _)

theorem keeps_setSafety (x : Safety) (s : State) : keepsBut [.saf, .mg, .diag] s (setSafety x s) := by
  intro b hb; cases b <;> simp_all [sameBlk, setSafety, irqHelm]

theorem keeps_holdEntry (s : State) : keepsBut [.saf, .arr, .sup, .frm] s (holdEntry s) := by
  unfold holdEntry; extract_lets z s0 s1
  have h0 : keepsBut [.saf, .arr, .sup, .frm] s s0 :=
    keeps_trans (keeps_mono (keeps_saf _ _) (by simp)) (keeps_mono (keeps_stopSchedule _) (by simp))
  have h1 : keepsBut [.saf, .arr, .sup, .frm] s s1 := keeps_trans h0 (keeps_mono (keeps_setHold _ _) (by simp))
  clear_value s0 s1
  exact keeps_ite (keeps_ite (keeps_trans h1 (keeps_mono (keeps_dropDisc _) (by simp))) h1)
    (keeps_ite (keeps_trans h0 (keeps_mono (keeps_dropDisc _) (by simp))) h0)

theorem keeps_darkEntry (s : State) : keepsBut [.saf, .arr, .sup, .frm, .diag] s (darkEntry s) :=
  keeps_trans (keeps_trans (keeps_trans (keeps_trans (keeps_mono (keeps_saf _ _) (by simp))
    (keeps_mono (keeps_stopSchedule _) (by simp))) (keeps_mono (keeps_blank _) (by simp)))
    (keeps_mono (keeps_setHold _ _) (by simp))) (keeps_mono (keeps_dropDisc _) (by simp))

theorem keeps_limpEntry (n : Nat) (s : State) : keepsBut [.saf, .arr, .frm] s (limpEntry n s) := by
  unfold limpEntry; extract_lets z s0
  have h0 : keepsBut [.saf, .arr, .frm] s s0 :=
    keeps_trans (keeps_mono (keeps_saf _ _) (by simp)) (keeps_mono (keeps_dropItems _) (by simp))
  clear_value s0
  exact keeps_trans h0 (keeps_mono (keeps_setHold _ _) (by simp))

theorem keeps_updPermission (s : State) : keepsBut lightBlks s (updPermission s) := by
  unfold updPermission; extract_lets on fell z s1
  have h : keepsBut lightBlks s s1 := keeps_mono (keeps_saf _ _) (by simp)
  exact keeps_ite (keeps_trans (keeps_trans h (keeps_mono (keeps_blank _) (by simp))) (keeps_mono (keeps_setHold _ _) (by simp))) h

theorem keeps_discEval (k : Nat) (s : State) : keepsBut lightBlks s (discEval k s) := by
  induction k generalizing s with
  | zero => exact keeps_refl _ _
  | succ k ih =>
    unfold discEval
    split
    · exact keeps_ite (keeps_refl _ _) (keeps_trans (keeps_mono (keeps_saf _ _) (by simp)) (ih _))
    · exact keeps_ite (keeps_trans (keeps_mono (keeps_saf _ _) (by simp)) (ih _)) (keeps_refl _ _)
    · exact keeps_ite (keeps_refl _ _) (keeps_trans (keeps_mono (keeps_saf _ _) (by simp)) (ih _))
    · exact keeps_ite (keeps_trans (keeps_mono (keeps_saf _ _) (by simp)) (keeps_updPermission _)) (keeps_refl _ _)
    · exact keeps_refl _ _

theorem keeps_discRun (s : State) : keepsBut lightBlks s (discRun s) := keeps_step (keeps_discEval _ _) (keeps_discAgree _)

theorem keeps_closeDisc (s : State) : keepsBut lightBlks s (closeDisc s) :=
  keeps_trans (keeps_mono (keeps_assertDisc _) (by simp)) (keeps_discRun _)

theorem keeps_enterUp (c i : Nat) (s : State) : keepsBut raiseBlks s (enterUp c i s) := by
  unfold enterUp; extract_lets pick lost x s1 z s2
  have h2 : keepsBut raiseBlks s s2 :=
    keeps_trans (keeps_mono (keeps_setSafety x s) (by simp)) (keeps_mono (keeps_saf _ _) (by simp))
  have h3 : keepsBut raiseBlks s (abandonLoad s2) := keeps_trans h2 (keeps_mono (keeps_abandonLoad _) (by simp))
  clear_value s2 x pick
  refine keeps_ite (keeps_refl _ _) ?_
  split
  · exact keeps_trans h3 (keeps_mono (keeps_limpEntry _ _) (by simp))
  · exact keeps_trans h3 (keeps_mono (keeps_holdEntry _) (by simp))
  · exact keeps_trans h3 (keeps_mono (keeps_darkEntry _) (by simp))
  · exact h2

/-- A move to a lower LIMP or HOLD, where there is one. -/
theorem keeps_lowerTo {t : Nat} {s s' : State} (h : lowerTo t s = some s') : keepsBut raiseBlks s s' := by
  unfold lowerTo at h; split at h
  · split at h
    · cases h
    · cases h
      exact keeps_trans (keeps_trans (keeps_mono (keeps_setSafety _ _) (by simp)) (keeps_mono (keeps_closeDisc _) (by simp)))
        (keeps_mono (keeps_limpEntry _ _) (by simp))
  · extract_lets s1 at h
    have h1 : keepsBut raiseBlks s s1 := keeps_mono (keeps_setSafety _ _) (by simp)
    clear_value s1
    cases h
    exact keeps_ite (keeps_trans h1 (keeps_mono (keeps_setHold _ _) (by simp))) h1

theorem keeps_turnReturn (t : Nat) (s : State) : keepsBut raiseBlks s (turnReturn t s) := by
  unfold turnReturn; extract_lets z s1
  have h1 : keepsBut raiseBlks s s1 := keeps_mono (keeps_saf _ _) (by simp)
  clear_value s1
  refine keeps_ite h1 ?_
  cases h : lowerTo t s1 with
  | none => exact h1
  | some x => exact keeps_trans h1 (keeps_lowerTo h)

theorem keeps_resetLow (t : Nat) (s : State) : keepsBut raiseBlks s (resetLow t s) := by
  unfold resetLow
  refine keeps_ite (keeps_mono (keeps_saf _ _) (by simp)) ?_
  split
  · exact keeps_trans (keeps_mono (keeps_saf _ _) (by simp)) (keeps_lowerTo ‹_›)
  · exact keeps_mono (keeps_saf _ _) (by simp)

theorem keeps_retarget (i : Nat) (s : State) : keepsBut raiseBlks s (retarget i s) := by
  unfold retarget; extract_lets tgt c
  exact keeps_ite (keeps_enterUp _ _ _) (keeps_ite (keeps_turnReturn _ _)
    (keeps_ite (keeps_mono (keeps_saf _ _) (by simp)) (keeps_ite (keeps_mono (keeps_saf _ _) (by simp)) (keeps_refl _ _))))

theorem keeps_raiseTarget (i was : Nat) (s : State) : keepsBut raiseBlks s (raiseTarget i was s) := by
  unfold raiseTarget; extract_lets tgt
  split
  · exact keeps_ite (keeps_trans (keeps_trans (keeps_mono (keeps_saf _ _) (by simp)) (keeps_retarget _ _)) (keeps_resetLow _ _))
      (keeps_retarget _ _)
  · exact keeps_retarget _ _

theorem keeps_raiseSrc (i : Nat) (x : List Byte) (s : State) : keepsBut raiseBlks s (raiseSrc i x s) := by
  unfold raiseSrc; extract_lets was z s1 s2 c s3
  have h1 : keepsBut raiseBlks s s1 := keeps_mono (keeps_saf _ _) (by simp)
  have h2 : keepsBut raiseBlks s s2 :=
    keeps_trans (keeps_trans h1 (keeps_mono (keeps_lineHelm _ _ _) (by simp))) (keeps_raiseTarget _ _ _)
  have h3 : keepsBut raiseBlks s s3 := keeps_trans h2 (keeps_mono (keeps_logAdd _ _ _ _ _) (by simp))
  clear_value s3
  exact keeps_ite (keeps_refl _ _) (keeps_ite (keeps_trans h3 (keeps_mono (keeps_event _ _ _ _) (by simp))) h3)

theorem keeps_transientSrc (i : Nat) (x : List Byte) (s : State) : keepsBut [.saf, .mg] s (transientSrc i x s) :=
  keeps_trans (keeps_mono (keeps_saf _ _) (by simp)) (keeps_mono (keeps_logAdd _ _ _ _ _) (by simp))

theorem keeps_setCause (i : Nat) (o : Bool) (x : List Byte) (s : State) : keepsBut raiseBlks s (setCause i o x s) := by
  unfold setCause
  exact keeps_ite (keeps_ite (keeps_refl _ _) (keeps_raiseSrc _ _ _)) (keeps_mono (keeps_saf _ _) (by simp))

theorem keeps_reloadJob (j : Job) (rep : Bool) (s : State) : keepsBut [.comp, .sup, .quay] s (reloadJob j rep s) := by
  unfold reloadJob; extract_lets s1
  have h : keepsBut [.comp, .sup, .quay] s s1 := keeps_mono (keeps_emptyHalves s) (by simp)
  clear_value s1
  refine keeps_trans h ?_
  intro b hb; cases b <;> simp_all [sameBlk]

theorem keeps_startReload (s : State) : keepsBut [.comp, .sup, .quay] s (startReload s) := by
  unfold startReload; split
  · exact keeps_reloadJob _ _ _
  · exact keeps_ite (keeps_reloadJob _ _ _) (keeps_refl _ _)
  · exact keeps_refl _ _

theorem keeps_busError (a : Nat) (w : Bool) (s : State) : keepsBut (.pw :: raiseBlks) s (busError a w s) := by
  refine keeps_trans ?_ (keeps_mono (keeps_raiseSrc _ _ _) (by simp))
  intro b hb; cases b <;> simp_all [sameBlk]

/-- The end of a command leaves the answer of an object access alone. -/
theorem answer_end (s s' : State) : (settle s (renode s s')).dict.answer = s'.dict.answer := by
  unfold settle renode; simp only; split <;> split <;> rfl

/-- A write of an object that is not served does nothing (R426, R439). -/
theorem objWrite_unserved {s : State} {idx : Nat} (t : Nat) (p : Path) (sub : Nat) (data : List Byte)
    (h : List Byte → State → Nat × State) (hd : s.pw.dev ≠ .off) (hs : servedAt s p idx sub = false) :
    ∃ s', objWrite t p idx sub data h s = .next s' ∧ keepsBut [] (s.advance t) s' := by
  obtain ⟨s', e, hk, -⟩ := act_does (P := fun _ => True) (bs := []) t
    (fun s => if servedAt s p idx sub then answered (wr p idx sub data h s) else s) hd
    (by simp only [servedAt_advance, hs]; exact keeps_refl _ _) (fun _ _ => trivial)
  exact ⟨s', e, hk⟩

/-- A write whose checks before the object's own handler end in an abort code answers it, and changes nothing else but for
the bus error of a block without power (R489, R491). -/
theorem objWrite_stopped {s : State} {p : Path} {idx sub k : Nat} {data : List Byte} {h : List Byte → State → Nat × State} (t : Nat)
    (hd : s.pw.dev ≠ .off) (hs : servedAt s p idx sub = true)
    (hw : wr p idx sub data h (s.advance t) =
      (k, if k = abPower then busError (okey idx sub) true (s.advance t) else s.advance t)) :
    ∃ s', objWrite t p idx sub data h s = .next s' ∧ s'.dict.answer = k ∧
      keepsBut (if k = abPower then .pw :: raiseBlks else [.dict]) (s.advance t) s' := by
  have he : ∀ {bs : List Blk} {y : State}, Blk.dict ∈ bs → wr p idx sub data h (s.advance t) = (k, y) →
      keepsBut bs (s.advance t) y →
      ∃ s', objWrite t p idx sub data h s = .next s' ∧ s'.dict.answer = k ∧ keepsBut bs (s.advance t) s' := by
    intro bs y hb hx h2
    refine ⟨_, act_on t _ hd, ?_, ?_⟩
    · rw [answer_end, servedAt_advance, hs, hx]; rfl
    · rw [servedAt_advance, hs, hx]
      exact keeps_step (keeps_step h2 (keeps_dict _ _) (by simpa using hb)) (keeps_end _ _) (by simpa using hb)
  by_cases hk : k = abPower
  · rw [if_pos hk] at hw ⊢
    exact he (by decide) hw (keeps_busError _ _ _)
  · rw [if_neg hk] at hw ⊢
    exact he (by decide) hw (keeps_refl _ _)

theorem keeps_setSess (p : Path) (x : Sess) (s : State) : keepsBut [.dict] s (setSess p x s) := by
  intro b hb; cases p <;> cases b <;> simp_all [sameBlk, setSess]

theorem keeps_touchSess (p : Path) (s : State) : keepsBut [.dict] s (touchSess p s) := by
  unfold touchSess; exact keeps_ite (keeps_setSess _ _ _) (keeps_refl _ _)

theorem keeps_closeSess (p : Path) (s : State) : keepsBut [.dict] s (closeSess p s) := keeps_setSess _ _ _

theorem keeps_setObj (s : State) (i k : Nat) (v : List Byte) : keepsBut [.objs] s (s.setObj i k v) := by
  intro b hb; cases b <;> simp_all [sameBlk, State.setObj]

theorem keeps_publish (i : Nat) (v : List (List Byte)) (s : State) : keepsBut [.meas] s (publish i v s) := by
  intro b hb; cases b <;> simp_all [sameBlk, publish, publishFrom]

/-! ## What a raise leaves in the Tollgate -/

theorem bmGet_bmClr_ne (m : Bitmap) (i j : Nat) (h : j ≠ i) (hj : j < 256) : bmGet (bmClr m i) j = bmGet m j := by
  simp [bmGet, bmClr, hj, h]

/-- The parts of the Tollgate that only a raise of the source itself or a clear changes, with the cause of a source `j`. -/
def latches (j : Nat) (s : State) : Bitmap × Bitmap × Bitmap × List Nat × List Nat × Bool :=
  (s.saf.latched, s.saf.injected, s.saf.floorUp, s.saf.raises, s.saf.transients, bmGet s.saf.causes j)

/-- A source whose cause no entry to a safety state ends: neither a disagreement of the disconnect switch nor a gain update that
waits (R389, R409, R287). -/
def lasts (j : Nat) : Prop := j < 256 ∧ j ≠ 0x03 ∧ j ≠ 0x5E

theorem latches_of_framed {j : Nat} {bs : List Blk} {s s' : State} (h : keepsBut bs s s') (hn : Blk.saf ∉ bs) :
    latches j s' = latches j s := by
  have := h .saf hn; simp_all [latches, sameBlk]

theorem latches_ite {j : Nat} {c : Prop} [Decidable c] {a b s : State} (h : latches j a = latches j s)
    (h' : latches j b = latches j s) : latches j (if c then a else b) = latches j s := by split <;> assumption

theorem latches_setHold (j : Nat) (o : Bool) (s : State) : latches j (setHold o s) = latches j s := by
  cases o <;> simp [latches, setHold]

theorem latches_discAgree {j : Nat} (hj : lasts j) (s : State) : latches j (discAgree s) = latches j s := by
  unfold discAgree
  refine latches_ite ?_ rfl
  simp [latches, bmGet_bmClr_ne _ _ _ hj.2.1 hj.1]

theorem latches_dropDisc {j : Nat} (hj : lasts j) (s : State) : latches j (dropDisc s) = latches j s := by
  unfold dropDisc; extract_lets was z s1 z2
  exact (latches_discAgree hj _).trans (latches_ite rfl rfl)

theorem latches_gainWrite {j : Nat} (hj : lasts j) (d : Nat) (x : List Byte) (s : State) : latches j (gainWrite d x s) = latches j s := by
  unfold gainWrite; extract_lets b
  unfold calPut latches
  simp only [bmGet_bmClr_ne _ _ _ hj.2.2 hj.1]
  rfl

theorem latches_gainFold {j : Nat} (hj : lasts j) (l : List (Nat × List Byte)) (s : State) :
    latches j (l.foldl (fun s w => gainWrite w.1 w.2 s) s) = latches j s := by
  induction l generalizing s with
  | nil => rfl
  | cons a l ih => exact (ih _).trans (latches_gainWrite hj _ _ _)

theorem latches_abandonLoad {j : Nat} (hj : lasts j) (s : State) : latches j (abandonLoad s) = latches j s := by
  unfold abandonLoad gainDrain; extract_lets s1
  have h : latches j s1 = latches j s := latches_of_framed (keeps_emptyHalves s) (by simp)
  clear_value s1
  exact (latches_gainFold hj _ _).trans h

theorem latches_stopSchedule (j : Nat) (s : State) : latches j (stopSchedule s) = latches j s :=
  latches_of_framed (keeps_stopSchedule s) (by simp)

theorem latches_holdEntry {j : Nat} (hj : lasts j) (s : State) : latches j (holdEntry s) = latches j s := by
  unfold holdEntry; extract_lets z s0 s1
  have h0 : latches j s0 = latches j s := (latches_stopSchedule _ _).trans rfl
  have h1 : latches j s1 = latches j s := (latches_setHold _ _ _).trans h0
  clear_value s0 s1
  exact latches_ite (latches_ite ((latches_dropDisc hj _).trans h1) h1) (latches_ite ((latches_dropDisc hj _).trans h0) h0)

theorem latches_darkEntry {j : Nat} (hj : lasts j) (s : State) : latches j (darkEntry s) = latches j s := by
  unfold darkEntry; rw [latches_dropDisc hj, latches_setHold]
  exact (latches_of_framed (keeps_blank _) (by simp)).trans ((latches_stopSchedule _ _).trans rfl)

theorem latches_limpEntry (j n : Nat) (s : State) : latches j (limpEntry n s) = latches j s := by
  unfold limpEntry; extract_lets z s0
  exact (latches_setHold _ _ _).trans ((latches_of_framed (keeps_dropItems _) (by simp)).trans rfl)

theorem latches_updPermission (j : Nat) (s : State) : latches j (updPermission s) = latches j s := by
  unfold updPermission; extract_lets on fell z s1
  exact latches_ite ((latches_setHold _ _ _).trans ((latches_of_framed (keeps_blank _) (by simp)).trans rfl)) rfl

theorem latches_discEval (j k : Nat) (s : State) : latches j (discEval k s) = latches j s := by
  induction k generalizing s with
  | zero => rfl
  | succ k ih =>
    unfold discEval
    split
    · exact latches_ite rfl ((ih _).trans rfl)
    · exact latches_ite ((ih _).trans rfl) rfl
    · exact latches_ite rfl ((ih _).trans rfl)
    · exact latches_ite ((latches_updPermission _ _).trans rfl) rfl
    · rfl

theorem latches_closeDisc {j : Nat} (hj : lasts j) (s : State) : latches j (closeDisc s) = latches j s := by
  refine (latches_discAgree hj _).trans ((latches_discEval _ _ _).trans ?_)
  unfold assertDisc
  exact latches_ite rfl (latches_ite rfl (latches_ite rfl rfl))

theorem latches_enterUp {j : Nat} (hj : lasts j) (c i : Nat) (s : State) : latches j (enterUp c i s) = latches j s := by
  unfold enterUp; extract_lets pick lost x s1 z s2
  have h3 : latches j s2 = latches j s := rfl
  have h2 : latches j (abandonLoad s2) = latches j s := (latches_abandonLoad hj _).trans h3
  clear_value s2 x pick
  refine latches_ite rfl ?_
  split
  · exact (latches_limpEntry _ _ _).trans h2
  · exact (latches_holdEntry hj _).trans h2
  · exact (latches_darkEntry hj _).trans h2
  · exact h3

theorem latches_lowerTo {j : Nat} (hj : lasts j) {t : Nat} {s s' : State} (h : lowerTo t s = some s') : latches j s' = latches j s := by
  unfold lowerTo at h; split at h
  · split at h
    · cases h
    · cases h; exact (latches_limpEntry _ _ _).trans ((latches_closeDisc hj _).trans rfl)
  · cases h; exact latches_ite ((latches_setHold _ _ _).trans rfl) rfl

theorem latches_turnReturn {j : Nat} (hj : lasts j) (t : Nat) (s : State) : latches j (turnReturn t s) = latches j s := by
  unfold turnReturn; extract_lets z s1
  have h1 : latches j s1 = latches j s := rfl
  clear_value s1
  refine latches_ite h1 ?_
  cases h : lowerTo t s1 with
  | none => exact h1
  | some x => exact (latches_lowerTo hj h).trans h1

theorem latches_resetLow {j : Nat} (hj : lasts j) (t : Nat) (s : State) : latches j (resetLow t s) = latches j s := by
  unfold resetLow
  refine latches_ite rfl ?_
  split
  · rename_i h; exact (latches_lowerTo hj h).trans rfl
  · rfl

theorem latches_retarget {j : Nat} (hj : lasts j) (i : Nat) (s : State) : latches j (retarget i s) = latches j s := by
  unfold retarget; extract_lets tgt c
  exact latches_ite (latches_enterUp hj _ _ _) (latches_ite (latches_turnReturn hj _ _) (latches_ite rfl (latches_ite rfl rfl)))

theorem latches_raiseTarget {j : Nat} (hj : lasts j) (i was : Nat) (s : State) : latches j (raiseTarget i was s) = latches j s := by
  unfold raiseTarget; extract_lets tgt
  split
  · exact latches_ite ((latches_resetLow hj _ _).trans ((latches_retarget hj _ _).trans rfl)) (latches_retarget hj _ _)
  · exact latches_retarget hj _ _

/-- A raise latches the source, with its cause for a condition source, and counts it (R387, R388). -/
theorem latches_raiseSrc {j : Nat} (hj : lasts j) (i : Nat) (x : List Byte) (s : State) (h : hasSource i = true) :
    latches j (raiseSrc i x s) = (bmSet s.saf.latched i, s.saf.injected, s.saf.floorUp, modNth s.saf.raises i satInc16,
      s.saf.transients, bmGet (if isCond i then bmSet s.saf.causes i else s.saf.causes) j) := by
  unfold raiseSrc; extract_lets was z s1 s2 c s3
  have h2 : latches j s2 = latches j s1 := (latches_raiseTarget hj _ _ _).trans rfl
  have h3 : latches j s3 = latches j s1 := (latches_of_framed (keeps_logAdd _ _ _ _ _) (by simp)).trans h2
  rw [if_neg (by simp [h])]
  exact latches_ite ((latches_of_framed (keeps_event _ _ _ _) (by simp)).trans h3) h3

theorem bmGet_bmSet (m : Bitmap) (i : Nat) (h : i < 256) : bmGet (bmSet m i) i = true := by
  simp [bmGet, bmSet, h]

theorem bmGet_bmClr (m : Bitmap) (i : Nat) : bmGet (bmClr m i) i = false := by
  simp [bmGet, bmClr]

/-- A raised source is latched (R387). -/
theorem latched_raiseSrc (i : Nat) (x : List Byte) (s : State) (h : hasSource i = true) (hi : i < 256) :
    bmGet (raiseSrc i x s).saf.latched i = true := by
  have := latches_raiseSrc (j := 0) (by simp [lasts]) i x s h
  simp only [latches, Prod.mk.injEq] at this
  rw [this.1]; exact bmGet_bmSet _ _ hi

/-- A cause that ends is present no more (R387). -/
theorem causes_setCause_off (i : Nat) (x : List Byte) (s : State) : bmGet (setCause i false x s).saf.causes i = false := by
  simp [setCause, bmGet_bmClr]

/-- A cause that appears is present, where no entry to a safety state ends it at once (R387). -/
theorem causes_setCause_on (i : Nat) (x : List Byte) (s : State) (h : hasSource i = true) (hc : isCond i = true) (hi : lasts i) :
    bmGet (setCause i true x s).saf.causes i = true := by
  unfold setCause
  by_cases hb : bmGet s.saf.causes i = true
  · simp [hb]
  · have := latches_raiseSrc hi i x s h
    simp only [latches, Prod.mk.injEq, hc, if_true] at this
    simp [hb, this.2.2.2.2.2, bmGet_bmSet _ _ hi.1]

/-- A cause that appears anew latches its source (R387). -/
theorem latched_setCause_on (i : Nat) (x : List Byte) (s : State) (h : hasSource i = true) (hi : i < 256)
    (hn : bmGet s.saf.causes i = false) : bmGet (setCause i true x s).saf.latched i = true := by
  simp [setCause, hn, latched_raiseSrc i x s h hi]

end Sys2Proof
end

