-- ==== Sys2Proof/Laws/Clock.lean ====
section
/-!
SUPPORT. What the operations on time, timebases and the keeper can do: their frames (chapters 14 and 16).
-/

namespace Sys2Proof

set_option Elab.async false

open Sys2Proof.Machine

theorem keeps_foldPred (s : State) : keepsBut [.tim] s (foldPred s) := keeps_tim _ _

theorem keeps_setRate (f x : Int) (s : State) : keepsBut [.tim, .clk] s (setRate f x s) := by
  unfold setRate; extract_lets s1 sF
  exact keeps_step (keeps_step (keeps_refl _ _) (keeps_foldPred _)) (keeps_clk _ _)

theorem keeps_rateSource (s : State) : keepsBut [.tim, .clk] s (rateSource s) := keeps_setRate _ _ _

theorem keeps_convFrame (a b : Nat) (s : State) : keepsBut [.frm, .arr] s (convFrame a b s) := by
  intro b hb; cases b <;> simp_all [sameBlk, convFrame]

theorem keeps_setTbSrc (n src : Nat) (stop : Bool) (s : State) : keepsBut [.tb, .frm, .arr] s (setTbSrc n src stop s) := by
  unfold setTbSrc; extract_lets p0 put s1
  have h : keepsBut [.tb, .frm, .arr] s s1 := keeps_step (keeps_refl _ _) (keeps_tb _ _)
  exact keeps_ite h (keeps_step h (keeps_convFrame _ _ _))

theorem keeps_runFrom (n src : Nat) (s : State) : keepsBut tbBlks s (runFrom n src s) := by
  unfold runFrom; extract_lets old s1
  have h1 : keepsBut tbBlks s s1 :=
    keeps_step (keeps_step (keeps_refl _ _) (keeps_setTbSrc _ _ _ _)) (keeps_setCause _ _ _ _)
  clear_value s1
  refine keeps_ite (keeps_refl _ _) ?_
  split
  · exact keeps_step (keeps_step h1 (keeps_clk _ _)) (keeps_rateSource _)
  · exact keeps_step h1 (keeps_sup _ _)
  · exact keeps_step h1 (keeps_setCause _ _ _ _)
  · exact keeps_ite (keeps_step h1 (keeps_can _ _)) h1
  · exact h1

theorem keeps_switchTb (src : Nat) (s : State) (n : Nat) : keepsBut tbBlks s (switchTb src s n) := by
  unfold switchTb
  exact keeps_ite (keeps_refl _ _) (keeps_step (keeps_step (keeps_refl _ _) (keeps_tb _ _)) (keeps_runFrom _ _ _))

theorem keeps_switchAll (src : Nat) (l : List Nat) (s : State) : keepsBut tbBlks s (l.foldl (switchTb src) s) := by
  induction l generalizing s with
  | nil => exact keeps_refl _ _
  | cons a l ih => exact keeps_step (keeps_switchTb _ _ _) (ih _)

theorem keeps_forceTb (src : Nat) (s : State) (n : Nat) : keepsBut tbBlks s (forceTb src s n) := by
  unfold forceTb
  exact keeps_ite (keeps_refl _ _)
    (keeps_step (keeps_step (keeps_step (keeps_refl _ _) (keeps_tb _ _)) (keeps_switchTb _ _ _)) (keeps_raiseSrc _ _ _))

theorem keeps_leaveTb0 (e : Bool) (s : State) (n : Nat) : keepsBut tbBlks s (leaveTb0 e s n) := by
  unfold leaveTb0; exact keeps_ite (keeps_forceTb _ _ _) (keeps_switchTb _ _ _)

theorem keeps_leaveAll (e : Bool) (l : List Nat) (s : State) : keepsBut tbBlks s (l.foldl (leaveTb0 e) s) := by
  induction l generalizing s with
  | nil => exact keeps_refl _ _
  | cons a l ih => exact keeps_step (keeps_leaveTb0 _ _ _) (ih _)

theorem keeps_allToKeeper (e : Bool) (s : State) : keepsBut tbBlks s (allToKeeper e s) :=
  keeps_step (keeps_step (keeps_refl _ _) (keeps_tb _ _)) (keeps_leaveAll _ _ _)

theorem keeps_qualifyTb0 (s : State) : keepsBut tbBlks s (qualifyTb0 s) :=
  keeps_step (keeps_step (keeps_refl _ _) (keeps_tb _ _)) (keeps_switchAll _ _ _)

theorem keeps_returnLate (s : State) : keepsBut tbBlks s (returnLate s) :=
  keeps_step (keeps_step (keeps_refl _ _) (keeps_tb _ _)) (keeps_switchAll _ _ _)

theorem keeps_stopTb (n : Nat) (s : State) : keepsBut tbBlks s (stopTb n s) := by
  unfold stopTb; extract_lets s1 y s2 s3
  have h1 : keepsBut tbBlks s s1 := keeps_step (keeps_refl _ _) (keeps_setTbSrc _ _ _ _)
  have h2 : keepsBut tbBlks s s2 := keeps_ite (keeps_step h1 (keeps_clk _ _)) h1
  have h3 : keepsBut tbBlks s s3 := keeps_ite (keeps_step h2 (keeps_setCause _ _ _ _)) h2
  exact keeps_step h3 (keeps_setCause _ _ _ _)

theorem keeps_haltTb (s : State) (n : Nat) : keepsBut tbBlks s (haltTb s n) := by
  unfold haltTb; exact keeps_ite (keeps_refl _ _) (keeps_stopTb _ _)

theorem keeps_loseTb0 (s : State) : keepsBut tbBlks s (loseTb0 s) := by
  unfold loseTb0; extract_lets x s1
  have h1 : keepsBut tbBlks s s1 := keeps_step (keeps_refl _ _) (keeps_tb _ _)
  exact keeps_step (keeps_step (keeps_ite (keeps_step h1 (keeps_allToKeeper _ _)) h1) (keeps_haltTb _ _)) (keeps_haltTb _ _)

theorem keeps_offerTb0 (s : State) : keepsBut tbBlks s (offerTb0 s) := by
  unfold offerTb0
  exact keeps_step (keeps_step (keeps_step (keeps_step (keeps_refl _ _) (keeps_tb _ _)) (keeps_runFrom _ _ _))
    (keeps_runFrom _ _ _)) (keeps_qualifyTb0 _)

theorem keeps_calPut (k : Nat) (v : Int) (st : Nat) (s : State) : keepsBut [.diag] s (calPut k v st s) := keeps_diag _ _

theorem keeps_calDone (k : Nat) (v : Int) (st : Nat) (s : State) : keepsBut raiseBlks s (calDone k v st s) :=
  keeps_step (keeps_step (keeps_refl _ _) (keeps_calPut _ _ _ _)) (keeps_setCause _ _ _ _)

theorem keeps_endNoSource (s : State) : keepsBut raiseBlks s (endNoSource s) := keeps_setCause _ _ _ _

theorem keeps_keeperQualify (s : State) : keepsBut tbBlks s (keeperQualify s) := by
  unfold keeperQualify
  exact keeps_ite (keeps_step (keeps_step (keeps_refl _ _) (keeps_tb _ _)) (keeps_endNoSource _)) (keeps_refl _ _)

theorem keeps_keeperUnqualify (s : State) : keepsBut tbBlks s (keeperUnqualify s) := by
  unfold keeperUnqualify
  refine keeps_ite ?_ (keeps_refl _ _)
  extract_lets x s1
  have h1 : keepsBut tbBlks s s1 := keeps_step (keeps_refl _ _) (keeps_tb _ _)
  exact keeps_ite h1 (keeps_step h1 (keeps_can _ _))

/-- What a keeper measurement can change. -/
theorem keeps_keeperMeasure (tm c r : Nat) (s : State) : keepsBut (.meas :: tbBlks) s (keeperMeasure tm c r s) := by
  unfold keeperMeasure
  refine keeps_ite (keeps_refl _ _) ?_
  extract_lets d kt need bad run good old s1 x s2 s3 s4 s5
  have h2 : keepsBut (.meas :: tbBlks) s s2 := keeps_step (keeps_step (keeps_refl _ _) (keeps_foldPred _)) (keeps_tb _ _)
  have h3 : keepsBut (.meas :: tbBlks) s s3 := keeps_ite (keeps_step h2 (keeps_keeperUnqualify _)) h2
  have h4 : keepsBut (.meas :: tbBlks) s s4 := keeps_ite (keeps_step h3 (keeps_keeperQualify _)) h3
  have h5 : keepsBut (.meas :: tbBlks) s s5 := keeps_step h4 (keeps_calDone _ _ _ _)
  exact keeps_step h5 (keeps_publish _ _ _)

/-! ## What a switch leaves in the timebases -/

/-- The flags of the timebases that a switch or a stop leaves alone. -/
def tbFlags (s : State) : Bool × Bool × Keeper × Bool := (s.tb.offered, s.tb.tb0, s.tb.keeper, s.tb.backPending)

theorem tbFlags_of_framed {bs : List Blk} {s s' : State} (h : keepsBut bs s s') (hn : Blk.tb ∉ bs) : tbFlags s' = tbFlags s := by
  have := h .tb hn; simp_all [tbFlags, sameBlk]

theorem tbFlags_ite {c : Prop} [Decidable c] {a b s : State} (h : tbFlags a = tbFlags s) (h' : tbFlags b = tbFlags s) :
    tbFlags (if c then a else b) = tbFlags s := by split <;> assumption

theorem tbFlags_setCause (i : Nat) (o : Bool) (x : List Byte) (s : State) : tbFlags (setCause i o x s) = tbFlags s :=
  tbFlags_of_framed (keeps_setCause _ _ _ _) (by simp)

theorem tbFlags_setTbSrc (n src : Nat) (stop : Bool) (s : State) : tbFlags (setTbSrc n src stop s) = tbFlags s := by
  unfold setTbSrc; extract_lets p0 put s1
  have h : tbFlags s1 = tbFlags s := by
    show tbFlags { s with tb := if n = 4 then put 11 (put 4 s.tb) else put n s.tb } = tbFlags s
    split <;> rfl
  exact tbFlags_ite h ((tbFlags_of_framed (keeps_convFrame _ _ _) (by simp)).trans h)

theorem tbFlags_runFrom (n src : Nat) (s : State) : tbFlags (runFrom n src s) = tbFlags s := by
  unfold runFrom; extract_lets old s1
  have h : tbFlags s1 = tbFlags s := (tbFlags_setCause _ _ _ _).trans (tbFlags_setTbSrc _ _ _ _)
  clear_value s1
  refine tbFlags_ite rfl ?_
  split
  · exact (tbFlags_of_framed (keeps_rateSource _) (by simp)).trans h
  · exact h
  · exact (tbFlags_setCause _ _ _ _).trans h
  · exact tbFlags_ite h h
  · exact h

/-- A counted switch leaves the flags alone. -/
theorem tbFlags_switchTb (src : Nat) (s : State) (n : Nat) : tbFlags (switchTb src s n) = tbFlags s := by
  unfold switchTb; exact tbFlags_ite rfl ((tbFlags_runFrom _ _ _).trans rfl)

theorem tbFlags_leaveTb0 (e : Bool) (s : State) (n : Nat) : tbFlags (leaveTb0 e s n) = tbFlags s := by
  unfold leaveTb0 forceTb
  exact tbFlags_ite (tbFlags_ite rfl ((tbFlags_of_framed (keeps_raiseSrc _ _ _) (by simp)).trans
    ((tbFlags_switchTb _ _ _).trans rfl))) (tbFlags_switchTb _ _ _)

theorem tbFlags_fold (f : State → Nat → State) (hf : ∀ s n, tbFlags (f s n) = tbFlags s) (l : List Nat) (s : State) :
    tbFlags (l.foldl f s) = tbFlags s := by
  induction l generalizing s with
  | nil => rfl
  | cons a l ih => exact (ih _).trans (hf _ _)

theorem tbFlags_haltTb (s : State) (n : Nat) : tbFlags (haltTb s n) = tbFlags s := by
  unfold haltTb stopTb; extract_lets s1 y s2 s3
  have h2 : tbFlags s2 = tbFlags s := tbFlags_ite (tbFlags_setTbSrc _ _ _ _) (tbFlags_setTbSrc _ _ _ _)
  have h3 : tbFlags s3 = tbFlags s := tbFlags_ite ((tbFlags_setCause _ _ _ _).trans h2) h2
  exact tbFlags_ite rfl ((tbFlags_setCause _ _ _ _).trans h3)

theorem tbFlags_qualifyTb0 (s : State) : tbFlags (qualifyTb0 s) = (s.tb.offered, true, s.tb.keeper, true) :=
  (tbFlags_fold _ (tbFlags_switchTb 0) _ _).trans rfl

theorem tbFlags_allToKeeper (e : Bool) (s : State) : tbFlags (allToKeeper e s) = (s.tb.offered, false, s.tb.keeper, false) :=
  (tbFlags_fold _ (tbFlags_leaveTb0 e) _ _).trans rfl

/-- TB0 is offered, qualified and about to be returned to (R417). -/
theorem tbFlags_offerTb0 (s : State) : tbFlags (offerTb0 s) = (true, true, s.tb.keeper, true) := by
  unfold offerTb0
  have h := (tbFlags_runFrom 1 0 _).trans (tbFlags_runFrom 0 0 { s with tb := { s.tb with offered := true, goodAligns := 0 } })
  simp only [tbFlags, Prod.mk.injEq] at h
  rw [tbFlags_qualifyTb0, h.1, h.2.2.1]

/-- TB0 is no longer offered (R417). -/
theorem offered_loseTb0 (s : State) : (loseTb0 s).tb.offered = false := by
  unfold loseTb0; extract_lets x s1
  have h1 : s1.tb.offered = false := rfl
  clear_value s1
  have h2 : (tbFlags (if s1.tb.tb0 = true then allToKeeper false s1 else s1)).1 = false := by
    split
    · rw [tbFlags_allToKeeper]; exact h1
    · exact h1
  exact (congrArg Prod.fst (tbFlags_fold haltTb tbFlags_haltTb [0, 1] _)).trans h2

end Sys2Proof
end

