-- ==== Sys2Proof/Laws/Lanes.lean ====
section
/-!
SUPPORT. What the operations on the Ferry lanes can do: their frames (chapter 4).
-/

namespace Sys2Proof

set_option Elab.async false

open Sys2Proof.Machine

theorem keeps_modLane (f : Lane → Lane) (s : State) : keepsBut [.lane] s (modLane f s) := keeps_lane _ _

theorem keeps_ctlError (l : Nat) (s : State) : keepsBut [.lane] s (ctlError l s) := keeps_modLane _ _

theorem keeps_trainFail (c : Nat) (s : State) : keepsBut (.lane :: raiseBlks) s (trainFail c s) :=
  keeps_step (keeps_step (keeps_refl _ _) (keeps_modLane _ _)) (keeps_raiseSrc _ _ _)

theorem keeps_toDetect (s : State) : keepsBut (.lane :: raiseBlks) s (toDetect s) := by
  unfold toDetect
  exact keeps_step (keeps_step (keeps_step (keeps_refl _ _) (keeps_fy _ _)) (keeps_setCause _ _ _ _)) (keeps_modLane _ _)

theorem keeps_linkDown (s : State) : keepsBut linkBlks s (linkDown s) := by
  unfold linkDown; extract_lets ev s1 y x
  refine keeps_ite ?_ (keeps_refl _ _)
  have h1 : keepsBut linkBlks s s1 := keeps_step (keeps_refl _ _) (keeps_modLane _ _)
  clear_value s1
  refine keeps_step (keeps_step ?_ (keeps_loseTb0 _) (by simp)) (keeps_closeSess _ _)
  refine keeps_trans h1 ?_
  intro b hb; cases b <;> simp_all [sameBlk]

theorem keeps_send (o : Out) (s : State) : keepsBut [.out] s (send o s) := by
  intro b hb; cases b <;> simp_all [sameBlk, send]

theorem keeps_sendSlots (ty n : Nat) (slow : Bool) (j : Joint) (f : Nat → List Byte) (s : State) :
    keepsBut [.out, .phy] s (sendSlots ty n slow j f s) := by
  intro b hb; cases b <;> simp_all [sameBlk, sendSlots, send]

theorem keeps_sendPlain (ty n : Nat) (j : Joint) (s : State) : keepsBut [.out, .phy] s (sendPlain ty n j s) :=
  keeps_sendSlots _ _ _ _ _ _

theorem keeps_sendTs (ty n : Nat) (j : Joint) (s : State) : keepsBut [.out, .phy] s (sendTs ty n j s) :=
  keeps_sendSlots _ _ _ _ _ _

/-- What control slots leave, on the lanes and in their counters. -/
theorem keeps_takeSlots (slow : Bool) (l : List (List Byte)) (n : Nat) (s : State) :
    keepsBut [.lane, .phy] s (takeSlots slow l n s) := by
  have hf : ∀ (is : List Nat) (s : State), keepsBut [.lane, .phy] s (is.foldl (fun s i =>
      if (nth l i []).isEmpty then headError i s
      else if (nth s.phy.rx i {}).fresh || ctlGood (nth l i []) then s else ctlError i s) s) := by
    intro is
    induction is with
    | nil => exact fun s => keeps_refl _ _
    | cons i is ih =>
      intro s
      refine keeps_trans ?_ (ih _)
      exact keeps_ite (keeps_mono (keeps_modLane _ _) (by simp))
        (keeps_ite (keeps_refl _ _) (keeps_mono (keeps_ctlError _ _) (by simp)))
  unfold takeSlots hearSlots
  exact keeps_ite (keeps_step (hf _ _) (keeps_phy _ _)) (keeps_refl _ _)

theorem keeps_linkRegained (s : State) : keepsBut (.lane :: raiseBlks) s (linkRegained s) := by
  unfold linkRegained; extract_lets s1
  have h1 : keepsBut (.lane :: raiseBlks) s s1 :=
    keeps_ite (keeps_step (keeps_step (keeps_refl _ _) (keeps_modLane _ _)) (keeps_raiseSrc _ _ _)) (keeps_refl _ _)
  exact keeps_step h1 (keeps_setCause _ _ _ _)

theorem keeps_enterFl0 (d : Nat) (s : State) : keepsBut linkBlks s (enterFl0 d s) := by
  unfold enterFl0
  exact keeps_step (keeps_step (keeps_step (keeps_step (keeps_step (keeps_step (keeps_refl _ _) (keeps_modLane _ _))
    (keeps_sendPlain _ _ _ _)) (keeps_modLane _ _)) (keeps_phy _ _)) (keeps_offerTb0 _)) (keeps_linkRegained _)

theorem keeps_lockLoss (l : Nat) (s : State) : keepsBut linkBlks s (lockLoss l s) := by
  unfold lockLoss; extract_lets near s1 x s2 s3
  have h2 : keepsBut linkBlks s s2 := keeps_step (keeps_step (keeps_refl _ _) (keeps_modLane _ _)) (keeps_saf _ _)
  have h3 : keepsBut linkBlks s s3 := keeps_ite (keeps_step h2 (keeps_raiseSrc _ _ _)) h2
  exact keeps_ite (keeps_step h3 (keeps_linkDown _)) h3

theorem keeps_tryTs4 (s : State) : keepsBut [.lane, .out, .phy] s (tryTs4 s) := by
  unfold tryTs4; extract_lets s1
  exact keeps_ite (keeps_step (keeps_step (keeps_step (keeps_refl _ _) (keeps_modLane _ _)) (keeps_modLane _ _)) (keeps_sendTs _ _ _ _))
    (keeps_refl _ _)

theorem keeps_enterFl2 (s : State) : keepsBut (.pw :: linkBlks) s (enterFl2 s) :=
  keeps_step (keeps_step (keeps_step (keeps_refl _ _) (keeps_pw _ _)) (keeps_modLane _ _)) (keeps_loseTb0 _)

end Sys2Proof
end

