-- ==== Sys2Proof/Laws/Memory.lean ====
section
/-!
SUPPORT. Laws of the association lists and of surface memory: a read after a write, and the canonical form kept by every
operation that changes the memory.
-/

namespace Sys2Proof

set_option Elab.async false

open Sys2Proof.Machine

theorem afind_aput {β : Type} (l : List (Nat × β)) (k : Nat) (v : β) (j : Nat) :
    afind (aput l k v) j = if j = k then some v else afind l j := by
  fun_induction aput l k v <;> grind [afind]

theorem afind_aset_ne {β : Type} [DecidableEq β] (l : List (Nat × β)) (k : Nat) (v d : β) (j : Nat) (h : j ≠ k) :
    afind (aset l k v d) j = afind l j := by
  fun_induction aset l k v d <;> grind [afind]

/-- The entry of a memory cell is one the canonical form lists. -/
def Memory.cell (undef : List (Nat × Nat × Nat)) (c : Host.Cell) : Bool := (undefTag undef c.1).isSome || decide (c.2 ≠ 0)

/-- The canonical form: a good entry, below every later one, before a list in that form. -/
theorem Memory.wf_cons (u : List (Nat × Nat × Nat)) (c : Host.Cell) (l : List Host.Cell) :
    Memory.wf u (c :: l) = true ↔ Memory.cell u c = true ∧ (∀ x ∈ l, c.1 < x.1) ∧ Memory.wf u l = true := by
  induction l generalizing c <;> grind [Memory.wf, Memory.cell]

/-- What a put list holds. -/
theorem mem_aput {β : Type} {l : List (Nat × β)} {k : Nat} {v : β} {x : Nat × β} : x ∈ aput l k v → x = (k, v) ∨ x ∈ l := by
  fun_induction aput l k v <;> grind

/-- What a set list holds. -/
theorem mem_aset {β : Type} [DecidableEq β] {l : List (Nat × β)} {k : Nat} {v d : β} {x : Nat × β} :
    x ∈ aset l k v d → (x = (k, v) ∧ v ≠ d) ∨ x ∈ l := by
  fun_induction aset l k v d <;> grind

theorem Memory.wf_aput (u : List (Nat × Nat × Nat)) (l : List Host.Cell) (a : Nat) (v : Byte)
    (hc : Memory.cell u (a, v) = true) : Memory.wf u l = true → Memory.wf u (aput l a v) = true := by
  fun_induction aput l a v <;> grind [Memory.wf_cons, Memory.wf, → mem_aput]

theorem Memory.wf_aset (u : List (Nat × Nat × Nat)) (l : List Host.Cell) (a : Nat) (v : Byte) :
    Memory.wf u l = true → Memory.wf u (aset l a v 0) = true := by
  have hc : v ≠ 0 → Memory.cell u (a, v) = true := fun e => Bool.or_eq_true_iff.2 (.inr (decide_eq_true e))
  fun_induction aset l a v 0 <;> grind [Memory.wf_cons, Memory.wf, → mem_aset]

/-- A write of one byte keeps the canonical form. -/
theorem wf_memPut (u : List (Nat × Nat × Nat)) (l : List Host.Cell) (a : Nat) (v : Byte) (h : Memory.wf u l = true) :
    Memory.wf u (memPut u l a v) = true := by
  unfold memPut
  split
  · exact Memory.wf_aput u l a v (by simp [Memory.cell, ‹(undefTag u a).isSome = true›]) h
  · exact Memory.wf_aset u l a v h

/-- A write of bytes keeps the canonical form. -/
theorem wf_memWrite (u : List (Nat × Nat × Nat)) (l : List Host.Cell) (a : Nat) (vs : List Byte) (h : Memory.wf u l = true) :
    Memory.wf u (memWrite u l a vs) = true := by
  induction vs generalizing l a with
  | nil => exact h
  | cons v vs ih => exact ih _ _ (wf_memPut u l a v h)

/-- Cells kept by a test stay in canonical form under undefined areas that cover no less of them. -/
theorem wf_filter (u u' : List (Nat × Nat × Nat)) (l : List Host.Cell) (p : Host.Cell → Bool) :
    (∀ c ∈ l, p c = true → Memory.cell u c = true → Memory.cell u' c = true) → Memory.wf u l = true →
    Memory.wf u' (l.filter p) = true := by
  induction l <;> grind [Memory.wf_cons, Memory.wf]

/-- The area of a configured slot becomes undefined and its cells leave the list; the canonical form stays (R177). -/
theorem wf_configure (u : List (Nat × Nat × Nat)) (l : List Host.Cell) (a b f : Nat) (h : Memory.wf u l = true) :
    Memory.wf ((a, b, f) :: u.filter (fun x => !(decide (a ≤ x.1) && decide (x.2.1 ≤ b)))) (memDrop l a b) = true := by
  refine wf_filter _ _ _ _ ?_ h
  intro c _ hp hc
  have hout : c.1 < a ∨ b ≤ c.1 := by simpa using hp
  unfold Memory.cell at *
  rcases Bool.or_eq_true_iff.1 hc with hs | hz
  · refine Bool.or_eq_true_iff.2 (.inl ?_)
    simp only [undefTag, Option.isSome_map, List.find?_isSome] at hs ⊢
    obtain ⟨x, hx, hin⟩ := hs
    simp only [Bool.and_eq_true, decide_eq_true_eq] at hin
    refine ⟨x, List.mem_cons_of_mem _ (List.mem_filter.2 ⟨hx, ?_⟩), by simpa using hin⟩
    simp only [Bool.not_eq_true', Bool.and_eq_false_iff, decide_eq_false_iff_not]
    omega
  · exact Bool.or_eq_true_iff.2 (.inr hz)

/-- A key below every entry is in no entry. -/
theorem afind_none_of_lt {l : List Host.Cell} {k : Nat} : (∀ x ∈ l, k < x.1) → afind l k = none := by
  induction l <;> grind [afind]

/-- A memory byte that a write set, as the list shows it. -/
theorem afind_aset_self (u : List (Nat × Nat × Nat)) (l : List Host.Cell) (a : Nat) (v : Byte) :
    Memory.wf u l = true → afind (aset l a v 0) a = if v = 0 then none else some v := by
  fun_induction aset l a v 0 <;> grind [afind, Memory.wf_cons, afind_none_of_lt]

/-- A read after a write of the same byte. -/
theorem memGet_memPut_self (u : List (Nat × Nat × Nat)) (l : List Host.Cell) (a : Nat) (v : Byte) (h : Memory.wf u l = true) :
    memGet (memPut u l a v) u a = v := by
  by_cases hu : (undefTag u a).isSome = true
  · rw [memPut, if_pos hu, memGet, afind_aput, if_pos rfl]
  · have hn : undefTag u a = none := by simpa using hu
    rw [memPut, if_neg hu, memGet, afind_aset_self u l a v h]
    by_cases e : v = 0
    · rw [if_pos e]; show memDflt u a = v; rw [memDflt, hn]; exact e.symm
    · rw [if_neg e]

/-- A write leaves every other byte as it was. -/
theorem memGet_memPut_ne (u : List (Nat × Nat × Nat)) (l : List Host.Cell) (a b : Nat) (v : Byte) (h : b ≠ a) :
    memGet (memPut u l a v) u b = memGet l u b := by
  by_cases hu : (undefTag u a).isSome = true
  · rw [memPut, if_pos hu, memGet, memGet, afind_aput, if_neg h]
  · rw [memPut, if_neg hu, memGet, memGet, afind_aset_ne l a v 0 b h]

/-- A write of bytes leaves every byte outside it as it was. -/
theorem memGet_memWrite_out (u : List (Nat × Nat × Nat)) (l : List Host.Cell) (a b : Nat) (vs : List Byte)
    (h : b < a ∨ a + vs.length ≤ b) : memGet (memWrite u l a vs) u b = memGet l u b := by
  induction vs generalizing l a with
  | nil => rfl
  | cons v vs ih =>
    have hl : (v :: vs).length = vs.length + 1 := rfl
    rw [memWrite, ih _ _ (by omega), memGet_memPut_ne _ _ _ _ _ (by omega)]

end Sys2Proof
end

