-- ==== Sys2Proof/WellFormed.lean ====
section
/-!
DEFINITION. Which commands are well formed: the operands a bus, a pin or a core can bring (Tables 5.1, 18.2 and 18.4, and
the widths of the objects).
-/

namespace Sys2Proof

/-- A CAN base frame: 11 identifier bits, and a data length that its format has (R474). -/
def CanFrame.wf (f : CanFrame) : Bool :=
  decide (f.id < 2048) &&
  (if f.fd then decide (f.data.length ≤ 8) || [12, 16, 20, 24, 32, 48, 64].contains f.data.length else decide (f.data.length ≤ 8))

/-- A Ferry packet: a payload of whole units, at most 1,023 of them (Table 5.1). -/
def Packet.wf (k : Packet) : Bool := k.payload.length % 16 == 0 && decide (k.payload.length ≤ 16368)

/-- A launch of the schedule: at most 8 subframes, 4 off-windows and 2 probe slots (R71, R77, R81). -/
def GateKind.wf : GateKind → Bool
  | .boundary => true
  | .subframe i => decide (i < 8)
  | .offStart w => decide (w < 4)
  | .offEnd w => decide (w < 4)
  | .probeStart q => decide (q < 2)
  | .probeEnd q => decide (q < 2)

/-- A wake event (R435). -/
def Wake.wf : Wake → Bool
  | .can f => f.wf
  | .pin _ => true
  | .len => true
  | .fi0 => true

/-- The blocks of a slot: 16 bytes on each of at most 4 lanes (R108, R111). -/
def blksOk (blks : List (List Byte)) : Bool := blks.all (fun b => b.length == 16) && decide (blks.length ≤ 4)

/-- What adaptation found on each lane: CTLE code, three DFE taps, eye height (R106). -/
def adaptOk (ctle : List Nat) (dfe : List (List Int)) (eye : List Nat) : Bool :=
  ctle.length == 4 && dfe.length == 4 && dfe.all (fun l => l.length == 3) && eye.length == 4

/-- A command whose operands its sender can bring. -/
def Instr.wf (i : Instr) : Bool :=
  match i with
  | .signalDetect _ => true
  | .blockLock _ _ => true
  | .blockLockLoss _ _ _ => true
  | .ts1 _ blks skew _ => blksOk blks && skew.length == 4
  | .ts2 _ blks _ => blksOk blks
  | .ts3 _ blks => blksOk blks
  | .ts4 _ blks _ => blksOk blks
  | .adaptationComplete _ ctle dfe eye skew => adaptOk ctle dfe eye && skew.length == 4
  | .trainingTimeout _ => true
  | .electricalIdleEnd _ => true
  | .syncSlots _ blks _ => blksOk blks
  | .fl0Entry _ _ => true
  | .align _ blks skew _ => blksOk blks && skew.length == 4
  | .ei1 _ blks _ => blksOk blks
  | .ei2 _ blks _ => blksOk blks
  | .linkDown _ => true
  | .noSignalTimeout _ => true
  | .fastRetrainComplete _ _ => true
  | .fastRetrainFailed _ => true
  | .packetHeader _ k badBlock bad => k.wf && (!(badBlock || k.errored) || !bad.isEmpty)
  | .huntConfirm _ _ => true
  | .surf _ k _ => k.wf
  | .probePacket _ k _ => k.wf
  | .frameWrite _ k => k.wf
  | .frameCommit _ k => k.wf
  | .frameWriteCommit _ k => k.wf
  | .frameDiscard _ k => k.wf
  | .dictRequest _ k => k.wf
  | .timePacket _ k => k.wf
  | .enum _ k => k.wf
  | .echo _ k => k.wf
  | .statusReq _ k => k.wf
  | .ownPacketInsert _ units => decide (1 ≤ units) && decide (units ≤ 1024)
  | .statusPeriod _ => true
  | .slotConfigure _ _ _ => true
  | .slotReady _ _ v => decide (v < 2 ^ 24)
  | .slotRelease _ _ v => decide (v < 2 ^ 24)
  | .slotCheckEnd _ _ _ => true
  | .scrub _ word errors => decide (word < 3145728) && decide (errors ≤ 2)
  | .cacheSizeWrite _ _ v => decide (v < 2 ^ 8)
  | .paletteWrite _ _ _ _ => true
  | .modeCommit _ _ v => decide (v < 2 ^ 8)
  | .retimingEnd _ => true
  | .gateWindowOpen _ k _ _ => k.wf
  | .gateWindowClose _ => true
  | .frameLaunch _ => true
  | .gateLaunch _ => true
  | .rampTail _ => true
  | .offwinStart _ _ => true
  | .offwinEnd _ _ => true
  | .probeSlotStart _ _ => true
  | .probeSlotEnd _ _ => true
  | .probePause _ _ => true
  | .calibrationClaim _ => true
  | .compositionStart _ => true
  | .composeRow _ _ _ bankErr => bankErr.all (fun a => decide (a < 262144))
  | .protectedLayerWrite _ _ _ => true
  | .maskSet _ k => k.wf
  | .maskRenew _ k => k.wf
  | .maskExpiry _ => true
  | .quayRowCorrect _ _ => true
  | .rowUnderrun _ _ x => decide (x < 2048)
  | .rowSend _ _ => true
  | .senseWindowDone _ px py _ _ _ _ _ => decide (px < 2048) && decide (py < 1024)
  | .forcedPulse _ _ => true
  | .stuckScreen _ _ _ _ => true
  | .sweepEnd _ => true
  | .diagTableClear _ _ v => decide (v < 2 ^ 8)
  | .gainUpdate _ _ _ => true
  | .refCurrent _ _ _ => true
  | .senseCalibration _ _ _ _ _ => true
  | .storeCheck _ => true
  | .rextMonitor _ _ => true
  | .calibrationNoGap _ _ => true
  | .lightDark _ offsets => offsets.length == 8
  | .tempMap _ => true
  | .controlSample _ _ cur => cur.length == 4
  | .levelStep _ => true
  | .phaseSwitch _ _ _ => true
  | .freeRunning _ => true
  | .freeRunSwitch _ _ => true
  | .vledOvervoltage _ _ => true
  | .overvoltageRestart _ _ => true
  | .vledUndervoltage _ _ => true
  | .senseFault _ _ => true
  | .senseRetry _ _ => true
  | .phaseImbalance _ _ => true
  | .repClear _ _ v => decide (v < 2 ^ 8)
  | .thermalSample _ _ _ _ => true
  | .thermalLevelChange _ => true
  | .throttleStepDown _ => true
  | .throttleStepUp _ => true
  | .coldStartEnd _ _ => true
  | .managementRestart _ => true
  | .colourLoop _ _ _ => true
  | .fluxFault _ => true
  | .colourFault _ => true
  | .programWrite _ _ _ _ => true
  | .arm _ _ _ => true
  | .stop _ _ _ => true
  | .trigger _ _ _ => true
  | .triggerSet _ _ v => decide (v < 2 ^ 8)
  | .timeTrigger _ _ => true
  | .peLoad _ _ addr _ _ _ => decide (addr < 2 ^ 32)
  | .canSync _ f => f.wf
  | .canFollow _ f => f.wf
  | .domainLoss _ _ => true
  | .domainReturn _ => true
  | .timeStepWrite _ _ v => decide (v < 2 ^ 8)
  | .tpModeWrite _ _ _ v => decide (v < 2 ^ 8)
  | .tpPulseStart _ _ => true
  | .tpPulseEnd _ _ => true
  | .tcCapture _ _ _ _ => true
  | .tcAck _ _ _ v => decide (v < 2 ^ 16)
  | .blankingTimeout _ => true
  | .limpLoadDone _ => true
  | .tollgateClear _ _ v => decide (v < 2 ^ 8)
  | .clearAll _ _ v => decide (v < 2 ^ 8)
  | .resetArm _ _ => true
  | .resetConfirm _ _ => true
  | .sresetRise _ => true
  | .sresetRequest _ => true
  | .sresetJam _ => true
  | .sresetArm _ => true
  | .lenChange _ _ _ => true
  | .discrepancyTimeout _ => true
  | .discFbChange _ _ => true
  | .discFbTimeout _ => true
  | .helmWatchdog _ => true
  | .linkLossTimeout _ => true
  | .selfFault _ => true
  | .classWrite _ _ _ => true
  | .limpPatternWrite _ _ _ _ => true
  | .functionMapWrite _ _ _ => true
  | .factoryUnlock _ _ v => decide (v < 2 ^ 8)
  | .factoryExit _ _ => true
  | .factoryInject _ _ v => decide (v < 2 ^ 16)
  | .factoryInjectClear _ _ v => decide (v < 2 ^ 8)
  | .powerUp _ _ _ _ _ => true
  | .rstnLow _ => true
  | .vaonLoss _ => true
  | .bootStart _ => true
  | .imageVerifyDone _ _ ver _ chk => decide (ver < 2 ^ 32) && chk.districts.all (fun d => decide (d < 128))
  | .commandStandby _ _ => true
  | .commandQuiet _ _ => true
  | .commandReady _ _ _ => true
  | .commandLit _ _ _ => true
  | .prepareAnswer _ _ => true
  | .prepareRetry _ => true
  | .ei2WaitTimeout _ => true
  | .domainBoundMiss _ _ => true
  | .wakeEvent _ w _ => w.wf
  | .exitComplete _ => true
  | .vccRecovered _ => true
  | .vccLow _ => true
  | .vccMonitorClear _ => true
  | .railTrip _ _ => true
  | .railRecover _ _ => true
  | .keeperStarted _ => true
  | .keeperPeriodFault _ => true
  | .keeperTimeout _ => true
  | .monitorWindow _ _ _ => true
  | .forcedSwitch _ _ _ => true
  | .timebaseStopped _ _ => true
  | .tapResetExit _ _ => true
  | .claim _ _ _ => true
  | .complete _ _ _ => true
  | .moderationHoldoff _ _ _ => true
  | .timerFire _ _ _ => true
  | .tnowRead _ => true
  | .mailboxTimeout _ => true
  | .logAppend _ _ ctx => decide (ctx.length ≤ 80)
  | .logWrite _ => true
  | .pinClear _ _ v => decide (v < 2 ^ 8)
  | .purserWatchdogService _ => true
  | .purserWatchdogExpiry _ => true
  | .customerTrap _ addr => decide (addr < 2 ^ 32)
  | .coreAccessFault _ _ _ addr _ => decide (addr < 2 ^ 32)
  | .version _ => true
  | .attach _ _ addr => decide (addr < 2 ^ 32)
  | .yield _ => true
  | .objectDone _ tag _ data => decide (tag < 65536) && decide (data.length ≤ 1024)
  | .save _ _ => true
  | .srSnap _ => true
  | .crcStart _ _ ctrl poly init xorout => decide (ctrl < 2 ^ 32) && decide (poly < 2 ^ 32) && decide (init < 2 ^ 32) && decide (xorout < 2 ^ 32)
  | .crcFinish _ _ => true
  | .crcPreset _ _ n => decide (n < 16)
  | .crcData _ _ _ _ => true
  | .rinfoRead _ _ => true
  | .mramProgramDone _ _ => true
  | .pstoreCommit _ _ v => decide (v < 2 ^ 8)
  | .pstoreVerifyDone _ => true
  | .openFw _ _ => true
  | .openCustomer _ _ => true
  | .verify _ _ => true
  | .activate _ _ => true
  | .abortUpdate _ _ => true
  | .reboot _ _ => true
  | .updateImageWrite _ _ _ => true
  | .keyWrite _ _ _ _ => true
  | .stateCommand _ f _ => f.wf
  | .read _ _ _ msg => decide (msg.length ≤ 16360)
  | .write _ _ _ msg => decide (msg.length ≤ 16360)
  | .downInit _ _ _ msg => decide (msg.length ≤ 16360)
  | .segment _ _ _ msg => decide (msg.length ≤ 16360)
  | .abortTransfer _ _ _ msg => decide (msg.length ≤ 16360)
  | .bulkAck _ _ _ msg => decide (msg.length ≤ 16360)
  | .bulkSegment _ f => f.wf
  | .bulkAckTimeout _ => true
  | .transferTimeout _ _ => true
  | .identifyRange _ f => f.wf
  | .assign _ f => f.wf
  | .query _ f => f.wf
  | .nodeCollision _ => true
  | .collisionClear _ => true
  | .busOff _ => true
  | .busOffRecovery _ => true
  | .canJoin _ => true
  | .heartbeatMessage _ => true
  | .eventModeration _ _ code => decide (code < 288)
  | .summary _ _ => true
  | .commSave _ _ v => decide (v < 2 ^ 8)
  | .commRestore _ _ v => decide (v < 2 ^ 8)
  | .commSnapshot _ _ v => decide (v < 2 ^ 8)
  | .measurementRead _ _ idx => decide (idx < 65536)
  | .sessionChallenge _ _ => true
  | .sessionResponse _ _ _ => true
  | .sessionClose _ _ v => decide (v < 2 ^ 8)
  | .sessionKey _ _ _ => true
  | .sessionTimeout _ _ => true
  | .lockoutEnd _ _ => true
  | .objectWrite _ _ idx sub _ => decide (idx < 65536) && decide (sub < 256)
  | .canStartOfFrame _ _ _ => true
  | .ferryRx _ ctle dfe eye _ => adaptOk ctle dfe eye
  | .holdLineReadback _ _ _ => true
  | .watchdogWarning _ _ => true
  | .tmrCtrlWrite _ _ _ _ sec ns period => decide (ns < 1000000000) && decide (sec < 2 ^ 48) && decide (period < 2 ^ 32)

end Sys2Proof
end

