-- ==== Sys2Proof/Tests/Slice0.lean ====
section
/-!
SUPPORT. The model's own tests: ill-formed operands refused, values of the spec's worked examples, and for every hypothesis
of a statement a state and operands that meet it.
-/

open Sys2Proof Sys2Proof.Machine

namespace Sys2Proof.Tests

set_option linter.unusedVariables false
set_option Elab.async false

/-- A frame and a packet as they may be sent, and ones that may not (R474, Table 5.1). -/
def okFrame : CanFrame := ⟨1, false, []⟩
def badFrame : CanFrame := ⟨2048, false, []⟩
def okPkt : Packet := { hdr := 0, payload := [], trailer := 0, errored := false }
def badPkt : Packet := { hdr := 0, payload := [0], trailer := 0, errored := false }

theorem test_ill_formed_refused_1 : (([.ts1 0 [[0]] (List.replicate 4 0) 0,
    .ts1 0 (List.replicate 4 (List.replicate 16 0)) [] 0,
    .ts2 0 [[0]] 0,
    .ts3 0 [[0]],
    .ts4 0 [[0]] 0,
    .adaptationComplete 0 [] [[0, 0, 0], [0, 0, 0], [0, 0, 0], [0, 0, 0]] [0, 0, 0, 0] (List.replicate 4 0),
    .adaptationComplete 0 [0, 0, 0, 0] [[0, 0, 0], [0, 0, 0], [0, 0, 0], [0, 0, 0]] [0, 0, 0, 0] [],
    .syncSlots 0 [[0]] 0,
    .align 0 [[0]] (List.replicate 4 0) 0,
    .align 0 (List.replicate 4 (List.replicate 16 0)) [] 0,
    .ei1 0 [[0]] 0,
    .ei2 0 [[0]] 0,
    .packetHeader 0 badPkt false [],
    .packetHeader 0 okPkt true [],
    .surf 0 badPkt [],
    .probePacket 0 badPkt [],
    .frameWrite 0 badPkt,
    .frameCommit 0 badPkt,
    .frameWriteCommit 0 badPkt,
    .frameDiscard 0 badPkt] : List Instr).all (fun i => !i.wf)) = true := by decide +kernel

theorem test_ill_formed_refused_2 : (([.dictRequest 0 badPkt,
    .timePacket 0 badPkt,
    .enum 0 badPkt,
    .echo 0 badPkt,
    .statusReq 0 badPkt,
    .ownPacketInsert 0 0,
    .ownPacketInsert 0 (1024 + 1),
    .slotReady 0 .can (2 ^ 24),
    .slotRelease 0 .can (2 ^ 24),
    .scrub 0 3145728 0,
    .scrub 0 0 (2 + 1),
    .cacheSizeWrite 0 .can (2 ^ 8),
    .modeCommit 0 .can (2 ^ 8),
    .gateWindowOpen 0 (.subframe 8) 0 [],
    .composeRow 0 false [] [262144],
    .maskSet 0 badPkt,
    .maskRenew 0 badPkt,
    .rowUnderrun 0 false 2048,
    .senseWindowDone 0 2048 0 .liveHi false 0 0 0,
    .senseWindowDone 0 0 1024 .liveHi false 0 0 0] : List Instr).all (fun i => !i.wf)) = true := by decide +kernel

theorem test_ill_formed_refused_3 : (([.diagTableClear 0 .can (2 ^ 8),
    .lightDark 0 [],
    .controlSample 0 0 [],
    .repClear 0 .can (2 ^ 8),
    .triggerSet 0 none (2 ^ 8),
    .peLoad 0 0 (2 ^ 32) 0 false [],
    .canSync 0 badFrame,
    .canFollow 0 badFrame,
    .timeStepWrite 0 .can (2 ^ 8),
    .tpModeWrite 0 .can 0 (2 ^ 8),
    .tcAck 0 .can 0 (2 ^ 16),
    .tollgateClear 0 .can (2 ^ 8),
    .clearAll 0 .can (2 ^ 8),
    .factoryUnlock 0 .can (2 ^ 8),
    .factoryInject 0 .can (2 ^ 16),
    .factoryInjectClear 0 .can (2 ^ 8),
    .imageVerifyDone 0 false (2 ^ 32) false ({ psOk := true, districts := [] }),
    .imageVerifyDone 0 false 0 false ({ psOk := true, districts := [128] }),
    .wakeEvent 0 (.can badFrame) false,
    .logAppend 0 0 (List.replicate (80 + 1) 0)] : List Instr).all (fun i => !i.wf)) = true := by decide +kernel

theorem test_ill_formed_refused_4 : (([.pinClear 0 .can (2 ^ 8),
    .customerTrap 0 (2 ^ 32),
    .coreAccessFault 0 .helm .sram (2 ^ 32) false,
    .attach 0 0 (2 ^ 32),
    .objectDone 0 65536 0 [],
    .objectDone 0 0 0 (List.replicate (1024 + 1) 0),
    .crcStart 0 0 (2 ^ 32) 0 0 0,
    .crcStart 0 0 0 (2 ^ 32) 0 0,
    .crcStart 0 0 0 0 (2 ^ 32) 0,
    .crcStart 0 0 0 0 0 (2 ^ 32),
    .crcPreset 0 0 16,
    .pstoreCommit 0 .can (2 ^ 8),
    .stateCommand 0 badFrame false,
    .read 0 .can false (List.replicate (16360 + 1) 0),
    .write 0 .can false (List.replicate (16360 + 1) 0),
    .downInit 0 .can false (List.replicate (16360 + 1) 0),
    .segment 0 .can false (List.replicate (16360 + 1) 0),
    .abortTransfer 0 .can false (List.replicate (16360 + 1) 0),
    .bulkAck 0 .can false (List.replicate (16360 + 1) 0),
    .bulkSegment 0 badFrame] : List Instr).all (fun i => !i.wf)) = true := by decide +kernel

theorem test_ill_formed_refused_5 : (([.identifyRange 0 badFrame,
    .assign 0 badFrame,
    .query 0 badFrame,
    .eventModeration 0 .can 288,
    .commSave 0 .can (2 ^ 8),
    .commRestore 0 .can (2 ^ 8),
    .commSnapshot 0 .can (2 ^ 8),
    .measurementRead 0 .can 65536,
    .sessionClose 0 .can (2 ^ 8),
    .objectWrite 0 .can 65536 0 [],
    .objectWrite 0 .can 0 256 [],
    .ferryRx 0 [] [[0, 0, 0], [0, 0, 0], [0, 0, 0], [0, 0, 0]] [0, 0, 0, 0] 0,
    .tmrCtrlWrite 0 .helm 0 0 0 1000000000 0,
    .tmrCtrlWrite 0 .helm 0 0 (2 ^ 48) 0 0,
    .tmrCtrlWrite 0 .helm 0 0 0 0 (2 ^ 32)] : List Instr).all (fun i => !i.wf)) = true := by decide +kernel

theorem test_frame_lengths : ((⟨1, true, List.replicate 9 0⟩ : CanFrame).wf || (⟨1, false, List.replicate 9 0⟩ : CanFrame).wf) = false := by decide +kernel

theorem test_packet_length : ({ hdr := 0, payload := List.replicate 16384 0, trailer := 0, errored := false } : Packet).wf = false := by decide +kernel

theorem test_gate_kinds : ([.offStart 4, .offEnd 4, .probeStart 2, .probeEnd 2] : List GateKind).all (fun k => !k.wf) = true := by decide +kernel

theorem test_well_formed : (([.surf 0 okPkt [], .canSync 0 okFrame, .gateWindowOpen 0 (.subframe 7) 0 []] : List Instr).all Instr.wf) = true := by decide +kernel

/-- R133: the check value of the packet trailer. -/
theorem test_crc_ieee : crcOf crcIeee [0x31, 0x32, 0x33, 0x34, 0x35, 0x36, 0x37, 0x38, 0x39] = 0xCBF43926 := by decide +kernel

/-- Table 9.1: the mid code, the open donor and the low code of the worked example of R238. -/
theorem test_correct_mid : correct 30000 1112 31130 0 = ⟨0x2F1C, false⟩ := by decide +kernel
theorem test_correct_donor : correct 30000 1112 31130 30000 = ⟨0x32E3, false⟩ := by decide +kernel
theorem test_correct_low : correct 3000 1112 31130 0 = ⟨0x182D, false⟩ := by decide +kernel

/-- R195: the three samples of its worked example. -/
theorem test_sneed : (sNeed 2048 2048, sNeed 2048 8192, sNeed 2000 8192) = (1029, 4099, 4003) := by decide +kernel

/-- R197: alpha and the two blends of its worked example. -/
theorem test_blend : (div255 (200 * 128), div255 (40000 * 100 + 10000 * 155), div255 (20000 * 128) + div255 (10000 * 155)) =
    (100, 21765, 16117) := by decide +kernel

/-- R222: the triangle of its worked example at pixel (106, 55), dilated by 0 and by 1. -/
theorem test_triangle : (shapeCovers [(1600, 800), (1920, 800), (1920, 1120), (1600, 800)] 0 106 55,
    shapeCovers [(1600, 800), (1920, 800), (1920, 1120), (1600, 800)] 1 106 55) = (true, true) := by decide +kernel

/-- R48: the segments of DUTY 1000. -/
theorem test_spread : (segSteps 1 1000 7, segSteps 1 1000 8) = (63, 62) := by decide +kernel

/-- No row of the table has bits: no word spells a command, and the queue stays as it is. -/
theorem test_no_word : decodeTableWord 16 0x1234 = none ∧ State.reset.withFetchWord 16 0x1234 = State.reset := ⟨rfl, rfl⟩

/-- The reset memory is in canonical form. -/
theorem test_reset_memory : memOk State.reset := by decide +kernel

/-- A training block of type `ty` with lanes, rate, flags and generation, its check correct (Table 4.6, R112). -/
def blkTs (ty lanes rate flags gen : Nat) : List Byte :=
  let b := leBytes 1 ty ++ [0] ++ leBytes 1 lanes ++ leBytes 1 rate ++ leBytes 1 flags ++ [0, 0, 0, 0] ++ leBytes 1 gen ++
    [0, 0, 0, 0]
  b ++ leBytes 2 (crcOf crcHdr b)

/-- A control block of type `ty` on a lane that only announces, its check correct (Table 4.6, R112). -/
def blkPlain (ty lane : Nat) : List Byte :=
  let b := leBytes 1 ty ++ leBytes 1 lane ++ List.replicate 12 0
  b ++ leBytes 2 (crcOf crcHdr b)

/-- A sum of n equal terms, from any start. -/
theorem sum_upTo (n k : Nat) (f : Nat → Nat) (h : ∀ x, f x = k) (a : Nat) : (upTo n).foldl (fun b x => b + f x) a = a + k * n := by
  simp only [upTo, h]
  induction n <;> grind [List.range_succ]

/-- A limp pattern of one rectangle that is dark (Table 15.4). -/
def darkLimp : List Byte := [1, 1] ++ List.replicate 26 0

theorem light_darkLimp : limpLight darkLimp = 0 := by
  have hw : ∀ x y, limpWord darkLimp x y = 0 := by
    intro x y
    have hr : limpRect darkLimp 0 = (0, 0, 0, 0, 0) := by decide +kernel
    have hc : limpCount darkLimp = 1 := by decide +kernel
    simp [limpWord, hc, upTo, hr, List.range_succ]
  have h0 : ∀ y, sumRow (fun x => wLight (limpWord darkLimp x y)) = 0 := by
    exact fun y => sum_upTo 2048 0 _ (fun x => by rw [hw]; decide) 0
  exact sum_upTo 1024 0 _ h0 0

/-- A function map that gives every pixel to function 0 (R65). -/
def flatMap : List Byte := List.replicate 1048576 0

theorem nib_flat (x y : Nat) : mapNib flatMap x y = 0 := by
  have : nth flatMap ((2048 * y + x) / 2) 0 = 0 := by
    unfold nth flatMap
    cases h : (List.replicate 1048576 (0 : Byte))[(2048 * y + x) / 2]? with
    | none => rfl
    | some v => exact List.eq_of_mem_replicate (List.mem_of_getElem? h)
  have h2 : (nth flatMap ((2048 * y + x) / 2) 0).toNat = 0 := by rw [this]; rfl
  unfold mapNib; rw [h2]; split <;> rfl

theorem coded_flat : mapCoded flatMap = 196608 := by
  have he : flatMap.isEmpty = false := by
    cases h : flatMap with
    | nil =>
      have hl : flatMap.length = 1048576 := List.length_replicate
      rw [h] at hl; exact absurd hl (by decide)
    | cons a l => rfl
  have h : ∀ i : Nat, 4 + tileCoded ((upTo 64).map (fun k => mapNib flatMap (8 * (i % 256) + k % 8) (8 * (i / 256) + k / 8))) = 6 := by
    intro i
    have e : (fun k => mapNib flatMap (8 * (i % 256) + k % 8) (8 * (i / 256) + k / 8)) = fun _ => 0 := by
      funext k; exact nib_flat _ _
    rw [e]; decide +kernel
  unfold mapCoded
  rw [he, if_neg (by decide)]
  exact (congrArg (fun g => List.foldl g 0 (upTo 32768)) (funext fun a => funext fun i => Nat.add_assoc _ _ _)).trans
    (sum_upTo 32768 6 _ h 0)

/-- A write of the map of one function passes the checks before its handler. -/
theorem takes_flat (s : State) (p : Path) (h1 : servedAt s p 0x2020 1 = true) (h2 : (wrCheck s p 0x2020 1).isNone = true) :
    takes s p 0x2020 1 flatMap = true := by
  have ho : objFind 0x2020 1 = some ⟨0x2020, 0x2020, 1, .domain 1048576 1048576, .rws, [], 0, false⟩ := by decide +kernel
  have hl : flatMap.length = 1048576 := List.length_replicate
  simp [takes, h1, h2, ho, lenOk, valueOk, hl]

theorem protCoded_flat (c : Prot) :
    protCoded { c with map := flatMap } = 24 + 196608 + c.layer.length + (c.limp.map List.length).foldl (· + ·) 0 := by
  unfold protCoded; simp only [coded_flat]

/-- A public key of a signer of customer images. -/
def keyImg : List Byte :=
  beBytes 32 0x81478b6195d5d3cc6a9ad6b9cd86d121e7cab0c23c4da45c97008fca465d15df ++
  beBytes 32 0x731b880f111d0517f5c3238e5824618ba11170845ffc9650dc3888520e5de3dc

/-- A public key of a signer of the protected store. -/
def keyMan : List Byte :=
  beBytes 32 0xc7865ef0343c008705687dca2d6c6d4cca724582e9fc6fa04cf5a7ceb28f8850 ++
  beBytes 32 0xe767de2d9956aece49778a5ea9d736a9294d8cf1c22a24fb794fdd355416f6ab

/-- A customer image of one byte with a good signature (Table 17.11). -/
def goodImage : List Byte :=
  leBytes 4 0x49424E31 ++ [1, 0] ++ leBytes 2 128 ++ [0, 0, 0, 0] ++ leBytes 4 1 ++ [0, 0, 0, 0, 3] ++ List.replicate 11 0 ++
  sha256 [2] ++ beBytes 32 0x6594a2e874a4a98762af76369ab281f0de71a8679e461b3d743a7e91f820cdef ++
  beBytes 32 0x6594a2e874a4a98762af76369ab281f0de71a8679e461b3d743a7e91f820cdef ++ [2]

/-- The signature over the manifest of a copy whose layer is the byte 3 and that holds nothing else (R465). -/
def goodSig : List Byte :=
  beBytes 32 0x8de2253a80ddd37dd6c8962195c50cc587be08bea08813554df87d473b93c7cb ++
  beBytes 32 0x8de2253a80ddd37dd6c8962195c50cc587be08bea08813554df87d473b93c7cb

/-- A message padded as a CAN FD frame carries it (R483). -/
def reqMsg (cmd tag idx sub flags : Nat) (data : List Byte) : List Byte :=
  padTo (fdLen (8 + data.length)) (msgOf cmd tag idx sub flags data)

/-- A packet with a right header and trailer (Table 5.1, R132, R133). -/
def pkt (ty addr seq : Nat) (retry : Bool) (payload : List Byte) : Packet :=
  let h := mkHdr ty addr (payload.length / 16) seq false retry
  { hdr := BitVec.ofNat 64 h, payload := payload, trailer := BitVec.ofNat 32 (crcOf crcIeee (leBytes 8 h ++ payload)), errored := false }

/-- A descriptor with a sequence number, no layer and no check value (Table 3.3). -/
def rawDesc (seq : Nat) : List Byte := leBytes 4 seq ++ List.replicate 14 0 ++ [8, 0] ++ List.replicate 20 0

/-- A launch snapshot of a kind, with a plane (R24). -/
def snapOf (k : GateKind) (p : GatePlane) : Snap :=
  { kind := k, at_ := 9, new := true, k := 200, shed := 0, plane := p, mode := {}, safety := .normal, flags := 0, launchError := 0
    fPrime := 8192, items := [], claim := false, limp := false, back := false, ret := false, modeTook := false, fset := [], pol := []
    states := [], budget := 0, predicted := 0, average := 0, peak := 0, floor := 0, kFit := 256, e := 0, durLim := false, absent := []
    map := [], mapTook := false, prot := [], p := 2000, pops := true, loaded := false }

/-- A program of one step with a trigger (Tables 13.2 and 13.3). -/
def progOf (trig : Nat) : List Byte :=
  let b := [1, 1, 1, 0, 1, 0, 0, 0] ++ List.replicate 8 0 ++ leBytes 1 trig ++ List.replicate 11 0
  let st := [1, 0, 1, 0, 5, 0, 0, 0, 0, 0, 0, 0, 0, 255, 0, 0]
  b ++ leBytes 4 (crcOf crcIeee (b ++ st)) ++ st

theorem leNat_replicate (n : Nat) : leNat (List.replicate n 0) = 0 := by
  induction n with
  | zero => rfl
  | succ n ih => rw [List.replicate_succ, leNat, ih]; decide

theorem small_zeros : ∀ i < 16384, leField (List.replicate 32772 0) (4 + 2 * i) 2 ≤ 1023 := by
  intro i _
  simp only [leField, List.drop_replicate, List.take_replicate, leNat_replicate]
  omega

/-- Under a probe plane that selects pixel 0 alone, no window could serve another (R264). -/
theorem firstLive_zero (s : State) (h : s.arr.gate = .probe [1]) : firstLive s 0 = true := by
  unfold firstLive
  rw [List.all_eq_true]
  intro i _
  simp only [Bool.not_eq_true', Bool.and_eq_false_iff]
  by_cases hm : distKey (keyD 0) i = 0
  · left; rw [hm]; simp [servedBefore]
  · right
    have hg : gateBit s.arr.gate (keyX (distKey (keyD 0) i)) (keyY (distKey (keyD 0) i)) = false := by
      have hx : ∀ m : Nat, m ≠ 0 → gateBit (.probe [1]) (keyX m) (keyY m) = false := by
        intro m hm
        unfold gateBit keyX keyY bitOf
        rcases Nat.eq_zero_or_pos (m / 2048) with h0 | h0
        · rw [h0]
          have : m % 2048 ≠ 0 := by omega
          obtain ⟨k, hk⟩ := Nat.exists_eq_succ_of_ne_zero this
          rw [hk]; simp [nth, Nat.div_eq_of_lt (Nat.one_lt_two_pow (Nat.succ_ne_zero k))]
        · obtain ⟨k, hk⟩ := Nat.exists_eq_succ_of_ne_zero (Nat.ne_of_gt h0)
          rw [hk]; simp [nth]
      rw [h]; exact hx _ hm
    simp [liveOk, emitsHi, hg]

/-- What is added at some of the steps of a sum is at most all of it. -/
theorem some_steps (l : List Nat) (c : Nat → Nat → Bool) (f : Nat → Nat) (a : Nat) :
    l.foldl (fun v i => if c v i then v + f i else v) a ≤ a + (l.map f).sum := by
  induction l generalizing a <;> grind

/-- The limit of R274 lies below 2^32 + 1 nA over its offset. -/
theorem stuck_lt (s : State) (n d v : Nat) (h : 4294967297 + s.objN 0x2800 7 < v) : stuckLim s n d < v := by
  have hf : ∀ td, leakFloor n td ≤ 4294967295 := by
    intro td
    unfold leakFloor
    have := some_steps (upTo 32) (fun v i => decide ((v + 2 ^ (31 - i)) ^ 160 * 2 ^ (2320 - td).toNat ≤ n ^ 160 * 2 ^ (td - 2320).toNat))
      (fun i => 2 ^ (31 - i)) 0
    simp only [decide_eq_true_eq] at this
    exact Nat.le_trans this (by decide)
  unfold stuckLim leakage
  have := hf (tdNow s d)
  simp only
  split
  · omega
  · split <;> omega

/-- Nothing of a higher rank takes a converter before the first pixel is due (R263). -/
theorem converter_free (s : State) (d : Nat) (h1 : s.diag.due = []) (h2 : s.now < s.diag.readyAt + 2000000)
    (h3 : s.diag.pulsed = []) (h4 : sumDark s = false) : converterBusy s d = false := by
  have h : ∀ k, liveOk s k = false := by
    intro k
    have : dueAt s k = s.diag.readyAt := by simp [dueAt, h1, afind]
    unfold liveOk; rw [this, decide_eq_false (by omega)]; rfl
  have h5 : (upTo 16384).any (fun i => liveOk s (distKey d i)) = false := by
    rw [List.any_eq_false]; intro i _; rw [h]; decide
  unfold converterBusy
  rw [h3, h4, h5]; simp

theorem wit_TrainingFollows_1 : ∃  (s : State),
    s.pw.dev ≠ .off ∧ rxOn s = true ∧ s.lane.st = .detect ∧ s.lane.idleFrom = none :=
  ⟨{ pw := { dev := .ready, doms := [2, 2, 2, 2, 2, 2] } }, by decide +kernel⟩

theorem wit_TrainingFollows_2 : ∃  (s : State),
    s.pw.dev ≠ .off ∧ mayRetrain s = true :=
  ⟨{ pw := { dev := .ready, doms := [2, 2, 2, 2, 2, 2] }, lane := { st := .down, adapted := true } }, by decide +kernel⟩

theorem wit_TrainingFollows_3 : ∃  (s : State),
    s.pw.dev ≠ .off ∧ mayRetrain s = false ∧ (s.lane.st ≠ .detect ∨ rxOn s = false ∨ s.lane.idleFrom.isSome = true) :=
  ⟨{ pw := { dev := .ready, doms := [2, 2, 2, 2, 2, 2] }, lane := { st := .fl0 } }, by decide +kernel⟩

theorem wit_TrainingFollows_4 : ∃ (lane : Fin 4) (s : State),
    s.pw.dev ≠ .off ∧ rxOn s = true ∧ lane.val < rxLanes s ∧ s.lane.st ≠ .retrain :=
  ⟨0, { pw := { dev := .ready, doms := [2, 2, 2, 2, 2, 2] }, lane := { st := .slow, step := 1 } }, by decide +kernel⟩

theorem wit_TrainingFollows_5 : ∃  (s : State),
    s.pw.dev ≠ .off ∧ rxOn s = true ∧ s.lane.st = .retrain ∧ 0 < s.lane.lanes ∧ s.lane.txMode = .idle :=
  ⟨{ pw := { dev := .ready, doms := [2, 2, 2, 2, 2, 2] }, lane := { st := .retrain, step := 6, lanes := 1 } }, by decide +kernel⟩

theorem wit_TrainingFollows_6 : ∃ (lane : Fin 4) (s : State),
    s.pw.dev ≠ .off ∧ rxOn s = true ∧ rxLanes s ≤ lane.val :=
  ⟨3, { pw := { dev := .ready, doms := [2, 2, 2, 2, 2, 2] }, lane := { st := .fl0, lanes := 2 } }, by decide +kernel⟩

theorem wit_TrainingFollows_7 : ∃ (n : Nat) (blks : List (List Byte)) (skew : List Nat) (s : State),
    s.pw.dev ≠ .off ∧ rxOn s = true ∧ s.lane.st = .slow ∧ 2 ≤ s.lane.step ∧ s.lane.step ≤ 4 ∧
    ctlOk 0x10 (slotBlk blks s) = true ∧
    trainRefusal s (leField (slotBlk blks s) 2 1) (leField (slotBlk blks s) 3 1) = 0 ∧
    step2Cause s (leField (slotBlk blks s) 2 1) blks skew = 0 ∧ slotOk 0x10 (leField (slotBlk blks s) 2 1) blks = true ∧
    0 < readSlots blks n s ∧
    16 ≤ (if s.lane.tsPar = some (leField (slotBlk blks s) 2 1, leField (slotBlk blks s) 3 1, leField (slotBlk blks s) 9 1) then s.lane.ts1Run else 0) + readSlots blks n s ∧
    (s.lane.step ≠ 4 ∨ s.lane.tsPar ≠ some (leField (slotBlk blks s) 2 1, leField (slotBlk blks s) 3 1, leField (slotBlk blks s) 9 1)) :=
  ⟨16, [blkTs 0x10 1 0 0 7], [0], { pw := { dev := .ready, doms := [2, 2, 2, 2, 2, 2] }, lane := { st := .slow, step := 2, lock := [true, false, false, false] } }, by decide +kernel⟩

theorem wit_TrainingFollows_8 : ∃ (n : Nat) (blks : List (List Byte)) (skew : List Nat) (s : State),
    s.pw.dev ≠ .off ∧ rxOn s = true ∧ s.lane.st = .slow ∧ 2 ≤ s.lane.step ∧ s.lane.step ≤ 4 ∧
    ctlOk 0x10 (slotBlk blks s) = true ∧
    trainRefusal s (leField (slotBlk blks s) 2 1) (leField (slotBlk blks s) 3 1) = 0 ∧
    step2Cause s (leField (slotBlk blks s) 2 1) blks skew = 0 ∧ slotOk 0x10 (leField (slotBlk blks s) 2 1) blks = true ∧
    s.lane.tsPar = some (leField (slotBlk blks s) 2 1, leField (slotBlk blks s) 3 1, leField (slotBlk blks s) 9 1) ∧
    0 < readSlots blks n s ∧ s.lane.ts1Run + readSlots blks n s < 16 :=
  ⟨3, [blkTs 0x10 1 0 0 7], [0], { pw := { dev := .ready, doms := [2, 2, 2, 2, 2, 2] }, lane := { st := .slow, step := 2, ts1Run := 2, tsPar := some (1, 0, 7), lock := [true, false, false, false] } }, by decide +kernel⟩

theorem wit_TrainingFollows_9 : ∃ (n : Nat) (blks : List (List Byte)) (s : State),
    s.pw.dev ≠ .off ∧ rxOn s = true ∧ s.lane.st = .slow ∧ 2 ≤ s.lane.step ∧ s.lane.step ≤ 4 ∧ 0 < readSlots blks n s ∧
    ctlOk 0x10 (slotBlk blks s) = true ∧
    trainRefusal s (leField (slotBlk blks s) 2 1) (leField (slotBlk blks s) 3 1) ≠ 0 :=
  ⟨16, [blkTs 0x10 8 0 0 7], { pw := { dev := .ready, doms := [2, 2, 2, 2, 2, 2] }, lane := { st := .slow, step := 2, lock := [true, false, false, false] } }, by decide +kernel⟩

theorem wit_TrainingFollows_10 : ∃ (n : Nat) (blks : List (List Byte)) (s : State),
    s.pw.dev ≠ .off ∧ rxOn s = true ∧ s.lane.st = .slow ∧ 2 ≤ s.lane.step ∧ s.lane.step ≤ 4 ∧ 0 < readSlots blks n s ∧
    ctlOk 0x10 (slotBlk blks s) = false :=
  ⟨16, [(blkTs 0x10 1 0 0 7).modify 3 (fun _ => 9)], { pw := { dev := .ready, doms := [2, 2, 2, 2, 2, 2] }, lane := { st := .slow, step := 2, ts1Run := 9 } }, by decide +kernel⟩

theorem wit_TrainingFollows_11 : ∃ (n : Nat) (blks : List (List Byte)) (s : State),
    s.pw.dev ≠ .off ∧ rxOn s = true ∧ s.lane.st = .slow ∧ s.lane.step = 4 ∧ ctlOk 0x11 (slotBlk blks s) = true ∧
    s.lane.refusedGen = none ∧ 0 < readSlots blks n s ∧ 8 ≤ s.lane.ts2Run + readSlots blks n s :=
  ⟨8, [blkTs 0x11 1 0 0 7], { pw := { dev := .ready, doms := [2, 2, 2, 2, 2, 2] }, lane := { st := .slow, step := 4 } }, by decide +kernel⟩

theorem wit_TrainingFollows_12 : ∃ (n : Nat) (blks : List (List Byte)) (s : State),
    s.pw.dev ≠ .off ∧ rxOn s = true ∧ s.lane.st = .slow ∧ s.lane.step = 4 ∧ ctlOk 0x11 (slotBlk blks s) = true ∧
    s.lane.refusedGen = none ∧ 0 < readSlots blks n s ∧ s.lane.ts2Run + readSlots blks n s < 8 :=
  ⟨3, [blkTs 0x11 1 0 0 7], { pw := { dev := .ready, doms := [2, 2, 2, 2, 2, 2] }, lane := { st := .slow, step := 4 } }, by decide +kernel⟩

theorem wit_TrainingFollows_13 : ∃ (blks : List (List Byte)) (s : State),
    s.pw.dev ≠ .off ∧ rxOn s = true ∧ s.lane.st = .slow ∧ s.lane.step = 4 ∧ s.lane.refusedGen.isSome = true ∧
    ctlOk 0x11 (slotBlk blks s) = true :=
  ⟨[blkTs 0x11 1 0 0 7], { pw := { dev := .ready, doms := [2, 2, 2, 2, 2, 2] }, lane := { st := .slow, step := 4, refusedGen := some 7 } }, by decide +kernel⟩

theorem wit_TrainingFollows_14 : ∃ (n : Nat) (blks : List (List Byte)) (s : State),
    s.pw.dev ≠ .off ∧ rxOn s = true ∧ (s.lane.st = .atRate ∨ s.lane.st = .retrain) ∧
    ctlOk 0x13 (slotBlk blks s) = true ∧ 0 < readSlots blks n s :=
  ⟨8, [blkTs 0x13 1 0 0 7], { pw := { dev := .ready, doms := [2, 2, 2, 2, 2, 2] }, lane := { st := .retrain, step := 7, rxReady := true } }, by decide +kernel⟩

theorem wit_TrainingFollows_15 : ∃ (skew : List Nat) (s : State),
    s.pw.dev ≠ .off ∧ rxOn s = true ∧ (s.lane.st = .atRate ∨ s.lane.st = .retrain) ∧ s.lane.step = 6 ∧
    (∀ k ∈ skew.take s.lane.lanes, k ≤ 64000) :=
  ⟨[64000], { pw := { dev := .ready, doms := [2, 2, 2, 2, 2, 2] }, lane := { st := .atRate, step := 6, lanes := 1 } }, by decide +kernel⟩

theorem wit_TrainingFollows_16 : ∃ (skew : List Nat) (s : State),
    s.pw.dev ≠ .off ∧ (∃ k ∈ skew.take s.lane.lanes, 64000 < k) :=
  ⟨[64001], { pw := { dev := .ready, doms := [2, 2, 2, 2, 2, 2] }, lane := { st := .atRate, step := 6, lanes := 1 } }, by decide +kernel⟩

theorem wit_TrainingFails_1 : ∃ (t : Nat) (code : Nat) (s : State),
    s.pw.dev ≠ .off ∧ spanOver (s.advance t) s.lane.stepAt (stepBound s.lane.step * 1000000000) = true ∧
    ((s.lane.st = .slow ∧ s.lane.step = 1 ∧ code = 1) ∨ (s.lane.st = .slow ∧ s.lane.step = 2 ∧
    code = s.lane.cause2) ∨ (s.lane.st = .slow ∧ s.lane.step = 4 ∧ code = 7) ∨ (s.lane.st = .atRate ∧ s.lane.step = 6 ∧
    code = 8) ∨ (s.lane.st = .atRate ∧ s.lane.step = 7 ∧ code = 9)) :=
  ⟨5000000000, 8, { pw := { dev := .ready, doms := [2, 2, 2, 2, 2, 2] }, lane := { st := .atRate, step := 6, lanes := 1 } }, by decide +kernel⟩

theorem wit_TrainingFails_2 : ∃ (t : Nat) (s : State),
    s.pw.dev ≠ .off ∧ spanOver (s.advance t) s.lane.stepAt (stepBound s.lane.step * 1000000000) = false :=
  ⟨5, { pw := { dev := .ready, doms := [2, 2, 2, 2, 2, 2] }, lane := { st := .atRate, step := 6, lanes := 1 } }, by decide +kernel⟩

theorem wit_TrainingFails_3 : ∃ (t : Nat) (s : State),
    s.pw.dev ≠ .off ∧ s.lane.st = .retrain ∧ spanOver (s.advance t) s.lane.stepAt 1000000000 = true ∧
    s.lane.retrainFails = 2 :=
  ⟨1000000000, { pw := { dev := .ready, doms := [2, 2, 2, 2, 2, 2] }, lane := { st := .retrain, step := 6, lanes := 1, retrainFails := 2 } }, by decide +kernel⟩

theorem wit_TrainingFails_4 : ∃ (t : Nat) (s : State),
    s.pw.dev ≠ .off ∧ s.lane.st = .retrain ∧ spanOver (s.advance t) s.lane.stepAt 1000000000 = true ∧
    s.lane.retrainFails ≠ 2 :=
  ⟨1000000000, { pw := { dev := .ready, doms := [2, 2, 2, 2, 2, 2] }, lane := { st := .retrain, step := 6, lanes := 1 } }, by decide +kernel⟩

theorem wit_TrainingFails_5 : ∃ (t : Nat) (s : State),
    s.pw.dev ≠ .off ∧ s.lane.idleFrom.any (fun a => spanOver (s.advance t) a 2000000000) = true :=
  ⟨2000000002, { pw := { dev := .ready, doms := [2, 2, 2, 2, 2, 2] }, lane := { st := .down, idleFrom := some 2 }, fy := { address := 4 } }, by decide +kernel⟩

theorem wit_TrainingFails_6 : ∃ (t : Nat) (s : State),
    s.pw.dev ≠ .off ∧ s.lane.idleFrom.any (fun a => spanOver (s.advance t) a 2000000000) = false :=
  ⟨5, { pw := { dev := .ready, doms := [2, 2, 2, 2, 2, 2] }, lane := { st := .down, idleFrom := some 2 } }, by decide +kernel⟩

theorem wit_TrainingFails_7 : ∃  (s : State),
    s.pw.dev ≠ .off ∧ rxOn s = true ∧ s.lane.idleFrom = none ∧ s.lane.st ≠ .detect ∧ s.lane.st ≠ .fl2 :=
  ⟨{ pw := { dev := .ready, doms := [2, 2, 2, 2, 2, 2] }, lane := { st := .fl0 }, fy := { address := 4 } }, by decide +kernel⟩

theorem wit_TrainingFails_8 : ∃  (s : State),
    s.pw.dev ≠ .off ∧ (rxOn s = false ∨ s.lane.idleFrom.isSome = true ∨ s.lane.st = .detect ∨ s.lane.st = .fl2) :=
  ⟨{ pw := { dev := .ready, doms := [2, 2, 2, 2, 2, 2] }, lane := { st := .fl2 }, fy := { address := 4 } }, by decide +kernel⟩

theorem wit_LinkComesAndGoes_1 : ∃  (s : State),
    s.pw.dev ≠ .off ∧ s.lane.st = .atRate ∧ s.lane.step = 8 ∧ 2 ≤ s.lane.syncSlots :=
  ⟨{ pw := { dev := .ready, doms := [2, 2, 2, 2, 2, 2] }, lane := { st := .atRate, step := 8, lanes := 1, syncSlots := 2, downAt := some 3 } }, by decide +kernel⟩

theorem wit_LinkComesAndGoes_2 : ∃  (s : State),
    s.pw.dev ≠ .off ∧ s.lane.st = .retrain ∧ s.lane.step = 8 ∧ 2 ≤ s.lane.syncSlots :=
  ⟨{ pw := { dev := .ready, doms := [2, 2, 2, 2, 2, 2] }, lane := { st := .retrain, step := 8, lanes := 1, syncSlots := 2, downAt := some 3 } }, by decide +kernel⟩

theorem wit_LinkComesAndGoes_3 : ∃  (s : State),
    s.pw.dev ≠ .off ∧ (s.lane.syncSlots < 2 ∨ s.lane.step ≠ 8) :=
  ⟨{ pw := { dev := .ready, doms := [2, 2, 2, 2, 2, 2] }, lane := { st := .atRate, step := 8, lanes := 1, syncSlots := 1 } }, by decide +kernel⟩

theorem wit_LinkComesAndGoes_4 : ∃  (s : State),
    s.pw.dev ≠ .off ∧ (s.lane.syncSlots < 2 ∨ s.lane.step ≠ 8) :=
  ⟨{ pw := { dev := .ready, doms := [2, 2, 2, 2, 2, 2] }, lane := { st := .retrain, step := 8, lanes := 1, syncSlots := 1 } }, by decide +kernel⟩

theorem wit_LinkComesAndGoes_5 : ∃ (blks : List (List Byte)) (s : State),
    s.pw.dev ≠ .off ∧ s.lane.st = .fl1 ∧ plainOk 1 blks s = true ∧ slotBlk blks s ≠ [] ∧
    (s.lane.txMode = .idlePattern ∨ s.lane.txMode = .data ∧ s.lane.txOn = s.lane.lanes) :=
  ⟨[blkPlain 1 0], { pw := { dev := .ready, doms := [2, 2, 2, 2, 2, 2] }, lane := { st := .fl1, txMode := .idlePattern, lanes := 1 } }, by decide +kernel⟩

theorem wit_LinkComesAndGoes_6 : ∃ (blks : List (List Byte)) (s : State),
    s.pw.dev ≠ .off ∧ (s.lane.st = .atRate ∨ s.lane.st = .retrain) ∧ s.lane.step = 8 ∧ plainOk 1 blks s = true ∧
    slotBlk blks s ≠ [] :=
  ⟨[blkPlain 1 0], { pw := { dev := .ready, doms := [2, 2, 2, 2, 2, 2] }, lane := { st := .retrain, step := 8, lanes := 1 } }, by decide +kernel⟩

theorem wit_LinkComesAndGoes_7 : ∃ (blks : List (List Byte)) (s : State),
    s.pw.dev ≠ .off ∧ s.lane.st = .fl1 ∧ plainOk 1 blks s = false ∧ ctlOk 1 (nth blks 0 []) = true :=
  ⟨[blkPlain 1 0, [3]], { pw := { dev := .ready, doms := [2, 2, 2, 2, 2, 2] }, lane := { st := .fl1, lanes := 2 } }, by decide +kernel⟩

theorem wit_LinkComesAndGoes_8 : ∃ (blks : List (List Byte)) (s : State),
    s.pw.dev ≠ .off ∧ ctlOk 0x12 (slotBlk blks s) = true ∧ mayRetrain s = true ∧
    leField (slotBlk blks s) 3 1 = s.lane.rate ∧ readSlots blks 1 s = 1 :=
  ⟨[blkTs 0x12 1 1 0 7], { pw := { dev := .ready, doms := [2, 2, 2, 2, 2, 2] }, lane := { st := .fl2, adapted := true, rate := 1 } }, by decide +kernel⟩

theorem wit_LinkComesAndGoes_9 : ∃ (blks : List (List Byte)) (s : State),
    s.pw.dev ≠ .off ∧ ctlOk 0x12 (slotBlk blks s) = true ∧ rxOn s = true ∧ s.lane.st = .atRate ∧ readSlots blks 1 s = 1 :=
  ⟨[blkTs 0x12 1 1 1 7], { pw := { dev := .ready, doms := [2, 2, 2, 2, 2, 2] }, lane := { st := .atRate, step := 6, rate := 1 } }, by decide +kernel⟩

theorem wit_LinkComesAndGoes_10 : ∃  (s : State),
    s.pw.dev ≠ .off ∧ (s.lane.st = .fl0 ∧ s.lane.ei1Run = 0 ∧ s.lane.ei2Run = 0 ∨ s.lane.st = .fl1 ∧
    s.lane.exitFl1 = true) :=
  ⟨{ pw := { dev := .ready, doms := [2, 2, 2, 2, 2, 2] }, lane := { st := .fl0, lanes := 2 }, tb := { src := [0, 0, 0, 0, 0, 1, 0, 0, 0, 0, 0, 0, 0], offered := true } }, by decide +kernel⟩

theorem wit_LinkComesAndGoes_11 : ∃  (s : State),
    s.pw.dev ≠ .off ∧ (s.lane.st = .fl1 ∧ s.lane.exitFl1 = false ∨ s.lane.st = .fl0 ∧
    (s.lane.ei1Run ≠ 0 ∨ s.lane.ei2Run ≠ 0)) :=
  ⟨{ pw := { dev := .ready, doms := [2, 2, 2, 2, 2, 2] }, lane := { st := .fl1, lanes := 2 }, tb := { offered := true } }, by decide +kernel⟩

theorem wit_LinkComesAndGoes_12 : ∃  (s : State),
    s.pw.dev ≠ .off ∧ s.lane.st = .retrain :=
  ⟨{ pw := { dev := .ready, doms := [2, 2, 2, 2, 2, 2] }, lane := { st := .retrain, step := 7 } }, by decide +kernel⟩

theorem wit_LinkComesAndGoes_13 : ∃ (lane : Fin 4) (s : State),
    s.pw.dev ≠ .off ∧ rxOn s = true ∧ s.lane.lock[lane.val]? = some true ∧ s.lane.st = .fl0 ∧ lane.val < s.lane.lanes :=
  ⟨1, { pw := { dev := .ready, doms := [2, 2, 2, 2, 2, 2] }, lane := { st := .fl0, lanes := 2, lock := [true, true, false, false] } }, by decide +kernel⟩

theorem wit_LinkComesAndGoes_14 : ∃ (lane : Fin 4) (s : State),
    s.pw.dev ≠ .off ∧ rxLanes s ≤ lane.val :=
  ⟨3, { pw := { dev := .ready, doms := [2, 2, 2, 2, 2, 2] }, lane := { st := .fl0, lanes := 2, lock := [true, true, false, true] } }, by decide +kernel⟩

theorem wit_LinkComesAndGoes_15 : ∃ (n : Nat) (blks : List (List Byte)) (s : State),
    s.pw.dev ≠ .off ∧ s.lane.st = .fl0 ∧ plainOk 3 blks s = true ∧ slotBlk blks s ≠ [] ∧ 4 ≤ s.lane.ei1Run + n :=
  ⟨4, [blkPlain 3 0], { pw := { dev := .ready, doms := [2, 2, 2, 2, 2, 2] }, lane := { st := .fl0, lanes := 1 } }, by decide +kernel⟩

theorem wit_LinkComesAndGoes_16 : ∃ (n : Nat) (blks : List (List Byte)) (s : State),
    s.pw.dev ≠ .off ∧ s.lane.st = .fl0 ∧ plainOk 3 blks s = true ∧ slotBlk blks s ≠ [] ∧ s.lane.ei1Run + n < 4 :=
  ⟨2, [blkPlain 3 0], { pw := { dev := .ready, doms := [2, 2, 2, 2, 2, 2] }, lane := { st := .fl0, lanes := 1 } }, by decide +kernel⟩

theorem wit_TimeFromCan_1 : ∃ (f : CanFrame) (s : State),
    s.pw.dev ≠ .off ∧ canHears s f = true ∧ canNode f = 0 ∧ s.objB 0x2C00 4 = true ∧ canFunc f = 1 ∧ 2 ≤ f.data.length ∧
    canField f 0 1 = 1 ∧ (∀ b ∈ f.data.drop 2, b = 0) :=
  ⟨{ id := 0x80, fd := false, data := [1, 9] }, { pw := { dev := .ready, doms := [2, 2, 2, 2, 2, 2] }, tb := { src := [0, 0, 0, 0, 0, 1, 0, 0, 0, 0, 0, 0, 0], keeper := .unqualified }, can := { joined := true } }, by decide +kernel⟩

theorem wit_TimeFromCan_2 : ∃  (s : State),
    s.pw.dev ≠ .off ∧ s.objB 0x2C00 4 = false :=
  ⟨{ pw := { dev := .ready, doms := [2, 2, 2, 2, 2, 2] }, tb := { src := [0, 0, 0, 0, 0, 1, 0, 0, 0, 0, 0, 0, 0], keeper := .unqualified }, can := { joined := true }, objs := [(256 * 0x2C00 + 4, [0])] }, by decide +kernel⟩

theorem wit_TimeFromCan_3 : ∃ (t : Nat) (seq : Nat) (at_ : Nat) (cap : Int) (f : CanFrame) (s : State),
    s.pw.dev ≠ .off ∧ canHears s f = true ∧ canNode f = 0 ∧ s.objB 0x2C00 4 = true ∧ canFunc f = 1 ∧ f.fd = true ∧
    canField f 0 1 = 2 ∧ s.tim.canSync = some (seq, at_, cap) ∧ f.data.length = 24 ∧ canField f 14 2 = 0 ∧
    10 ≤ canField f 2 2 ∧ canField f 2 2 ≤ 10000 ∧ canField f 1 1 = seq ∧ (s.advance t).now ≤ at_ + 100000000000 ∧
    s.tim.doms.length = 2 ∧ s.clk.valid = false ∧ s.clk.step = none ∧ (domOf s 1).st = 0 :=
  ⟨5, 9, 5, 1000, { id := 0x80, fd := true, data := [2, 9, 100, 0, 1, 0, 0, 0, 7, 0, 0, 0, 0, 0, 0, 0, 1, 2, 3, 4, 5, 6, 7, 8] }, { pw := { dev := .ready, doms := [2, 2, 2, 2, 2, 2] }, tb := { src := [0, 0, 0, 0, 0, 1, 0, 0, 0, 0, 0, 0, 0], keeper := .unqualified }, can := { joined := true }, tim := { canSync := some (9, 5, 1000) } }, by decide +kernel⟩

theorem wit_TimeFromCan_4 : ∃ (t : Nat) (seq : Nat) (at_ : Nat) (cap : Int) (f : CanFrame) (s : State),
    s.pw.dev ≠ .off ∧ canHears s f = true ∧ canNode f = 0 ∧ s.objB 0x2C00 4 = true ∧ canFunc f = 1 ∧ f.fd = true ∧
    canField f 0 1 = 2 ∧ s.tim.canSync = some (seq, at_, cap) ∧ f.data.length = 24 ∧ canField f 14 2 = 0 ∧
    10 ≤ canField f 2 2 ∧ canField f 2 2 ≤ 10000 ∧ canField f 1 1 = seq ∧ (s.advance t).now ≤ at_ + 100000000000 ∧
    s.tim.doms.length = 2 ∧ s.clk.valid = true ∧ s.clk.step = none ∧ s.tim.selected = 2 ∧
    ((domOf s 1).st = 1 ∨ (domOf s 1).st = 2) ∧ (domOf s 1).master = canField f 16 8 ∧
    ((((cap - psU (((canField f 8 6 * 1000000000 + canField f 4 4 + s.objN 0x2C00 3) * 1000 : Nat) : Int)) - (domOf (foldPred (s.advance t)) 1).pred).natAbs : Nat) : Int) ≤ outlierLimit 1 :=
  ⟨5, 9, 5, 1000, { id := 0x80, fd := true, data := [2, 9, 100, 0, 1, 0, 0, 0, 7, 0, 0, 0, 0, 0, 0, 0, 1, 2, 3, 4, 5, 6, 7, 8] }, { pw := { dev := .ready, doms := [2, 2, 2, 2, 2, 2] }, tb := { src := [0, 0, 0, 0, 0, 1, 0, 0, 0, 0, 0, 0, 0], keeper := .unqualified }, can := { joined := true }, clk := { valid := true }, tim := { canSync := some (9, 5, 1000), selected := 2, doms := [{}, { st := 2, master := 0x0807060504030201, pred := 1000 - psU 7000000001000 }] } }, by decide +kernel⟩

theorem wit_TimeFromCan_5 : ∃ (f : CanFrame) (s : State),
    s.pw.dev ≠ .off ∧ canHears s f = true ∧ canNode f = 0 ∧ s.objB 0x2C00 4 = true ∧ canFunc f = 1 ∧ f.fd = true ∧
    canField f 0 1 = 2 ∧ s.tim.canSync = none :=
  ⟨{ id := 0x80, fd := true, data := [2, 9] }, { pw := { dev := .ready, doms := [2, 2, 2, 2, 2, 2] }, tb := { src := [0, 0, 0, 0, 0, 1, 0, 0, 0, 0, 0, 0, 0], keeper := .unqualified }, can := { joined := true } }, by decide +kernel⟩

theorem wit_TimeFromCan_6 : ∃ (t : Nat) (d : Dom) (s : State),
    s.pw.dev ≠ .off ∧ ((domOf s (if d = .a then 0 else 1)).st = 1 ∨ (domOf s (if d = .a then 0 else 1)).st = 2) ∧
    lossDue (s.advance t) (if d = .a then 0 else 1) = true :=
  ⟨5000000000000, .b, { pw := { dev := .ready, doms := [2, 2, 2, 2, 2, 2] }, tb := { src := [0, 0, 0, 0, 0, 1, 0, 0, 0, 0, 0, 0, 0], keeper := .unqualified }, can := { joined := true }, tim := { doms := [{}, { st := 2, interval := 1000 }], selected := 2 } }, by decide +kernel⟩

theorem wit_TimeFromCan_7 : ∃ (t : Nat) (d : Dom) (s : State),
    s.pw.dev ≠ .off ∧ lossDue (s.advance t) (if d = .a then 0 else 1) = false :=
  ⟨5, .b, { pw := { dev := .ready, doms := [2, 2, 2, 2, 2, 2] }, tb := { src := [0, 0, 0, 0, 0, 1, 0, 0, 0, 0, 0, 0, 0], keeper := .unqualified }, can := { joined := true }, tim := { doms := [{}, { st := 2, interval := 1000 }], selected := 2 } }, by decide +kernel⟩

theorem wit_TimeFromCan_8 : ∃ (t : Nat) (d : Int) (s : State),
    s.pw.dev ≠ .off ∧ clockOn s = true ∧ 0 < tb2Period s ∧ s.clk.phase < tb2Period s ∧
    t = s.now + (tb2Period s - s.clk.phase) ∧ s.clk.step = some d ∧ s.tim.selected = 0 :=
  ⟨2000, -21474836480, { pw := { dev := .ready, doms := [2, 2, 2, 2, 2, 2] }, tb := { src := [0, 0, 0, 0, 0, 1, 0, 0, 0, 0, 0, 0, 0], keeper := .unqualified }, can := { joined := true }, clk := { sec := 7, step := some (-21474836480) } }, by decide +kernel⟩

theorem wit_TimeFromCan_9 : ∃ (t : Nat) (s : State),
    s.pw.dev ≠ .off ∧ s.objN 0x2C00 1 < 2 ∧ s.tim.selected ≠ 0 ∧ s.tim.selected ≠ s.objN 0x2C00 1 + 1 ∧
    (domOf s (s.objN 0x2C00 1)).st = 2 ∧
    (domOf s (s.objN 0x2C00 1)).lockedSince.any (fun a => decide (a + 10000000000000 ≤ (s.advance t).now)) = true :=
  ⟨10000000000005, { pw := { dev := .ready, doms := [2, 2, 2, 2, 2, 2] }, tb := { src := [0, 0, 0, 0, 0, 1, 0, 0, 0, 0, 0, 0, 0], keeper := .unqualified }, can := { joined := true }, tim := { doms := [{ st := 2, lockedSince := some 5 }, { st := 2 }], selected := 2 }, objs := [(256 * 0x2C00 + 1, [0])] }, by decide +kernel⟩

theorem wit_TimeFromCan_10 : ∃ (t : Nat) (s : State),
    s.pw.dev ≠ .off ∧
    (domOf s (s.objN 0x2C00 1)).lockedSince.any (fun a => decide (a + 10000000000000 ≤ (s.advance t).now)) = false :=
  ⟨7, { pw := { dev := .ready, doms := [2, 2, 2, 2, 2, 2] }, tb := { src := [0, 0, 0, 0, 0, 1, 0, 0, 0, 0, 0, 0, 0], keeper := .unqualified }, can := { joined := true }, tim := { doms := [{ st := 2, lockedSince := some 5 }, { st := 2 }], selected := 2 }, objs := [(256 * 0x2C00 + 1, [0])] }, by decide +kernel⟩

theorem wit_TimeFromCan_11 : ∃ (v : Nat) (p : Path) (s : State),
    s.pw.dev ≠ .off ∧ takes s p 0x2C00 5 (leBytes 1 v) = true :=
  ⟨1, .can, { pw := { dev := .ready, doms := [2, 2, 2, 2, 2, 2] }, tb := { src := [0, 0, 0, 0, 0, 1, 0, 0, 0, 0, 0, 0, 0], keeper := .unqualified }, can := { joined := true } }, by decide +kernel⟩

theorem wit_PulsesAndCaptures_1 : ∃ (t : Nat) (n : Fin 4) (s : State),
    s.pw.dev ≠ .off ∧ n.val < s.tim.tp.length ∧ tpDue (s.advance t) (nth s.tim.tp n.val {}) = true ∧
    (nth s.tim.tp n.val {}).active = false :=
  ⟨0, 2, { pw := { dev := .ready, doms := [2, 2, 2, 2, 2, 2] }, tb := { src := [0, 0, 0, 0, 0, 1, 0, 0, 0, 0, 0, 0, 0], keeper := .unqualified }, can := { joined := true }, tim := { tp := [{}, {}, { mode := 3 }, {}] } }, by decide +kernel⟩

theorem wit_PulsesAndCaptures_2 : ∃ (t : Nat) (n : Fin 4) (s : State),
    s.pw.dev ≠ .off ∧ (tpDue (s.advance t) (nth s.tim.tp n.val {}) = false ∨ (nth s.tim.tp n.val {}).active = true) :=
  ⟨5, 2, { pw := { dev := .ready, doms := [2, 2, 2, 2, 2, 2] }, tb := { src := [0, 0, 0, 0, 0, 1, 0, 0, 0, 0, 0, 0, 0], keeper := .unqualified }, can := { joined := true } }, by decide +kernel⟩

theorem wit_PulsesAndCaptures_3 : ∃ (t : Nat) (n : Fin 4) (s : State),
    s.pw.dev ≠ .off ∧ n.val < s.tim.tp.length ∧ (nth s.tim.tp n.val {}).active = true ∧
    tpOver (s.advance t) (nth s.tim.tp n.val {}) = true :=
  ⟨5, 2, { pw := { dev := .ready, doms := [2, 2, 2, 2, 2, 2] }, tb := { src := [0, 0, 0, 0, 0, 1, 0, 0, 0, 0, 0, 0, 0], keeper := .unqualified }, can := { joined := true }, tim := { tp := [{}, {}, { mode := 1, active := true, width := 0 }, {}] } }, by decide +kernel⟩

theorem wit_PulsesAndCaptures_4 : ∃ (t : Nat) (n : Fin 4) (s : State),
    s.pw.dev ≠ .off ∧ ((nth s.tim.tp n.val {}).active = false ∨ tpOver (s.advance t) (nth s.tim.tp n.val {}) = false) :=
  ⟨5, 2, { pw := { dev := .ready, doms := [2, 2, 2, 2, 2, 2] }, tb := { src := [0, 0, 0, 0, 0, 1, 0, 0, 0, 0, 0, 0, 0], keeper := .unqualified }, can := { joined := true } }, by decide +kernel⟩

theorem wit_PulsesAndCaptures_5 : ∃ (v : Nat) (p : Path) (n : Fin 4) (s : State),
    s.pw.dev ≠ .off ∧ takes s p (0x2C10 + n.val) 1 (leBytes 1 v) = true ∧ n.val < s.tim.tp.length ∧ v < 256 ∧
    s.objN (0x2C10 + n.val) 3 % 2 = 0 ∧ 1000 ≤ s.objN (0x2C10 + n.val) 3 ∧ s.objN (0x2C10 + n.val) 3 ≤ 1000000000000 ∧
    s.objN (0x2C10 + n.val) 4 % 2 = 0 ∧ (v = 2 → s.objN (0x2C10 + n.val) 4 < s.objN (0x2C10 + n.val) 3) ∧ (v = 3 →
    s.objN (0x2C10 + n.val) 6 ≤ 1) ∧ (v = 4 → s.objN (0x2C10 + n.val) 6 ≤ 5) :=
  ⟨3, .can, 1, { pw := { dev := .ready, doms := [2, 2, 2, 2, 2, 2] }, tb := { src := [0, 0, 0, 0, 0, 1, 0, 0, 0, 0, 0, 0, 0], keeper := .unqualified }, can := { joined := true } }, by decide +kernel⟩

theorem wit_PulsesAndCaptures_6 : ∃ (v : Nat) (p : Path) (n : Fin 4) (s : State),
    s.pw.dev ≠ .off ∧ takes s p (0x2C10 + n.val) 1 (leBytes 1 v) = true ∧
    (s.objN (0x2C10 + n.val) 3 % 2 = 1 ∨ s.objN (0x2C10 + n.val) 3 < 1000 ∨ 1000000000000 < s.objN (0x2C10 + n.val) 3 ∨ s.objN (0x2C10 + n.val) 4 % 2 = 1) :=
  ⟨2, .can, 1, { pw := { dev := .ready, doms := [2, 2, 2, 2, 2, 2] }, tb := { src := [0, 0, 0, 0, 0, 1, 0, 0, 0, 0, 0, 0, 0], keeper := .unqualified }, can := { joined := true }, objs := [(256 * 0x2C11 + 3, [231, 3, 0, 0, 0, 0])] }, by decide +kernel⟩

theorem wit_PulsesAndCaptures_7 : ∃ (t : Nat) (width : Nat) (n : Fin 2) (falling : Bool) (s : State),
    s.pw.dev ≠ .off ∧ clockOn s = true ∧
    (s.objN (0x2C20 + n.val) 1 = 3 ∨ s.objN (0x2C20 + n.val) 1 = (if falling = true then 2 else 1)) ∧ 20 ≤ width ∧
    n.val < s.tim.tc.length ∧
    (nth s.tim.tc n.val {}).lastAt.all (fun a => decide (a + 40000 ≤ (s.advance t).now)) = true ∧
    (nth s.tim.tc n.val {}).fifo.length < 16 :=
  ⟨5, 20, 1, true, { pw := { dev := .ready, doms := [2, 2, 2, 2, 2, 2] }, tb := { src := [0, 0, 0, 0, 0, 1, 0, 0, 0, 0, 0, 0, 0], keeper := .unqualified }, can := { joined := true }, objs := [(256 * 0x2C21 + 1, [3])] }, by decide +kernel⟩

theorem wit_PulsesAndCaptures_8 : ∃ (t : Nat) (width : Nat) (n : Fin 2) (falling : Bool) (s : State),
    s.pw.dev ≠ .off ∧ clockOn s = true ∧
    (s.objN (0x2C20 + n.val) 1 = 3 ∨ s.objN (0x2C20 + n.val) 1 = (if falling = true then 2 else 1)) ∧ 20 ≤ width ∧
    n.val < s.tim.tc.length ∧
    (nth s.tim.tc n.val {}).lastAt.all (fun a => decide (a + 40000 ≤ (s.advance t).now)) = true ∧
    16 ≤ (nth s.tim.tc n.val {}).fifo.length :=
  ⟨5, 20, 1, true, { pw := { dev := .ready, doms := [2, 2, 2, 2, 2, 2] }, tb := { src := [0, 0, 0, 0, 0, 1, 0, 0, 0, 0, 0, 0, 0], keeper := .unqualified }, can := { joined := true }, objs := [(256 * 0x2C21 + 1, [3])], tim := { tc := [{}, { fifo := List.replicate 16 ⟨0, 0, 0, 7, 0, 0⟩ }] } }, by decide +kernel⟩

theorem wit_PulsesAndCaptures_9 : ∃ (width : Nat) (s : State),
    s.pw.dev ≠ .off ∧ width < 20 :=
  ⟨19, { pw := { dev := .ready, doms := [2, 2, 2, 2, 2, 2] }, tb := { src := [0, 0, 0, 0, 0, 1, 0, 0, 0, 0, 0, 0, 0], keeper := .unqualified }, can := { joined := true }, objs := [(256 * 0x2C21 + 1, [3])] }, by decide +kernel⟩

theorem wit_PulsesAndCaptures_10 : ∃ (v : Nat) (p : Path) (n : Fin 2) (e : TcEntry) (rest : List TcEntry) (s : State),
    s.pw.dev ≠ .off ∧ takes s p (0x2C20 + n.val) 4 (leBytes 2 v) = true ∧ v < 65536 ∧
    (nth s.tim.tc n.val {}).fifo = e :: rest ∧ v = e.seq :=
  ⟨7, .ferry, 1, ⟨0, 0, 0, 7, 0, 0⟩, [], { pw := { dev := .ready, doms := [2, 2, 2, 2, 2, 2] }, tb := { src := [0, 0, 0, 0, 0, 1, 0, 0, 0, 0, 0, 0, 0], keeper := .unqualified }, can := { joined := true }, tim := { tc := [{}, { fifo := [⟨0, 0, 0, 7, 0, 0⟩] }] } }, by decide +kernel⟩

theorem wit_PulsesAndCaptures_11 : ∃ (v : Nat) (p : Path) (n : Fin 2) (s : State),
    s.pw.dev ≠ .off ∧ takes s p (0x2C20 + n.val) 4 (leBytes 2 v) = true ∧ v < 65536 ∧
    (∀ e ∈ (nth s.tim.tc n.val {}).fifo.head?, e.seq ≠ v) :=
  ⟨8, .ferry, 1, { pw := { dev := .ready, doms := [2, 2, 2, 2, 2, 2] }, tb := { src := [0, 0, 0, 0, 0, 1, 0, 0, 0, 0, 0, 0, 0], keeper := .unqualified }, can := { joined := true }, tim := { tc := [{}, { fifo := [⟨0, 0, 0, 7, 0, 0⟩] }] } }, by decide +kernel⟩

theorem wit_TimebasesSwitch_1 : ∃ (tb : Fin 13) (toKeeper : Bool) (s : State),
    s.pw.dev ≠ .off ∧ tb.val < s.tb.src.length ∧ fallbackTbs.contains tb.val = true ∧
    nth s.tb.src tb.val 2 ≠ (if toKeeper = true then 1 else 0) ∧ (toKeeper = true ∨ s.tb.tb0 = true) :=
  ⟨2, true, { pw := { dev := .ready, doms := [2, 2, 2, 2, 2, 2] }, tb := { src := [0, 0, 0, 0, 0, 1, 0, 0, 0, 0, 0, 0, 0], keeper := .unqualified }, can := { joined := true } }, by decide +kernel⟩

theorem wit_TimebasesSwitch_2 : ∃ (toKeeper : Bool) (s : State),
    s.pw.dev ≠ .off ∧ s.tb.src.length = 13 ∧ nth s.tb.src 4 2 ≠ (if toKeeper = true then 1 else 0) ∧
    (toKeeper = true ∨ s.tb.tb0 = true) :=
  ⟨true, { pw := { dev := .ready, doms := [2, 2, 2, 2, 2, 2] }, tb := { src := [0, 0, 0, 0, 0, 1, 0, 0, 0, 0, 0, 0, 0], keeper := .unqualified }, can := { joined := true } }, by decide +kernel⟩

theorem wit_TimebasesSwitch_3 : ∃ (tb : Fin 13) (toKeeper : Bool) (s : State),
    s.pw.dev ≠ .off ∧
    (fallbackTbs.contains tb.val = false ∨ nth s.tb.src tb.val 2 = (if toKeeper = true then 1 else 0) ∨ toKeeper = false ∧
    s.tb.tb0 = false) :=
  ⟨5, true, { pw := { dev := .ready, doms := [2, 2, 2, 2, 2, 2] }, tb := { src := [0, 0, 0, 0, 0, 1, 0, 0, 0, 0, 0, 0, 0], keeper := .unqualified }, can := { joined := true } }, by decide +kernel⟩

theorem wit_TimebasesSwitch_4 : ∃ (tb : Fin 13) (s : State),
    s.pw.dev ≠ .off ∧ tb.val < s.tb.src.length ∧ tb.val < s.tb.stopped.length :=
  ⟨9, { pw := { dev := .ready, doms := [2, 2, 2, 2, 2, 2] }, tb := { src := [0, 0, 0, 0, 0, 1, 0, 0, 0, 0, 0, 0, 0], keeper := .unqualified }, can := { joined := true } }, by decide +kernel⟩

theorem wit_TimebasesSwitch_5 : ∃  (s : State),
    s.pw.dev ≠ .off ∧ 5 < s.tb.src.length ∧ 5 < s.tb.stopped.length :=
  ⟨{ pw := { dev := .ready, doms := [2, 2, 2, 2, 2, 2] }, tb := { src := [0, 0, 0, 0, 0, 1, 0, 0, 0, 0, 0, 0, 0], keeper := .unqualified }, can := { joined := true } }, by decide +kernel⟩

theorem wit_KeeperIsMeasured_1 : ∃  (s : State),
    s.pw.dev ≠ .off ∧ s.tb.keeper = .starting :=
  ⟨{ pw := { dev := .ready, doms := [2, 2, 2, 2, 2, 2] } }, by decide +kernel⟩

theorem wit_KeeperIsMeasured_2 : ∃  (s : State),
    s.pw.dev ≠ .off ∧ s.tb.keeper ≠ .starting :=
  ⟨{ pw := { dev := .ready, doms := [2, 2, 2, 2, 2, 2] }, tb := { keeper := .qualified } }, by decide +kernel⟩

theorem wit_KeeperIsMeasured_3 : ∃ (bits : Nat) (c : Nat) (s : State),
    s.pw.dev ≠ .off ∧ s.tb.offered = false ∧ clockOn s = true ∧ s.tb.keeper ≠ .starting ∧ 0 < bits ∧ 0 < c :=
  ⟨100, 819200, { pw := { dev := .ready, doms := [2, 2, 2, 2, 2, 2] }, tb := { src := [0, 0, 0, 0, 0, 1, 0, 0, 0, 0, 0, 0, 0], keeper := .unqualified }, can := { joined := true } }, by decide +kernel⟩

theorem wit_KeeperIsMeasured_4 : ∃  (s : State),
    s.pw.dev ≠ .off ∧ (s.tb.offered = true ∨ s.tb.keeper = .starting) :=
  ⟨{ pw := { dev := .ready, doms := [2, 2, 2, 2, 2, 2] }, tb := { offered := true } }, by decide +kernel⟩

theorem wit_KeeperIsMeasured_5 : ∃ (t : Nat) (s : State),
    s.pw.dev ≠ .off ∧ s.tb.keeper = .qualified ∧ s.tb.lastMeas + 10000000000000 ≤ (s.advance t).now :=
  ⟨20000000000000, { pw := { dev := .ready, doms := [2, 2, 2, 2, 2, 2] }, tb := { keeper := .qualified } }, by decide +kernel⟩

theorem wit_KeeperIsMeasured_6 : ∃ (t : Nat) (s : State),
    s.pw.dev ≠ .off ∧ (s.advance t).now < s.tb.lastMeas + 10000000000000 :=
  ⟨5, { pw := { dev := .ready, doms := [2, 2, 2, 2, 2, 2] }, tb := { keeper := .qualified } }, by decide +kernel⟩

theorem wit_MonitorsJudge_1 : ∃ (n : Nat) (s : State),
    s.pw.dev ≠ .off ∧ s.tb.offered = true ∧ s.tb.measured = true ∧ monitorAgrees n s.tb.p = true :=
  ⟨8192, { pw := { dev := .ready, doms := [2, 2, 2, 2, 2, 2] }, tb := { src := [0, 0, 0, 0, 0, 1, 0, 0, 0, 0, 0, 0, 0], keeper := .unqualified, offered := true, measured := true, agree := 2, p := 68719476736 }, can := { joined := true }, frm := {} }, by decide +kernel⟩

theorem wit_MonitorsJudge_2 : ∃ (n : Nat) (noEdge : Bool) (s : State),
    s.pw.dev ≠ .off ∧ s.tb.offered = true ∧ s.tb.measured = true ∧ (monitorAgrees n s.tb.p = false ∨ noEdge = true) ∧
    s.tb.keeper = .qualified :=
  ⟨1, false, { pw := { dev := .ready, doms := [2, 2, 2, 2, 2, 2] }, tb := { src := [0, 0, 0, 0, 0, 1, 0, 0, 0, 0, 0, 0, 0], keeper := .qualified, offered := true, measured := true, agree := 2, p := 68719476736 }, can := { joined := true }, frm := {} }, by decide +kernel⟩

theorem wit_MonitorsJudge_3 : ∃  (s : State),
    s.pw.dev ≠ .off ∧ s.tb.offered = true ∧ s.tb.measured = true ∧ s.tb.keeper = .qualified ∧ s.tb.src.length = 13 :=
  ⟨{ pw := { dev := .ready, doms := [2, 2, 2, 2, 2, 2] }, tb := { src := [0, 0, 0, 0, 0, 1, 0, 0, 0, 0, 0, 0, 0], keeper := .qualified, offered := true, measured := true, agree := 2, p := 68719476736 }, can := { joined := true }, frm := {} }, by decide +kernel⟩

theorem wit_MonitorsJudge_4 : ∃ (n : Nat) (noEdge : Bool) (s : State),
    s.pw.dev ≠ .off ∧ s.tb.offered = true ∧ s.tb.measured = true ∧ (monitorAgrees n s.tb.p = false ∨ noEdge = true) ∧
    s.tb.keeper ≠ .qualified :=
  ⟨8192, true, { pw := { dev := .ready, doms := [2, 2, 2, 2, 2, 2] }, tb := { src := [0, 0, 0, 0, 0, 1, 0, 0, 0, 0, 0, 0, 0], keeper := .unqualified, offered := true, measured := true, agree := 2, p := 68719476736 }, can := { joined := true }, frm := {} }, by decide +kernel⟩

theorem wit_MonitorsJudge_5 : ∃  (s : State),
    s.pw.dev ≠ .off ∧ (s.tb.offered = false ∨ s.tb.measured = false) :=
  ⟨{ pw := { dev := .ready, doms := [2, 2, 2, 2, 2, 2] }, tb := { src := [0, 0, 0, 0, 0, 1, 0, 0, 0, 0, 0, 0, 0], keeper := .unqualified }, can := { joined := true } }, by decide +kernel⟩

theorem wit_MonitorsJudge_6 : ∃  (s : State),
    s.pw.dev ≠ .off ∧ (s.pw.dev = .ready ∨ s.pw.dev = .lit) :=
  ⟨{ pw := { dev := .ready, doms := [2, 2, 2, 2, 2, 2] } }, by decide +kernel⟩

theorem wit_MonitorsJudge_7 : ∃  (s : State),
    s.pw.dev ≠ .off ∧ s.pw.dev ≠ .ready ∧ s.pw.dev ≠ .lit :=
  ⟨{ pw := { dev := .quiet, doms := [2, 2, 2, 2, 2, 2] } }, by decide +kernel⟩

theorem wit_MonitorsJudge_8 : ∃  (s : State),
    s.pw.dev ≠ .off :=
  ⟨{ pw := { dev := .ready, doms := [2, 2, 2, 2, 2, 2] } }, by decide +kernel⟩

theorem wit_MonitorsJudge_9 : ∃  (s : State),
    s.pw.dev ≠ .off :=
  ⟨{ pw := { dev := .ready, doms := [2, 2, 2, 2, 2, 2] } }, by decide +kernel⟩

theorem wit_MonitorsJudge_10 : ∃  (s : State),
    s.pw.dev ≠ .off :=
  ⟨{ pw := { dev := .ready, doms := [2, 2, 2, 2, 2, 2] } }, by decide +kernel⟩

theorem wit_MarkersAreCaptured_1 : ∃ (blks : List (List Byte)) (s : State),
    s.pw.dev ≠ .off ∧ s.lane.st = .fl0 ∧ ctlOk 0x02 (slotBlk blks s) = true :=
  ⟨[blkTs 2 0 0 0 0], { pw := { dev := .ready, doms := [2, 2, 2, 2, 2, 2] }, lane := { st := .fl0, lanes := 1, firstAlign := false, count := some 8 } }, by decide +kernel⟩

theorem wit_MarkersAreCaptured_2 : ∃ (blks : List (List Byte)) (s : State),
    s.pw.dev ≠ .off ∧ s.lane.st = .fl0 ∧ (slotBlk blks s) ≠ [] ∧ ctlOk 0x02 (slotBlk blks s) = false :=
  ⟨[[2]], { pw := { dev := .ready, doms := [2, 2, 2, 2, 2, 2] }, lane := { st := .fl0, lanes := 1, firstAlign := false, count := some 8 } }, by decide +kernel⟩

theorem wit_MarkersAreCaptured_3 : ∃ (i : Nat) (blks : List (List Byte)) (s : State),
    s.pw.dev ≠ .off ∧ rxOn s = true ∧ s.lane.st = .fl0 ∧ i < s.lane.lanes ∧ i < blks.length ∧
    i < s.lane.ctlErrors.length ∧ nth blks i [] ≠ [] ∧ (nth s.phy.rx i {}).fresh = false ∧
    ctlGood (nth blks i []) = false :=
  ⟨0, [[2]], { pw := { dev := .ready, doms := [2, 2, 2, 2, 2, 2] }, lane := { st := .fl0, lanes := 1, firstAlign := false, count := some 8 } }, by decide +kernel⟩

theorem wit_MarkersAreCaptured_4 : ∃ (i : Nat) (blks : List (List Byte)) (s : State),
    s.pw.dev ≠ .off ∧ rxOn s = true ∧ s.lane.st = .fl0 ∧ i < s.lane.lanes ∧ i < blks.length ∧
    i < s.lane.badHeaders.length ∧ nth blks i [] = [] :=
  ⟨0, [[]], { pw := { dev := .ready, doms := [2, 2, 2, 2, 2, 2] }, lane := { st := .fl0, lanes := 1, firstAlign := false, count := some 8 } }, by decide +kernel⟩

theorem wit_MarkersAreCaptured_5 : ∃  (s : State),
    s.pw.dev ≠ .off ∧ s.lane.st = .fl0 ∧ 5 < s.diag.cal.length :=
  ⟨{ pw := { dev := .ready, doms := [2, 2, 2, 2, 2, 2] }, lane := { st := .fl0, lanes := 1 } }, by decide +kernel⟩

theorem wit_SourcesAreRaised_1 : ∃  (s : State),
    s.pw.dev ≠ .off :=
  ⟨{ pw := { dev := .lit, doms := [2, 2, 2, 2, 2, 2] }, tb := { src := [0, 0, 0, 0, 0, 1, 0, 0, 0, 0, 0, 0, 0], keeper := .unqualified }, dict := { sesCan := { isOpen := true } }, saf := {  } }, by decide +kernel⟩

theorem wit_SourcesAreRaised_2 : ∃  (s : State),
    s.pw.dev ≠ .off ∧ running s = true :=
  ⟨{ pw := { dev := .lit, doms := [2, 2, 2, 2, 2, 2] }, tb := { src := [0, 0, 0, 0, 0, 1, 0, 0, 0, 0, 0, 0, 0], keeper := .unqualified }, dict := { sesCan := { isOpen := true } }, saf := {  } }, by decide +kernel⟩

theorem wit_SourcesAreRaised_3 : ∃  (s : State),
    s.pw.dev ≠ .off ∧ running s = false :=
  ⟨{ pw := { dev := .boot, doms := [2, 2, 2, 2, 2, 2] }, tb := { src := [0, 0, 0, 0, 0, 1, 0, 0, 0, 0, 0, 0, 0], keeper := .unqualified }, dict := { sesCan := { isOpen := true } }, saf := {  } }, by decide +kernel⟩

theorem wit_SourcesAreRaised_4 : ∃ (south : Bool) (asserted : Bool) (s : State),
    s.pw.dev ≠ .off ∧ asserted ≠ (if south = true then s.saf.holdS else s.saf.holdN) :=
  ⟨true, true, { pw := { dev := .lit, doms := [2, 2, 2, 2, 2, 2] }, tb := { src := [0, 0, 0, 0, 0, 1, 0, 0, 0, 0, 0, 0, 0], keeper := .unqualified }, dict := { sesCan := { isOpen := true } }, saf := {  } }, by decide +kernel⟩

theorem wit_SourcesAreRaised_5 : ∃ (south : Bool) (asserted : Bool) (s : State),
    s.pw.dev ≠ .off ∧ asserted = (if south = true then s.saf.holdS else s.saf.holdN) :=
  ⟨true, false, { pw := { dev := .lit, doms := [2, 2, 2, 2, 2, 2] }, tb := { src := [0, 0, 0, 0, 0, 1, 0, 0, 0, 0, 0, 0, 0], keeper := .unqualified }, dict := { sesCan := { isOpen := true } }, saf := {  } }, by decide +kernel⟩

theorem wit_SourcesAreRaised_6 : ∃ (t : Nat) (s : State),
    s.pw.dev ≠ .off ∧ sresetFor (s.advance t) 5000000000000 = true ∧ keeperRuns s = true :=
  ⟨5000000000000, { pw := { dev := .lit, doms := [2, 2, 2, 2, 2, 2] }, tb := { src := [0, 0, 0, 0, 0, 1, 0, 0, 0, 0, 0, 0, 0], keeper := .unqualified }, dict := { sesCan := { isOpen := true } }, saf := { srLevel := true } }, by decide +kernel⟩

theorem wit_SourcesAreRaised_7 : ∃ (t : Nat) (s : State),
    s.pw.dev ≠ .off ∧ (sresetFor (s.advance t) 5000000000000 = false ∨ keeperRuns s = false) :=
  ⟨5, { pw := { dev := .lit, doms := [2, 2, 2, 2, 2, 2] }, tb := { src := [0, 0, 0, 0, 0, 1, 0, 0, 0, 0, 0, 0, 0], keeper := .unqualified }, dict := { sesCan := { isOpen := true } }, saf := { srLevel := true } }, by decide +kernel⟩

theorem wit_SourcesAreRaised_8 : ∃ (t : Nat) (s : State),
    s.pw.dev ≠ .off ∧ s.lane.downAt.any (fun a => bandOver (s.advance t) a (s.objN 0x2D00 3 * 1000000000)) = true ∧
    s.pending.any (fl0Now (s.advance t)) = false :=
  ⟨900000000000000, { pw := { dev := .lit, doms := [2, 2, 2, 2, 2, 2] }, tb := { src := [0, 0, 0, 0, 0, 1, 0, 0, 0, 0, 0, 0, 0], keeper := .unqualified }, dict := { sesCan := { isOpen := true } }, saf := {  }, lane := { downAt := some 1 } }, by decide +kernel⟩

theorem wit_SourcesAreRaised_9 : ∃ (t : Nat) (s : State),
    s.pw.dev ≠ .off ∧ s.pending.any (fl0Now (s.advance t)) = true :=
  ⟨900000000000000, { pw := { dev := .lit, doms := [2, 2, 2, 2, 2, 2] }, tb := { src := [0, 0, 0, 0, 0, 1, 0, 0, 0, 0, 0, 0, 0], keeper := .unqualified }, dict := { sesCan := { isOpen := true } }, saf := {  }, lane := { downAt := some 1, st := .atRate }, pending := [.fl0Entry 900000000000000 0] }, by decide +kernel⟩

theorem wit_SourcesAreRaised_10 : ∃  (s : State),
    s.pw.dev ≠ .off ∧ s.lane.downAt = none :=
  ⟨{ pw := { dev := .lit, doms := [2, 2, 2, 2, 2, 2] }, tb := { src := [0, 0, 0, 0, 0, 1, 0, 0, 0, 0, 0, 0, 0], keeper := .unqualified }, dict := { sesCan := { isOpen := true } }, saf := {  } }, by decide +kernel⟩

theorem wit_SourcesAreRaised_11 : ∃  (s : State),
    s.pw.dev ≠ .off :=
  ⟨{ pw := { dev := .lit, doms := [2, 2, 2, 2, 2, 2] }, tb := { src := [0, 0, 0, 0, 0, 1, 0, 0, 0, 0, 0, 0, 0], keeper := .unqualified }, dict := { sesCan := { isOpen := true } }, saf := {  } }, by decide +kernel⟩

theorem wit_ClearsNeedTheirCauseGone_1 : ∃ (id : Nat) (p : Path) (s : State),
    s.pw.dev ≠ .off ∧ takes s p 0x2D11 1 (leBytes 1 id) = true ∧ id < 256 ∧ clearCode s p id = 0 :=
  ⟨0xB8, .can, { pw := { dev := .lit, doms := [2, 2, 2, 2, 2, 2] }, tb := { src := [0, 0, 0, 0, 0, 1, 0, 0, 0, 0, 0, 0, 0], keeper := .unqualified }, dict := { sesCan := { isOpen := true } }, saf := { latched := bmSet 0 0xB8 } }, by decide +kernel⟩

theorem wit_ClearsNeedTheirCauseGone_2 : ∃ (id : Nat) (p : Path) (s : State),
    s.pw.dev ≠ .off ∧ takes s p 0x2D11 1 (leBytes 1 id) = true ∧ id < 256 ∧ clearCode s p id ≠ 0 :=
  ⟨0xB9, .can, { pw := { dev := .lit, doms := [2, 2, 2, 2, 2, 2] }, tb := { src := [0, 0, 0, 0, 0, 1, 0, 0, 0, 0, 0, 0, 0], keeper := .unqualified }, dict := { sesCan := { isOpen := true } }, saf := { latched := bmSet 0 0xB8 } }, by decide +kernel⟩

theorem wit_ClearsNeedTheirCauseGone_3 : ∃ (v : Nat) (p : Path) (s : State),
    s.pw.dev ≠ .off ∧ takes s p 0x2D11 2 (leBytes 1 v) = true ∧ (∃ i < 256, clearCode s p i = 0) :=
  ⟨1, .can, { pw := { dev := .lit, doms := [2, 2, 2, 2, 2, 2] }, tb := { src := [0, 0, 0, 0, 0, 1, 0, 0, 0, 0, 0, 0, 0], keeper := .unqualified }, dict := { sesCan := { isOpen := true } }, saf := { latched := bmSet (bmSet 0 0xB8) 0xB9 } }, by decide +kernel⟩

theorem wit_ClearsNeedTheirCauseGone_4 : ∃ (v : Nat) (p : Path) (s : State),
    s.pw.dev ≠ .off ∧ takes s p 0x2D11 2 (leBytes 1 v) = true ∧ (∀ i < 256, clearCode s p i ≠ 0) :=
  ⟨1, .can, { pw := { dev := .lit, doms := [2, 2, 2, 2, 2, 2] }, tb := { src := [0, 0, 0, 0, 0, 1, 0, 0, 0, 0, 0, 0, 0], keeper := .unqualified }, dict := { sesCan := { isOpen := true } }, saf := {  } }, by decide +kernel⟩

theorem wit_ResetRequestsMoveDown_1 : ∃ (p : Path) (s : State),
    s.pw.dev ≠ .off ∧ takes s p 0x2D11 3 [0x5A] = true :=
  ⟨.can, { pw := { dev := .lit, doms := [2, 2, 2, 2, 2, 2] }, tb := { src := [0, 0, 0, 0, 0, 1, 0, 0, 0, 0, 0, 0, 0], keeper := .unqualified }, dict := { sesCan := { isOpen := true } }, saf := {  } }, by decide +kernel⟩

theorem wit_ResetRequestsMoveDown_2 : ∃ (t : Nat) (a : Nat) (p : Path) (s : State),
    s.pw.dev ≠ .off ∧ takes s p 0x2D11 3 [0xA5] = true ∧ s.saf.resetArm = some a ∧
    (s.advance t).now ≤ a + 100000000000 ∧ bitOf (s.objN 0x2D00 5) 1 = true ∧ s.saf.selfFault = false ∧
    s.saf.pendingReturn = false ∧ 2 ≤ s.saf.state.code ∧ targetClass s < 2 :=
  ⟨5, 1, .can, { pw := { dev := .lit, doms := [2, 2, 2, 2, 2, 2] }, tb := { src := [0, 0, 0, 0, 0, 1, 0, 0, 0, 0, 0, 0, 0], keeper := .unqualified }, dict := { sesCan := { isOpen := true } }, saf := { state := .hold, resetArm := some 1 } }, by decide +kernel⟩

theorem wit_ResetRequestsMoveDown_3 : ∃ (t : Nat) (a : Nat) (p : Path) (s : State),
    s.pw.dev ≠ .off ∧ takes s p 0x2D11 3 [0xA5] = true ∧ s.saf.resetArm = some a ∧
    (s.advance t).now ≤ a + 100000000000 ∧ bitOf (s.objN 0x2D00 5) 1 = true ∧ s.saf.selfFault = false ∧
    s.saf.pendingReturn = false ∧ 3 ≤ s.saf.state.code ∧ targetClass s = 2 ∧
    limpPick s (limpWish s s.saf.entrySource) ≠ 0 :=
  ⟨5, 1, .can, { pw := { dev := .lit, doms := [2, 2, 2, 2, 2, 2] }, tb := { src := [0, 0, 0, 0, 0, 1, 0, 0, 0, 0, 0, 0, 0], keeper := .unqualified }, dict := { sesCan := { isOpen := true } }, saf := { state := .hold, resetArm := some 1, latched := bmSet 0 0x05 }, nv := { copies := [{ limp := [[1], [], [], []] }, {}] } }, by decide +kernel⟩

theorem wit_ResetRequestsMoveDown_4 : ∃ (t : Nat) (a : Nat) (p : Path) (s : State),
    s.pw.dev ≠ .off ∧ takes s p 0x2D11 3 [0xA5] = true ∧ s.saf.resetArm = some a ∧
    (s.advance t).now ≤ a + 100000000000 ∧ bitOf (s.objN 0x2D00 5) 1 = true ∧ s.saf.selfFault = false ∧
    s.saf.pendingReturn = false ∧ s.saf.state = .dark ∧ targetClass s = 3 :=
  ⟨5, 1, .can, { pw := { dev := .lit, doms := [2, 2, 2, 2, 2, 2] }, tb := { src := [0, 0, 0, 0, 0, 1, 0, 0, 0, 0, 0, 0, 0], keeper := .unqualified }, dict := { sesCan := { isOpen := true } }, saf := { state := .dark, resetArm := some 1, latched := bmSet 0 0x00 } }, by decide +kernel⟩

theorem wit_ResetRequestsMoveDown_5 : ∃ (t : Nat) (a : Nat) (p : Path) (s : State),
    s.pw.dev ≠ .off ∧ takes s p 0x2D11 3 [0xA5] = true ∧ s.saf.resetArm = some a ∧
    (s.advance t).now ≤ a + 100000000000 ∧ bitOf (s.objN 0x2D00 5) 1 = true ∧ s.saf.state.code ≤ 1 :=
  ⟨5, 1, .can, { pw := { dev := .lit, doms := [2, 2, 2, 2, 2, 2] }, tb := { src := [0, 0, 0, 0, 0, 1, 0, 0, 0, 0, 0, 0, 0], keeper := .unqualified }, dict := { sesCan := { isOpen := true } }, saf := { resetArm := some 1 } }, by decide +kernel⟩

theorem wit_ResetRequestsMoveDown_6 : ∃ (p : Path) (s : State),
    s.pw.dev ≠ .off ∧ takes s p 0x2D11 3 [0xA5] = true ∧ s.saf.resetArm = none :=
  ⟨.can, { pw := { dev := .lit, doms := [2, 2, 2, 2, 2, 2] }, tb := { src := [0, 0, 0, 0, 0, 1, 0, 0, 0, 0, 0, 0, 0], keeper := .unqualified }, dict := { sesCan := { isOpen := true } }, saf := { state := .hold } }, by decide +kernel⟩

theorem wit_ResetRequestsMoveDown_7 : ∃ (t : Nat) (s : State),
    s.pw.dev ≠ .off ∧ sresetFor (s.advance t) 10000000000 = true ∧ s.saf.srDone = false ∧ keeperRuns s = true ∧
    bitOf (s.objN 0x2D00 5) 0 = true ∧ s.saf.selfFault = false ∧ s.saf.pendingReturn = false ∧ 2 ≤ s.saf.state.code ∧
    targetClass s < 2 :=
  ⟨10000000000, { pw := { dev := .lit, doms := [2, 2, 2, 2, 2, 2] }, tb := { src := [0, 0, 0, 0, 0, 1, 0, 0, 0, 0, 0, 0, 0], keeper := .unqualified }, dict := { sesCan := { isOpen := true } }, saf := { state := .dark, srLevel := true } }, by decide +kernel⟩

theorem wit_ResetRequestsMoveDown_8 : ∃ (t : Nat) (s : State),
    s.pw.dev ≠ .off ∧ (sresetFor (s.advance t) 10000000000 = false ∨ s.saf.srDone = true ∨ keeperRuns s = false) :=
  ⟨5, { pw := { dev := .lit, doms := [2, 2, 2, 2, 2, 2] }, tb := { src := [0, 0, 0, 0, 0, 1, 0, 0, 0, 0, 0, 0, 0], keeper := .unqualified }, dict := { sesCan := { isOpen := true } }, saf := { state := .dark, srLevel := true } }, by decide +kernel⟩

theorem wit_ResetRequestsMoveDown_9 : ∃  (s : State),
    s.pw.dev ≠ .off :=
  ⟨{ pw := { dev := .lit, doms := [2, 2, 2, 2, 2, 2] }, tb := { src := [0, 0, 0, 0, 0, 1, 0, 0, 0, 0, 0, 0, 0], keeper := .unqualified }, dict := { sesCan := { isOpen := true } }, saf := { srArmed := true } }, by decide +kernel⟩

theorem wit_ResetRequestsMoveDown_10 : ∃  (s : State),
    s.pw.dev ≠ .off :=
  ⟨{ pw := { dev := .lit, doms := [2, 2, 2, 2, 2, 2] }, tb := { src := [0, 0, 0, 0, 0, 1, 0, 0, 0, 0, 0, 0, 0], keeper := .unqualified }, dict := { sesCan := { isOpen := true } }, saf := { srLevel := true } }, by decide +kernel⟩

theorem wit_LightEnableGovernsPermission_1 : ∃  (s : State),
    s.pw.dev ≠ .off :=
  ⟨{ pw := { dev := .lit, doms := [2, 2, 2, 2, 2, 2] }, tb := { src := [0, 0, 0, 0, 0, 1, 0, 0, 0, 0, 0, 0, 0], keeper := .unqualified }, dict := { sesCan := { isOpen := true } }, saf := { lenA := true, startTest := true, discPassed := true } }, by decide +kernel⟩

theorem wit_LightEnableGovernsPermission_2 : ∃ (t : Nat) (s : State),
    s.pw.dev ≠ .off ∧ s.saf.lenA ≠ s.saf.lenB ∧ keeperRuns s = true ∧
    s.saf.disagreeAt.any (fun a => decide (a + discLeast s ≤ (s.advance t).now)) = true :=
  ⟨900000000000000, { pw := { dev := .lit, doms := [2, 2, 2, 2, 2, 2] }, tb := { src := [0, 0, 0, 0, 0, 1, 0, 0, 0, 0, 0, 0, 0], keeper := .unqualified }, dict := { sesCan := { isOpen := true } }, saf := { lenA := true, disagreeAt := some 5, permission := true } }, by decide +kernel⟩

theorem wit_LightEnableGovernsPermission_3 : ∃ (t : Nat) (s : State),
    s.pw.dev ≠ .off ∧
    (s.saf.lenA = s.saf.lenB ∨ keeperRuns s = false ∨ s.saf.disagreeAt.any (fun a => decide (a + discLeast s ≤ (s.advance t).now)) = false) :=
  ⟨6, { pw := { dev := .lit, doms := [2, 2, 2, 2, 2, 2] }, tb := { src := [0, 0, 0, 0, 0, 1, 0, 0, 0, 0, 0, 0, 0], keeper := .unqualified }, dict := { sesCan := { isOpen := true } }, saf := { lenA := true, disagreeAt := some 5, permission := true } }, by decide +kernel⟩

theorem wit_DisconnectSwitchIsChecked_1 : ∃ (closed : Bool) (s : State),
    s.pw.dev ≠ .off ∧ s.saf.discStep = 0 ∧ closed = s.saf.discEn :=
  ⟨true, { pw := { dev := .lit, doms := [2, 2, 2, 2, 2, 2] }, tb := { src := [0, 0, 0, 0, 0, 1, 0, 0, 0, 0, 0, 0, 0], keeper := .unqualified }, dict := { sesCan := { isOpen := true } }, saf := { discEn := true } }, by decide +kernel⟩

theorem wit_DisconnectSwitchIsChecked_2 : ∃  (s : State),
    s.pw.dev ≠ .off ∧ s.saf.discStep = 1 :=
  ⟨{ pw := { dev := .lit, doms := [2, 2, 2, 2, 2, 2] }, tb := { src := [0, 0, 0, 0, 0, 1, 0, 0, 0, 0, 0, 0, 0], keeper := .unqualified }, dict := { sesCan := { isOpen := true } }, saf := { discStep := 1, discFb := true } }, by decide +kernel⟩

theorem wit_DisconnectSwitchIsChecked_3 : ∃  (s : State),
    s.pw.dev ≠ .off ∧ s.saf.discStep = 2 :=
  ⟨{ pw := { dev := .lit, doms := [2, 2, 2, 2, 2, 2] }, tb := { src := [0, 0, 0, 0, 0, 1, 0, 0, 0, 0, 0, 0, 0], keeper := .unqualified }, dict := { sesCan := { isOpen := true } }, saf := { discStep := 2, discEn := true } }, by decide +kernel⟩

theorem wit_DisconnectSwitchIsChecked_4 : ∃  (s : State),
    s.pw.dev ≠ .off ∧ s.saf.discStep = 3 :=
  ⟨{ pw := { dev := .lit, doms := [2, 2, 2, 2, 2, 2] }, tb := { src := [0, 0, 0, 0, 0, 1, 0, 0, 0, 0, 0, 0, 0], keeper := .unqualified }, dict := { sesCan := { isOpen := true } }, saf := { discStep := 3 } }, by decide +kernel⟩

theorem wit_DisconnectSwitchIsChecked_5 : ∃  (s : State),
    s.pw.dev ≠ .off ∧ s.saf.discStep = 4 :=
  ⟨{ pw := { dev := .lit, doms := [2, 2, 2, 2, 2, 2] }, tb := { src := [0, 0, 0, 0, 0, 1, 0, 0, 0, 0, 0, 0, 0], keeper := .unqualified }, dict := { sesCan := { isOpen := true } }, saf := { discStep := 4, discEn := true } }, by decide +kernel⟩

theorem wit_DisconnectSwitchIsChecked_6 : ∃ (t : Nat) (s : State),
    s.pw.dev ≠ .off ∧ s.saf.discStep = 0 ∧ s.saf.discFb ≠ s.saf.discEn ∧ bmGet s.saf.causes 0x03 = false ∧
    fbTimeOver (s.advance t) = true :=
  ⟨900000000000000, { pw := { dev := .lit, doms := [2, 2, 2, 2, 2, 2] }, tb := { src := [0, 0, 0, 0, 0, 1, 0, 0, 0, 0, 0, 0, 0], keeper := .unqualified }, dict := { sesCan := { isOpen := true } }, saf := { discEn := true } }, by decide +kernel⟩

theorem wit_DisconnectSwitchIsChecked_7 : ∃ (t : Nat) (s : State),
    s.pw.dev ≠ .off ∧ ((s.saf.discStep = 1 ∨ s.saf.discStep = 3) ∧
    s.saf.discFb = true ∨ (s.saf.discStep = 2 ∨ s.saf.discStep = 4) ∧ s.saf.discFb = false) ∧
    bmGet s.saf.causes 0x03 = false ∧ fbTimeOver (s.advance t) = true :=
  ⟨900000000000000, { pw := { dev := .lit, doms := [2, 2, 2, 2, 2, 2] }, tb := { src := [0, 0, 0, 0, 0, 1, 0, 0, 0, 0, 0, 0, 0], keeper := .unqualified }, dict := { sesCan := { isOpen := true } }, saf := { discStep := 2, discEn := true } }, by decide +kernel⟩

theorem wit_DisconnectSwitchIsChecked_8 : ∃ (t : Nat) (s : State),
    s.pw.dev ≠ .off ∧ ((s.saf.discStep = 1 ∨ s.saf.discStep = 3) ∧
    s.saf.discFb = true ∨ (s.saf.discStep = 2 ∨ s.saf.discStep = 4) ∧ s.saf.discFb = false) ∧
    fbTimeOver (s.advance t) = false :=
  ⟨5, { pw := { dev := .lit, doms := [2, 2, 2, 2, 2, 2] }, tb := { src := [0, 0, 0, 0, 0, 1, 0, 0, 0, 0, 0, 0, 0], keeper := .unqualified }, dict := { sesCan := { isOpen := true } }, saf := { discStep := 2, discEn := true } }, by decide +kernel⟩

theorem wit_ProtectedRecordsAreStaged_1 : ∃ (p : Path) (data : List Byte) (s : State),
    s.pw.dev ≠ .off ∧ takes s p 0x2D10 3 data = true ∧ classesOk s data = true ∧ rising s.objs = true :=
  ⟨.can, objDflt 0 0x2D10 3, { pw := { dev := .lit, doms := [2, 2, 2, 2, 2, 2] }, tb := { src := [0, 0, 0, 0, 0, 1, 0, 0, 0, 0, 0, 0, 0], keeper := .unqualified }, dict := { sesCan := { isOpen := true } }, saf := {  } }, by decide +kernel⟩

theorem wit_ProtectedRecordsAreStaged_2 : ∃ (p : Path) (data : List Byte) (s : State),
    s.pw.dev ≠ .off ∧ takes s p 0x2D10 3 data = true ∧ classesOk s data = false :=
  ⟨.can, List.replicate 256 0, { pw := { dev := .lit, doms := [2, 2, 2, 2, 2, 2] }, tb := { src := [0, 0, 0, 0, 0, 1, 0, 0, 0, 0, 0, 0, 0], keeper := .unqualified }, dict := { sesCan := { isOpen := true } }, saf := {  } }, by decide +kernel⟩

theorem wit_ProtectedRecordsAreStaged_3 : ∃ (p : Path) (n : Fin 4) (data : List Byte) (s : State),
    s.pw.dev ≠ .off ∧ takes s p (0x2D30 + n.val) 1 data = true ∧ limpLayout data = true ∧ limpLight data ≤ 15728640000 ∧
    prepared s .updatePath = false ∧ s.mg.psVerifying = false ∧ copying s = false ∧
    protCoded { staging s with limp := (staging s).limp.modify n.val (fun _ => data) } ≤ 524288 :=
  ⟨.can, 1, darkLimp, { pw := { dev := .lit, doms := [2, 2, 2, 2, 2, 2] }, tb := { src := [0, 0, 0, 0, 0, 1, 0, 0, 0, 0, 0, 0, 0], keeper := .unqualified }, dict := { sesCan := { isOpen := true } }, saf := {  } }, by decide +kernel, by decide +kernel, by decide +kernel, by rw [light_darkLimp]; decide, by decide +kernel⟩

theorem wit_ProtectedRecordsAreStaged_4 : ∃ (p : Path) (n : Fin 4) (data : List Byte) (s : State),
    s.pw.dev ≠ .off ∧ takes s p (0x2D30 + n.val) 1 data = true ∧ limpLayout data = false :=
  ⟨.can, 1, List.replicate 28 0, { pw := { dev := .lit, doms := [2, 2, 2, 2, 2, 2] }, tb := { src := [0, 0, 0, 0, 0, 1, 0, 0, 0, 0, 0, 0, 0], keeper := .unqualified }, dict := { sesCan := { isOpen := true } }, saf := {  } }, by decide +kernel⟩

theorem wit_ProtectedRecordsAreStaged_5 : ∃ (p : Path) (data : List Byte) (s : State),
    s.pw.dev ≠ .off ∧ takes s p 0x2020 1 data = true ∧ prepared s .updatePath = false ∧ s.mg.psVerifying = false ∧
    copying s = false ∧ protCoded { staging s with map := data } ≤ 524288 :=
  ⟨.can, flatMap, { pw := { dev := .lit, doms := [2, 2, 2, 2, 2, 2] }, tb := { src := [0, 0, 0, 0, 0, 1, 0, 0, 0, 0, 0, 0, 0], keeper := .unqualified }, dict := { sesCan := { isOpen := true } }, saf := {  } }, by decide, takes_flat _ _ (by decide +kernel) (by decide +kernel), by decide +kernel, by decide +kernel, by decide +kernel, by rw [protCoded_flat]; decide +kernel⟩

theorem wit_ProtectedRecordsAreStaged_6 : ∃ (p : Path) (data : List Byte) (s : State),
    s.pw.dev ≠ .off ∧ takes s p 0x2020 1 data = true ∧
    (prepared s .updatePath = true ∨ s.mg.psVerifying = true ∨ copying s = true) :=
  ⟨.can, flatMap, { pw := { dev := .lit, doms := [2, 2, 2, 2, 2, 2] }, tb := { src := [0, 0, 0, 0, 0, 1, 0, 0, 0, 0, 0, 0, 0], keeper := .unqualified }, dict := { sesCan := { isOpen := true } }, saf := {  }, mg := { psVerifying := true } }, by decide, takes_flat _ _ (by decide +kernel) (by decide +kernel), by decide⟩

theorem wit_ProtectedRecordsAreStaged_7 : ∃  (s : State),
    s.pw.dev ≠ .off ∧ s.saf.state = .limp ∧ s.saf.limpLoaded = false ∧ s.saf.limpPattern ≠ 0 :=
  ⟨{ pw := { dev := .lit, doms := [2, 2, 2, 2, 2, 2] }, tb := { src := [0, 0, 0, 0, 0, 1, 0, 0, 0, 0, 0, 0, 0], keeper := .unqualified }, dict := { sesCan := { isOpen := true } }, saf := { state := .limp, limpPattern := 1 } }, by decide +kernel⟩

theorem wit_ProtectedRecordsAreStaged_8 : ∃  (s : State),
    s.pw.dev ≠ .off ∧ (s.saf.state ≠ .limp ∨ s.saf.limpLoaded = true) :=
  ⟨{ pw := { dev := .lit, doms := [2, 2, 2, 2, 2, 2] }, tb := { src := [0, 0, 0, 0, 0, 1, 0, 0, 0, 0, 0, 0, 0], keeper := .unqualified }, dict := { sesCan := { isOpen := true } }, saf := {  } }, by decide +kernel⟩

theorem wit_FactoryModeUnlocks_1 : ∃ (t : Nat) (v : Nat) (p : Path) (s : State),
    s.pw.dev ≠ .off ∧ takes s p 0xF010 1 (leBytes 1 v) = true ∧ v < 256 ∧ s.saf.factory = false ∧ s.saf.unlockStep = 3 ∧
    v = 0x96 ∧ (s.advance t).now ≤ s.saf.releaseAt + 10000000000000 ∧ (s.advance t).now ≤ s.saf.unlockAt + 1000000000000 :=
  ⟨5, 0x96, .can, { pw := { dev := .lit, doms := [2, 2, 2, 2, 2, 2] }, tb := { src := [0, 0, 0, 0, 0, 1, 0, 0, 0, 0, 0, 0, 0], keeper := .unqualified }, dict := { sesCan := { isOpen := true } }, saf := { testen := true, unlockStep := 3 } }, by decide +kernel⟩

theorem wit_FactoryModeUnlocks_2 : ∃ (t : Nat) (v : Nat) (p : Path) (s : State),
    s.pw.dev ≠ .off ∧ takes s p 0xF010 1 (leBytes 1 v) = true ∧ v < 256 ∧ s.saf.factory = false ∧ s.saf.unlockStep < 3 ∧
    v = unlockByte s.saf.unlockStep ∧ (s.advance t).now ≤ s.saf.releaseAt + 10000000000000 ∧ (s.saf.unlockStep ≠ 0 →
    (s.advance t).now ≤ s.saf.unlockAt + 1000000000000) :=
  ⟨5, 0x69, .can, { pw := { dev := .lit, doms := [2, 2, 2, 2, 2, 2] }, tb := { src := [0, 0, 0, 0, 0, 1, 0, 0, 0, 0, 0, 0, 0], keeper := .unqualified }, dict := { sesCan := { isOpen := true } }, saf := { testen := true, unlockStep := 2 } }, by decide +kernel⟩

theorem wit_FactoryModeUnlocks_3 : ∃ (v : Nat) (p : Path) (s : State),
    s.pw.dev ≠ .off ∧ takes s p 0xF010 1 (leBytes 1 v) = true ∧ v < 256 ∧ s.saf.factory = false ∧
    v ≠ unlockByte s.saf.unlockStep ∧ v ≠ 0x3C :=
  ⟨0x11, .can, { pw := { dev := .lit, doms := [2, 2, 2, 2, 2, 2] }, tb := { src := [0, 0, 0, 0, 0, 1, 0, 0, 0, 0, 0, 0, 0], keeper := .unqualified }, dict := { sesCan := { isOpen := true } }, saf := { testen := true, unlockStep := 2 } }, by decide +kernel⟩

theorem wit_FactoryModeUnlocks_4 : ∃ (p : Path) (s : State),
    s.pw.dev ≠ .off ∧ takes s p 0xF010 1 [0] = true ∧ s.saf.factory = true :=
  ⟨.can, { pw := { dev := .lit, doms := [2, 2, 2, 2, 2, 2] }, tb := { src := [0, 0, 0, 0, 0, 1, 0, 0, 0, 0, 0, 0, 0], keeper := .unqualified }, dict := { sesCan := { isOpen := true } }, saf := { testen := true, factory := true, injected := 4 } }, by decide +kernel⟩

theorem wit_FactoryModeUnlocks_5 : ∃ (id : Nat) (p : Path) (s : State),
    s.pw.dev ≠ .off ∧ takes s p 0xF010 2 (leBytes 2 id) = true ∧ id < 256 ∧ hasSource id = true ∧ id ≠ 0 :=
  ⟨0xB8, .can, { pw := { dev := .lit, doms := [2, 2, 2, 2, 2, 2] }, tb := { src := [0, 0, 0, 0, 0, 1, 0, 0, 0, 0, 0, 0, 0], keeper := .unqualified }, dict := { sesCan := { isOpen := true } }, saf := { testen := true, factory := true } }, by decide +kernel⟩

theorem wit_FactoryModeUnlocks_6 : ∃ (p : Path) (s : State),
    s.pw.dev ≠ .off ∧ takes s p 0xF010 2 [0, 0] = true :=
  ⟨.can, { pw := { dev := .lit, doms := [2, 2, 2, 2, 2, 2] }, tb := { src := [0, 0, 0, 0, 0, 1, 0, 0, 0, 0, 0, 0, 0], keeper := .unqualified }, dict := { sesCan := { isOpen := true } }, saf := { testen := true, factory := true } }, by decide +kernel⟩

theorem wit_FactoryModeUnlocks_7 : ∃ (id : Nat) (p : Path) (s : State),
    s.pw.dev ≠ .off ∧ takes s p 0xF010 2 (leBytes 2 (256 + id)) = true ∧ id < 256 ∧ hasSource id = true :=
  ⟨0xB8, .can, { pw := { dev := .lit, doms := [2, 2, 2, 2, 2, 2] }, tb := { src := [0, 0, 0, 0, 0, 1, 0, 0, 0, 0, 0, 0, 0], keeper := .unqualified }, dict := { sesCan := { isOpen := true } }, saf := { testen := true, factory := true } }, by decide +kernel⟩

theorem wit_FactoryModeUnlocks_8 : ∃ (v : Nat) (p : Path) (s : State),
    s.pw.dev ≠ .off ∧ takes s p 0xF010 2 (leBytes 2 v) = true ∧ v < 65536 ∧ (hasSource (v % 256) = false ∨ 768 ≤ v) :=
  ⟨1024, .can, { pw := { dev := .lit, doms := [2, 2, 2, 2, 2, 2] }, tb := { src := [0, 0, 0, 0, 0, 1, 0, 0, 0, 0, 0, 0, 0], keeper := .unqualified }, dict := { sesCan := { isOpen := true } }, saf := { testen := true, factory := true } }, by decide +kernel⟩

theorem wit_FactoryModeUnlocks_9 : ∃ (v : Nat) (p : Path) (s : State),
    s.pw.dev ≠ .off ∧ takes s p 0xF010 3 (leBytes 1 v) = true :=
  ⟨1, .can, { pw := { dev := .lit, doms := [2, 2, 2, 2, 2, 2] }, tb := { src := [0, 0, 0, 0, 0, 1, 0, 0, 0, 0, 0, 0, 0], keeper := .unqualified }, dict := { sesCan := { isOpen := true } }, saf := { testen := true, factory := true, injected := 4 } }, by decide +kernel⟩

theorem wit_PowerComesAndGoes_1 : ∃  (s : State),
    s.pw.dev = .off :=
  ⟨State.reset, by decide +kernel⟩

theorem wit_PowerComesAndGoes_2 : ∃  (s : State),
    s.pw.dev ≠ .off :=
  ⟨{ pw := { dev := .quiet, doms := [2, 2, 2, 2, 2, 2, 2, 2, 2, 2, 2, 2, 2, 2, 2, 2] }, tb := { src := [0, 0, 0, 0, 0, 1, 0, 0, 0, 0, 0, 0, 0], keeper := .unqualified }, can := { joined := true }, dict := { sesCan := { isOpen := true } } }, by decide +kernel⟩

theorem wit_PowerComesAndGoes_3 : ∃  (s : State),
    s.pw.dev ≠ .off :=
  ⟨{ pw := { dev := .quiet, doms := [2, 2, 2, 2, 2, 2, 2, 2, 2, 2, 2, 2, 2, 2, 2, 2] }, tb := { src := [0, 0, 0, 0, 0, 1, 0, 0, 0, 0, 0, 0, 0], keeper := .unqualified }, can := { joined := true }, dict := { sesCan := { isOpen := true } }, surf := { mem := [(4, 5)] } }, by decide +kernel⟩

theorem wit_PowerComesAndGoes_4 : ∃  (s : State),
    s.pw.dev ≠ .off :=
  ⟨{ pw := { dev := .quiet, doms := [2, 2, 2, 2, 2, 2, 2, 2, 2, 2, 2, 2, 2, 2, 2, 2] }, tb := { src := [0, 0, 0, 0, 0, 1, 0, 0, 0, 0, 0, 0, 0], keeper := .unqualified }, can := { joined := true }, dict := { sesCan := { isOpen := true } }, surf := { mem := [(4, 5)] } }, by decide +kernel⟩

theorem wit_PowerComesAndGoes_5 : ∃ (i : Fin 16) (s : State),
    s.pw.dev ≠ .off ∧ i.val < s.pw.doms.length :=
  ⟨7, { pw := { dev := .quiet, doms := [2, 2, 2, 2, 2, 2, 2, 2, 2, 2, 2, 2, 2, 2, 2, 2] }, tb := { src := [0, 0, 0, 0, 0, 1, 0, 0, 0, 0, 0, 0, 0], keeper := .unqualified }, can := { joined := true }, dict := { sesCan := { isOpen := true } } }, by decide +kernel⟩

theorem wit_PowerComesAndGoes_6 : ∃  (s : State),
    s.pw.dev ≠ .off :=
  ⟨{ pw := { dev := .quiet, doms := [2, 2, 2, 2, 2, 2, 2, 2, 2, 2, 2, 2, 2, 2, 2, 2] }, tb := { src := [0, 0, 0, 0, 0, 1, 0, 0, 0, 0, 0, 0, 0], keeper := .unqualified }, can := { joined := true }, dict := { sesCan := { isOpen := true } }, saf := { discEn := true } }, by decide +kernel⟩

theorem wit_BootLoadsAndVerifies_1 : ∃  (s : State),
    s.pw.dev ≠ .off ∧ s.pw.dev = .boot ∧ jrnlOpen s = false :=
  ⟨{ pw := { dev := .boot, doms := [2, 2, 2, 2, 2, 2, 2, 2, 2, 2, 2, 2, 2, 2, 2, 2] }, tb := { src := [0, 0, 0, 0, 0, 1, 0, 0, 0, 0, 0, 0, 0], keeper := .unqualified }, can := { joined := true }, dict := { sesCan := { isOpen := true } }, nv := { saved := [(0x101003, [1])] } }, by decide +kernel⟩

theorem wit_BootLoadsAndVerifies_2 : ∃ (k : Nat) (d : List Byte) (j : Journal) (s : State),
    s.pw.dev ≠ .off ∧ s.pw.dev = .boot ∧ s.nv.jrnl = some j ∧ j.done = false ∧ 2 + j.payload ≤ j.units ∧
    j.target = .saved k d :=
  ⟨0x101003, [1], { target := .saved 0x101003 [1], seq := 0, off := 0, crc := 0, units := 3, payload := 1, done := false }, { pw := { dev := .boot, doms := [2, 2, 2, 2, 2, 2, 2, 2, 2, 2, 2, 2, 2, 2, 2, 2] }, tb := { src := [0, 0, 0, 0, 0, 1, 0, 0, 0, 0, 0, 0, 0], keeper := .unqualified }, can := { joined := true }, dict := { sesCan := { isOpen := true } }, nv := { jrnl := some { target := .saved 0x101003 [1], seq := 0, off := 0, crc := 0, units := 3, payload := 1, done := false } } }, by decide +kernel⟩

theorem wit_BootLoadsAndVerifies_3 : ∃ (j : Journal) (s : State),
    s.pw.dev ≠ .off ∧ s.pw.dev = .boot ∧ s.nv.jrnl = some j ∧ j.done = false ∧ 0 < j.units ∧ j.units < 2 + j.payload :=
  ⟨{ target := .saved 0x101003 [1], seq := 0, off := 0, crc := 0, units := 2, payload := 1, done := false }, { pw := { dev := .boot, doms := [2, 2, 2, 2, 2, 2, 2, 2, 2, 2, 2, 2, 2, 2, 2, 2] }, tb := { src := [0, 0, 0, 0, 0, 1, 0, 0, 0, 0, 0, 0, 0], keeper := .unqualified }, can := { joined := true }, dict := { sesCan := { isOpen := true } }, nv := { jrnl := some { target := .saved 0x101003 [1], seq := 0, off := 0, crc := 0, units := 2, payload := 1, done := false } } }, by decide +kernel⟩

theorem wit_BootLoadsAndVerifies_4 : ∃ (j : Journal) (s : State),
    s.pw.dev ≠ .off ∧ s.pw.dev = .boot ∧ s.nv.jrnl = some j ∧ j.done = false ∧ j.units = 0 :=
  ⟨{ target := .saved 0x101003 [1], seq := 0, off := 0, crc := 0, units := 0, payload := 1, done := false }, { pw := { dev := .boot, doms := [2, 2, 2, 2, 2, 2, 2, 2, 2, 2, 2, 2, 2, 2, 2, 2] }, tb := { src := [0, 0, 0, 0, 0, 1, 0, 0, 0, 0, 0, 0, 0], keeper := .unqualified }, can := { joined := true }, dict := { sesCan := { isOpen := true } }, nv := { jrnl := some { target := .saved 0x101003 [1], seq := 0, off := 0, crc := 0, units := 0, payload := 1, done := false } } }, by decide +kernel⟩

theorem wit_BootLoadsAndVerifies_5 : ∃  (s : State),
    s.pw.dev ≠ .off ∧ s.pw.dev = .boot ∧ s.mg.bootRom = false ∧ s.mg.bankTried = false ∧ s.pw.rebooting = false ∧
    s.objN 0x2E00 4 ≠ 3 :=
  ⟨{ pw := { dev := .boot, doms := [2, 2, 2, 2, 2, 2, 2, 2, 2, 2, 2, 2, 2, 2, 2, 2] }, tb := { src := [0, 0, 0, 0, 0, 1, 0, 0, 0, 0, 0, 0, 0], keeper := .unqualified }, can := { joined := true }, dict := { sesCan := { isOpen := true } }, objs := [(0x2E0004, [2])] }, by decide +kernel⟩

theorem wit_BootLoadsAndVerifies_6 : ∃  (s : State),
    s.pw.dev ≠ .off ∧ s.pw.dev = .boot ∧ s.mg.bootRom = false ∧ s.mg.bankTried = false ∧
    (s.pw.rebooting = true ∨ s.objN 0x2E00 4 = 3) :=
  ⟨{ pw := { dev := .boot, doms := [2, 2, 2, 2, 2, 2, 2, 2, 2, 2, 2, 2, 2, 2, 2, 2] }, tb := { src := [0, 0, 0, 0, 0, 1, 0, 0, 0, 0, 0, 0, 0], keeper := .unqualified }, can := { joined := true }, dict := { sesCan := { isOpen := true } }, objs := [(0x2E0004, [3])] }, by decide +kernel⟩

theorem wit_BootLoadsAndVerifies_7 : ∃  (s : State),
    s.pw.dev ≠ .off ∧ s.pw.dev = .boot ∧ s.mg.bootRom = false ∧ s.mg.bankTried = true :=
  ⟨{ pw := { dev := .boot, doms := [2, 2, 2, 2, 2, 2, 2, 2, 2, 2, 2, 2, 2, 2, 2, 2] }, tb := { src := [0, 0, 0, 0, 0, 1, 0, 0, 0, 0, 0, 0, 0], keeper := .unqualified }, can := { joined := true }, dict := { sesCan := { isOpen := true } }, mg := { bankTried := true } }, by decide +kernel⟩

theorem wit_BootLoadsAndVerifies_8 : ∃  (s : State),
    s.pw.dev ≠ .off ∧ s.pw.dev = .boot ∧ s.mg.bootRom = false ∧ s.mg.bankTried = false ∧
    s.nv.rollFw ≤ leField (nth s.nv.banks (1 - s.nv.bank) []) 5 1 :=
  ⟨{ pw := { dev := .boot, doms := [2, 2, 2, 2, 2, 2, 2, 2, 2, 2, 2, 2, 2, 2, 2, 2] }, tb := { src := [0, 0, 0, 0, 0, 1, 0, 0, 0, 0, 0, 0, 0], keeper := .unqualified }, can := { joined := true }, dict := { sesCan := { isOpen := true } } }, by decide +kernel⟩

theorem wit_BootLoadsAndVerifies_9 : ∃  (s : State),
    s.pw.dev ≠ .off ∧ s.pw.dev = .boot ∧ s.mg.bootRom = false ∧
    (s.mg.bankTried = true ∨ leField (nth s.nv.banks (1 - s.nv.bank) []) 5 1 < s.nv.rollFw) :=
  ⟨{ pw := { dev := .boot, doms := [2, 2, 2, 2, 2, 2, 2, 2, 2, 2, 2, 2, 2, 2, 2, 2] }, tb := { src := [0, 0, 0, 0, 0, 1, 0, 0, 0, 0, 0, 0, 0], keeper := .unqualified }, can := { joined := true }, dict := { sesCan := { isOpen := true } }, mg := { bankTried := true } }, by decide +kernel⟩

theorem wit_BootLoadsAndVerifies_10 : ∃  (s : State),
    s.pw.dev ≠ .off ∧ s.pw.dev ≠ .boot ∧ s.mg.restarting = true ∧ s.mg.bootRom = false ∧ s.mg.bankTried = false :=
  ⟨{ pw := { dev := .quiet, doms := [2, 2, 2, 2, 2, 2, 2, 2, 2, 2, 2, 2, 2, 2, 2, 2] }, tb := { src := [0, 0, 0, 0, 0, 1, 0, 0, 0, 0, 0, 0, 0], keeper := .unqualified }, can := { joined := true }, dict := { sesCan := { isOpen := true } }, mg := { restarting := true, haltMgmt := true } }, by decide +kernel⟩

theorem wit_BootLoadsAndVerifies_11 : ∃  (s : State),
    s.pw.dev ≠ .off ∧ (s.mg.bootRom = true ∨ s.pw.dev ≠ .boot ∧ s.mg.restarting = false) :=
  ⟨{ pw := { dev := .quiet, doms := [2, 2, 2, 2, 2, 2, 2, 2, 2, 2, 2, 2, 2, 2, 2, 2] }, tb := { src := [0, 0, 0, 0, 0, 1, 0, 0, 0, 0, 0, 0, 0], keeper := .unqualified }, can := { joined := true }, dict := { sesCan := { isOpen := true } } }, by decide +kernel⟩

theorem wit_LowStatesAreEntered_1 : ∃ (p : Path) (s : State),
    s.pw.dev ≠ .off ∧ takes s p 0x2E00 1 [2] = true ∧ s.pw.seq = .idle ∧ s.pw.dev ≠ .quiet :=
  ⟨.can, { pw := { dev := .ready, doms := [2, 2, 2, 2, 2, 2, 2, 2, 2, 2, 2, 2, 2, 2, 2, 2] }, tb := { src := [0, 0, 0, 0, 0, 1, 0, 0, 0, 0, 0, 0, 0], keeper := .unqualified }, can := { joined := true }, dict := { sesCan := { isOpen := true } } }, by decide +kernel⟩

theorem wit_LowStatesAreEntered_2 : ∃ (p : Path) (s : State),
    s.pw.dev ≠ .off ∧ takes s p 0x2E00 1 [2] = true ∧ (s.pw.seq ≠ .idle ∨ s.pw.dev = .quiet) :=
  ⟨.can, { pw := { dev := .quiet, doms := [2, 2, 2, 2, 2, 2, 2, 2, 2, 2, 2, 2, 2, 2, 2, 2] }, tb := { src := [0, 0, 0, 0, 0, 1, 0, 0, 0, 0, 0, 0, 0], keeper := .unqualified }, can := { joined := true }, dict := { sesCan := { isOpen := true } } }, by decide +kernel⟩

theorem wit_LowStatesAreEntered_3 : ∃ (p : Path) (s : State),
    s.pw.dev ≠ .off ∧ takes s p 0x2E00 1 [1] = true ∧ s.pw.seq = .idle ∧ s.objN 0x2E00 2 % 8 ≠ 0 :=
  ⟨.can, { pw := { dev := .ready, doms := [2, 2, 2, 2, 2, 2, 2, 2, 2, 2, 2, 2, 2, 2, 2, 2] }, tb := { src := [0, 0, 0, 0, 0, 1, 0, 0, 0, 0, 0, 0, 0], keeper := .unqualified }, can := { joined := true }, dict := { sesCan := { isOpen := true } }, objs := [(0x2E0002, [1])] }, by decide +kernel⟩

theorem wit_LowStatesAreEntered_4 : ∃ (p : Path) (s : State),
    s.pw.dev ≠ .off ∧ takes s p 0x2E00 1 [1] = true ∧ s.pw.seq = .idle ∧ s.objN 0x2E00 2 % 8 = 0 :=
  ⟨.can, { pw := { dev := .ready, doms := [2, 2, 2, 2, 2, 2, 2, 2, 2, 2, 2, 2, 2, 2, 2, 2] }, tb := { src := [0, 0, 0, 0, 0, 1, 0, 0, 0, 0, 0, 0, 0], keeper := .unqualified }, can := { joined := true }, dict := { sesCan := { isOpen := true } }, objs := [(0x2E0002, [8])] }, by decide +kernel⟩

theorem wit_LowStatesAreEntered_5 : ∃ (b : PrepBlock) (s : State),
    s.pw.dev ≠ .off ∧ s.pw.seq = .preparing ∧ answerWaits s = false ∧ (prepList s).contains b = true ∧
    prepared s b = false ∧ refusal s b = 0 ∧ (∃ x ∈ prepList s, x ≠ b ∧ prepared s x = false) :=
  ⟨.dictServer, { pw := { dev := .ready, doms := [2, 2, 2, 2, 2, 2, 2, 2, 2, 2, 2, 2, 2, 2, 2, 2], seq := .preparing, target := .quiet }, tb := { src := [0, 0, 0, 0, 0, 1, 0, 0, 0, 0, 0, 0, 0], keeper := .unqualified }, can := { joined := true }, dict := { sesCan := { isOpen := true } } }, by decide +kernel⟩

theorem wit_LowStatesAreEntered_6 : ∃ (b : PrepBlock) (s : State),
    s.pw.dev ≠ .off ∧ s.pw.seq = .preparing ∧ answerWaits s = false ∧ (prepList s).contains b = true ∧
    prepared s b = false ∧ refusal s b ≠ 0 ∧ s.pw.repeats ≠ 3 :=
  ⟨.block 14, { pw := { dev := .ready, doms := [2, 2, 2, 2, 2, 2, 2, 2, 2, 2, 2, 2, 2, 2, 2, 2], seq := .preparing, target := .quiet }, tb := { src := [0, 0, 0, 0, 0, 1, 0, 0, 0, 0, 0, 0, 0], keeper := .unqualified }, can := { joined := true }, dict := { sesCan := { isOpen := true } }, saf := { discStep := 2 } }, by decide +kernel⟩

theorem wit_LowStatesAreEntered_7 : ∃ (b : PrepBlock) (s : State),
    s.pw.dev ≠ .off ∧ s.pw.seq = .preparing ∧ answerWaits s = false ∧ (prepList s).contains b = true ∧
    prepared s b = false ∧ refusal s b ≠ 0 ∧ s.pw.repeats = 3 :=
  ⟨.block 14, { pw := { dev := .ready, doms := [2, 2, 2, 2, 2, 2, 2, 2, 2, 2, 2, 2, 2, 2, 2, 2], seq := .preparing, target := .quiet, repeats := 3 }, tb := { src := [0, 0, 0, 0, 0, 1, 0, 0, 0, 0, 0, 0, 0], keeper := .unqualified }, can := { joined := true }, dict := { sesCan := { isOpen := true } }, saf := { discStep := 2 } }, by decide +kernel⟩

theorem wit_LowStatesAreEntered_8 : ∃ (b : PrepBlock) (s : State),
    s.pw.dev ≠ .off ∧ s.pw.seq = .preparing ∧ answerWaits s = false ∧ (prepList s).contains b = true ∧
    prepared s b = false ∧ refusal s b = 0 ∧ (∀ x ∈ prepList s, x = b ∨ prepared s x = true) ∧ s.pw.ei2Seen ≠ 4 ∧
    s.pw.doms.length = 16 :=
  ⟨.updatePath, { pw := { dev := .quiet, doms := [2, 2, 2, 2, 2, 2, 2, 2, 2, 2, 2, 2, 2, 2, 2, 2], seq := .preparing, target := .quiet, answered := [.dictServer, .block 14] }, tb := { src := [0, 0, 0, 0, 0, 1, 0, 0, 0, 0, 0, 0, 0], keeper := .unqualified }, can := { joined := true }, dict := { sesCan := { isOpen := true } } }, by decide +kernel⟩

theorem wit_LowStatesAreEntered_9 : ∃ (b : PrepBlock) (s : State),
    s.pw.dev ≠ .off ∧ s.pw.seq = .preparing ∧ answerWaits s = false ∧ (prepList s).contains b = true ∧
    prepared s b = false ∧ refusal s b = 0 ∧ (∀ x ∈ prepList s, x = b ∨ prepared s x = true) ∧ s.pw.ei2Seen = 4 ∧
    s.pw.target = .quiet ∧ s.pw.wakeLatch = 0 :=
  ⟨.updatePath, { pw := { dev := .quiet, doms := [2, 2, 2, 2, 2, 2, 2, 2, 2, 2, 2, 2, 2, 2, 2, 2], seq := .preparing, target := .quiet, ei2Seen := 4, answered := [.dictServer, .block 14] }, tb := { src := [0, 0, 0, 0, 0, 1, 0, 0, 0, 0, 0, 0, 0], keeper := .unqualified }, can := { joined := true }, dict := { sesCan := { isOpen := true } } }, by decide +kernel⟩

theorem wit_LowStatesAreEntered_10 : ∃ (t : Nat) (s : State),
    s.pw.dev ≠ .off ∧ s.pw.seq = .retryWait ∧ spanOver (s.advance t) s.pw.refusedAt 10000000000 = true :=
  ⟨10000000000, { pw := { dev := .quiet, doms := [2, 2, 2, 2, 2, 2, 2, 2, 2, 2, 2, 2, 2, 2, 2, 2], seq := .retryWait, repeats := 2 }, tb := { src := [0, 0, 0, 0, 0, 1, 0, 0, 0, 0, 0, 0, 0], keeper := .unqualified }, can := { joined := true }, dict := { sesCan := { isOpen := true } } }, by decide +kernel⟩

theorem wit_LowStatesAreEntered_11 : ∃ (t : Nat) (s : State),
    s.pw.dev ≠ .off ∧ (s.pw.seq ≠ .retryWait ∨ spanOver (s.advance t) s.pw.refusedAt 10000000000 = false) :=
  ⟨5, { pw := { dev := .quiet, doms := [2, 2, 2, 2, 2, 2, 2, 2, 2, 2, 2, 2, 2, 2, 2, 2], seq := .retryWait, repeats := 2 }, tb := { src := [0, 0, 0, 0, 0, 1, 0, 0, 0, 0, 0, 0, 0], keeper := .unqualified }, can := { joined := true }, dict := { sesCan := { isOpen := true } } }, by decide +kernel⟩

theorem wit_LowStatesAreEntered_12 : ∃ (t : Nat) (s : State),
    s.pw.dev ≠ .off ∧ s.pw.seq = .committing ∧ spanOver (s.advance t) s.pw.committedAt 1000000000 = true ∧
    s.pw.target = .quiet ∧ s.pw.wakeLatch = 0 ∧ s.pw.doms.length = 16 :=
  ⟨1000000000, { pw := { dev := .ready, doms := [2, 2, 2, 2, 2, 2, 2, 2, 2, 2, 2, 2, 2, 2, 2, 2], seq := .committing, target := .quiet }, tb := { src := [0, 0, 0, 0, 0, 1, 0, 0, 0, 0, 0, 0, 0], keeper := .unqualified }, can := { joined := true }, dict := { sesCan := { isOpen := true } }, lane := { st := .fl0, adapted := true } }, by decide +kernel⟩

theorem wit_LowStatesAreEntered_13 : ∃ (t : Nat) (s : State),
    s.pw.dev ≠ .off ∧ s.pw.seq = .committing ∧ spanOver (s.advance t) s.pw.committedAt 1000000000 = true ∧
    s.pw.target = .standby ∧ s.pw.wakeLatch = 0 :=
  ⟨1000000000, { pw := { dev := .ready, doms := [2, 2, 2, 2, 2, 2, 2, 2, 2, 2, 2, 2, 2, 2, 2, 2], seq := .committing, target := .standby }, tb := { src := [0, 0, 0, 0, 0, 1, 0, 0, 0, 0, 0, 0, 0], keeper := .unqualified }, can := { joined := true }, dict := { sesCan := { isOpen := true } }, lane := { st := .fl0, adapted := true } }, by decide +kernel⟩

theorem wit_LowStatesAreEntered_14 : ∃ (t : Nat) (s : State),
    s.pw.dev ≠ .off ∧ s.pw.seq = .committing ∧ spanOver (s.advance t) s.pw.committedAt 1000000000 = true ∧
    s.pw.target = .quiet ∧ s.pw.wakeLatch ≠ 0 :=
  ⟨1000000000, { pw := { dev := .ready, doms := [2, 2, 2, 2, 2, 2, 2, 2, 2, 2, 2, 2, 2, 2, 2, 2], seq := .committing, target := .quiet, wakeLatch := 4 }, tb := { src := [0, 0, 0, 0, 0, 1, 0, 0, 0, 0, 0, 0, 0], keeper := .unqualified }, can := { joined := true }, dict := { sesCan := { isOpen := true } }, lane := { st := .fl0, adapted := true } }, by decide +kernel⟩

theorem wit_LowStatesAreEntered_15 : ∃ (t : Nat) (s : State),
    s.pw.dev ≠ .off ∧ (s.pw.seq ≠ .committing ∨ spanOver (s.advance t) s.pw.committedAt 1000000000 = false) :=
  ⟨5, { pw := { dev := .ready, doms := [2, 2, 2, 2, 2, 2, 2, 2, 2, 2, 2, 2, 2, 2, 2, 2], seq := .committing, target := .quiet }, tb := { src := [0, 0, 0, 0, 0, 1, 0, 0, 0, 0, 0, 0, 0], keeper := .unqualified }, can := { joined := true }, dict := { sesCan := { isOpen := true } } }, by decide +kernel⟩

theorem wit_LowStatesAreEntered_16 : ∃ (n : Nat) (blks : List (List Byte)) (s : State),
    s.pw.dev ≠ .off ∧ s.lane.st = .fl0 ∧ plainOk 4 blks s = true ∧ slotBlk blks s ≠ [] ∧ 4 ≤ s.lane.ei2Run + n ∧
    (s.pw.seq = .idle ∨ s.pw.seq = .exiting) :=
  ⟨4, [blkPlain 4 0], { pw := { dev := .quiet, doms := [2, 2, 2, 2, 2, 2, 2, 2, 2, 2, 2, 2, 2, 2, 2, 2] }, tb := { src := [0, 0, 0, 0, 0, 1, 0, 0, 0, 0, 0, 0, 0], keeper := .unqualified }, can := { joined := true }, dict := { sesCan := { isOpen := true } }, lane := { st := .fl0, adapted := true } }, by decide +kernel⟩

theorem wit_LowStatesAreEntered_17 : ∃ (n : Nat) (blks : List (List Byte)) (s : State),
    s.pw.dev ≠ .off ∧ s.lane.st = .fl0 ∧ plainOk 4 blks s = true ∧ slotBlk blks s ≠ [] ∧ 4 ≤ s.lane.ei2Run + n ∧
    (s.pw.seq = .preparing ∨ s.pw.seq = .retryWait) :=
  ⟨4, [blkPlain 4 0], { pw := { dev := .quiet, doms := [2, 2, 2, 2, 2, 2, 2, 2, 2, 2, 2, 2, 2, 2, 2, 2], seq := .preparing, target := .quiet }, tb := { src := [0, 0, 0, 0, 0, 1, 0, 0, 0, 0, 0, 0, 0], keeper := .unqualified }, can := { joined := true }, dict := { sesCan := { isOpen := true } }, lane := { st := .fl0, lanes := 1, adapted := true } }, by decide +kernel⟩

theorem wit_LowStatesAreEntered_18 : ∃ (n : Nat) (blks : List (List Byte)) (s : State),
    s.pw.dev ≠ .off ∧ s.lane.st = .fl0 ∧ plainOk 4 blks s = true ∧ slotBlk blks s ≠ [] ∧ 4 ≤ s.lane.ei2Run + n ∧
    s.pw.seq = .committing ∧ s.pw.target = .quiet ∧ s.pw.wakeLatch = 0 :=
  ⟨4, [blkPlain 4 0], { pw := { dev := .ready, doms := [2, 2, 2, 2, 2, 2, 2, 2, 2, 2, 2, 2, 2, 2, 2, 2], seq := .committing, target := .quiet }, tb := { src := [0, 0, 0, 0, 0, 1, 0, 0, 0, 0, 0, 0, 0], keeper := .unqualified }, can := { joined := true }, dict := { sesCan := { isOpen := true } }, lane := { st := .fl0, adapted := true } }, by decide +kernel⟩

theorem wit_LowStatesAreEntered_19 : ∃ (n : Nat) (blks : List (List Byte)) (s : State),
    s.pw.dev ≠ .off ∧ s.lane.st = .fl0 ∧ plainOk 4 blks s = true ∧ slotBlk blks s ≠ [] ∧ s.lane.ei2Run + n < 4 :=
  ⟨3, [blkPlain 4 0], { pw := { dev := .quiet, doms := [2, 2, 2, 2, 2, 2, 2, 2, 2, 2, 2, 2, 2, 2, 2, 2] }, tb := { src := [0, 0, 0, 0, 0, 1, 0, 0, 0, 0, 0, 0, 0], keeper := .unqualified }, can := { joined := true }, dict := { sesCan := { isOpen := true } }, lane := { st := .fl0, adapted := true } }, by decide +kernel⟩

theorem wit_ReadyAndLitAreEntered_1 : ∃ (p : Path) (s : State),
    s.pw.dev ≠ .off ∧ takes s p 0x2E00 1 [4] = true ∧ s.pw.seq = .idle ∧ s.pw.dev = .ready ∧ causeOn s 0xB5 = false :=
  ⟨.can, { pw := { dev := .ready, doms := [2, 2, 2, 2, 2, 2, 2, 2, 2, 2, 2, 2, 2, 2, 2, 2] }, tb := { src := [0, 0, 0, 0, 0, 1, 0, 0, 0, 0, 0, 0, 0], keeper := .unqualified }, can := { joined := true }, dict := { sesCan := { isOpen := true } } }, by decide +kernel⟩

theorem wit_ReadyAndLitAreEntered_2 : ∃ (p : Path) (vccOk : Bool) (s : State),
    s.pw.dev ≠ .off ∧ takes s p 0x2E00 1 [4] = true ∧
    (s.pw.seq ≠ .idle ∨ s.pw.dev ≠ .ready ∨ vccOk = false ∨ causeOn s 0xB5 = true) :=
  ⟨.can, false, { pw := { dev := .ready, doms := [2, 2, 2, 2, 2, 2, 2, 2, 2, 2, 2, 2, 2, 2, 2, 2] }, tb := { src := [0, 0, 0, 0, 0, 1, 0, 0, 0, 0, 0, 0, 0], keeper := .unqualified }, can := { joined := true }, dict := { sesCan := { isOpen := true } } }, by decide +kernel⟩

theorem wit_ReadyAndLitAreEntered_3 : ∃ (p : Path) (s : State),
    s.pw.dev ≠ .off ∧ takes s p 0x2E00 1 [3] = true ∧ s.pw.seq = .idle ∧ s.pw.dev = .lit :=
  ⟨.can, { pw := { dev := .lit, doms := [2, 2, 2, 2, 2, 2, 2, 2, 2, 2, 2, 2, 2, 2, 2, 2] }, tb := { src := [0, 0, 0, 0, 0, 1, 0, 0, 0, 0, 0, 0, 0], keeper := .unqualified }, can := { joined := true }, dict := { sesCan := { isOpen := true } }, saf := { state := .hold, holdN := true, holdS := true, discEn := true } }, by decide +kernel⟩

theorem wit_ReadyAndLitAreEntered_4 : ∃ (p : Path) (s : State),
    s.pw.dev ≠ .off ∧ takes s p 0x2E00 1 [3] = true ∧ s.pw.seq = .idle ∧ s.pw.dev = .quiet :=
  ⟨.can, { pw := { dev := .quiet, doms := [2, 2, 2, 2, 2, 2, 2, 2, 2, 2, 2, 2, 2, 2, 2, 2] }, tb := { src := [0, 0, 0, 0, 0, 1, 0, 0, 0, 0, 0, 0, 0], keeper := .unqualified }, can := { joined := true }, dict := { sesCan := { isOpen := true } } }, by decide +kernel⟩

theorem wit_ReadyAndLitAreEntered_5 : ∃ (p : Path) (vccOk : Bool) (s : State),
    s.pw.dev ≠ .off ∧ takes s p 0x2E00 1 [3] = true ∧ (s.pw.seq ≠ .idle ∨ s.pw.dev = .ready ∨ s.pw.dev = .lit ∧
    vccOk = false) :=
  ⟨.can, true, { pw := { dev := .ready, doms := [2, 2, 2, 2, 2, 2, 2, 2, 2, 2, 2, 2, 2, 2, 2, 2] }, tb := { src := [0, 0, 0, 0, 0, 1, 0, 0, 0, 0, 0, 0, 0], keeper := .unqualified }, can := { joined := true }, dict := { sesCan := { isOpen := true } } }, by decide +kernel⟩

theorem wit_ReadyAndLitAreEntered_6 : ∃  (s : State),
    s.pw.dev ≠ .off ∧ s.pw.pendingReady = true :=
  ⟨{ pw := { dev := .quiet, doms := [2, 2, 2, 2, 2, 2, 2, 2, 2, 2, 2, 2, 2, 2, 2, 2], pendingReady := true, seq := .exiting }, tb := { src := [0, 0, 0, 0, 0, 1, 0, 0, 0, 0, 0, 0, 0], keeper := .unqualified }, can := { joined := true }, dict := { sesCan := { isOpen := true } } }, by decide +kernel⟩

theorem wit_ReadyAndLitAreEntered_7 : ∃  (s : State),
    s.pw.dev ≠ .off ∧ s.pw.pendingReady = false :=
  ⟨{ pw := { dev := .quiet, doms := [2, 2, 2, 2, 2, 2, 2, 2, 2, 2, 2, 2, 2, 2, 2, 2] }, tb := { src := [0, 0, 0, 0, 0, 1, 0, 0, 0, 0, 0, 0, 0], keeper := .unqualified }, can := { joined := true }, dict := { sesCan := { isOpen := true } } }, by decide +kernel⟩

theorem wit_ReadyAndLitAreEntered_8 : ∃ (b : Nat) (w : Wake) (s : State),
    s.pw.dev ≠ .off ∧ wakeBit s w = some b ∧ s.pw.seq = .idle ∧ s.pw.dev = .quiet :=
  ⟨2, .len, { pw := { dev := .quiet, doms := [2, 2, 2, 2, 2, 2, 2, 2, 2, 2, 2, 2, 2, 2, 2, 2] }, tb := { src := [0, 0, 0, 0, 0, 1, 0, 0, 0, 0, 0, 0, 0], keeper := .unqualified }, can := { joined := true }, dict := { sesCan := { isOpen := true } }, objs := [(0x2E0002, [4])] }, by decide +kernel⟩

theorem wit_ReadyAndLitAreEntered_9 : ∃ (b : Nat) (w : Wake) (s : State),
    s.pw.dev ≠ .off ∧ wakeBit s w = some b ∧ s.pw.seq = .idle ∧ s.pw.dev = .standby :=
  ⟨2, .len, { pw := { dev := .standby, doms := [2, 2, 2, 2, 2, 2, 2, 2, 2, 2, 2, 2, 2, 2, 2, 2] }, tb := { src := [0, 0, 0, 0, 0, 1, 0, 0, 0, 0, 0, 0, 0], keeper := .unqualified }, can := { joined := true }, dict := { sesCan := { isOpen := true } }, objs := [(0x2E0002, [4])] }, by decide +kernel⟩

theorem wit_ReadyAndLitAreEntered_10 : ∃ (b : Nat) (w : Wake) (s : State),
    s.pw.dev ≠ .off ∧ wakeBit s w = some b ∧ (s.pw.seq = .preparing ∨ s.pw.seq = .retryWait ∨ s.pw.seq = .committing) :=
  ⟨2, .len, { pw := { dev := .quiet, doms := [2, 2, 2, 2, 2, 2, 2, 2, 2, 2, 2, 2, 2, 2, 2, 2], seq := .committing, wakeArmed := true, target := .quiet }, tb := { src := [0, 0, 0, 0, 0, 1, 0, 0, 0, 0, 0, 0, 0], keeper := .unqualified }, can := { joined := true }, dict := { sesCan := { isOpen := true } }, objs := [(0x2E0002, [4])] }, by decide +kernel⟩

theorem wit_ReadyAndLitAreEntered_11 : ∃ (w : Wake) (s : State),
    s.pw.dev ≠ .off ∧ wakeBit s w = none :=
  ⟨.len, { pw := { dev := .quiet, doms := [2, 2, 2, 2, 2, 2, 2, 2, 2, 2, 2, 2, 2, 2, 2, 2] }, tb := { src := [0, 0, 0, 0, 0, 1, 0, 0, 0, 0, 0, 0, 0], keeper := .unqualified }, can := { joined := true }, dict := { sesCan := { isOpen := true } }, objs := [(0x2E0002, [8])] }, by decide +kernel⟩

theorem wit_ReadyAndLitAreEntered_12 : ∃ (b : Nat) (w : Wake) (s : State),
    s.pw.dev ≠ .off ∧ wakeBit s w = some b ∧ s.pw.seq = .idle ∧ (s.pw.dev = .ready ∨ s.pw.dev = .lit) :=
  ⟨2, .len, { pw := { dev := .ready, doms := [2, 2, 2, 2, 2, 2, 2, 2, 2, 2, 2, 2, 2, 2, 2, 2] }, tb := { src := [0, 0, 0, 0, 0, 1, 0, 0, 0, 0, 0, 0, 0], keeper := .unqualified }, can := { joined := true }, dict := { sesCan := { isOpen := true } }, objs := [(0x2E0002, [4])] }, by decide +kernel⟩

theorem wit_ReadyAndLitAreEntered_13 : ∃ (t : Nat) (b : Nat) (p : Path) (s : State),
    s.pw.dev ≠ .off ∧ takes s p 0x2E00 1 [2] = true ∧ s.pw.seq = .idle ∧ s.pw.dev ≠ .quiet ∧ s.pw.recent = [.len] ∧
    tickOf s.pw.recentAt = tickOf (s.advance t).now ∧ bitOf (s.objN 0x2E00 2) 2 = true ∧ b = 4 :=
  ⟨5, 4, .can, { pw := { dev := .ready, doms := [2, 2, 2, 2, 2, 2, 2, 2, 2, 2, 2, 2, 2, 2, 2, 2], recent := [.len], recentAt := 0 }, tb := { src := [0, 0, 0, 0, 0, 1, 0, 0, 0, 0, 0, 0, 0], keeper := .unqualified }, can := { joined := true }, dict := { sesCan := { isOpen := true } }, objs := [(0x2E0002, [4])] }, by decide +kernel⟩

theorem wit_ReadyAndLitAreEntered_14 : ∃  (s : State),
    s.pw.dev ≠ .off ∧ s.pw.exiting = true ∧ s.pw.dev = .quiet ∧ s.pw.vccOk = true :=
  ⟨{ pw := { dev := .quiet, doms := [2, 2, 2, 2, 2, 2, 2, 2, 2, 2, 2, 2, 2, 2, 2, 2], exiting := true, vccOk := true }, tb := { src := [0, 0, 0, 0, 0, 1, 0, 0, 0, 0, 0, 0, 0], keeper := .unqualified }, can := { joined := true }, dict := { sesCan := { isOpen := true } }, th := { n := 7 }, surf := { mem := [(3, 4)] } }, by decide +kernel⟩

theorem wit_ReadyAndLitAreEntered_15 : ∃  (s : State),
    s.pw.dev ≠ .off ∧ (s.pw.exiting = false ∨ s.pw.dev ≠ .quiet) :=
  ⟨{ pw := { dev := .quiet, doms := [2, 2, 2, 2, 2, 2, 2, 2, 2, 2, 2, 2, 2, 2, 2, 2] }, tb := { src := [0, 0, 0, 0, 0, 1, 0, 0, 0, 0, 0, 0, 0], keeper := .unqualified }, can := { joined := true }, dict := { sesCan := { isOpen := true } } }, by decide +kernel⟩

theorem wit_ReadyAndLitAreEntered_16 : ∃  (s : State),
    s.pw.dev ≠ .off ∧ s.pw.exiting = true ∧ s.pw.dev = .quiet ∧ s.pw.vccOk = false :=
  ⟨{ pw := { dev := .quiet, doms := [2, 2, 2, 2, 2, 2, 2, 2, 2, 2, 2, 2, 2, 2, 2, 2], exiting := true }, tb := { src := [0, 0, 0, 0, 0, 1, 0, 0, 0, 0, 0, 0, 0], keeper := .unqualified }, can := { joined := true }, dict := { sesCan := { isOpen := true } } }, by decide +kernel⟩

theorem wit_InterruptsAndTimers_1 : ∃ (i : Nat) (c : CoreId) (cfg : Option IrqCfg) (s : State),
    s.pw.dev ≠ .off ∧ claimWinner (irqOf s c) cfg (prepared s (if c = .helm then .irqHelm else .irqPurser)) = some i :=
  ⟨37, .helm, none, { pw := { dev := .ready, doms := [2, 2, 2, 2, 2, 2, 2, 2, 2, 2, 2, 2, 2, 2, 2, 2] }, tb := { src := [0, 0, 0, 0, 0, 1, 0, 0, 0, 0, 0, 0, 0], keeper := .unqualified }, can := { joined := true }, dict := { sesCan := { isOpen := true } }, mg := { irqH := { pend := bmSet 0 37, en := bmSet 0 37, prio := [(37, 3)] } } }, by decide +kernel⟩

theorem wit_InterruptsAndTimers_2 : ∃ (c : CoreId) (cfg : Option IrqCfg) (s : State),
    s.pw.dev ≠ .off ∧ claimWinner (irqOf s c) cfg (prepared s (if c = .helm then .irqHelm else .irqPurser)) = none :=
  ⟨.purser, none, { pw := { dev := .ready, doms := [2, 2, 2, 2, 2, 2, 2, 2, 2, 2, 2, 2, 2, 2, 2, 2] }, tb := { src := [0, 0, 0, 0, 0, 1, 0, 0, 0, 0, 0, 0, 0], keeper := .unqualified }, can := { joined := true }, dict := { sesCan := { isOpen := true } }, mg := { irqH := { pend := bmSet 0 37, en := bmSet 0 37, prio := [(37, 3)] } } }, by decide +kernel⟩

theorem wit_InterruptsAndTimers_3 : ∃ (i : Nat) (c : CoreId) (g : IrqCfg) (s : State),
    s.pw.dev ≠ .off ∧ g.en = 0 ∧ g.before = false ∧
    irqWinner (irqOf s c) (prepared s (if c = .helm then .irqHelm else .irqPurser)) = some i :=
  ⟨37, .helm, { prio := [(37, 3)], en := 0, thr := 0, mod := [], before := false }, { pw := { dev := .ready, doms := [2, 2, 2, 2, 2, 2, 2, 2, 2, 2, 2, 2, 2, 2, 2, 2] }, tb := { src := [0, 0, 0, 0, 0, 1, 0, 0, 0, 0, 0, 0, 0], keeper := .unqualified }, can := { joined := true }, dict := { sesCan := { isOpen := true } }, mg := { irqH := { pend := bmSet 0 37, en := bmSet 0 37, prio := [(37, 3)] } } }, by decide +kernel⟩

theorem wit_InterruptsAndTimers_4 : ∃ (g : IrqCfg) (s : State),
    s.pw.dev ≠ .off ∧ g.en = 0 ∧ g.before = true :=
  ⟨{ prio := [(37, 3)], en := 0, thr := 0, mod := [], before := true }, { pw := { dev := .ready, doms := [2, 2, 2, 2, 2, 2, 2, 2, 2, 2, 2, 2, 2, 2, 2, 2] }, tb := { src := [0, 0, 0, 0, 0, 1, 0, 0, 0, 0, 0, 0, 0], keeper := .unqualified }, can := { joined := true }, dict := { sesCan := { isOpen := true } }, mg := { irqH := { pend := bmSet 0 37, en := bmSet 0 37, prio := [(37, 3)] } } }, by decide +kernel⟩

theorem wit_InterruptsAndTimers_5 : ∃ (c : CoreId) (id : Fin 256) (s : State),
    s.pw.dev ≠ .off ∧ bmGet (irqOf s c).svc id.val = true :=
  ⟨.helm, 37, { pw := { dev := .ready, doms := [2, 2, 2, 2, 2, 2, 2, 2, 2, 2, 2, 2, 2, 2, 2, 2] }, tb := { src := [0, 0, 0, 0, 0, 1, 0, 0, 0, 0, 0, 0, 0], keeper := .unqualified }, can := { joined := true }, dict := { sesCan := { isOpen := true } }, mg := { irqH := { svc := bmSet 0 37, again := bmSet 0 37 } } }, by decide +kernel⟩

theorem wit_InterruptsAndTimers_6 : ∃ (c : CoreId) (id : Fin 256) (s : State),
    s.pw.dev ≠ .off ∧ bmGet (irqOf s c).svc id.val = false :=
  ⟨.helm, 37, { pw := { dev := .ready, doms := [2, 2, 2, 2, 2, 2, 2, 2, 2, 2, 2, 2, 2, 2, 2, 2] }, tb := { src := [0, 0, 0, 0, 0, 1, 0, 0, 0, 0, 0, 0, 0], keeper := .unqualified }, can := { joined := true }, dict := { sesCan := { isOpen := true } }, mg := {  } }, by decide +kernel⟩

theorem wit_InterruptsAndTimers_7 : ∃ (t : Nat) (c : CoreId) (id : Fin 256) (s : State),
    s.pw.dev ≠ .off ∧ holdoffOver (s.advance t) c id.val = true ∧ bmGet (irqOf s c).svc id.val = false :=
  ⟨5, .purser, 60, { pw := { dev := .ready, doms := [2, 2, 2, 2, 2, 2, 2, 2, 2, 2, 2, 2, 2, 2, 2, 2] }, tb := { src := [0, 0, 0, 0, 0, 1, 0, 0, 0, 0, 0, 0, 0], keeper := .unqualified }, can := { joined := true }, dict := { sesCan := { isOpen := true } }, mg := { irqP := { acc := [(60, 2, 1)] } }, objs := [(0x2E1B02, [255])] }, by decide +kernel⟩

theorem wit_InterruptsAndTimers_8 : ∃ (t : Nat) (c : CoreId) (id : Fin 256) (s : State),
    s.pw.dev ≠ .off ∧ holdoffOver (s.advance t) c id.val = false :=
  ⟨5, .purser, 60, { pw := { dev := .ready, doms := [2, 2, 2, 2, 2, 2, 2, 2, 2, 2, 2, 2, 2, 2, 2, 2] }, tb := { src := [0, 0, 0, 0, 0, 1, 0, 0, 0, 0, 0, 0, 0], keeper := .unqualified }, can := { joined := true }, dict := { sesCan := { isOpen := true } }, mg := {  } }, by decide +kernel⟩

theorem wit_InterruptsAndTimers_9 : ∃ (t : Nat) (c : CoreId) (s : State),
    s.pw.dev ≠ .off ∧ running s = true ∧ s.mg.haltMgmt = false ∧ (c = .purser →
    purserLate (s.advance t) 80000000000 = true) :=
  ⟨80000000000, .purser, { pw := { dev := .ready, doms := [2, 2, 2, 2, 2, 2, 2, 2, 2, 2, 2, 2, 2, 2, 2, 2] }, tb := { src := [0, 0, 0, 0, 0, 1, 0, 0, 0, 0, 0, 0, 0], keeper := .unqualified }, can := { joined := true }, dict := { sesCan := { isOpen := true } }, mg := {  } }, by decide +kernel⟩

theorem wit_InterruptsAndTimers_10 : ∃  (s : State),
    s.pw.dev ≠ .off ∧ (running s = false ∨ s.mg.haltMgmt = true) :=
  ⟨{ pw := { dev := .ready, doms := [2, 2, 2, 2, 2, 2, 2, 2, 2, 2, 2, 2, 2, 2, 2, 2] }, tb := { src := [0, 0, 0, 0, 0, 1, 0, 0, 0, 0, 0, 0, 0], keeper := .unqualified }, can := { joined := true }, dict := { sesCan := { isOpen := true } }, mg := { haltMgmt := true } }, by decide +kernel⟩

theorem wit_InterruptsAndTimers_11 : ∃ (t : Nat) (c : CoreId) (k : Fin 4) (s : State),
    s.pw.dev ≠ .off ∧ k.val < (tmrs s c).length ∧ (nth (tmrs s c) k.val {}).enable = true ∧
    ticks s (10 + coreIdx c) 2 = true ∧
    ((nth (tmrs s c) k.val {}).periodic = false ∨ (nth (tmrs s c) k.val {}).period = 0) ∧
    ((nth (tmrs s c) k.val {}).sec * 1000000000 + (nth (tmrs s c) k.val {}).ns) ≤ (s.advance t).time.toNs :=
  ⟨5, .purser, 2, { pw := { dev := .ready, doms := [2, 2, 2, 2, 2, 2, 2, 2, 2, 2, 2, 2, 2, 2, 2, 2] }, tb := { src := [0, 0, 0, 0, 0, 1, 0, 0, 0, 0, 0, 0, 0], keeper := .unqualified }, can := { joined := true }, dict := { sesCan := { isOpen := true } }, mg := { tmrP := [{}, {}, { enable := true }, {}] } }, by decide +kernel⟩

theorem wit_InterruptsAndTimers_12 : ∃ (t : Nat) (c : CoreId) (k : Fin 4) (s : State),
    s.pw.dev ≠ .off ∧ k.val < (tmrs s c).length ∧ (nth (tmrs s c) k.val {}).enable = true ∧
    ticks s (10 + coreIdx c) 2 = true ∧ (nth (tmrs s c) k.val {}).periodic = true ∧
    0 < (nth (tmrs s c) k.val {}).period ∧
    ((nth (tmrs s c) k.val {}).sec * 1000000000 + (nth (tmrs s c) k.val {}).ns) ≤ (s.advance t).time.toNs ∧
    (s.advance t).time.toNs < ((nth (tmrs s c) k.val {}).sec * 1000000000 + (nth (tmrs s c) k.val {}).ns) + (nth (tmrs s c) k.val {}).period :=
  ⟨5, .helm, 1, { pw := { dev := .ready, doms := [2, 2, 2, 2, 2, 2, 2, 2, 2, 2, 2, 2, 2, 2, 2, 2] }, tb := { src := [0, 0, 0, 0, 0, 1, 0, 0, 0, 0, 0, 0, 0], keeper := .unqualified }, can := { joined := true }, dict := { sesCan := { isOpen := true } }, mg := { tmrH := [{}, { enable := true, periodic := true, period := 1000000 }, {}, {}] } }, by decide +kernel⟩

theorem wit_InterruptsAndTimers_13 : ∃ (t : Nat) (c : CoreId) (k : Fin 4) (s : State),
    s.pw.dev ≠ .off ∧ k.val < (tmrs s c).length ∧ (nth (tmrs s c) k.val {}).enable = true ∧
    ticks s (10 + coreIdx c) 2 = true ∧ (nth (tmrs s c) k.val {}).periodic = true ∧
    0 < (nth (tmrs s c) k.val {}).period ∧
    ((nth (tmrs s c) k.val {}).sec * 1000000000 + (nth (tmrs s c) k.val {}).ns) + (nth (tmrs s c) k.val {}).period ≤ (s.advance t).time.toNs ∧
    ((s.advance t).time.toNs - ((nth (tmrs s c) k.val {}).sec * 1000000000 + (nth (tmrs s c) k.val {}).ns)) % (nth (tmrs s c) k.val {}).period ≠ 0 :=
  ⟨5, .helm, 1, { pw := { dev := .ready, doms := [2, 2, 2, 2, 2, 2, 2, 2, 2, 2, 2, 2, 2, 2, 2, 2] }, tb := { src := [0, 0, 0, 0, 0, 1, 0, 0, 0, 0, 0, 0, 0], keeper := .unqualified }, can := { joined := true }, dict := { sesCan := { isOpen := true } }, mg := { tmrH := [{}, { enable := true, periodic := true, period := 100 }, {}, {}] }, clk := { ns := 250 } }, by decide +kernel⟩

theorem wit_InterruptsAndTimers_14 : ∃ (t : Nat) (c : CoreId) (k : Fin 4) (s : State),
    s.pw.dev ≠ .off ∧
    ((nth (tmrs s c) k.val {}).enable = false ∨ (s.advance t).time.toNs < ((nth (tmrs s c) k.val {}).sec * 1000000000 + (nth (tmrs s c) k.val {}).ns) ∨ ticks s (10 + coreIdx c) 2 = false) :=
  ⟨5, .purser, 2, { pw := { dev := .ready, doms := [2, 2, 2, 2, 2, 2, 2, 2, 2, 2, 2, 2, 2, 2, 2, 2] }, tb := { src := [0, 0, 0, 0, 0, 1, 0, 0, 0, 0, 0, 0, 0], keeper := .unqualified }, can := { joined := true }, dict := { sesCan := { isOpen := true } }, mg := {  } }, by decide +kernel⟩

theorem wit_InterruptsAndTimers_15 : ∃ (sec : Nat) (ns : Nat) (period : Nat) (c : CoreId) (k : Fin 4) (s : State),
    s.pw.dev ≠ .off ∧ k.val < (tmrs s c).length ∧ sec < 281474976710656 ∧ ns < 1073741824 ∧ period < 4294967296 :=
  ⟨1, 2, 3, .helm, 1, { pw := { dev := .ready, doms := [2, 2, 2, 2, 2, 2, 2, 2, 2, 2, 2, 2, 2, 2, 2, 2] }, tb := { src := [0, 0, 0, 0, 0, 1, 0, 0, 0, 0, 0, 0, 0], keeper := .unqualified }, can := { joined := true }, dict := { sesCan := { isOpen := true } }, mg := {  } }, by decide +kernel⟩

theorem wit_InterruptsAndTimers_16 : ∃  (s : State),
    s.pw.dev ≠ .off :=
  ⟨{ pw := { dev := .ready, doms := [2, 2, 2, 2, 2, 2, 2, 2, 2, 2, 2, 2, 2, 2, 2, 2] }, tb := { src := [0, 0, 0, 0, 0, 1, 0, 0, 0, 0, 0, 0, 0], keeper := .unqualified }, can := { joined := true }, dict := { sesCan := { isOpen := true } }, mg := {  } }, by decide +kernel⟩

theorem wit_InterruptsAndTimers_17 : ∃  (s : State),
    s.pw.dev ≠ .off :=
  ⟨{ pw := { dev := .ready, doms := [2, 2, 2, 2, 2, 2, 2, 2, 2, 2, 2, 2, 2, 2, 2, 2] }, tb := { src := [0, 0, 0, 0, 0, 1, 0, 0, 0, 0, 0, 0, 0], keeper := .unqualified }, can := { joined := true }, dict := { sesCan := { isOpen := true } }, mg := { wdWarned := 3 } }, by decide +kernel⟩

theorem wit_LogIsKept_1 : ∃  (s : State),
    s.pw.dev ≠ .off ∧ blockOn s 11 = true ∧ s.mg.logQueue.length < 64 :=
  ⟨{ pw := { dev := .ready, doms := [2, 2, 2, 2, 2, 2, 2, 2, 2, 2, 2, 2, 2, 2, 2, 2] }, tb := { src := [0, 0, 0, 0, 0, 1, 0, 0, 0, 0, 0, 0, 0], keeper := .unqualified }, can := { joined := true }, dict := { sesCan := { isOpen := true } }, mg := {  } }, by decide +kernel⟩

theorem wit_LogIsKept_2 : ∃  (s : State),
    s.pw.dev ≠ .off ∧ blockOn s 11 = true ∧ 64 ≤ s.mg.logQueue.length :=
  ⟨{ pw := { dev := .ready, doms := [2, 2, 2, 2, 2, 2, 2, 2, 2, 2, 2, 2, 2, 2, 2, 2] }, tb := { src := [0, 0, 0, 0, 0, 1, 0, 0, 0, 0, 0, 0, 0], keeper := .unqualified }, can := { joined := true }, dict := { sesCan := { isOpen := true } }, mg := { logQueue := List.replicate 64 { source := 0x11, cls := 1, flags := 0, timeA := {}, timeB := {}, safety := 0, device := 4, frameSeq := 0, raises := 1, transients := 0, ctx := [] } } }, by decide +kernel⟩

theorem wit_LogIsKept_3 : ∃ (e : LogEntry) (rest : List LogEntry) (s : State),
    s.pw.dev ≠ .off ∧ s.mg.logQueue = e :: rest ∧ blockPowered s 12 = true ∧ e.cls ≠ 3 ∧ e.cls ≠ 4 :=
  ⟨{ source := 0x11, cls := 1, flags := 0, timeA := {}, timeB := {}, safety := 0, device := 4, frameSeq := 0, raises := 1, transients := 0, ctx := [] }, [], { pw := { dev := .ready, doms := [2, 2, 2, 2, 2, 2, 2, 2, 2, 2, 2, 2, 2, 2, 2, 2] }, tb := { src := [0, 0, 0, 0, 0, 1, 0, 0, 0, 0, 0, 0, 0], keeper := .unqualified }, can := { joined := true }, dict := { sesCan := { isOpen := true } }, mg := { logQueue := [{ source := 0x11, cls := 1, flags := 0, timeA := {}, timeB := {}, safety := 0, device := 4, frameSeq := 0, raises := 1, transients := 0, ctx := [] }] } }, by decide +kernel⟩

theorem wit_LogIsKept_4 : ∃ (e : LogEntry) (rest : List LogEntry) (s : State),
    s.pw.dev ≠ .off ∧ s.mg.logQueue = e :: rest ∧ blockPowered s 12 = true ∧ (e.cls = 3 ∨ e.cls = 4) ∧
    s.nv.pinned.length < 256 :=
  ⟨{ source := 0x11, cls := 3, flags := 0, timeA := {}, timeB := {}, safety := 0, device := 4, frameSeq := 0, raises := 1, transients := 0, ctx := [] }, [], { pw := { dev := .ready, doms := [2, 2, 2, 2, 2, 2, 2, 2, 2, 2, 2, 2, 2, 2, 2, 2] }, tb := { src := [0, 0, 0, 0, 0, 1, 0, 0, 0, 0, 0, 0, 0], keeper := .unqualified }, can := { joined := true }, dict := { sesCan := { isOpen := true } }, mg := { logQueue := [{ source := 0x11, cls := 3, flags := 0, timeA := {}, timeB := {}, safety := 0, device := 4, frameSeq := 0, raises := 1, transients := 0, ctx := [] }] } }, by decide +kernel⟩

theorem wit_LogIsKept_5 : ∃ (e : LogEntry) (rest : List LogEntry) (s : State),
    s.pw.dev ≠ .off ∧ s.mg.logQueue = e :: rest ∧ blockPowered s 12 = true ∧ (e.cls = 3 ∨ e.cls = 4) ∧
    256 ≤ s.nv.pinned.length :=
  ⟨{ source := 0x11, cls := 3, flags := 0, timeA := {}, timeB := {}, safety := 0, device := 4, frameSeq := 0, raises := 1, transients := 0, ctx := [] }, [], { pw := { dev := .ready, doms := [2, 2, 2, 2, 2, 2, 2, 2, 2, 2, 2, 2, 2, 2, 2, 2] }, tb := { src := [0, 0, 0, 0, 0, 1, 0, 0, 0, 0, 0, 0, 0], keeper := .unqualified }, can := { joined := true }, dict := { sesCan := { isOpen := true } }, mg := { logQueue := [{ source := 0x11, cls := 3, flags := 0, timeA := {}, timeB := {}, safety := 0, device := 4, frameSeq := 0, raises := 1, transients := 0, ctx := [] }] }, nv := { pinned := List.replicate 256 { source := 0x11, cls := 3, flags := 0, timeA := {}, timeB := {}, safety := 0, device := 4, frameSeq := 0, raises := 1, transients := 0, ctx := [] } } }, by decide +kernel⟩

theorem wit_LogIsKept_6 : ∃  (s : State),
    s.pw.dev ≠ .off ∧ (s.mg.logQueue = [] ∨ blockPowered s 12 = false) :=
  ⟨{ pw := { dev := .ready, doms := [2, 2, 2, 2, 2, 2, 2, 2, 2, 2, 2, 2, 2, 2, 2, 2] }, tb := { src := [0, 0, 0, 0, 0, 1, 0, 0, 0, 0, 0, 0, 0], keeper := .unqualified }, can := { joined := true }, dict := { sesCan := { isOpen := true } }, mg := {  } }, by decide +kernel⟩

theorem wit_LogIsKept_7 : ∃ (v : Nat) (p : Path) (s : State),
    s.pw.dev ≠ .off ∧ takes s p 0x2F10 8 (leBytes 1 v) = true :=
  ⟨1, .can, { pw := { dev := .ready, doms := [2, 2, 2, 2, 2, 2, 2, 2, 2, 2, 2, 2, 2, 2, 2, 2] }, tb := { src := [0, 0, 0, 0, 0, 1, 0, 0, 0, 0, 0, 0, 0], keeper := .unqualified }, can := { joined := true }, dict := { sesCan := { isOpen := true } }, mg := {  }, nv := { pinOvf := true } }, by decide +kernel⟩

theorem wit_CustomerImageIsServed_1 : ∃  (s : State),
    s.pw.dev ≠ .off ∧ s.mg.custState = 2 :=
  ⟨{ pw := { dev := .ready, doms := [2, 2, 2, 2, 2, 2, 2, 2, 2, 2, 2, 2, 2, 2, 2, 2] }, tb := { src := [0, 0, 0, 0, 0, 1, 0, 0, 0, 0, 0, 0, 0], keeper := .unqualified }, can := { joined := true }, dict := { sesCan := { isOpen := true } }, mg := { custState := 2, fwVersion := 9 } }, by decide +kernel⟩

theorem wit_CustomerImageIsServed_2 : ∃  (s : State),
    s.pw.dev ≠ .off ∧ s.mg.custState ≠ 2 :=
  ⟨{ pw := { dev := .ready, doms := [2, 2, 2, 2, 2, 2, 2, 2, 2, 2, 2, 2, 2, 2, 2, 2] }, tb := { src := [0, 0, 0, 0, 0, 1, 0, 0, 0, 0, 0, 0, 0], keeper := .unqualified }, can := { joined := true }, dict := { sesCan := { isOpen := true } }, mg := {  } }, by decide +kernel⟩

theorem wit_CustomerImageIsServed_3 : ∃ (src : Fin 256) (s : State),
    s.pw.dev ≠ .off ∧ s.mg.custState = 2 ∧ customerSource src.val = true :=
  ⟨60, { pw := { dev := .ready, doms := [2, 2, 2, 2, 2, 2, 2, 2, 2, 2, 2, 2, 2, 2, 2, 2] }, tb := { src := [0, 0, 0, 0, 0, 1, 0, 0, 0, 0, 0, 0, 0], keeper := .unqualified }, can := { joined := true }, dict := { sesCan := { isOpen := true } }, mg := { custState := 2 } }, by decide +kernel⟩

theorem wit_CustomerImageIsServed_4 : ∃ (src : Fin 256) (s : State),
    s.pw.dev ≠ .off ∧ s.mg.custState = 2 ∧ customerSource src.val = false :=
  ⟨48, { pw := { dev := .ready, doms := [2, 2, 2, 2, 2, 2, 2, 2, 2, 2, 2, 2, 2, 2, 2, 2] }, tb := { src := [0, 0, 0, 0, 0, 1, 0, 0, 0, 0, 0, 0, 0], keeper := .unqualified }, can := { joined := true }, dict := { sesCan := { isOpen := true } }, mg := { custState := 2 } }, by decide +kernel⟩

theorem wit_CustomerImageIsServed_5 : ∃  (s : State),
    s.pw.dev ≠ .off ∧ s.mg.custState = 2 ∧ firmwareIdle s = true :=
  ⟨{ pw := { dev := .ready, doms := [2, 2, 2, 2, 2, 2, 2, 2, 2, 2, 2, 2, 2, 2, 2, 2] }, tb := { src := [0, 0, 0, 0, 0, 1, 0, 0, 0, 0, 0, 0, 0], keeper := .unqualified }, can := { joined := true }, dict := { sesCan := { isOpen := true } }, mg := { custState := 2 } }, by decide +kernel⟩

theorem wit_CustomerImageIsServed_6 : ∃  (s : State),
    s.pw.dev ≠ .off ∧ s.mg.custState = 2 ∧ firmwareIdle s = false :=
  ⟨{ pw := { dev := .ready, doms := [2, 2, 2, 2, 2, 2, 2, 2, 2, 2, 2, 2, 2, 2, 2, 2] }, tb := { src := [0, 0, 0, 0, 0, 1, 0, 0, 0, 0, 0, 0, 0], keeper := .unqualified }, can := { joined := true }, dict := { sesCan := { isOpen := true } }, mg := { custState := 2, irqP := { svc := bmSet 0 63 } } }, by decide +kernel⟩

theorem wit_CustomerImageIsServed_7 : ∃ (data : List Byte) (s : State),
    s.pw.dev ≠ .off ∧ s.mg.custState = 2 ∧ custSaving s = false ∧ data.length ≤ 16384 ∧ s.nv.jrnlWait = [] ∧
    jrnlOpen s = false ∧ prepared s (.block 12) = false ∧ s.mg.haltMgmt = false :=
  ⟨[1, 2], { pw := { dev := .ready, doms := [2, 2, 2, 2, 2, 2, 2, 2, 2, 2, 2, 2, 2, 2, 2, 2] }, tb := { src := [0, 0, 0, 0, 0, 1, 0, 0, 0, 0, 0, 0, 0], keeper := .unqualified }, can := { joined := true }, dict := { sesCan := { isOpen := true } }, mg := { custState := 2 } }, by decide +kernel⟩

theorem wit_CustomerImageIsServed_8 : ∃ (data : List Byte) (s : State),
    s.pw.dev ≠ .off ∧ s.mg.custState = 2 ∧ custSaving s = false ∧ data.length ≤ 16384 ∧ jrnlOpen s = true :=
  ⟨[1, 2], { pw := { dev := .ready, doms := [2, 2, 2, 2, 2, 2, 2, 2, 2, 2, 2, 2, 2, 2, 2, 2] }, tb := { src := [0, 0, 0, 0, 0, 1, 0, 0, 0, 0, 0, 0, 0], keeper := .unqualified }, can := { joined := true }, dict := { sesCan := { isOpen := true } }, mg := { custState := 2 }, nv := { jrnl := some { target := .restore, seq := 0, off := 0, crc := 0, units := 1, payload := 1, done := false } } }, by decide +kernel⟩

theorem wit_CustomerImageIsServed_9 : ∃ (data : List Byte) (s : State),
    s.pw.dev ≠ .off ∧ s.mg.custState = 2 ∧ (custSaving s = true ∨ 16384 < data.length) :=
  ⟨[1, 2], { pw := { dev := .ready, doms := [2, 2, 2, 2, 2, 2, 2, 2, 2, 2, 2, 2, 2, 2, 2, 2] }, tb := { src := [0, 0, 0, 0, 0, 1, 0, 0, 0, 0, 0, 0, 0], keeper := .unqualified }, can := { joined := true }, dict := { sesCan := { isOpen := true } }, mg := { custState := 2 }, nv := { jrnlWait := [.custData [3]] } }, by decide +kernel⟩

theorem wit_CustomerImageIsServed_10 : ∃  (s : State),
    s.pw.dev ≠ .off ∧ s.mg.custState = 2 :=
  ⟨{ pw := { dev := .ready, doms := [2, 2, 2, 2, 2, 2, 2, 2, 2, 2, 2, 2, 2, 2, 2, 2] }, tb := { src := [0, 0, 0, 0, 0, 1, 0, 0, 0, 0, 0, 0, 0], keeper := .unqualified }, can := { joined := true }, dict := { sesCan := { isOpen := true } }, mg := { custState := 2 } }, by decide +kernel⟩

theorem wit_CustomerImageIsServed_11 : ∃ (t : Nat) (s : State),
    s.pw.dev ≠ .off ∧ purserLate (s.advance t) 100000000000 = true :=
  ⟨100000000000, { pw := { dev := .ready, doms := [2, 2, 2, 2, 2, 2, 2, 2, 2, 2, 2, 2, 2, 2, 2, 2] }, tb := { src := [0, 0, 0, 0, 0, 1, 0, 0, 0, 0, 0, 0, 0], keeper := .unqualified }, can := { joined := true }, dict := { sesCan := { isOpen := true } }, mg := { custState := 2 } }, by decide +kernel⟩

theorem wit_CustomerImageIsServed_12 : ∃ (t : Nat) (s : State),
    s.pw.dev ≠ .off ∧ purserLate (s.advance t) 100000000000 = false :=
  ⟨5, { pw := { dev := .ready, doms := [2, 2, 2, 2, 2, 2, 2, 2, 2, 2, 2, 2, 2, 2, 2, 2] }, tb := { src := [0, 0, 0, 0, 0, 1, 0, 0, 0, 0, 0, 0, 0], keeper := .unqualified }, can := { joined := true }, dict := { sesCan := { isOpen := true } }, mg := { custState := 2 } }, by decide +kernel⟩

theorem wit_CustomerImageIsServed_13 : ∃  (s : State),
    s.pw.dev ≠ .off ∧ blockOn s 11 = true :=
  ⟨{ pw := { dev := .ready, doms := [2, 2, 2, 2, 2, 2, 2, 2, 2, 2, 2, 2, 2, 2, 2, 2] }, tb := { src := [0, 0, 0, 0, 0, 1, 0, 0, 0, 0, 0, 0, 0], keeper := .unqualified }, can := { joined := true }, dict := { sesCan := { isOpen := true } }, mg := {  } }, by decide +kernel⟩

theorem wit_CustomerImageIsServed_14 : ∃ (b : Fin 16) (s : State),
    s.pw.dev ≠ .off ∧ blockOn s b.val = false :=
  ⟨15, { pw := { dev := .quiet, doms := [2, 2, 2, 2, 2, 2, 2, 2, 2, 2, 2, 2, 2, 2, 2, 2] }, tb := { src := [0, 0, 0, 0, 0, 1, 0, 0, 0, 0, 0, 0, 0], keeper := .unqualified }, can := { joined := true }, dict := { sesCan := { isOpen := true } }, mg := {  } }, by decide +kernel⟩

theorem wit_CustomerImageIsServed_15 : ∃ (b : Fin 16) (s : State),
    s.pw.dev ≠ .off ∧ blockOn s b.val = true :=
  ⟨11, { pw := { dev := .ready, doms := [2, 2, 2, 2, 2, 2, 2, 2, 2, 2, 2, 2, 2, 2, 2, 2] }, tb := { src := [0, 0, 0, 0, 0, 1, 0, 0, 0, 0, 0, 0, 0], keeper := .unqualified }, can := { joined := true }, dict := { sesCan := { isOpen := true } }, mg := {  } }, by decide +kernel⟩

theorem wit_CustomerImageIsServed_16 : ∃  (s : State),
    s.pw.dev ≠ .off :=
  ⟨{ pw := { dev := .ready, doms := [2, 2, 2, 2, 2, 2, 2, 2, 2, 2, 2, 2, 2, 2, 2, 2] }, tb := { src := [0, 0, 0, 0, 0, 1, 0, 0, 0, 0, 0, 0, 0], keeper := .unqualified }, can := { joined := true }, dict := { sesCan := { isOpen := true } }, mg := {  } }, by decide +kernel⟩

theorem wit_CustomerImageIsServed_17 : ∃  (s : State),
    s.pw.dev ≠ .off :=
  ⟨{ pw := { dev := .ready, doms := [2, 2, 2, 2, 2, 2, 2, 2, 2, 2, 2, 2, 2, 2, 2, 2] }, tb := { src := [0, 0, 0, 0, 0, 1, 0, 0, 0, 0, 0, 0, 0], keeper := .unqualified }, can := { joined := true }, dict := { sesCan := { isOpen := true } }, mg := {  } }, by decide +kernel⟩

theorem wit_CustomerImageIsServed_18 : ∃  (s : State),
    s.pw.dev ≠ .off :=
  ⟨{ pw := { dev := .ready, doms := [2, 2, 2, 2, 2, 2, 2, 2, 2, 2, 2, 2, 2, 2, 2, 2] }, tb := { src := [0, 0, 0, 0, 0, 1, 0, 0, 0, 0, 0, 0, 0], keeper := .unqualified }, can := { joined := true }, dict := { sesCan := { isOpen := true } }, mg := {  } }, by decide +kernel⟩

theorem wit_CustomerImageIsServed_19 : ∃  (s : State),
    s.pw.dev ≠ .off :=
  ⟨{ pw := { dev := .ready, doms := [2, 2, 2, 2, 2, 2, 2, 2, 2, 2, 2, 2, 2, 2, 2, 2] }, tb := { src := [0, 0, 0, 0, 0, 1, 0, 0, 0, 0, 0, 0, 0], keeper := .unqualified }, can := { joined := true }, dict := { sesCan := { isOpen := true } }, mg := {  } }, by decide +kernel⟩

theorem wit_CustomerImageIsServed_20 : ∃ (u : Nat) (s : State),
    s.pw.dev ≠ .off ∧ blockOn s 12 = true ∧ u < 8 ∧ u < s.mg.crc.length ∧ (nth s.mg.crc u {}).started = true ∧
    (nth s.mg.crc u {}).taken = false ∧ bitsOf (nth s.mg.crc u {}).ctrl 11 8 = 4 :=
  ⟨3, { pw := { dev := .ready, doms := [2, 2, 2, 2, 2, 2, 2, 2, 2, 2, 2, 2, 2, 2, 2, 2] }, tb := { src := [0, 0, 0, 0, 0, 1, 0, 0, 0, 0, 0, 0, 0], keeper := .unqualified }, can := { joined := true }, dict := { sesCan := { isOpen := true } }, mg := { crc := [{}, {}, {}, { started := true, ctrl := 1056 }] } }, by decide +kernel⟩

theorem wit_CustomerImageIsServed_21 : ∃ (addr : Nat) (cust : Bool) (w : Bool) (s : State),
    s.pw.dev ≠ .off ∧ purserMay s cust addr w = false ∧ (cust = false ∨ s.mg.custState ≠ 2) :=
  ⟨0x30000000, false, true, { pw := { dev := .ready, doms := [2, 2, 2, 2, 2, 2, 2, 2, 2, 2, 2, 2, 2, 2, 2, 2] }, tb := { src := [0, 0, 0, 0, 0, 1, 0, 0, 0, 0, 0, 0, 0], keeper := .unqualified }, can := { joined := true }, dict := { sesCan := { isOpen := true } }, mg := {  } }, by decide +kernel⟩

theorem wit_CustomerImageIsServed_22 : ∃ (addr : Nat) (w : Bool) (s : State),
    s.pw.dev ≠ .off ∧ purserMay s true addr w = false ∧ s.mg.custState = 2 :=
  ⟨0x20000000, true, { pw := { dev := .ready, doms := [2, 2, 2, 2, 2, 2, 2, 2, 2, 2, 2, 2, 2, 2, 2, 2] }, tb := { src := [0, 0, 0, 0, 0, 1, 0, 0, 0, 0, 0, 0, 0], keeper := .unqualified }, can := { joined := true }, dict := { sesCan := { isOpen := true } }, mg := { custState := 2 } }, by decide +kernel⟩

theorem wit_CustomerImageIsServed_23 : ∃ (addr : Nat) (cust : Bool) (w : Bool) (s : State),
    s.pw.dev ≠ .off ∧ purserMay s cust addr w = true :=
  ⟨0x20040000, true, true, { pw := { dev := .ready, doms := [2, 2, 2, 2, 2, 2, 2, 2, 2, 2, 2, 2, 2, 2, 2, 2] }, tb := { src := [0, 0, 0, 0, 0, 1, 0, 0, 0, 0, 0, 0, 0], keeper := .unqualified }, can := { joined := true }, dict := { sesCan := { isOpen := true } }, mg := { custState := 2 } }, by decide +kernel⟩

theorem wit_CustomerImageIsServed_24 : ∃  (s : State),
    s.pw.dev ≠ .off :=
  ⟨{ pw := { dev := .ready, doms := [2, 2, 2, 2, 2, 2, 2, 2, 2, 2, 2, 2, 2, 2, 2, 2] }, tb := { src := [0, 0, 0, 0, 0, 1, 0, 0, 0, 0, 0, 0, 0], keeper := .unqualified }, can := { joined := true }, dict := { sesCan := { isOpen := true } }, mg := {  } }, by decide +kernel⟩

theorem wit_CustomerImageIsServed_25 : ∃  (s : State),
    s.pw.dev ≠ .off :=
  ⟨{ pw := { dev := .ready, doms := [2, 2, 2, 2, 2, 2, 2, 2, 2, 2, 2, 2, 2, 2, 2, 2] }, tb := { src := [0, 0, 0, 0, 0, 1, 0, 0, 0, 0, 0, 0, 0], keeper := .unqualified }, can := { joined := true }, dict := { sesCan := { isOpen := true } }, mg := {  } }, by decide +kernel⟩

theorem wit_CustomerImageIsServed_26 : ∃  (s : State),
    s.pw.dev ≠ .off ∧ blockOn s 13 = true :=
  ⟨{ pw := { dev := .ready, doms := [2, 2, 2, 2, 2, 2, 2, 2, 2, 2, 2, 2, 2, 2, 2, 2] }, tb := { src := [0, 0, 0, 0, 0, 1, 0, 0, 0, 0, 0, 0, 0], keeper := .unqualified }, can := { joined := true }, dict := { sesCan := { isOpen := true } }, mg := {  } }, by decide +kernel⟩

theorem wit_CrcUnitsCompute_1 : ∃ (ctrl : Nat) (poly : Nat) (init : Nat) (xorout : Nat) (u : Fin 8) (s : State),
    s.pw.dev ≠ .off ∧ blockOn s 11 = true ∧ unitNamed s u.val = false ∧ u.val < s.mg.crc.length ∧
    (bitsOf ctrl 27 24 = 0 ∨ 3 < bitsOf ctrl 27 24) ∧ poly < 4294967296 ∧ init < 4294967296 ∧ xorout < 4294967296 :=
  ⟨32, 0x04C11DB7, 0xFFFFFFFF, 0, 3, { pw := { dev := .ready, doms := [2, 2, 2, 2, 2, 2, 2, 2, 2, 2, 2, 2, 2, 2, 2, 2] }, tb := { src := [0, 0, 0, 0, 0, 1, 0, 0, 0, 0, 0, 0, 0], keeper := .unqualified }, can := { joined := true }, dict := { sesCan := { isOpen := true } }, mg := {  } }, by decide +kernel⟩

theorem wit_CrcUnitsCompute_2 : ∃ (ctrl : Nat) (u : Fin 8) (s : State),
    s.pw.dev ≠ .off ∧ blockOn s 11 = true ∧ unitNamed s u.val = false ∧ u.val < s.mg.crc.length ∧
    (bitsOf ctrl 27 24 = 1 ∨ bitsOf ctrl 27 24 = 2 ∨ bitsOf ctrl 27 24 = 3) :=
  ⟨16777216, 3, { pw := { dev := .ready, doms := [2, 2, 2, 2, 2, 2, 2, 2, 2, 2, 2, 2, 2, 2, 2, 2] }, tb := { src := [0, 0, 0, 0, 0, 1, 0, 0, 0, 0, 0, 0, 0], keeper := .unqualified }, can := { joined := true }, dict := { sesCan := { isOpen := true } }, mg := {  } }, by decide +kernel⟩

theorem wit_CrcUnitsCompute_3 : ∃ (u : Fin 8) (s : State),
    s.pw.dev ≠ .off ∧ blockOn s 11 = true ∧ u.val < s.mg.crc.length ∧ (nth s.mg.crc u.val {}).started = true ∧
    (nth s.mg.crc u.val {}).taken = false ∧ bitsOf (nth s.mg.crc u.val {}).ctrl 11 8 = 0 :=
  ⟨2, { pw := { dev := .ready, doms := [2, 2, 2, 2, 2, 2, 2, 2, 2, 2, 2, 2, 2, 2, 2, 2] }, tb := { src := [0, 0, 0, 0, 0, 1, 0, 0, 0, 0, 0, 0, 0], keeper := .unqualified }, can := { joined := true }, dict := { sesCan := { isOpen := true } }, mg := { crc := [{}, {}, { started := true, ctrl := 32 }, {}, {}, {}, {}, {}] } }, by decide +kernel⟩

theorem wit_CrcUnitsCompute_4 : ∃ (u : Fin 8) (s : State),
    s.pw.dev ≠ .off ∧ blockOn s 11 = true ∧ u.val < s.mg.crc.length ∧
    ((nth s.mg.crc u.val {}).started = false ∨ (nth s.mg.crc u.val {}).taken = true ∨ bitsOf (nth s.mg.crc u.val {}).ctrl 11 8 ≠ 0) :=
  ⟨2, { pw := { dev := .ready, doms := [2, 2, 2, 2, 2, 2, 2, 2, 2, 2, 2, 2, 2, 2, 2, 2] }, tb := { src := [0, 0, 0, 0, 0, 1, 0, 0, 0, 0, 0, 0, 0], keeper := .unqualified }, can := { joined := true }, dict := { sesCan := { isOpen := true } }, mg := { crc := [{}, {}, { ctrl := 256 }, {}, {}, {}, {}, {}] } }, by decide +kernel⟩

theorem wit_CrcUnitsCompute_5 : ∃ (u : Fin 8) (s : State),
    s.pw.dev ≠ .off ∧ blockOn s 11 = true ∧ unitNamed s u.val = false ∧ u.val < s.mg.crc.length :=
  ⟨2, { pw := { dev := .ready, doms := [2, 2, 2, 2, 2, 2, 2, 2, 2, 2, 2, 2, 2, 2, 2, 2] }, tb := { src := [0, 0, 0, 0, 0, 1, 0, 0, 0, 0, 0, 0, 0], keeper := .unqualified }, can := { joined := true }, dict := { sesCan := { isOpen := true } }, mg := {  } }, by decide +kernel⟩

theorem wit_CrcUnitsCompute_6 : ∃ (n : Nat) (u : Fin 8) (s : State),
    s.pw.dev ≠ .off ∧ blockOn s 11 = true ∧ unitNamed s u.val = false ∧ u.val < s.mg.crc.length ∧ 1 ≤ n ∧ n ≤ 3 :=
  ⟨2, 2, { pw := { dev := .ready, doms := [2, 2, 2, 2, 2, 2, 2, 2, 2, 2, 2, 2, 2, 2, 2, 2] }, tb := { src := [0, 0, 0, 0, 0, 1, 0, 0, 0, 0, 0, 0, 0], keeper := .unqualified }, can := { joined := true }, dict := { sesCan := { isOpen := true } }, mg := {  } }, by decide +kernel⟩

theorem wit_CrcUnitsCompute_7 : ∃ (u : Fin 8) (s : State),
    s.pw.dev ≠ .off ∧ blockOn s 11 = true ∧ unitNamed s u.val = true :=
  ⟨2, { pw := { dev := .ready, doms := [2, 2, 2, 2, 2, 2, 2, 2, 2, 2, 2, 2, 2, 2, 2, 2] }, tb := { src := [0, 0, 0, 0, 0, 1, 0, 0, 0, 0, 0, 0, 0], keeper := .unqualified }, can := { joined := true }, dict := { sesCan := { isOpen := true } }, mg := {  }, objs := [(0x271001, [1]), (0x271003, [2])] }, by decide +kernel⟩

theorem wit_CrcUnitsCompute_8 : ∃ (u : Fin 8) (s : State),
    s.pw.dev ≠ .off ∧ blockOn s 11 = true ∧ unitNamed s u.val = true :=
  ⟨2, { pw := { dev := .ready, doms := [2, 2, 2, 2, 2, 2, 2, 2, 2, 2, 2, 2, 2, 2, 2, 2] }, tb := { src := [0, 0, 0, 0, 0, 1, 0, 0, 0, 0, 0, 0, 0], keeper := .unqualified }, can := { joined := true }, dict := { sesCan := { isOpen := true } }, mg := {  }, objs := [(0x271001, [1]), (0x271003, [2])] }, by decide +kernel⟩

theorem wit_CrcUnitsCompute_9 : ∃ (u : Fin 8) (s : State),
    s.pw.dev ≠ .off ∧ blockOn s 11 = true ∧ unitNamed s u.val = true :=
  ⟨2, { pw := { dev := .ready, doms := [2, 2, 2, 2, 2, 2, 2, 2, 2, 2, 2, 2, 2, 2, 2, 2] }, tb := { src := [0, 0, 0, 0, 0, 1, 0, 0, 0, 0, 0, 0, 0], keeper := .unqualified }, can := { joined := true }, dict := { sesCan := { isOpen := true } }, mg := {  }, objs := [(0x271001, [1]), (0x271003, [2])] }, by decide +kernel⟩

theorem wit_CrcUnitsCompute_10 : ∃ (u : Fin 8) (s : State),
    s.pw.dev ≠ .off ∧ blockOn s 11 = true ∧ u.val < s.mg.crc.length :=
  ⟨2, { pw := { dev := .ready, doms := [2, 2, 2, 2, 2, 2, 2, 2, 2, 2, 2, 2, 2, 2, 2, 2] }, tb := { src := [0, 0, 0, 0, 0, 1, 0, 0, 0, 0, 0, 0, 0], keeper := .unqualified }, can := { joined := true }, dict := { sesCan := { isOpen := true } }, mg := {  } }, by decide +kernel⟩

theorem wit_UpdatesAndKeys_1 : ∃ (p : Path) (s : State),
    s.pw.dev ≠ .off ∧ takes s p 0x2F20 1 [1] = true ∧ s.mg.updState ≠ 1 ∧ s.mg.updState ≠ 2 ∧ s.mg.updState ≠ 3 ∧
    prepared s .updatePath = false :=
  ⟨.can, { pw := { dev := .ready, doms := [2, 2, 2, 2, 2, 2, 2, 2, 2, 2, 2, 2, 2, 2, 2, 2] }, tb := { src := [0, 0, 0, 0, 0, 1, 0, 0, 0, 0, 0, 0, 0], keeper := .unqualified }, can := { joined := true }, dict := { sesCan := { isOpen := true } }, mg := {  } }, by decide +kernel⟩

theorem wit_UpdatesAndKeys_2 : ∃ (p : Path) (s : State),
    s.pw.dev ≠ .off ∧ takes s p 0x2F20 1 [1] = true ∧ prepared s .updatePath = false ∧
    (s.mg.updState = 1 ∨ s.mg.updState = 2 ∨ s.mg.updState = 3) :=
  ⟨.can, { pw := { dev := .ready, doms := [2, 2, 2, 2, 2, 2, 2, 2, 2, 2, 2, 2, 2, 2, 2, 2] }, tb := { src := [0, 0, 0, 0, 0, 1, 0, 0, 0, 0, 0, 0, 0], keeper := .unqualified }, can := { joined := true }, dict := { sesCan := { isOpen := true } }, mg := { updState := 1 } }, by decide +kernel⟩

theorem wit_UpdatesAndKeys_3 : ∃ (p : Path) (s : State),
    s.pw.dev ≠ .off ∧ takes s p 0x2F20 1 [2] = true ∧ s.mg.updState ≠ 1 ∧ s.mg.updState ≠ 2 ∧ s.mg.updState ≠ 3 ∧
    prepared s .updatePath = false :=
  ⟨.can, { pw := { dev := .ready, doms := [2, 2, 2, 2, 2, 2, 2, 2, 2, 2, 2, 2, 2, 2, 2, 2] }, tb := { src := [0, 0, 0, 0, 0, 1, 0, 0, 0, 0, 0, 0, 0], keeper := .unqualified }, can := { joined := true }, dict := { sesCan := { isOpen := true } }, mg := { custState := 2 } }, by decide +kernel⟩

theorem wit_UpdatesAndKeys_4 : ∃ (p : Path) (s : State),
    s.pw.dev ≠ .off ∧ takes s p 0x2F20 1 [2] = true ∧ prepared s .updatePath = true :=
  ⟨.can, { pw := { answered := [.updatePath], dev := .ready, doms := [2, 2, 2, 2, 2, 2, 2, 2, 2, 2, 2, 2, 2, 2, 2, 2] }, tb := { src := [0, 0, 0, 0, 0, 1, 0, 0, 0, 0, 0, 0, 0], keeper := .unqualified }, can := { joined := true }, dict := { sesCan := { isOpen := true } }, mg := {  }, th := {} }, by decide +kernel⟩

theorem wit_UpdatesAndKeys_5 : ∃ (p : Path) (data : List Byte) (s : State),
    s.pw.dev ≠ .off ∧ takes s p 0x2F20 2 data = true ∧ s.mg.updState = 1 ∧
    ((s.mg.updImage ++ data).length < 128 ∨ (s.mg.updImage ++ data).length ≤ 128 + leField (s.mg.updImage ++ data) 12 4) :=
  ⟨.can, [1, 2, 3], { pw := { dev := .ready, doms := [2, 2, 2, 2, 2, 2, 2, 2, 2, 2, 2, 2, 2, 2, 2, 2] }, tb := { src := [0, 0, 0, 0, 0, 1, 0, 0, 0, 0, 0, 0, 0], keeper := .unqualified }, can := { joined := true }, dict := { sesCan := { isOpen := true } }, mg := { updState := 1 } }, by decide +kernel⟩

theorem wit_UpdatesAndKeys_6 : ∃ (p : Path) (data : List Byte) (s : State),
    s.pw.dev ≠ .off ∧ takes s p 0x2F20 2 data = true ∧ s.mg.updState ≠ 1 :=
  ⟨.can, [1, 2, 3], { pw := { dev := .ready, doms := [2, 2, 2, 2, 2, 2, 2, 2, 2, 2, 2, 2, 2, 2, 2, 2] }, tb := { src := [0, 0, 0, 0, 0, 1, 0, 0, 0, 0, 0, 0, 0], keeper := .unqualified }, can := { joined := true }, dict := { sesCan := { isOpen := true } }, mg := {  } }, by decide +kernel⟩

theorem wit_UpdatesAndKeys_7 : ∃ (p : Path) (s : State),
    s.pw.dev ≠ .off ∧ takes s p 0x2F20 1 [3] = true ∧ s.mg.updState = 1 ∧
    imageReason s s.mg.updCustomer s.mg.updImage ≠ 0 :=
  ⟨.can, { pw := { dev := .ready, doms := [2, 2, 2, 2, 2, 2, 2, 2, 2, 2, 2, 2, 2, 2, 2, 2] }, tb := { src := [0, 0, 0, 0, 0, 1, 0, 0, 0, 0, 0, 0, 0], keeper := .unqualified }, can := { joined := true }, dict := { sesCan := { isOpen := true } }, mg := { updState := 1 } }, by decide +kernel⟩

theorem wit_UpdatesAndKeys_8 : ∃ (p : Path) (s : State),
    s.pw.dev ≠ .off ∧ takes s p 0x2F20 1 [3] = true ∧ s.mg.updState = 1 ∧
    imageReason s s.mg.updCustomer s.mg.updImage = 0 :=
  ⟨.can, { pw := { dev := .ready, doms := [2, 2, 2, 2, 2, 2, 2, 2, 2, 2, 2, 2, 2, 2, 2, 2] }, tb := { src := [0, 0, 0, 0, 0, 1, 0, 0, 0, 0, 0, 0, 0], keeper := .unqualified }, can := { joined := true }, dict := { sesCan := { isOpen := true } }, mg := { updState := 1, updCustomer := true, updImage := goodImage }, nv := { keyCust := some keyImg } }, by decide +kernel⟩

theorem wit_UpdatesAndKeys_9 : ∃ (p : Path) (s : State),
    s.pw.dev ≠ .off ∧ takes s p 0x2F20 1 [3] = true ∧ s.mg.updState ≠ 1 :=
  ⟨.can, { pw := { dev := .ready, doms := [2, 2, 2, 2, 2, 2, 2, 2, 2, 2, 2, 2, 2, 2, 2, 2] }, tb := { src := [0, 0, 0, 0, 0, 1, 0, 0, 0, 0, 0, 0, 0], keeper := .unqualified }, can := { joined := true }, dict := { sesCan := { isOpen := true } }, mg := {  } }, by decide +kernel⟩

theorem wit_UpdatesAndKeys_10 : ∃ (p : Path) (s : State),
    s.pw.dev ≠ .off ∧ takes s p 0x2F20 1 [4] = true ∧ s.mg.updState = 3 ∧ s.mg.updCustomer = false :=
  ⟨.can, { pw := { dev := .ready, doms := [2, 2, 2, 2, 2, 2, 2, 2, 2, 2, 2, 2, 2, 2, 2, 2] }, tb := { src := [0, 0, 0, 0, 0, 1, 0, 0, 0, 0, 0, 0, 0], keeper := .unqualified }, can := { joined := true }, dict := { sesCan := { isOpen := true } }, mg := { updState := 3 } }, by decide +kernel⟩

theorem wit_UpdatesAndKeys_11 : ∃ (p : Path) (s : State),
    s.pw.dev ≠ .off ∧ takes s p 0x2F20 1 [4] = true ∧ s.mg.updState = 3 ∧ s.mg.updCustomer = true :=
  ⟨.can, { pw := { dev := .ready, doms := [2, 2, 2, 2, 2, 2, 2, 2, 2, 2, 2, 2, 2, 2, 2, 2] }, tb := { src := [0, 0, 0, 0, 0, 1, 0, 0, 0, 0, 0, 0, 0], keeper := .unqualified }, can := { joined := true }, dict := { sesCan := { isOpen := true } }, mg := { updState := 3, updCustomer := true } }, by decide +kernel⟩

theorem wit_UpdatesAndKeys_12 : ∃ (p : Path) (s : State),
    s.pw.dev ≠ .off ∧ takes s p 0x2F20 1 [4] = true ∧ s.mg.updState ≠ 3 :=
  ⟨.can, { pw := { dev := .ready, doms := [2, 2, 2, 2, 2, 2, 2, 2, 2, 2, 2, 2, 2, 2, 2, 2] }, tb := { src := [0, 0, 0, 0, 0, 1, 0, 0, 0, 0, 0, 0, 0], keeper := .unqualified }, can := { joined := true }, dict := { sesCan := { isOpen := true } }, mg := { updState := 1 } }, by decide +kernel⟩

theorem wit_UpdatesAndKeys_13 : ∃ (p : Path) (s : State),
    s.pw.dev ≠ .off ∧ takes s p 0x2F20 1 [5] = true ∧ s.mg.updState ≠ 5 :=
  ⟨.can, { pw := { dev := .ready, doms := [2, 2, 2, 2, 2, 2, 2, 2, 2, 2, 2, 2, 2, 2, 2, 2] }, tb := { src := [0, 0, 0, 0, 0, 1, 0, 0, 0, 0, 0, 0, 0], keeper := .unqualified }, can := { joined := true }, dict := { sesCan := { isOpen := true } }, mg := { updState := 1 } }, by decide +kernel⟩

theorem wit_UpdatesAndKeys_14 : ∃ (p : Path) (s : State),
    s.pw.dev ≠ .off ∧ takes s p 0x2F20 1 [5] = true ∧ s.mg.updState = 5 :=
  ⟨.can, { pw := { dev := .ready, doms := [2, 2, 2, 2, 2, 2, 2, 2, 2, 2, 2, 2, 2, 2, 2, 2] }, tb := { src := [0, 0, 0, 0, 0, 1, 0, 0, 0, 0, 0, 0, 0], keeper := .unqualified }, can := { joined := true }, dict := { sesCan := { isOpen := true } }, mg := { updState := 5 } }, by decide +kernel⟩

theorem wit_UpdatesAndKeys_15 : ∃ (p : Path) (s : State),
    s.pw.dev ≠ .off ∧ takes s p 0x2F20 1 [6] = true ∧ s.pw.dev ≠ .lit :=
  ⟨.can, { pw := { dev := .ready, doms := [2, 2, 2, 2, 2, 2, 2, 2, 2, 2, 2, 2, 2, 2, 2, 2] }, tb := { src := [0, 0, 0, 0, 0, 1, 0, 0, 0, 0, 0, 0, 0], keeper := .unqualified }, can := { joined := true }, dict := { sesCan := { isOpen := true } }, mg := { updState := 5 } }, by decide +kernel⟩

theorem wit_UpdatesAndKeys_16 : ∃ (p : Path) (s : State),
    s.pw.dev ≠ .off ∧ takes s p 0x2F20 1 [6] = true ∧ s.pw.dev = .lit :=
  ⟨.can, { pw := { dev := .lit, doms := [2, 2, 2, 2, 2, 2, 2, 2, 2, 2, 2, 2, 2, 2, 2, 2] }, tb := { src := [0, 0, 0, 0, 0, 1, 0, 0, 0, 0, 0, 0, 0], keeper := .unqualified }, can := { joined := true }, dict := { sesCan := { isOpen := true } }, mg := { updState := 5 } }, by decide +kernel⟩

theorem wit_UpdatesAndKeys_17 : ∃ (p : Path) (slot : Fin 2) (data : List Byte) (s : State),
    s.pw.dev ≠ .off ∧ takes s p 0x2F38 (slot.val + 1) data = true ∧ slotHeld s (slot.val + 1) = false :=
  ⟨.can, 1, List.replicate 64 7, { pw := { dev := .ready, doms := [2, 2, 2, 2, 2, 2, 2, 2, 2, 2, 2, 2, 2, 2, 2, 2] }, tb := { src := [0, 0, 0, 0, 0, 1, 0, 0, 0, 0, 0, 0, 0], keeper := .unqualified }, can := { joined := true }, dict := { sesCan := { isOpen := true } }, mg := {  }, saf := { factory := true } }, by decide +kernel⟩

theorem wit_UpdatesAndKeys_18 : ∃ (p : Path) (slot : Fin 2) (data : List Byte) (s : State),
    s.pw.dev ≠ .off ∧ takes s p 0x2F38 (slot.val + 1) data = true ∧ slotHeld s (slot.val + 1) = true :=
  ⟨.can, 1, List.replicate 64 7, { pw := { dev := .ready, doms := [2, 2, 2, 2, 2, 2, 2, 2, 2, 2, 2, 2, 2, 2, 2, 2] }, tb := { src := [0, 0, 0, 0, 0, 1, 0, 0, 0, 0, 0, 0, 0], keeper := .unqualified }, can := { joined := true }, dict := { sesCan := { isOpen := true } }, mg := {  }, saf := { factory := true }, nv := { keyPst := some [1] } }, by decide +kernel⟩

theorem wit_UpdatesAndKeys_19 : ∃ (v : Nat) (p : Path) (s : State),
    s.pw.dev ≠ .off ∧ takes s p 0x2F30 2 (leBytes 1 v) = true ∧ s.mg.psStaged = true ∧ s.mg.psVerifying = false ∧
    copying s = false ∧ prepared s .updatePath = false :=
  ⟨1, .can, { pw := { dev := .ready, doms := [2, 2, 2, 2, 2, 2, 2, 2, 2, 2, 2, 2, 2, 2, 2, 2] }, tb := { src := [0, 0, 0, 0, 0, 1, 0, 0, 0, 0, 0, 0, 0], keeper := .unqualified }, can := { joined := true }, dict := { sesCan := { isOpen := true } }, mg := { psStaged := true } }, by decide +kernel⟩

theorem wit_UpdatesAndKeys_20 : ∃ (v : Nat) (p : Path) (s : State),
    s.pw.dev ≠ .off ∧ takes s p 0x2F30 2 (leBytes 1 v) = true ∧
    (s.mg.psStaged = false ∨ s.mg.psVerifying = true ∨ copying s = true ∨ prepared s .updatePath = true) :=
  ⟨1, .can, { pw := { dev := .ready, doms := [2, 2, 2, 2, 2, 2, 2, 2, 2, 2, 2, 2, 2, 2, 2, 2] }, tb := { src := [0, 0, 0, 0, 0, 1, 0, 0, 0, 0, 0, 0, 0], keeper := .unqualified }, can := { joined := true }, dict := { sesCan := { isOpen := true } }, mg := {  } }, by decide +kernel⟩

theorem wit_UpdatesAndKeys_21 : ∃  (s : State),
    s.pw.dev ≠ .off ∧ s.mg.psVerifying = true ∧ s.nv.keyPst = none :=
  ⟨{ pw := { dev := .ready, doms := [2, 2, 2, 2, 2, 2, 2, 2, 2, 2, 2, 2, 2, 2, 2, 2] }, tb := { src := [0, 0, 0, 0, 0, 1, 0, 0, 0, 0, 0, 0, 0], keeper := .unqualified }, can := { joined := true }, dict := { sesCan := { isOpen := true } }, mg := { psVerifying := true, psStaged := true } }, by decide +kernel⟩

theorem wit_UpdatesAndKeys_22 : ∃ (k : List Byte) (s : State),
    s.pw.dev ≠ .off ∧ s.mg.psVerifying = true ∧ s.nv.keyPst = some k ∧
    ecdsaOk k s.mg.psSig (manifest (nth s.nv.copies (1 - s.nv.copy) {})) = false :=
  ⟨[], { pw := { dev := .ready, doms := [2, 2, 2, 2, 2, 2, 2, 2, 2, 2, 2, 2, 2, 2, 2, 2] }, tb := { src := [0, 0, 0, 0, 0, 1, 0, 0, 0, 0, 0, 0, 0], keeper := .unqualified }, can := { joined := true }, dict := { sesCan := { isOpen := true } }, mg := { psVerifying := true, psStaged := true }, nv := { keyPst := some [] } }, by decide +kernel⟩

theorem wit_UpdatesAndKeys_23 : ∃ (k : List Byte) (s : State),
    s.pw.dev ≠ .off ∧ s.mg.psVerifying = true ∧ s.nv.keyPst = some k ∧
    ecdsaOk k s.mg.psSig (manifest (nth s.nv.copies (1 - s.nv.copy) {})) = true :=
  ⟨keyMan, { pw := { dev := .ready, doms := [2, 2, 2, 2, 2, 2, 2, 2, 2, 2, 2, 2, 2, 2, 2, 2] }, tb := { src := [0, 0, 0, 0, 0, 1, 0, 0, 0, 0, 0, 0, 0], keeper := .unqualified }, can := { joined := true }, dict := { sesCan := { isOpen := true } }, mg := { psVerifying := true, psStaged := true, psSig := goodSig }, nv := { keyPst := some keyMan, copies := [{}, { layer := [3] }] } }, by decide +kernel⟩

theorem wit_UpdatesAndKeys_24 : ∃ (j : Journal) (s : State),
    s.pw.dev ≠ .off ∧ blockPowered s 12 = true ∧ s.mg.haltMgmt = false ∧ s.nv.jrnl = some j ∧ j.done = false ∧
    0 < j.units ∧ j.units + 1 ≠ 2 + 2 * j.payload ∧ j.units + 1 ≠ 3 + 2 * j.payload :=
  ⟨{ target := .restore, seq := 0, off := 0, crc := 0, units := 1, payload := 1, done := false }, { pw := { dev := .ready, doms := [2, 2, 2, 2, 2, 2, 2, 2, 2, 2, 2, 2, 2, 2, 2, 2] }, tb := { src := [0, 0, 0, 0, 0, 1, 0, 0, 0, 0, 0, 0, 0], keeper := .unqualified }, can := { joined := true }, dict := { sesCan := { isOpen := true } }, mg := {  }, nv := { jrnl := some { target := .restore, seq := 0, off := 0, crc := 0, units := 1, payload := 1, done := false } } }, by decide +kernel⟩

theorem wit_UpdatesAndKeys_25 : ∃ (j : Journal) (s : State),
    s.pw.dev ≠ .off ∧ blockPowered s 12 = true ∧ s.mg.haltMgmt = false ∧ s.nv.jrnl = some j ∧ j.done = false ∧
    j.units = 0 :=
  ⟨{ target := .restore, seq := 0, off := 0, crc := 0, units := 0, payload := 1, done := false }, { pw := { dev := .ready, doms := [2, 2, 2, 2, 2, 2, 2, 2, 2, 2, 2, 2, 2, 2, 2, 2] }, tb := { src := [0, 0, 0, 0, 0, 1, 0, 0, 0, 0, 0, 0, 0], keeper := .unqualified }, can := { joined := true }, dict := { sesCan := { isOpen := true } }, mg := {  }, nv := { jrnl := some { target := .restore, seq := 0, off := 0, crc := 0, units := 0, payload := 1, done := false } } }, by decide +kernel⟩

theorem wit_UpdatesAndKeys_26 : ∃  (s : State),
    s.pw.dev ≠ .off ∧ s.mg.haltMgmt = true ∧ s.mg.haltUnit = none :=
  ⟨{ pw := { dev := .ready, doms := [2, 2, 2, 2, 2, 2, 2, 2, 2, 2, 2, 2, 2, 2, 2, 2] }, tb := { src := [0, 0, 0, 0, 0, 1, 0, 0, 0, 0, 0, 0, 0], keeper := .unqualified }, can := { joined := true }, dict := { sesCan := { isOpen := true } }, mg := { haltMgmt := true }, nv := { jrnl := some { target := .restore, seq := 0, off := 0, crc := 0, units := 1, payload := 1, done := false } } }, by decide +kernel⟩

theorem wit_UpdatesAndKeys_27 : ∃ (key : Nat) (d : List Byte) (j : Journal) (s : State),
    s.pw.dev ≠ .off ∧ blockPowered s 12 = true ∧ s.mg.haltMgmt = false ∧ s.nv.jrnl = some j ∧ j.done = false ∧
    j.units + 1 = 2 + 2 * j.payload ∧ j.target = .saved key d :=
  ⟨0x101003, [1], { target := .saved 0x101003 [1], seq := 0, off := 0, crc := 0, units := 3, payload := 1, done := false }, { pw := { dev := .ready, doms := [2, 2, 2, 2, 2, 2, 2, 2, 2, 2, 2, 2, 2, 2, 2, 2] }, tb := { src := [0, 0, 0, 0, 0, 1, 0, 0, 0, 0, 0, 0, 0], keeper := .unqualified }, can := { joined := true }, dict := { sesCan := { isOpen := true } }, mg := {  }, nv := { jrnl := some { target := .saved 0x101003 [1], seq := 0, off := 0, crc := 0, units := 3, payload := 1, done := false } } }, by decide +kernel⟩

theorem wit_UpdatesAndKeys_28 : ∃ (j : Journal) (s : State),
    s.pw.dev ≠ .off ∧ blockPowered s 12 = true ∧ s.mg.haltMgmt = false ∧ s.nv.jrnl = some j ∧ j.done = false ∧
    j.units + 1 = 3 + 2 * j.payload ∧ s.nv.jrnlWait = [] :=
  ⟨{ target := .restore, seq := 0, off := 0, crc := 0, units := 4, payload := 1, done := false }, { pw := { dev := .ready, doms := [2, 2, 2, 2, 2, 2, 2, 2, 2, 2, 2, 2, 2, 2, 2, 2] }, tb := { src := [0, 0, 0, 0, 0, 1, 0, 0, 0, 0, 0, 0, 0], keeper := .unqualified }, can := { joined := true }, dict := { sesCan := { isOpen := true } }, mg := {  }, nv := { jrnl := some { target := .restore, seq := 0, off := 0, crc := 0, units := 4, payload := 1, done := false } } }, by decide +kernel⟩

theorem wit_UpdatesAndKeys_29 : ∃ (j : Journal) (s : State),
    s.pw.dev ≠ .off ∧ blockPowered s 12 = true ∧ s.mg.haltMgmt = false ∧ s.nv.jrnl = some j ∧ j.done = false ∧
    j.units + 1 = 2 + 2 * j.payload ∧ j.target = .copy (1 - s.nv.copy) :=
  ⟨{ target := .copy 1, seq := 0, off := 0, crc := 0, units := 3, payload := 1, done := false }, { pw := { dev := .ready, doms := [2, 2, 2, 2, 2, 2, 2, 2, 2, 2, 2, 2, 2, 2, 2, 2] }, tb := { src := [0, 0, 0, 0, 0, 1, 0, 0, 0, 0, 0, 0, 0], keeper := .unqualified }, can := { joined := true }, dict := { sesCan := { isOpen := true } }, mg := {  }, nv := { jrnl := some { target := .copy 1, seq := 0, off := 0, crc := 0, units := 3, payload := 1, done := false } } }, by decide +kernel⟩

theorem wit_NodesAreAssigned_1 : ∃ (f : CanFrame) (s : State),
    s.pw.dev ≠ .off ∧ identFrame s f 1 = true ∧ canNode f = 0 ∧ inRange s f = true ∧
    (bitOf (canField f 1 1) 0 = false ∨ nodeOf s = 0) ∧ canUp s = true :=
  ⟨⟨768, true, padTo 16 [1]⟩, { pw := { dev := .ready, doms := [2, 2, 2, 2, 2, 2, 2, 2, 2, 2, 2, 2, 2, 2, 2, 2] }, tb := { src := [0, 0, 0, 0, 0, 1, 0, 0, 0, 0, 0, 0, 0], keeper := .unqualified }, can := { joined := true, assigned := 5 }, dict := { sesCan := { isOpen := true } }, mg := {  } }, by decide +kernel⟩

theorem wit_NodesAreAssigned_2 : ∃ (f : CanFrame) (s : State),
    s.pw.dev ≠ .off ∧ identFrame s f 1 = true ∧ canNode f = 0 ∧
    (inRange s f = false ∨ (bitOf (canField f 1 1) 0 = true ∧ nodeOf s ≠ 0)) :=
  ⟨⟨768, true, padTo 16 [1, 1]⟩, { pw := { dev := .ready, doms := [2, 2, 2, 2, 2, 2, 2, 2, 2, 2, 2, 2, 2, 2, 2, 2] }, tb := { src := [0, 0, 0, 0, 0, 1, 0, 0, 0, 0, 0, 0, 0], keeper := .unqualified }, can := { joined := true, assigned := 5 }, dict := { sesCan := { isOpen := true } }, mg := {  } }, by decide +kernel⟩

theorem wit_NodesAreAssigned_3 : ∃ (f : CanFrame) (s : State),
    s.pw.dev ≠ .off ∧ (identFrame s f 1 = false ∨ canNode f ≠ 0) :=
  ⟨⟨769, true, padTo 16 [1]⟩, { pw := { dev := .ready, doms := [2, 2, 2, 2, 2, 2, 2, 2, 2, 2, 2, 2, 2, 2, 2, 2] }, tb := { src := [0, 0, 0, 0, 0, 1, 0, 0, 0, 0, 0, 0, 0], keeper := .unqualified }, can := { joined := true, assigned := 5 }, dict := { sesCan := { isOpen := true } }, mg := {  } }, by decide +kernel⟩

theorem wit_NodesAreAssigned_4 : ∃ (f : CanFrame) (s : State),
    s.pw.dev ≠ .off ∧ identFrame s f 2 = true ∧ canNode f = 0 ∧ canField f 8 8 = s.uid ∧ 1 ≤ canField f 1 1 ∧
    canField f 1 1 ≤ 127 ∧ canUp s = true :=
  ⟨⟨768, true, padTo 16 [2, 9]⟩, { pw := { dev := .ready, doms := [2, 2, 2, 2, 2, 2, 2, 2, 2, 2, 2, 2, 2, 2, 2, 2] }, tb := { src := [0, 0, 0, 0, 0, 1, 0, 0, 0, 0, 0, 0, 0], keeper := .unqualified }, can := { joined := true, assigned := 5 }, dict := { sesCan := { isOpen := true } }, mg := {  } }, by decide +kernel⟩

theorem wit_NodesAreAssigned_5 : ∃ (f : CanFrame) (s : State),
    s.pw.dev ≠ .off ∧ identFrame s f 2 = true ∧ canNode f = 0 ∧ canField f 8 8 = s.uid ∧ canField f 1 1 = 0 :=
  ⟨⟨768, true, padTo 16 [2]⟩, { pw := { dev := .ready, doms := [2, 2, 2, 2, 2, 2, 2, 2, 2, 2, 2, 2, 2, 2, 2, 2] }, tb := { src := [0, 0, 0, 0, 0, 1, 0, 0, 0, 0, 0, 0, 0], keeper := .unqualified }, can := { joined := true, assigned := 5 }, dict := { sesCan := { isOpen := true } }, mg := {  } }, by decide +kernel⟩

theorem wit_NodesAreAssigned_6 : ∃ (f : CanFrame) (s : State),
    s.pw.dev ≠ .off ∧ identFrame s f 2 = true ∧ canNode f = 0 ∧ (canField f 8 8 ≠ s.uid ∨ 127 < canField f 1 1) :=
  ⟨⟨768, true, padTo 16 [2, 200]⟩, { pw := { dev := .ready, doms := [2, 2, 2, 2, 2, 2, 2, 2, 2, 2, 2, 2, 2, 2, 2, 2] }, tb := { src := [0, 0, 0, 0, 0, 1, 0, 0, 0, 0, 0, 0, 0], keeper := .unqualified }, can := { joined := true, assigned := 5 }, dict := { sesCan := { isOpen := true } }, mg := {  } }, by decide +kernel⟩

theorem wit_NodesAreAssigned_7 : ∃ (f : CanFrame) (s : State),
    s.pw.dev ≠ .off ∧ (identFrame s f 2 = false ∨ canNode f ≠ 0) :=
  ⟨⟨768, true, padTo 16 [1]⟩, { pw := { dev := .ready, doms := [2, 2, 2, 2, 2, 2, 2, 2, 2, 2, 2, 2, 2, 2, 2, 2] }, tb := { src := [0, 0, 0, 0, 0, 1, 0, 0, 0, 0, 0, 0, 0], keeper := .unqualified }, can := { joined := true, assigned := 5 }, dict := { sesCan := { isOpen := true } }, mg := {  } }, by decide +kernel⟩

theorem wit_NodesAreAssigned_8 : ∃ (f : CanFrame) (s : State),
    s.pw.dev ≠ .off ∧ identFrame s f 3 = true ∧ (canNode f = 0 ∨ canNode f = nodeOf s) ∧ nodeOf s ≠ 0 ∧ canUp s = true :=
  ⟨⟨768, true, padTo 16 [3]⟩, { pw := { dev := .ready, doms := [2, 2, 2, 2, 2, 2, 2, 2, 2, 2, 2, 2, 2, 2, 2, 2] }, tb := { src := [0, 0, 0, 0, 0, 1, 0, 0, 0, 0, 0, 0, 0], keeper := .unqualified }, can := { joined := true, assigned := 5 }, dict := { sesCan := { isOpen := true } }, mg := {  } }, by decide +kernel⟩

theorem wit_NodesAreAssigned_9 : ∃ (f : CanFrame) (s : State),
    s.pw.dev ≠ .off ∧ identFrame s f 3 = true ∧ canNode f = 0 ∧ nodeOf s = 0 :=
  ⟨⟨768, true, padTo 16 [3]⟩, { pw := { dev := .ready, doms := [2, 2, 2, 2, 2, 2, 2, 2, 2, 2, 2, 2, 2, 2, 2, 2] }, tb := { src := [0, 0, 0, 0, 0, 1, 0, 0, 0, 0, 0, 0, 0], keeper := .unqualified }, can := { joined := true }, dict := { sesCan := { isOpen := true } }, mg := {  } }, by decide +kernel⟩

theorem wit_NodesAreAssigned_10 : ∃ (f : CanFrame) (s : State),
    s.pw.dev ≠ .off ∧ (identFrame s f 3 = false ∨ (canNode f ≠ 0 ∧ canNode f ≠ nodeOf s)) :=
  ⟨⟨777, true, padTo 16 [3]⟩, { pw := { dev := .ready, doms := [2, 2, 2, 2, 2, 2, 2, 2, 2, 2, 2, 2, 2, 2, 2, 2] }, tb := { src := [0, 0, 0, 0, 0, 1, 0, 0, 0, 0, 0, 0, 0], keeper := .unqualified }, can := { joined := true, assigned := 5 }, dict := { sesCan := { isOpen := true } }, mg := {  } }, by decide +kernel⟩

theorem wit_NodesAreAssigned_11 : ∃  (s : State),
    s.pw.dev ≠ .off ∧ nodeOf s ≠ 0 ∧ canListens s = true :=
  ⟨{ pw := { dev := .ready, doms := [2, 2, 2, 2, 2, 2, 2, 2, 2, 2, 2, 2, 2, 2, 2, 2] }, tb := { src := [0, 0, 0, 0, 0, 1, 0, 0, 0, 0, 0, 0, 0], keeper := .unqualified }, can := { joined := true, assigned := 5 }, dict := { sesCan := { isOpen := true } }, mg := {  } }, by decide +kernel⟩

theorem wit_NodesAreAssigned_12 : ∃  (s : State),
    s.pw.dev ≠ .off ∧ (nodeOf s = 0 ∨ canListens s = false) :=
  ⟨{ pw := { dev := .ready, doms := [2, 2, 2, 2, 2, 2, 2, 2, 2, 2, 2, 2, 2, 2, 2, 2] }, tb := { src := [0, 0, 0, 0, 0, 1, 0, 0, 0, 0, 0, 0, 0], keeper := .unqualified }, can := { assigned := 5 }, dict := { sesCan := { isOpen := true } }, mg := {  } }, by decide +kernel⟩

theorem wit_NodesAreAssigned_13 : ∃ (t : Nat) (s : State),
    s.pw.dev ≠ .off ∧ s.can.collision = true ∧ spanOver (s.advance t) s.can.collisionAt 2000000000000 = true :=
  ⟨2000000000000, { pw := { dev := .ready, doms := [2, 2, 2, 2, 2, 2, 2, 2, 2, 2, 2, 2, 2, 2, 2, 2] }, tb := { src := [0, 0, 0, 0, 0, 1, 0, 0, 0, 0, 0, 0, 0], keeper := .unqualified }, can := { joined := true, assigned := 5, collision := true }, dict := { sesCan := { isOpen := true } }, mg := {  } }, by decide +kernel⟩

theorem wit_NodesAreAssigned_14 : ∃ (t : Nat) (s : State),
    s.pw.dev ≠ .off ∧ (s.can.collision = false ∨ spanOver (s.advance t) s.can.collisionAt 2000000000000 = false) :=
  ⟨5, { pw := { dev := .ready, doms := [2, 2, 2, 2, 2, 2, 2, 2, 2, 2, 2, 2, 2, 2, 2, 2] }, tb := { src := [0, 0, 0, 0, 0, 1, 0, 0, 0, 0, 0, 0, 0], keeper := .unqualified }, can := { joined := true, assigned := 5, collision := true }, dict := { sesCan := { isOpen := true } }, mg := {  } }, by decide +kernel⟩

theorem wit_CanStatesAndCommands_1 : ∃  (s : State),
    s.pw.dev ≠ .off ∧ canListens s = true :=
  ⟨{ pw := { dev := .ready, doms := [2, 2, 2, 2, 2, 2, 2, 2, 2, 2, 2, 2, 2, 2, 2, 2] }, tb := { src := [0, 0, 0, 0, 0, 1, 0, 0, 0, 0, 0, 0, 0], keeper := .unqualified }, can := { joined := true, assigned := 5 }, dict := { sesCan := { isOpen := true } }, mg := {  } }, by decide +kernel⟩

theorem wit_CanStatesAndCommands_2 : ∃  (s : State),
    s.pw.dev ≠ .off ∧ canListens s = false :=
  ⟨{ pw := { dev := .ready, doms := [2, 2, 2, 2, 2, 2, 2, 2, 2, 2, 2, 2, 2, 2, 2, 2] }, tb := { src := [0, 0, 0, 0, 0, 1, 0, 0, 0, 0, 0, 0, 0], keeper := .unqualified }, can := {  }, dict := { sesCan := { isOpen := true } }, mg := {  } }, by decide +kernel⟩

theorem wit_CanStatesAndCommands_3 : ∃  (s : State),
    s.pw.dev ≠ .off ∧ s.can.busOff = true :=
  ⟨{ pw := { dev := .ready, doms := [2, 2, 2, 2, 2, 2, 2, 2, 2, 2, 2, 2, 2, 2, 2, 2] }, tb := { src := [0, 0, 0, 0, 0, 1, 0, 0, 0, 0, 0, 0, 0], keeper := .unqualified }, can := { busOff := true }, dict := { sesCan := { isOpen := true } }, mg := {  } }, by decide +kernel⟩

theorem wit_CanStatesAndCommands_4 : ∃  (s : State),
    s.pw.dev ≠ .off ∧ s.can.busOff = false :=
  ⟨{ pw := { dev := .ready, doms := [2, 2, 2, 2, 2, 2, 2, 2, 2, 2, 2, 2, 2, 2, 2, 2] }, tb := { src := [0, 0, 0, 0, 0, 1, 0, 0, 0, 0, 0, 0, 0], keeper := .unqualified }, can := { joined := true, assigned := 5 }, dict := { sesCan := { isOpen := true } }, mg := {  } }, by decide +kernel⟩

theorem wit_CanStatesAndCommands_5 : ∃  (s : State),
    s.pw.dev ≠ .off ∧ clockOn s = true ∧ vcanOk s = true ∧ ticks s 9 6 = true ∧
    (nth s.tb.src 6 2 = 0 ∨ s.tb.keeper = .qualified) :=
  ⟨{ pw := { dev := .ready, doms := [2, 2, 2, 2, 2, 2, 2, 2, 2, 2, 2, 2, 2, 2, 2, 2] }, tb := { src := [0, 0, 0, 0, 0, 1, 0, 0, 0, 0, 0, 0, 0], keeper := .unqualified }, can := {  }, dict := { sesCan := { isOpen := true } }, mg := {  } }, by decide +kernel⟩

theorem wit_CanStatesAndCommands_6 : ∃  (s : State),
    s.pw.dev ≠ .off ∧ (clockOn s = false ∨ vcanOk s = false ∨ ticks s 9 6 = false ∨ (nth s.tb.src 6 2 ≠ 0 ∧
    s.tb.keeper ≠ .qualified)) :=
  ⟨{ ({ pw := { dev := .ready, doms := [2, 2, 2, 2, 2, 2, 2, 2, 2, 2, 2, 2, 2, 2, 2, 2] }, tb := { src := [0, 0, 0, 0, 0, 1, 0, 0, 0, 0, 0, 0, 0], keeper := .unqualified }, can := {  }, dict := { sesCan := { isOpen := true } }, mg := {  } } : State) with tb := { src := [0, 0, 0, 0, 0, 1, 1, 0, 0, 0, 0, 0, 0], keeper := .unqualified } }, by decide +kernel⟩

theorem wit_CanStatesAndCommands_7 : ∃ (t : Nat) (s : State),
    s.pw.dev ≠ .off ∧ running s = true ∧ nodeOf s ≠ 0 ∧ s.objN 0x1010 6 ≠ 0 ∧ canUp s = true ∧
    s.can.hbAt.all (fun a => spanOver (s.advance t) a (s.objN 0x1010 6 * 1000000000)) = true :=
  ⟨5, { pw := { dev := .ready, doms := [2, 2, 2, 2, 2, 2, 2, 2, 2, 2, 2, 2, 2, 2, 2, 2] }, tb := { src := [0, 0, 0, 0, 0, 1, 0, 0, 0, 0, 0, 0, 0], keeper := .unqualified }, can := { joined := true, assigned := 5, hbCount := 255 }, dict := { sesCan := { isOpen := true } }, mg := {  }, objs := [(0x101006, [100, 0])] }, by decide +kernel⟩

theorem wit_CanStatesAndCommands_8 : ∃ (t : Nat) (s : State),
    s.pw.dev ≠ .off ∧
    (running s = false ∨ nodeOf s = 0 ∨ s.objN 0x1010 6 = 0 ∨ canUp s = false ∨ s.can.hbAt.all (fun a => spanOver (s.advance t) a (s.objN 0x1010 6 * 1000000000)) = false) :=
  ⟨5, { pw := { dev := .ready, doms := [2, 2, 2, 2, 2, 2, 2, 2, 2, 2, 2, 2, 2, 2, 2, 2] }, tb := { src := [0, 0, 0, 0, 0, 1, 0, 0, 0, 0, 0, 0, 0], keeper := .unqualified }, can := { joined := true, assigned := 5, hbAt := some 3 }, dict := { sesCan := { isOpen := true } }, mg := {  }, objs := [(0x101006, [100, 0])] }, by decide +kernel⟩

theorem wit_CanStatesAndCommands_9 : ∃ (f : CanFrame) (s : State),
    s.pw.dev ≠ .off ∧ canHears s f = true ∧ canFunc f = 0 ∧ (canNode f = 0 ∨ canNode f = nodeOf s) ∧
    f.data = [1, 2, 0, 0, 0, 0, 0, 0] ∧ takes s .can 0x2E00 1 [2] = true ∧ s.pw.seq = .idle ∧ s.pw.dev ≠ .quiet :=
  ⟨⟨0, false, [1, 2, 0, 0, 0, 0, 0, 0]⟩, { pw := { dev := .ready, doms := [2, 2, 2, 2, 2, 2, 2, 2, 2, 2, 2, 2, 2, 2, 2, 2] }, tb := { src := [0, 0, 0, 0, 0, 1, 0, 0, 0, 0, 0, 0, 0], keeper := .unqualified }, can := { joined := true, assigned := 5 }, dict := { sesCan := { isOpen := true } }, mg := {  } }, by decide +kernel⟩

theorem wit_CanStatesAndCommands_10 : ∃ (f : CanFrame) (s : State),
    s.pw.dev ≠ .off ∧ canHears s f = true ∧ canFunc f = 0 ∧ (canNode f = 0 ∨ canNode f = nodeOf s) ∧
    f.data = [1, 2, 0, 0, 0, 0, 0, 0] ∧ takes s .can 0x2E00 1 [2] = true ∧ s.pw.dev = .quiet :=
  ⟨⟨5, false, [1, 2, 0, 0, 0, 0, 0, 0]⟩, { pw := { dev := .quiet, doms := [2, 2, 2, 2, 2, 2, 2, 2, 2, 2, 2, 2, 2, 2, 2, 2] }, tb := { src := [0, 0, 0, 0, 0, 1, 0, 0, 0, 0, 0, 0, 0], keeper := .unqualified }, can := { joined := true, assigned := 5 }, dict := { sesCan := { isOpen := true } }, mg := {  } }, by decide +kernel⟩

theorem wit_CanStatesAndCommands_11 : ∃ (f : CanFrame) (s : State),
    s.pw.dev ≠ .off ∧ (canHears s f = false ∨ canFunc f ≠ 0 ∨ (canNode f ≠ 0 ∧
    canNode f ≠ nodeOf s) ∨ f.data.length ≠ 8 ∨ canField f 0 1 ≠ 1 ∨ (f.data.drop 2).all (· == 0) = false ∨ served s 0x2E00 = false) :=
  ⟨⟨7, false, [1, 2, 0, 0, 0, 0, 0, 0]⟩, { pw := { dev := .ready, doms := [2, 2, 2, 2, 2, 2, 2, 2, 2, 2, 2, 2, 2, 2, 2, 2] }, tb := { src := [0, 0, 0, 0, 0, 1, 0, 0, 0, 0, 0, 0, 0], keeper := .unqualified }, can := { joined := true, assigned := 5 }, dict := { sesCan := { isOpen := true } }, mg := {  } }, by decide +kernel⟩

theorem wit_EventsAreModerated_1 : ∃ (t : Nat) (code : Nat) (a : EvAcc) (s : State),
    s.pw.dev ≠ .off ∧
    s.dict.evCan.acc.find? (fun a => a.code == code && spanOver (s.advance t) a.since (modWord s code / 256 % 65536 * 1000000)) = some a ∧
    evReady s .can = true :=
  ⟨5, 7, { code := 7, num := 3, eseq := 2, cls := 1, time := {}, ctx := [], since := 0 }, { pw := { dev := .ready, doms := [2, 2, 2, 2, 2, 2, 2, 2, 2, 2, 2, 2, 2, 2, 2, 2] }, tb := { src := [0, 0, 0, 0, 0, 1, 0, 0, 0, 0, 0, 0, 0], keeper := .unqualified }, can := { joined := true, assigned := 5 }, dict := { evCan := { acc := [{ code := 7, num := 3, eseq := 2, cls := 1, time := {}, ctx := [], since := 0 }] } }, mg := {  } }, by decide +kernel⟩

theorem wit_EventsAreModerated_2 : ∃ (t : Nat) (code : Nat) (a : EvAcc) (s : State),
    s.pw.dev ≠ .off ∧
    s.dict.evFerry.acc.find? (fun a => a.code == code && spanOver (s.advance t) a.since (modWord s code / 256 % 65536 * 1000000)) = some a ∧
    evReady s .ferry = true :=
  ⟨5, 7, { code := 7, num := 3, eseq := 2, cls := 1, time := {}, ctx := [], since := 0 }, { pw := { dev := .ready, doms := [2, 2, 2, 2, 2, 2, 2, 2, 2, 2, 2, 2, 2, 2, 2, 2] }, tb := { src := [0, 0, 0, 0, 0, 1, 0, 0, 0, 0, 0, 0, 0], keeper := .unqualified }, can := { joined := true, assigned := 5 }, dict := { evFerry := { acc := [{ code := 7, num := 3, eseq := 2, cls := 1, time := {}, ctx := [], since := 0 }] } }, mg := {  }, lane := { st := .fl0 } }, by decide +kernel⟩

theorem wit_EventsAreModerated_3 : ∃ (t : Nat) (code : Nat) (a : EvAcc) (p : Path) (s : State),
    s.pw.dev ≠ .off ∧
    (evPath s p).acc.find? (fun a => a.code == code && spanOver (s.advance t) a.since (modWord s code / 256 % 65536 * 1000000)) = some a ∧
    evReady s p = false :=
  ⟨5, 7, { code := 7, num := 3, eseq := 2, cls := 1, time := {}, ctx := [], since := 0 }, .ferry, { pw := { dev := .ready, doms := [2, 2, 2, 2, 2, 2, 2, 2, 2, 2, 2, 2, 2, 2, 2, 2] }, tb := { src := [0, 0, 0, 0, 0, 1, 0, 0, 0, 0, 0, 0, 0], keeper := .unqualified }, can := { joined := true, assigned := 5 }, dict := { evFerry := { acc := [{ code := 7, num := 3, eseq := 2, cls := 1, time := {}, ctx := [], since := 0 }] } }, mg := {  } }, by decide +kernel⟩

theorem wit_EventsAreModerated_4 : ∃ (t : Nat) (code : Nat) (p : Path) (s : State),
    s.pw.dev ≠ .off ∧
    (evPath s p).acc.find? (fun a => a.code == code && spanOver (s.advance t) a.since (modWord s code / 256 % 65536 * 1000000)) = none :=
  ⟨5, 7, .ferry, { pw := { dev := .ready, doms := [2, 2, 2, 2, 2, 2, 2, 2, 2, 2, 2, 2, 2, 2, 2, 2] }, tb := { src := [0, 0, 0, 0, 0, 1, 0, 0, 0, 0, 0, 0, 0], keeper := .unqualified }, can := { joined := true, assigned := 5 }, dict := { evFerry := { acc := [{ code := 7, num := 3, eseq := 2, cls := 1, time := {}, ctx := [], since := 0 }] } }, mg := {  }, objs := [(0x101104, List.replicate 32 255)] }, by decide +kernel⟩

theorem wit_EventsAreModerated_5 : ∃  (s : State),
    s.pw.dev ≠ .off ∧ s.dict.evCan.codes ≠ [] ∧ evReady s .can = true :=
  ⟨{ pw := { dev := .ready, doms := [2, 2, 2, 2, 2, 2, 2, 2, 2, 2, 2, 2, 2, 2, 2, 2] }, tb := { src := [0, 0, 0, 0, 0, 1, 0, 0, 0, 0, 0, 0, 0], keeper := .unqualified }, can := { joined := true, assigned := 5 }, dict := { evCan := { codes := [3, 9], first := 4, last := 6 } }, mg := {  } }, by decide +kernel⟩

theorem wit_EventsAreModerated_6 : ∃  (s : State),
    s.pw.dev ≠ .off ∧ s.dict.evFerry.codes ≠ [] ∧ evReady s .ferry = true :=
  ⟨{ pw := { dev := .ready, doms := [2, 2, 2, 2, 2, 2, 2, 2, 2, 2, 2, 2, 2, 2, 2, 2] }, tb := { src := [0, 0, 0, 0, 0, 1, 0, 0, 0, 0, 0, 0, 0], keeper := .unqualified }, can := { joined := true, assigned := 5 }, dict := { evFerry := { codes := [3, 9], first := 4, last := 6 } }, mg := {  }, lane := { st := .fl0 } }, by decide +kernel⟩

theorem wit_EventsAreModerated_7 : ∃ (p : Path) (s : State),
    s.pw.dev ≠ .off ∧ ((evPath s p).codes = [] ∨ evReady s p = false) :=
  ⟨.ferry, { pw := { dev := .ready, doms := [2, 2, 2, 2, 2, 2, 2, 2, 2, 2, 2, 2, 2, 2, 2, 2] }, tb := { src := [0, 0, 0, 0, 0, 1, 0, 0, 0, 0, 0, 0, 0], keeper := .unqualified }, can := { joined := true, assigned := 5 }, dict := { evFerry := { codes := [3, 9], first := 4, last := 6 } }, mg := {  } }, by decide +kernel⟩

theorem wit_ValuesAreSaved_1 : ∃ (v : Nat) (p : Path) (s : State),
    s.pw.dev ≠ .off ∧ takes s p 0x1013 1 (leBytes 1 v) = true ∧ s.pw.seq = .idle ∧ jrnlOpen s = true :=
  ⟨1, .can, { pw := { dev := .ready, doms := [2, 2, 2, 2, 2, 2, 2, 2, 2, 2, 2, 2, 2, 2, 2, 2] }, tb := { src := [0, 0, 0, 0, 0, 1, 0, 0, 0, 0, 0, 0, 0], keeper := .unqualified }, can := { joined := true, assigned := 5 }, dict := { sesCan := { isOpen := true } }, mg := {  }, nv := { jrnl := some { target := .restore, seq := 0, off := 0, crc := 0, units := 0, payload := 1, done := false } } }, by decide +kernel⟩

theorem wit_ValuesAreSaved_2 : ∃ (v : Nat) (p : Path) (k : Nat × Nat) (ks : List (Nat × Nat)) (s : State),
    s.pw.dev ≠ .off ∧ takes s p 0x1013 1 (leBytes 1 v) = true ∧ s.pw.seq = .idle ∧ jrnlOpen s = false ∧
    s.nv.jrnlWait = [] ∧ prepared s (.block 12) = false ∧ s.mg.haltMgmt = false ∧ persistObjs = k :: ks :=
  ⟨1, .can, (nth persistObjs 0 (0, 0)), (persistObjs.drop 1), { pw := { dev := .ready, doms := [2, 2, 2, 2, 2, 2, 2, 2, 2, 2, 2, 2, 2, 2, 2, 2] }, tb := { src := [0, 0, 0, 0, 0, 1, 0, 0, 0, 0, 0, 0, 0], keeper := .unqualified }, can := { joined := true, assigned := 5 }, dict := { sesCan := { isOpen := true } }, mg := {  } }, by decide +kernel⟩

theorem wit_ValuesAreSaved_3 : ∃ (v : Nat) (p : Path) (s : State),
    s.pw.dev ≠ .off ∧ takes s p 0x1013 2 (leBytes 1 v) = true ∧ s.pw.seq = .idle ∧ s.nv.jrnlWait = [] ∧
    jrnlOpen s = false ∧ prepared s (.block 12) = false ∧ s.mg.haltMgmt = false :=
  ⟨1, .can, { pw := { dev := .ready, doms := [2, 2, 2, 2, 2, 2, 2, 2, 2, 2, 2, 2, 2, 2, 2, 2] }, tb := { src := [0, 0, 0, 0, 0, 1, 0, 0, 0, 0, 0, 0, 0], keeper := .unqualified }, can := { joined := true, assigned := 5 }, dict := { sesCan := { isOpen := true } }, mg := {  } }, by decide +kernel⟩

theorem wit_ValuesAreSaved_4 : ∃ (v : Nat) (p : Path) (s : State),
    s.pw.dev ≠ .off ∧ takes s p 0x1013 1 (leBytes 1 v) = true ∧ s.pw.seq ≠ .idle :=
  ⟨1, .can, { ({ pw := { dev := .ready, doms := [2, 2, 2, 2, 2, 2, 2, 2, 2, 2, 2, 2, 2, 2, 2, 2] }, tb := { src := [0, 0, 0, 0, 0, 1, 0, 0, 0, 0, 0, 0, 0], keeper := .unqualified }, can := { joined := true, assigned := 5 }, dict := { sesCan := { isOpen := true } }, mg := {  } } : State) with pw := { dev := .ready, seq := .retryWait, doms := [2, 2, 2, 2, 2, 2, 2, 2, 2, 2, 2, 2, 2, 2, 2, 2] } }, by decide +kernel⟩

theorem wit_ValuesAreSaved_5 : ∃ (v : Nat) (p : Path) (s : State),
    s.pw.dev ≠ .off ∧ takes s p 0x1013 2 (leBytes 1 v) = true ∧ s.pw.seq ≠ .idle :=
  ⟨1, .can, { ({ pw := { dev := .ready, doms := [2, 2, 2, 2, 2, 2, 2, 2, 2, 2, 2, 2, 2, 2, 2, 2] }, tb := { src := [0, 0, 0, 0, 0, 1, 0, 0, 0, 0, 0, 0, 0], keeper := .unqualified }, can := { joined := true, assigned := 5 }, dict := { sesCan := { isOpen := true } }, mg := {  } } : State) with pw := { dev := .ready, seq := .retryWait, doms := [2, 2, 2, 2, 2, 2, 2, 2, 2, 2, 2, 2, 2, 2, 2, 2] } }, by decide +kernel⟩

theorem wit_ValuesAreSaved_6 : ∃ (v : Nat) (p : Path) (s : State),
    s.pw.dev ≠ .off ∧ takes s p 0x1013 3 (leBytes 1 v) = true :=
  ⟨1, .can, { pw := { dev := .ready, doms := [2, 2, 2, 2, 2, 2, 2, 2, 2, 2, 2, 2, 2, 2, 2, 2] }, tb := { src := [0, 0, 0, 0, 0, 1, 0, 0, 0, 0, 0, 0, 0], keeper := .unqualified }, can := { joined := true, assigned := 5 }, dict := { sesCan := { isOpen := true } }, mg := {  }, measSeq := [(0x2003, 4)] }, by decide +kernel⟩

theorem wit_SessionsAreGuarded_1 : ∃ (p : Path) (s : State),
    s.pw.dev ≠ .off ∧ served s 0x1020 = true ∧ lockedOut s p = false :=
  ⟨.can, { pw := { dev := .ready, doms := [2, 2, 2, 2, 2, 2, 2, 2, 2, 2, 2, 2, 2, 2, 2, 2] }, tb := { src := [0, 0, 0, 0, 0, 1, 0, 0, 0, 0, 0, 0, 0], keeper := .unqualified }, can := { joined := true, assigned := 5 }, dict := { sesCan := { isOpen := true } }, mg := {  } }, by decide +kernel⟩

theorem wit_SessionsAreGuarded_2 : ∃ (p : Path) (s : State),
    s.pw.dev ≠ .off ∧ served s 0x1020 = true ∧ lockedOut s p = true :=
  ⟨.can, { pw := { dev := .ready, doms := [2, 2, 2, 2, 2, 2, 2, 2, 2, 2, 2, 2, 2, 2, 2, 2] }, tb := { src := [0, 0, 0, 0, 0, 1, 0, 0, 0, 0, 0, 0, 0], keeper := .unqualified }, can := { joined := true, assigned := 5 }, dict := { sesCan := { lockUntil := some 900 } }, mg := {  } }, by decide +kernel⟩

theorem wit_SessionsAreGuarded_3 : ∃  (s : State),
    s.pw.dev ≠ .off ∧ served s 0x1020 = false :=
  ⟨{ pw := { dev := .boot, doms := [2, 2, 2, 2, 2, 2, 2, 2, 2, 2, 2, 2, 2, 2, 2, 2] }, tb := { src := [0, 0, 0, 0, 0, 1, 0, 0, 0, 0, 0, 0, 0], keeper := .unqualified }, can := { joined := true, assigned := 5 }, dict := { sesCan := { isOpen := true } }, mg := {  } }, by decide +kernel⟩

theorem wit_SessionsAreGuarded_4 : ∃ (t : Nat) (a : Nat) (p : Path) (data : List Byte) (key : List Byte) (c : List Byte) (s : State),
    s.pw.dev ≠ .off ∧ takes s p 0x1020 2 data = true ∧ s.nv.sessKey = some key ∧ (sess s p).challenge = some (c, a) ∧
    (s.advance t).now ≤ a + 10000000000000 ∧ data = wanted s p key c :=
  ⟨5, 3, .can, wanted { pw := { dev := .ready, doms := [2, 2, 2, 2, 2, 2, 2, 2, 2, 2, 2, 2, 2, 2, 2, 2] }, tb := { src := [0, 0, 0, 0, 0, 1, 0, 0, 0, 0, 0, 0, 0], keeper := .unqualified }, can := { joined := true, assigned := 5 }, dict := { sesCan := { challenge := some ([2], 3) } }, mg := {  }, nv := { sessKey := some [1] } } .can [1] [2], [1], [2], { pw := { dev := .ready, doms := [2, 2, 2, 2, 2, 2, 2, 2, 2, 2, 2, 2, 2, 2, 2, 2] }, tb := { src := [0, 0, 0, 0, 0, 1, 0, 0, 0, 0, 0, 0, 0], keeper := .unqualified }, can := { joined := true, assigned := 5 }, dict := { sesCan := { challenge := some ([2], 3) } }, mg := {  }, nv := { sessKey := some [1] } }, by decide +kernel⟩

theorem wit_SessionsAreGuarded_5 : ∃ (t : Nat) (a : Nat) (p : Path) (data : List Byte) (key : List Byte) (c : List Byte) (s : State),
    s.pw.dev ≠ .off ∧ takes s p 0x1020 2 data = true ∧ s.nv.sessKey = some key ∧ (sess s p).challenge = some (c, a) ∧
    (a + 10000000000000 < (s.advance t).now ∨ data ≠ wanted s p key c) :=
  ⟨20000000000000, 3, .can, List.replicate 32 9, [1], [2], { ({ pw := { dev := .ready, doms := [2, 2, 2, 2, 2, 2, 2, 2, 2, 2, 2, 2, 2, 2, 2, 2] }, tb := { src := [0, 0, 0, 0, 0, 1, 0, 0, 0, 0, 0, 0, 0], keeper := .unqualified }, can := { joined := true, assigned := 5 }, dict := { sesCan := { challenge := some ([2], 3), fails := 2 } }, mg := {  }, nv := { sessKey := some [1] } } : State) with now := 20000000000000 }, by decide +kernel⟩

theorem wit_SessionsAreGuarded_6 : ∃ (p : Path) (data : List Byte) (key : List Byte) (s : State),
    s.pw.dev ≠ .off ∧ takes s p 0x1020 2 data = true ∧ s.nv.sessKey = some key ∧ (sess s p).challenge = none :=
  ⟨.can, List.replicate 32 9, [1], { pw := { dev := .ready, doms := [2, 2, 2, 2, 2, 2, 2, 2, 2, 2, 2, 2, 2, 2, 2, 2] }, tb := { src := [0, 0, 0, 0, 0, 1, 0, 0, 0, 0, 0, 0, 0], keeper := .unqualified }, can := { joined := true, assigned := 5 }, dict := { sesCan := { isOpen := true } }, mg := {  }, nv := { sessKey := some [1] } }, by decide +kernel⟩

theorem wit_SessionsAreGuarded_7 : ∃ (p : Path) (data : List Byte) (s : State),
    s.pw.dev ≠ .off ∧ takes s p 0x1020 2 data = true ∧ s.nv.sessKey = none :=
  ⟨.can, List.replicate 32 9, { pw := { dev := .ready, doms := [2, 2, 2, 2, 2, 2, 2, 2, 2, 2, 2, 2, 2, 2, 2, 2] }, tb := { src := [0, 0, 0, 0, 0, 1, 0, 0, 0, 0, 0, 0, 0], keeper := .unqualified }, can := { joined := true, assigned := 5 }, dict := { sesCan := { isOpen := true } }, mg := {  } }, by decide +kernel⟩

theorem wit_SessionsAreGuarded_8 : ∃ (v : Nat) (p : Path) (s : State),
    s.pw.dev ≠ .off ∧ takes s p 0x1020 3 (leBytes 1 v) = true :=
  ⟨1, .can, { pw := { dev := .ready, doms := [2, 2, 2, 2, 2, 2, 2, 2, 2, 2, 2, 2, 2, 2, 2, 2] }, tb := { src := [0, 0, 0, 0, 0, 1, 0, 0, 0, 0, 0, 0, 0], keeper := .unqualified }, can := { joined := true, assigned := 5 }, dict := { sesCan := { isOpen := true } }, mg := {  } }, by decide +kernel⟩

theorem wit_SessionsAreGuarded_9 : ∃ (v : Nat) (s : State),
    s.pw.dev ≠ .off ∧ takes s .ferry 0x1020 3 (leBytes 1 v) = true :=
  ⟨1, { pw := { dev := .ready, doms := [2, 2, 2, 2, 2, 2, 2, 2, 2, 2, 2, 2, 2, 2, 2, 2] }, tb := { src := [0, 0, 0, 0, 0, 1, 0, 0, 0, 0, 0, 0, 0], keeper := .unqualified }, can := { joined := true, assigned := 5 }, dict := { sesFerry := { isOpen := true }, sesCan := { isOpen := true } }, mg := {  } }, by decide +kernel⟩

theorem wit_SessionsAreGuarded_10 : ∃ (p : Path) (data : List Byte) (s : State),
    s.pw.dev ≠ .off ∧ takes s p 0x1020 6 data = true ∧ sessKeyHeld s = false ∧ s.saf.lenA = false ∧ s.saf.lenB = false ∧
    s.nv.jrnlWait = [] ∧ jrnlOpen s = false ∧ prepared s (.block 12) = false ∧ s.mg.haltMgmt = false :=
  ⟨.can, List.replicate 32 9, { pw := { dev := .ready, doms := [2, 2, 2, 2, 2, 2, 2, 2, 2, 2, 2, 2, 2, 2, 2, 2] }, tb := { src := [0, 0, 0, 0, 0, 1, 0, 0, 0, 0, 0, 0, 0], keeper := .unqualified }, can := { joined := true, assigned := 5 }, dict := { sesCan := { isOpen := true } }, mg := {  } }, by decide +kernel⟩

theorem wit_SessionsAreGuarded_11 : ∃ (p : Path) (data : List Byte) (s : State),
    s.pw.dev ≠ .off ∧ takes s p 0x1020 6 data = true ∧ (sessKeyHeld s = true ∨ s.saf.lenA = true ∨ s.saf.lenB = true) :=
  ⟨.can, List.replicate 32 9, { pw := { dev := .ready, doms := [2, 2, 2, 2, 2, 2, 2, 2, 2, 2, 2, 2, 2, 2, 2, 2] }, tb := { src := [0, 0, 0, 0, 0, 1, 0, 0, 0, 0, 0, 0, 0], keeper := .unqualified }, can := { joined := true, assigned := 5 }, dict := { sesCan := { isOpen := true } }, mg := {  }, saf := { lenB := true } }, by decide +kernel⟩

theorem wit_SessionsAreGuarded_12 : ∃ (t : Nat) (p : Path) (s : State),
    s.pw.dev ≠ .off ∧ (sess s p).isOpen = true ∧
    (sess s p).lastWrite + s.objN 0x1020 5 * 1000000000000 ≤ (s.advance t).now :=
  ⟨60000000000000, .can, { ({ pw := { dev := .ready, doms := [2, 2, 2, 2, 2, 2, 2, 2, 2, 2, 2, 2, 2, 2, 2, 2] }, tb := { src := [0, 0, 0, 0, 0, 1, 0, 0, 0, 0, 0, 0, 0], keeper := .unqualified }, can := { joined := true, assigned := 5 }, dict := { sesCan := { isOpen := true } }, mg := {  } } : State) with now := 60000000000000 }, by decide +kernel⟩

theorem wit_SessionsAreGuarded_13 : ∃ (t : Nat) (p : Path) (s : State),
    s.pw.dev ≠ .off ∧
    ((sess s p).isOpen = false ∨ (s.advance t).now < (sess s p).lastWrite + s.objN 0x1020 5 * 1000000000000) :=
  ⟨5, .can, { pw := { dev := .ready, doms := [2, 2, 2, 2, 2, 2, 2, 2, 2, 2, 2, 2, 2, 2, 2, 2] }, tb := { src := [0, 0, 0, 0, 0, 1, 0, 0, 0, 0, 0, 0, 0], keeper := .unqualified }, can := { joined := true, assigned := 5 }, dict := { sesCan := { isOpen := true } }, mg := {  } }, by decide +kernel⟩

theorem wit_SessionsAreGuarded_14 : ∃ (t : Nat) (a : Nat) (p : Path) (s : State),
    s.pw.dev ≠ .off ∧ (sess s p).lockUntil = some a ∧ a ≤ (s.advance t).now :=
  ⟨900, 900, .can, { pw := { dev := .ready, doms := [2, 2, 2, 2, 2, 2, 2, 2, 2, 2, 2, 2, 2, 2, 2, 2] }, tb := { src := [0, 0, 0, 0, 0, 1, 0, 0, 0, 0, 0, 0, 0], keeper := .unqualified }, can := { joined := true, assigned := 5 }, dict := { sesCan := { lockUntil := some 900 } }, mg := {  } }, by decide +kernel⟩

theorem wit_SessionsAreGuarded_15 : ∃ (t : Nat) (a : Nat) (p : Path) (s : State),
    s.pw.dev ≠ .off ∧ (sess s p).lockUntil = some a ∧ (s.advance t).now < a :=
  ⟨5, 900, .can, { pw := { dev := .ready, doms := [2, 2, 2, 2, 2, 2, 2, 2, 2, 2, 2, 2, 2, 2, 2, 2] }, tb := { src := [0, 0, 0, 0, 0, 1, 0, 0, 0, 0, 0, 0, 0], keeper := .unqualified }, can := { joined := true, assigned := 5 }, dict := { sesCan := { lockUntil := some 900 } }, mg := {  } }, by decide +kernel⟩

theorem wit_ReadsAndWritesAreAnswered_1 : ∃ (t : Nat) (b : Bool) (m : List Byte) (r : ObjRow) (v : List Byte) (s : State),
    s.pw.dev ≠ .off ∧ canTakes s b 1 m = true ∧ mLen m = 0 ∧ isCust (mIdx m) = false ∧
    objFind (mIdx m) (mSub m) = some r ∧ r.acc ≠ .wo ∧ (r.acc = .rwf → s.saf.factory = true) ∧
    (isMeas (mIdx m) = false ∨ r.acc ≠ .ro) ∧ (mIdx m ≠ 0x1020 ∨ mSub m ≠ 1) ∧
    readNow (s.advance t) (mIdx m) (mSub m) = (0, v) ∧ v.length ≤ 56 :=
  ⟨5, false, reqMsg 1 7 0x1000 4 0 [], (objFind 0x1000 4).getD ⟨0, 0, 0, .u8, .ro, [], 0, false⟩, leBytes 8 0, { pw := { dev := .ready, doms := [2, 2, 2, 2, 2, 2, 2, 2, 2, 2, 2, 2, 2, 2, 2, 2] }, tb := { src := [0, 0, 0, 0, 0, 1, 0, 0, 0, 0, 0, 0, 0], keeper := .unqualified }, can := { joined := true, assigned := 5 }, dict := { sesCan := { isOpen := true } }, mg := {  } }, by decide +kernel⟩

theorem wit_ReadsAndWritesAreAnswered_2 : ∃ (b : Bool) (m : List Byte) (s : State),
    s.pw.dev ≠ .off ∧ canTakes s b 1 m = true ∧ mLen m = 0 ∧ isCust (mIdx m) = false ∧ objFind (mIdx m) (mSub m) = none :=
  ⟨false, reqMsg 1 7 0x1000 99 0 [], { pw := { dev := .ready, doms := [2, 2, 2, 2, 2, 2, 2, 2, 2, 2, 2, 2, 2, 2, 2, 2] }, tb := { src := [0, 0, 0, 0, 0, 1, 0, 0, 0, 0, 0, 0, 0], keeper := .unqualified }, can := { joined := true, assigned := 5 }, dict := { sesCan := { isOpen := true } }, mg := {  } }, by decide +kernel⟩

theorem wit_ReadsAndWritesAreAnswered_3 : ∃ (b : Bool) (m : List Byte) (s : State),
    s.pw.dev ≠ .off ∧ canTakes s b 2 m = true ∧ isCust (mIdx m) = false ∧
    takes s .can (mIdx m) (mSub m) (mData m) = true ∧ handlerOf .can (mIdx m) (mSub m) = storeH (mIdx m) (mSub m) ∧
    rising s.objs = true :=
  ⟨false, reqMsg 2 7 0x2D00 4 0 [3], { pw := { dev := .ready, doms := [2, 2, 2, 2, 2, 2, 2, 2, 2, 2, 2, 2, 2, 2, 2, 2] }, tb := { src := [0, 0, 0, 0, 0, 1, 0, 0, 0, 0, 0, 0, 0], keeper := .unqualified }, can := { joined := true, assigned := 5 }, dict := { sesCan := { isOpen := true } }, mg := {  } }, by decide +kernel, by decide +kernel, by decide +kernel, by decide +kernel, rfl, by decide +kernel⟩

theorem wit_ReadsAndWritesAreAnswered_4 : ∃ (c : Nat) (b : Bool) (m : List Byte) (s : State),
    s.pw.dev ≠ .off ∧ canTakes s b 2 m = true ∧ isCust (mIdx m) = false ∧ wrCheck s .can (mIdx m) (mSub m) = some c ∧
    c ≠ abPower :=
  ⟨abReadOnly, false, reqMsg 2 7 0x1000 3 0 [1], { pw := { dev := .ready, doms := [2, 2, 2, 2, 2, 2, 2, 2, 2, 2, 2, 2, 2, 2, 2, 2] }, tb := { src := [0, 0, 0, 0, 0, 1, 0, 0, 0, 0, 0, 0, 0], keeper := .unqualified }, can := { joined := true, assigned := 5 }, dict := { sesCan := { isOpen := true } }, mg := {  } }, by decide +kernel⟩

theorem wit_ReadsAndWritesAreAnswered_5 : ∃ (c : Nat) (b : Bool) (m : List Byte) (r : ObjRow) (s : State),
    s.pw.dev ≠ .off ∧ canTakes s b 2 m = true ∧ isCust (mIdx m) = false ∧ wrCheck s .can (mIdx m) (mSub m) = none ∧
    objFind (mIdx m) (mSub m) = some r ∧ ((lenOk r.ty (mData m).length = false ∧
    c = lenAbort (mIdx m)) ∨ (lenOk r.ty (mData m).length = true ∧ valueOk r (mData m) = false ∧ c = abRange)) ∧ c ≠ 0 :=
  ⟨abLength, false, reqMsg 2 7 0x2D00 4 0 [3, 4], (objFind 0x2D00 4).getD ⟨0, 0, 0, .u8, .ro, [], 0, false⟩, { pw := { dev := .ready, doms := [2, 2, 2, 2, 2, 2, 2, 2, 2, 2, 2, 2, 2, 2, 2, 2] }, tb := { src := [0, 0, 0, 0, 0, 1, 0, 0, 0, 0, 0, 0, 0], keeper := .unqualified }, can := { joined := true, assigned := 5 }, dict := { sesCan := { isOpen := true } }, mg := {  } }, by decide +kernel⟩

theorem wit_ReadsAndWritesAreAnswered_6 : ∃ (m : List Byte) (s : State),
    s.pw.dev ≠ .off ∧ canUp s = true ∧ nodeOf s ≠ 0 ∧ servedMsg s .can m = true ∧ serverBusy s = false ∧
    s.dict.canQueue = [] ∧ s.dict.queue = [] ∧ mCmd m ≠ 2 ∧ mCmd m ≠ 3 ∧ mCmd m ≠ 4 ∧ mCmd m ≠ 5 ∧ mCmd m ≠ 7 ∧
    (mCmd m ≠ 1 ∨ framed ⟨.can, false, 0, m⟩ = false) :=
  ⟨reqMsg 9 7 0x1000 4 0 [], { pw := { dev := .ready, doms := [2, 2, 2, 2, 2, 2, 2, 2, 2, 2, 2, 2, 2, 2, 2, 2] }, tb := { src := [0, 0, 0, 0, 0, 1, 0, 0, 0, 0, 0, 0, 0], keeper := .unqualified }, can := { joined := true, assigned := 5 }, dict := { sesCan := { isOpen := true } }, mg := {  } }, by decide +kernel⟩

theorem wit_ReadsAndWritesAreAnswered_7 : ∃ (q : Nat) (b : Bool) (m : List Byte) (m2 : List Byte) (s : State),
    s.pw.dev ≠ .off ∧ canUp s = true ∧ nodeOf s ≠ 0 ∧ servedMsg s .can m = true ∧ s.dict.canQueue = [] ∧
    s.dict.queue = [(q, b, m2)] ∧ ferryRuns s m2 = true ∧ queueFree s = true ∧ 5 < mCmd m ∧ mCmd m ≠ 7 ∧ 7 < mCmd m2 :=
  ⟨6, false, reqMsg 9 7 0x1000 4 0 [], msgOf 9 8 0x1000 4 0 [], { pw := { dev := .ready, doms := [2, 2, 2, 2, 2, 2, 2, 2, 2, 2, 2, 2, 2, 2, 2, 2] }, tb := { src := [0, 0, 0, 0, 0, 1, 0, 0, 0, 0, 0, 0, 0], keeper := .unqualified }, can := { joined := true, assigned := 5 }, dict := { queue := [(6, false, msgOf 9 8 0x1000 4 0 [])] }, mg := {  } }, by decide +kernel⟩

theorem wit_ReadsAndWritesAreAnswered_8 : ∃ (m : List Byte) (s : State),
    s.pw.dev ≠ .off ∧ canUp s = true ∧ nodeOf s ≠ 0 ∧ servedMsg s .can m = true ∧ serverBusy s = true ∧
    s.dict.canQueue.length < 4 ∧ mCmd m = 2 :=
  ⟨reqMsg 2 7 0x2D00 4 0 [3], { pw := { dev := .ready, doms := [2, 2, 2, 2, 2, 2, 2, 2, 2, 2, 2, 2, 2, 2, 2, 2] }, tb := { src := [0, 0, 0, 0, 0, 1, 0, 0, 0, 0, 0, 0, 0], keeper := .unqualified }, can := { joined := true, assigned := 5 }, dict := { sesCan := { isOpen := true } }, mg := { mbx := some { tag := 4, idx := 0x5001, sub := 2, write := true, data := [], ans := .writeOk, path := .can, bcast := false, bulk := false, reqTag := 8, seq := 3, at_ := 0 } } }, by decide +kernel⟩

theorem wit_ReadsAndWritesAreAnswered_9 : ∃ (m : List Byte) (s : State),
    s.pw.dev ≠ .off ∧ canUp s = true ∧ nodeOf s ≠ 0 ∧ servedMsg s .can m = true ∧ s.dict.canQueue.length = 4 ∧
    mCmd m = 2 :=
  ⟨reqMsg 2 7 0x2D00 4 0 [3], { pw := { dev := .ready, doms := [2, 2, 2, 2, 2, 2, 2, 2, 2, 2, 2, 2, 2, 2, 2, 2] }, tb := { src := [0, 0, 0, 0, 0, 1, 0, 0, 0, 0, 0, 0, 0], keeper := .unqualified }, can := { joined := true, assigned := 5 }, dict := { canQueue := List.replicate 4 (0, false, []) }, mg := {  } }, by decide +kernel⟩

theorem wit_ReadsAndWritesAreAnswered_10 : ∃ (t : Nat) (q : Nat) (b : Bool) (m : List Byte) (rest : List (Nat × Bool × List Byte)) (r : ObjRow) (v : List Byte) (s : State),
    s.pw.dev ≠ .off ∧ s.dict.queue = (q, b, m) :: rest ∧ serverBusy s = false ∧ servedMsg s .ferry m = true ∧
    queueFree s = true ∧ framed ⟨.ferry, b, q, m⟩ = true ∧ mCmd m = 1 ∧ mLen m = 0 ∧ isCust (mIdx m) = false ∧
    objFind (mIdx m) (mSub m) = some r ∧ r.acc ≠ .wo ∧ (r.acc = .rwf → s.saf.factory = true) ∧
    (isMeas (mIdx m) = false ∨ r.acc ≠ .ro) ∧ (mIdx m ≠ 0x1020 ∨ mSub m ≠ 1) ∧
    readNow (s.advance t) (mIdx m) (mSub m) = (0, v) ∧ v.length ≤ 224 :=
  ⟨5, 6, false, msgOf 1 7 0x1000 4 0 [], [], (objFind 0x1000 4).getD ⟨0, 0, 0, .u8, .ro, [], 0, false⟩, leBytes 8 0, { pw := { dev := .ready, doms := [2, 2, 2, 2, 2, 2, 2, 2, 2, 2, 2, 2, 2, 2, 2, 2] }, tb := { src := [0, 0, 0, 0, 0, 1, 0, 0, 0, 0, 0, 0, 0], keeper := .unqualified }, can := { joined := true, assigned := 5 }, dict := { queue := [(6, false, msgOf 1 7 0x1000 4 0 [])] }, mg := {  } }, by decide +kernel⟩

theorem wit_ReadsAndWritesAreAnswered_11 : ∃ (q : Nat) (b : Bool) (m : List Byte) (rest : List (Nat × Bool × List Byte)) (s : State),
    s.pw.dev ≠ .off ∧ s.dict.queue = (q, b, m) :: rest ∧ serverBusy s = false ∧ servedMsg s .ferry m = true ∧
    queueFree s = true ∧ framed ⟨.ferry, b, q, m⟩ = true ∧ mCmd m = 2 ∧ isCust (mIdx m) = false ∧
    takes s .ferry (mIdx m) (mSub m) (mData m) = true ∧ handlerOf .ferry (mIdx m) (mSub m) = storeH (mIdx m) (mSub m) ∧
    rising s.objs = true :=
  ⟨6, false, msgOf 2 7 0x2D00 4 0 [3], [], { pw := { dev := .ready, doms := [2, 2, 2, 2, 2, 2, 2, 2, 2, 2, 2, 2, 2, 2, 2, 2] }, tb := { src := [0, 0, 0, 0, 0, 1, 0, 0, 0, 0, 0, 0, 0], keeper := .unqualified }, can := { joined := true, assigned := 5 }, dict := { queue := [(6, false, msgOf 2 7 0x2D00 4 0 [3])], sesFerry := { isOpen := true } }, mg := {  } }, by decide +kernel, by decide +kernel, by decide +kernel, by decide +kernel, by decide +kernel, by decide +kernel, by decide +kernel, by decide +kernel, by decide +kernel, rfl, by decide +kernel⟩

theorem wit_ReadsAndWritesAreAnswered_12 : ∃ (q : Nat) (b : Bool) (m : List Byte) (rest : List (Nat × Bool × List Byte)) (s : State),
    s.pw.dev ≠ .off ∧ s.dict.queue = (q, b, m) :: rest ∧
    (serverBusy s = true ∨ servedMsg s .ferry m = false ∨ queueFree s = false) :=
  ⟨6, false, msgOf 2 7 0x2D00 4 0 [3], [], { pw := { dev := .ready, doms := [2, 2, 2, 2, 2, 2, 2, 2, 2, 2, 2, 2, 2, 2, 2, 2] }, tb := { src := [0, 0, 0, 0, 0, 1, 0, 0, 0, 0, 0, 0, 0], keeper := .unqualified }, can := { joined := true, assigned := 5 }, dict := { queue := [(6, false, msgOf 2 7 0x2D00 4 0 [3])] }, mg := { mbx := some { tag := 4, idx := 0x5001, sub := 2, write := true, data := [], ans := .writeOk, path := .can, bcast := false, bulk := false, reqTag := 8, seq := 3, at_ := 0 } } }, by decide +kernel⟩

theorem wit_ReadsAndWritesAreAnswered_13 : ∃ (m : List Byte) (s : State),
    s.pw.dev ≠ .off ∧ (mCmd m = 2 ∨ mCmd m = 3 ∨ mCmd m = 4 ∨ mCmd m = 5 ∨ mCmd m = 7) :=
  ⟨reqMsg 2 7 0x2D00 4 0 [3], { pw := { dev := .ready, doms := [2, 2, 2, 2, 2, 2, 2, 2, 2, 2, 2, 2, 2, 2, 2, 2] }, tb := { src := [0, 0, 0, 0, 0, 1, 0, 0, 0, 0, 0, 0, 0], keeper := .unqualified }, can := { joined := true, assigned := 5 }, dict := { sesCan := { isOpen := true } }, mg := {  } }, by decide +kernel⟩

theorem wit_ReadsAndWritesAreAnswered_14 : ∃ (m : List Byte) (s : State),
    s.pw.dev ≠ .off ∧ (mCmd m ≠ 2 ∨ nodeOf s = 0 ∨ servedMsg s .can m = false ∨ canListens s = false) :=
  ⟨reqMsg 2 7 0x2D00 4 0 [3], { pw := { dev := .boot, doms := [2, 2, 2, 2, 2, 2, 2, 2, 2, 2, 2, 2, 2, 2, 2, 2] }, tb := { src := [0, 0, 0, 0, 0, 1, 0, 0, 0, 0, 0, 0, 0], keeper := .unqualified }, can := { joined := true, assigned := 5 }, dict := { sesCan := { isOpen := true } }, mg := {  } }, by decide +kernel⟩

theorem wit_ReadsAndWritesAreAnswered_15 : ∃ (idx : Nat) (r : ObjRow) (s : State),
    s.pw.dev ≠ .off ∧ served s idx = true ∧ isMeas idx = true ∧ objFind idx 0 = some r ∧ r.acc = .ro ∧
    blockOn s (servedBy idx) = true :=
  ⟨0x2003, (objFind 0x2003 0).getD ⟨0, 0, 0, .u8, .ro, [], 0, false⟩, { pw := { dev := .ready, doms := [2, 2, 2, 2, 2, 2, 2, 2, 2, 2, 2, 2, 2, 2, 2, 2] }, tb := { src := [0, 0, 0, 0, 0, 1, 0, 0, 0, 0, 0, 0, 0], keeper := .unqualified }, can := { joined := true, assigned := 5 }, dict := { sesCan := { isOpen := true } }, mg := {  }, measSeq := [(0x2003, 4)] }, by decide +kernel⟩

theorem wit_ReadsAndWritesAreAnswered_16 : ∃ (idx : Nat) (r : ObjRow) (s : State),
    s.pw.dev ≠ .off ∧ served s idx = true ∧ isMeas idx = true ∧ objFind idx 0 = some r ∧ r.acc = .ro ∧
    blockOn s (servedBy idx) = false :=
  ⟨0x2003, (objFind 0x2003 0).getD ⟨0, 0, 0, .u8, .ro, [], 0, false⟩, { pw := { dev := .quiet, doms := [2, 2, 2, 2, 2, 2, 2, 2, 2, 2, 2, 2, 2, 2, 2, 2] }, tb := { src := [0, 0, 0, 0, 0, 1, 0, 0, 0, 0, 0, 0, 0], keeper := .unqualified }, can := { joined := true, assigned := 5 }, dict := { sesCan := { isOpen := true } }, mg := {  } }, by decide +kernel⟩

theorem wit_ReadsAndWritesAreAnswered_17 : ∃ (idx : Nat) (s : State),
    s.pw.dev ≠ .off ∧ (served s idx = false ∨ isMeas idx = false) :=
  ⟨0x2003, { pw := { dev := .boot, doms := [2, 2, 2, 2, 2, 2, 2, 2, 2, 2, 2, 2, 2, 2, 2, 2] }, tb := { src := [0, 0, 0, 0, 0, 1, 0, 0, 0, 0, 0, 0, 0], keeper := .unqualified }, can := { joined := true, assigned := 5 }, dict := { sesCan := { isOpen := true } }, mg := {  } }, by decide +kernel⟩

theorem wit_TransfersRun_1 : ∃ (m : List Byte) (s : State),
    s.pw.dev ≠ .off ∧ canTakes s false 3 m = true ∧ (mData m).length = 5 ∧ leField (mData m) 4 1 = 0 ∧
    initCode ⟨.can, false, 0, m⟩ (leField (mData m) 0 4) s = 0 ∧ s.dict.xferCan = none :=
  ⟨reqMsg 3 7 0x2520 1 0 [100, 0, 0, 0, 0], { pw := { dev := .ready, doms := [2, 2, 2, 2, 2, 2, 2, 2, 2, 2, 2, 2, 2, 2, 2, 2] }, tb := { src := [0, 0, 0, 0, 0, 1, 0, 0, 0, 0, 0, 0, 0], keeper := .unqualified }, can := { joined := true, assigned := 5 }, dict := { sesCan := { isOpen := true } }, mg := {  } }, by decide +kernel⟩

theorem wit_TransfersRun_2 : ∃ (m : List Byte) (y : Xfer) (s : State),
    s.pw.dev ≠ .off ∧ canTakes s false 3 m = true ∧ (mData m).length = 5 ∧ leField (mData m) 4 1 = 0 ∧
    initCode ⟨.can, false, 0, m⟩ (leField (mData m) 0 4) s = 0 ∧ s.dict.xferCan = some y :=
  ⟨reqMsg 3 7 0x2520 1 0 [100, 0, 0, 0, 0], { idx := 0x2D01, sub := 3, upload := false, bulk := false, size := 100, crc := 0, data := [], seg := 0, blk := 4, got := [], tag := 9, at_ := 0 }, { pw := { dev := .ready, doms := [2, 2, 2, 2, 2, 2, 2, 2, 2, 2, 2, 2, 2, 2, 2, 2] }, tb := { src := [0, 0, 0, 0, 0, 1, 0, 0, 0, 0, 0, 0, 0], keeper := .unqualified }, can := { joined := true, assigned := 5 }, dict := { xferCan := some ({ idx := 0x2D01, sub := 3, upload := false, bulk := false, size := 100, crc := 0, data := [], seg := 0, blk := 4, got := [], tag := 9, at_ := 0 }), sesCan := { isOpen := true } }, mg := {  } }, by decide +kernel⟩

theorem wit_TransfersRun_3 : ∃ (c : Nat) (m : List Byte) (s : State),
    s.pw.dev ≠ .off ∧ canTakes s false 3 m = true ∧ (mData m).length = 5 ∧ leField (mData m) 4 1 = 0 ∧
    initCode ⟨.can, false, 0, m⟩ (leField (mData m) 0 4) s = c ∧ c ≠ 0 ∧ c ≠ abPower :=
  ⟨abLength, reqMsg 3 7 0x2D00 4 0 [100, 0, 0, 0, 0], { pw := { dev := .ready, doms := [2, 2, 2, 2, 2, 2, 2, 2, 2, 2, 2, 2, 2, 2, 2, 2] }, tb := { src := [0, 0, 0, 0, 0, 1, 0, 0, 0, 0, 0, 0, 0], keeper := .unqualified }, can := { joined := true, assigned := 5 }, dict := { sesCan := { isOpen := true } }, mg := {  } }, by decide +kernel⟩

theorem wit_TransfersRun_4 : ∃ (m : List Byte) (s : State),
    s.pw.dev ≠ .off ∧ canTakes s true 3 m = true :=
  ⟨reqMsg 3 7 0x2520 1 0 [100, 0, 0, 0, 0], { pw := { dev := .ready, doms := [2, 2, 2, 2, 2, 2, 2, 2, 2, 2, 2, 2, 2, 2, 2, 2] }, tb := { src := [0, 0, 0, 0, 0, 1, 0, 0, 0, 0, 0, 0, 0], keeper := .unqualified }, can := { joined := true, assigned := 5 }, dict := { sesCan := { isOpen := true } }, mg := {  } }, by decide +kernel⟩

theorem wit_TransfersRun_5 : ∃ (m : List Byte) (x : Xfer) (s : State),
    s.pw.dev ≠ .off ∧ canTakes s false 4 m = true ∧ s.dict.xferCan = some x ∧ s.dict.lastCan = none ∧ x.idx = mIdx m ∧
    x.sub = mSub m ∧ x.bulk = false ∧ x.upload = false ∧ mTag m = x.seg % 256 ∧ mFlags m = 0 ∧ mLen m = 56 ∧
    x.data.length + 56 ≤ x.size :=
  ⟨reqMsg 4 0 0x2D01 3 0 (List.replicate 56 6), { idx := 0x2D01, sub := 3, upload := false, bulk := false, size := 100, crc := 0, data := [], seg := 0, blk := 4, got := [], tag := 9, at_ := 0 }, { pw := { dev := .ready, doms := [2, 2, 2, 2, 2, 2, 2, 2, 2, 2, 2, 2, 2, 2, 2, 2] }, tb := { src := [0, 0, 0, 0, 0, 1, 0, 0, 0, 0, 0, 0, 0], keeper := .unqualified }, can := { joined := true, assigned := 5 }, dict := { xferCan := some ({ idx := 0x2D01, sub := 3, upload := false, bulk := false, size := 100, crc := 0, data := [], seg := 0, blk := 4, got := [], tag := 9, at_ := 0 }), sesCan := { isOpen := true } }, mg := {  } }, by decide +kernel⟩

theorem wit_TransfersRun_6 : ∃ (m : List Byte) (x : Xfer) (s : State),
    s.pw.dev ≠ .off ∧ canTakes s false 4 m = true ∧ s.dict.xferCan = some x ∧ s.dict.lastCan = none ∧ x.idx = mIdx m ∧
    x.sub = mSub m ∧ x.bulk = false ∧ x.upload = false ∧ mTag m = x.seg % 256 ∧ ((mFlags m % 2 = 0 ∧
    mLen m ≠ 56) ∨ x.size < x.data.length + mLen m ∨ (mFlags m % 2 = 1 ∧ x.data.length + mLen m ≠ x.size)) :=
  ⟨reqMsg 4 0 0x2D01 3 0 (List.replicate 24 6), { idx := 0x2D01, sub := 3, upload := false, bulk := false, size := 100, crc := 0, data := [], seg := 0, blk := 4, got := [], tag := 9, at_ := 0 }, { pw := { dev := .ready, doms := [2, 2, 2, 2, 2, 2, 2, 2, 2, 2, 2, 2, 2, 2, 2, 2] }, tb := { src := [0, 0, 0, 0, 0, 1, 0, 0, 0, 0, 0, 0, 0], keeper := .unqualified }, can := { joined := true, assigned := 5 }, dict := { xferCan := some ({ idx := 0x2D01, sub := 3, upload := false, bulk := false, size := 100, crc := 0, data := [], seg := 0, blk := 4, got := [], tag := 9, at_ := 0 }), sesCan := { isOpen := true } }, mg := {  } }, by decide +kernel⟩

theorem wit_TransfersRun_7 : ∃ (m : List Byte) (x : Xfer) (s : State),
    s.pw.dev ≠ .off ∧ canTakes s false 4 m = true ∧ s.dict.xferCan = some x ∧ s.dict.lastCan = none ∧ x.idx = mIdx m ∧
    x.sub = mSub m ∧ x.bulk = false ∧ x.upload = true ∧ mTag m = x.seg % 256 ∧ mLen m = 0 ∧ 56 * (x.seg + 1) < x.size :=
  ⟨reqMsg 4 1 0x2D01 3 0 [], { idx := 0x2D01, sub := 3, upload := true, bulk := false, size := 200, crc := 0, data := List.replicate 200 1, seg := 1, blk := 4, got := [], tag := 9, at_ := 0 }, { pw := { dev := .ready, doms := [2, 2, 2, 2, 2, 2, 2, 2, 2, 2, 2, 2, 2, 2, 2, 2] }, tb := { src := [0, 0, 0, 0, 0, 1, 0, 0, 0, 0, 0, 0, 0], keeper := .unqualified }, can := { joined := true, assigned := 5 }, dict := { xferCan := some ({ idx := 0x2D01, sub := 3, upload := true, bulk := false, size := 200, crc := 0, data := List.replicate 200 1, seg := 1, blk := 4, got := [], tag := 9, at_ := 0 }), sesCan := { isOpen := true } }, mg := {  } }, by decide +kernel⟩

theorem wit_TransfersRun_8 : ∃ (m : List Byte) (x : Xfer) (s : State),
    s.pw.dev ≠ .off ∧ canTakes s false 4 m = true ∧ s.dict.xferCan = some x ∧ s.dict.lastCan = none ∧ x.idx = mIdx m ∧
    x.sub = mSub m ∧ x.bulk = false ∧ x.upload = true ∧ mTag m = x.seg % 256 ∧ mLen m = 0 ∧ x.size ≤ 56 * (x.seg + 1) :=
  ⟨reqMsg 4 1 0x2D01 3 0 [], { idx := 0x2D01, sub := 3, upload := true, bulk := false, size := 100, crc := 0, data := List.replicate 100 1, seg := 1, blk := 4, got := [], tag := 9, at_ := 0 }, { pw := { dev := .ready, doms := [2, 2, 2, 2, 2, 2, 2, 2, 2, 2, 2, 2, 2, 2, 2, 2] }, tb := { src := [0, 0, 0, 0, 0, 1, 0, 0, 0, 0, 0, 0, 0], keeper := .unqualified }, can := { joined := true, assigned := 5 }, dict := { xferCan := some ({ idx := 0x2D01, sub := 3, upload := true, bulk := false, size := 100, crc := 0, data := List.replicate 100 1, seg := 1, blk := 4, got := [], tag := 9, at_ := 0 }), sesCan := { isOpen := true } }, mg := {  } }, by decide +kernel⟩

theorem wit_TransfersRun_9 : ∃ (m : List Byte) (x : Xfer) (s : State),
    s.pw.dev ≠ .off ∧ canTakes s false 4 m = true ∧ s.dict.xferCan = some x ∧ s.dict.lastCan = none ∧ x.idx = mIdx m ∧
    x.sub = mSub m ∧ x.bulk = false ∧ mTag m ≠ x.seg % 256 :=
  ⟨reqMsg 4 3 0x2D01 3 0 [], { idx := 0x2D01, sub := 3, upload := false, bulk := false, size := 100, crc := 0, data := [], seg := 0, blk := 4, got := [], tag := 9, at_ := 0 }, { pw := { dev := .ready, doms := [2, 2, 2, 2, 2, 2, 2, 2, 2, 2, 2, 2, 2, 2, 2, 2] }, tb := { src := [0, 0, 0, 0, 0, 1, 0, 0, 0, 0, 0, 0, 0], keeper := .unqualified }, can := { joined := true, assigned := 5 }, dict := { xferCan := some ({ idx := 0x2D01, sub := 3, upload := false, bulk := false, size := 100, crc := 0, data := [], seg := 0, blk := 4, got := [], tag := 9, at_ := 0 }), sesCan := { isOpen := true } }, mg := {  } }, by decide +kernel⟩

theorem wit_TransfersRun_10 : ∃ (m : List Byte) (a : SegAns) (s : State),
    s.pw.dev ≠ .off ∧ canTakes s false 4 m = true ∧ s.dict.lastCan = some a ∧ a.tag = mTag m ∧ a.idx = mIdx m ∧
    a.sub = mSub m ∧ (a.final = true ∨ s.dict.xferCan.isSome = true) :=
  ⟨reqMsg 4 3 0x2D01 3 0 [], ⟨3, 0x2D01, 3, true, []⟩, { pw := { dev := .ready, doms := [2, 2, 2, 2, 2, 2, 2, 2, 2, 2, 2, 2, 2, 2, 2, 2] }, tb := { src := [0, 0, 0, 0, 0, 1, 0, 0, 0, 0, 0, 0, 0], keeper := .unqualified }, can := { joined := true, assigned := 5 }, dict := { lastCan := some ⟨3, 0x2D01, 3, true, []⟩ }, mg := {  } }, by decide +kernel⟩

theorem wit_TransfersRun_11 : ∃ (m : List Byte) (s : State),
    s.pw.dev ≠ .off ∧ canTakes s false 4 m = true ∧ s.dict.xferCan = none ∧ s.dict.lastCan = none :=
  ⟨reqMsg 4 3 0x2D01 3 0 [], { pw := { dev := .ready, doms := [2, 2, 2, 2, 2, 2, 2, 2, 2, 2, 2, 2, 2, 2, 2, 2] }, tb := { src := [0, 0, 0, 0, 0, 1, 0, 0, 0, 0, 0, 0, 0], keeper := .unqualified }, can := { joined := true, assigned := 5 }, dict := { sesCan := { isOpen := true } }, mg := {  } }, by decide +kernel⟩

theorem wit_TransfersRun_12 : ∃ (m : List Byte) (s : State),
    s.pw.dev ≠ .off ∧ canTakes s false 5 m = true :=
  ⟨reqMsg 5 3 0x2D01 3 0 [0, 0, 0, 0], { pw := { dev := .ready, doms := [2, 2, 2, 2, 2, 2, 2, 2, 2, 2, 2, 2, 2, 2, 2, 2] }, tb := { src := [0, 0, 0, 0, 0, 1, 0, 0, 0, 0, 0, 0, 0], keeper := .unqualified }, can := { joined := true, assigned := 5 }, dict := { xferCan := some ({ idx := 0x2D01, sub := 3, upload := false, bulk := false, size := 100, crc := 0, data := [], seg := 0, blk := 4, got := [], tag := 9, at_ := 0 }), sesCan := { isOpen := true } }, mg := {  } }, by decide +kernel⟩

theorem wit_TransfersRun_13 : ∃ (m : List Byte) (s : State),
    s.pw.dev ≠ .off ∧ canTakes s true 5 m = true :=
  ⟨reqMsg 5 3 0x2D01 3 0 [0, 0, 0, 0], { pw := { dev := .ready, doms := [2, 2, 2, 2, 2, 2, 2, 2, 2, 2, 2, 2, 2, 2, 2, 2] }, tb := { src := [0, 0, 0, 0, 0, 1, 0, 0, 0, 0, 0, 0, 0], keeper := .unqualified }, can := { joined := true, assigned := 5 }, dict := { xferCan := some ({ idx := 0x2D01, sub := 3, upload := false, bulk := false, size := 100, crc := 0, data := [], seg := 0, blk := 4, got := [], tag := 9, at_ := 0 }), sesCan := { isOpen := true } }, mg := {  } }, by decide +kernel⟩

theorem wit_TransfersRun_14 : ∃ (f : CanFrame) (x : Xfer) (s : State),
    s.pw.dev ≠ .off ∧ canHears s f = true ∧ f.fd = true ∧ canFunc f = 5 ∧ nodeOf s ≠ 0 ∧ canNode f = nodeOf s ∧
    f.data.length = 64 ∧ s.dict.xferCan = some x ∧ x.bulk = true ∧ x.upload = false ∧ 1 ≤ canField f 0 1 ∧
    canField f 0 1 < x.blk ∧ x.blk ≤ 127 ∧ x.got.length + 1 < x.blk :=
  ⟨⟨645, true, 2 :: List.replicate 63 9⟩, { idx := 0x2D01, sub := 3, upload := false, bulk := true, size := 100, crc := 0, data := [], seg := 0, blk := 4, got := [], tag := 9, at_ := 0 }, { pw := { dev := .ready, doms := [2, 2, 2, 2, 2, 2, 2, 2, 2, 2, 2, 2, 2, 2, 2, 2] }, tb := { src := [0, 0, 0, 0, 0, 1, 0, 0, 0, 0, 0, 0, 0], keeper := .unqualified }, can := { joined := true, assigned := 5 }, dict := { xferCan := some ({ idx := 0x2D01, sub := 3, upload := false, bulk := true, size := 100, crc := 0, data := [], seg := 0, blk := 4, got := [], tag := 9, at_ := 0 }), sesCan := { isOpen := true } }, mg := {  } }, by decide +kernel⟩

theorem wit_TransfersRun_15 : ∃ (f : CanFrame) (s : State),
    s.pw.dev ≠ .off ∧
    (canHears s f = false ∨ f.fd = false ∨ canFunc f ≠ 5 ∨ nodeOf s = 0 ∨ canNode f ≠ nodeOf s ∨ f.data.length ≠ 64) :=
  ⟨⟨646, true, 2 :: List.replicate 63 9⟩, { pw := { dev := .ready, doms := [2, 2, 2, 2, 2, 2, 2, 2, 2, 2, 2, 2, 2, 2, 2, 2] }, tb := { src := [0, 0, 0, 0, 0, 1, 0, 0, 0, 0, 0, 0, 0], keeper := .unqualified }, can := { joined := true, assigned := 5 }, dict := { xferCan := some ({ idx := 0x2D01, sub := 3, upload := false, bulk := true, size := 100, crc := 0, data := [], seg := 0, blk := 4, got := [], tag := 9, at_ := 0 }), sesCan := { isOpen := true } }, mg := {  } }, by decide +kernel⟩

theorem wit_TransfersRun_16 : ∃ (f : CanFrame) (x : Xfer) (s : State),
    s.pw.dev ≠ .off ∧ canHears s f = true ∧ f.fd = true ∧ canFunc f = 5 ∧ nodeOf s ≠ 0 ∧ canNode f = nodeOf s ∧
    f.data.length = 64 ∧ s.dict.xferCan = some x ∧
    (x.bulk = false ∨ x.upload = true ∨ canField f 0 1 % 128 = 0 ∨ x.blk < canField f 0 1 % 128) :=
  ⟨⟨645, true, 9 :: List.replicate 63 9⟩, { idx := 0x2D01, sub := 3, upload := false, bulk := true, size := 100, crc := 0, data := [], seg := 0, blk := 4, got := [], tag := 9, at_ := 0 }, { pw := { dev := .ready, doms := [2, 2, 2, 2, 2, 2, 2, 2, 2, 2, 2, 2, 2, 2, 2, 2] }, tb := { src := [0, 0, 0, 0, 0, 1, 0, 0, 0, 0, 0, 0, 0], keeper := .unqualified }, can := { joined := true, assigned := 5 }, dict := { xferCan := some ({ idx := 0x2D01, sub := 3, upload := false, bulk := true, size := 100, crc := 0, data := [], seg := 0, blk := 4, got := [], tag := 9, at_ := 0 }), sesCan := { isOpen := true } }, mg := {  } }, by decide +kernel⟩

theorem wit_TransfersRun_17 : ∃ (t : Nat) (x : Xfer) (s : State),
    s.pw.dev ≠ .off ∧ s.dict.xferCan = some x ∧ x.bulk = true ∧ x.upload = false ∧ x.got ≠ [] ∧
    spanOver (s.advance t) x.at_ 10000000000 = true ∧ (∀ g ∈ x.got, g.2.1 = false) ∧ canUp s = true ∧ nodeOf s ≠ 0 :=
  ⟨10000000000, { idx := 0x2D01, sub := 3, upload := false, bulk := true, size := 100, crc := 0, data := [], seg := 0, blk := 4, got := [(1, false, [4]), (3, false, [5])], tag := 9, at_ := 0 }, { pw := { dev := .ready, doms := [2, 2, 2, 2, 2, 2, 2, 2, 2, 2, 2, 2, 2, 2, 2, 2] }, tb := { src := [0, 0, 0, 0, 0, 1, 0, 0, 0, 0, 0, 0, 0], keeper := .unqualified }, can := { joined := true, assigned := 5 }, dict := { xferCan := some ({ idx := 0x2D01, sub := 3, upload := false, bulk := true, size := 100, crc := 0, data := [], seg := 0, blk := 4, got := [(1, false, [4]), (3, false, [5])], tag := 9, at_ := 0 }), sesCan := { isOpen := true } }, mg := {  } }, by decide +kernel⟩

theorem wit_TransfersRun_18 : ∃ (t : Nat) (x : Xfer) (s : State),
    s.pw.dev ≠ .off ∧ s.dict.xferCan = some x ∧
    (x.bulk = false ∨ x.upload = true ∨ x.got = [] ∨ spanOver (s.advance t) x.at_ 10000000000 = false) :=
  ⟨5, { idx := 0x2D01, sub := 3, upload := false, bulk := true, size := 100, crc := 0, data := [], seg := 0, blk := 4, got := [(1, false, [4]), (3, false, [5])], tag := 9, at_ := 0 }, { pw := { dev := .ready, doms := [2, 2, 2, 2, 2, 2, 2, 2, 2, 2, 2, 2, 2, 2, 2, 2] }, tb := { src := [0, 0, 0, 0, 0, 1, 0, 0, 0, 0, 0, 0, 0], keeper := .unqualified }, can := { joined := true, assigned := 5 }, dict := { xferCan := some ({ idx := 0x2D01, sub := 3, upload := false, bulk := true, size := 100, crc := 0, data := [], seg := 0, blk := 4, got := [(1, false, [4]), (3, false, [5])], tag := 9, at_ := 0 }), sesCan := { isOpen := true } }, mg := {  } }, by decide +kernel⟩

theorem wit_TransfersRun_19 : ∃ (m : List Byte) (x : Xfer) (s : State),
    s.pw.dev ≠ .off ∧ canTakes s false 7 m = true ∧ s.dict.xferCan = some x ∧ x.idx = mIdx m ∧ x.sub = mSub m ∧
    x.bulk = true ∧ x.upload = true ∧ mLen m = 2 ∧
    (x.blk = 0 ∨ x.seg + min (leField (mData m) 0 1) x.blk < bulkFrames x.size) ∧ 1 ≤ leField (mData m) 1 1 ∧
    leField (mData m) 1 1 ≤ 127 :=
  ⟨reqMsg 7 3 0x2D01 3 0 [1, 5], { idx := 0x2D01, sub := 3, upload := true, bulk := true, size := 200, crc := 0, data := [], seg := 0, blk := 2, got := [], tag := 9, at_ := 0 }, { pw := { dev := .ready, doms := [2, 2, 2, 2, 2, 2, 2, 2, 2, 2, 2, 2, 2, 2, 2, 2] }, tb := { src := [0, 0, 0, 0, 0, 1, 0, 0, 0, 0, 0, 0, 0], keeper := .unqualified }, can := { joined := true, assigned := 5 }, dict := { xferCan := some ({ idx := 0x2D01, sub := 3, upload := true, bulk := true, size := 200, crc := 0, data := [], seg := 0, blk := 2, got := [], tag := 9, at_ := 0 }), sesCan := { isOpen := true } }, mg := {  } }, by decide +kernel⟩

theorem wit_TransfersRun_20 : ∃ (m : List Byte) (x : Xfer) (s : State),
    s.pw.dev ≠ .off ∧ canTakes s false 7 m = true ∧ s.dict.xferCan = some x ∧ x.idx = mIdx m ∧ x.sub = mSub m ∧
    x.bulk = true ∧ x.upload = true ∧ mLen m = 2 ∧ x.blk ≠ 0 ∧
    bulkFrames x.size ≤ x.seg + min (leField (mData m) 0 1) x.blk :=
  ⟨reqMsg 7 3 0x2D01 3 0 [2, 5], { idx := 0x2D01, sub := 3, upload := true, bulk := true, size := 120, crc := 0, data := [], seg := 0, blk := 2, got := [], tag := 9, at_ := 0 }, { pw := { dev := .ready, doms := [2, 2, 2, 2, 2, 2, 2, 2, 2, 2, 2, 2, 2, 2, 2, 2] }, tb := { src := [0, 0, 0, 0, 0, 1, 0, 0, 0, 0, 0, 0, 0], keeper := .unqualified }, can := { joined := true, assigned := 5 }, dict := { xferCan := some ({ idx := 0x2D01, sub := 3, upload := true, bulk := true, size := 120, crc := 0, data := [], seg := 0, blk := 2, got := [], tag := 9, at_ := 0 }), sesCan := { isOpen := true } }, mg := {  } }, by decide +kernel⟩

theorem wit_TransfersRun_21 : ∃ (m : List Byte) (s : State),
    s.pw.dev ≠ .off ∧ canTakes s false 7 m = true ∧ s.dict.xferCan = none :=
  ⟨reqMsg 7 3 0x2D01 3 0 [1, 5], { pw := { dev := .ready, doms := [2, 2, 2, 2, 2, 2, 2, 2, 2, 2, 2, 2, 2, 2, 2, 2] }, tb := { src := [0, 0, 0, 0, 0, 1, 0, 0, 0, 0, 0, 0, 0], keeper := .unqualified }, can := { joined := true, assigned := 5 }, dict := { sesCan := { isOpen := true } }, mg := {  } }, by decide +kernel⟩

theorem wit_TransfersRun_22 : ∃ (t : Nat) (x : Xfer) (s : State),
    s.pw.dev ≠ .off ∧ s.dict.xferCan = some x ∧ spanOver (s.advance t) x.at_ (s.objN 0x1010 7 * 1000000000) = true ∧
    canUp s = true ∧ nodeOf s ≠ 0 :=
  ⟨100000000000000, { idx := 0x2D01, sub := 3, upload := false, bulk := false, size := 100, crc := 0, data := [], seg := 0, blk := 4, got := [], tag := 9, at_ := 0 }, { pw := { dev := .ready, doms := [2, 2, 2, 2, 2, 2, 2, 2, 2, 2, 2, 2, 2, 2, 2, 2] }, tb := { src := [0, 0, 0, 0, 0, 1, 0, 0, 0, 0, 0, 0, 0], keeper := .unqualified }, can := { joined := true, assigned := 5 }, dict := { xferCan := some ({ idx := 0x2D01, sub := 3, upload := false, bulk := false, size := 100, crc := 0, data := [], seg := 0, blk := 4, got := [], tag := 9, at_ := 0 }), sesCan := { isOpen := true } }, mg := {  } }, by decide +kernel⟩

theorem wit_TransfersRun_23 : ∃ (t : Nat) (x : Xfer) (s : State),
    s.pw.dev ≠ .off ∧ s.dict.xferFerry = some x ∧ spanOver (s.advance t) x.at_ (s.objN 0x1010 7 * 1000000000) = true :=
  ⟨100000000000000, { idx := 0x2D01, sub := 3, upload := false, bulk := false, size := 100, crc := 0, data := [], seg := 0, blk := 4, got := [], tag := 9, at_ := 0 }, { pw := { dev := .ready, doms := [2, 2, 2, 2, 2, 2, 2, 2, 2, 2, 2, 2, 2, 2, 2, 2] }, tb := { src := [0, 0, 0, 0, 0, 1, 0, 0, 0, 0, 0, 0, 0], keeper := .unqualified }, can := { joined := true, assigned := 5 }, dict := { xferFerry := some ({ idx := 0x2D01, sub := 3, upload := false, bulk := false, size := 100, crc := 0, data := [], seg := 0, blk := 4, got := [], tag := 9, at_ := 0 }) }, mg := {  } }, by decide +kernel⟩

theorem wit_TransfersRun_24 : ∃ (t : Nat) (p : Path) (s : State),
    s.pw.dev ≠ .off ∧ (∀ x ∈ xferOf s p, spanOver (s.advance t) x.at_ (s.objN 0x1010 7 * 1000000000) = false) :=
  ⟨5, .can, { pw := { dev := .ready, doms := [2, 2, 2, 2, 2, 2, 2, 2, 2, 2, 2, 2, 2, 2, 2, 2] }, tb := { src := [0, 0, 0, 0, 0, 1, 0, 0, 0, 0, 0, 0, 0], keeper := .unqualified }, can := { joined := true, assigned := 5 }, dict := { xferCan := some ({ idx := 0x2D01, sub := 3, upload := false, bulk := false, size := 100, crc := 0, data := [], seg := 0, blk := 4, got := [], tag := 9, at_ := 0 }), sesCan := { isOpen := true } }, mg := {  } }, by decide +kernel⟩

theorem wit_CustomerObjectsAreAnswered_1 : ∃ (idx : Nat) (sub : Nat) (p : Path) (data : List Byte) (s : State),
    s.pw.dev ≠ .off ∧ isCust idx = false ∧ takes s p idx sub data = true ∧ handlerOf p idx sub = storeH idx sub ∧
    rising s.objs = true :=
  ⟨0x2D00, 4, .can, [3], { pw := { dev := .ready, doms := [2, 2, 2, 2, 2, 2, 2, 2, 2, 2, 2, 2, 2, 2, 2, 2] }, tb := { src := [0, 0, 0, 0, 0, 1, 0, 0, 0, 0, 0, 0, 0], keeper := .unqualified }, can := { joined := true, assigned := 5 }, dict := { sesCan := { isOpen := true } }, mg := {  } }, by decide +kernel, by decide +kernel, by decide +kernel, rfl, by decide +kernel⟩

theorem wit_CustomerObjectsAreAnswered_2 : ∃ (idx : Nat) (sub : Nat) (p : Path) (s : State),
    s.pw.dev ≠ .off ∧ servedAt s p idx sub = false :=
  ⟨0x2D00, 4, .can, { pw := { dev := .boot, doms := [2, 2, 2, 2, 2, 2, 2, 2, 2, 2, 2, 2, 2, 2, 2, 2] }, tb := { src := [0, 0, 0, 0, 0, 1, 0, 0, 0, 0, 0, 0, 0], keeper := .unqualified }, can := { joined := true, assigned := 5 }, dict := { sesCan := { isOpen := true } }, mg := {  } }, by decide +kernel⟩

theorem wit_CustomerObjectsAreAnswered_3 : ∃ (idx : Nat) (sub : Nat) (p : Path) (data : List Byte) (s : State),
    s.pw.dev ≠ .off ∧ servedAt s p idx sub = true ∧ isCust idx = true ∧ s.mg.custState = 2 ∧ data.length ≤ 1024 ∧
    serverBusy s = false :=
  ⟨0x5003, 4, .can, [3], { pw := { dev := .ready, doms := [2, 2, 2, 2, 2, 2, 2, 2, 2, 2, 2, 2, 2, 2, 2, 2] }, tb := { src := [0, 0, 0, 0, 0, 1, 0, 0, 0, 0, 0, 0, 0], keeper := .unqualified }, can := { joined := true, assigned := 5 }, dict := { sesCan := { isOpen := true } }, mg := { custState := 2 } }, by decide +kernel⟩

theorem wit_CustomerObjectsAreAnswered_4 : ∃ (idx : Nat) (sub : Nat) (p : Path) (data : List Byte) (s : State),
    s.pw.dev ≠ .off ∧ servedAt s p idx sub = true ∧ isCust idx = true ∧ s.mg.custState = 2 ∧ data.length ≤ 1024 ∧
    serverBusy s = true :=
  ⟨0x5003, 4, .can, [3], { pw := { dev := .ready, doms := [2, 2, 2, 2, 2, 2, 2, 2, 2, 2, 2, 2, 2, 2, 2, 2] }, tb := { src := [0, 0, 0, 0, 0, 1, 0, 0, 0, 0, 0, 0, 0], keeper := .unqualified }, can := { joined := true, assigned := 5 }, dict := { sesCan := { isOpen := true } }, mg := { custState := 2, mbx := some { tag := 4, idx := 0x5001, sub := 2, write := true, data := [], ans := .writeOk, path := .can, bcast := false, bulk := false, reqTag := 8, seq := 3, at_ := 0 } } }, by decide +kernel⟩

theorem wit_CustomerObjectsAreAnswered_5 : ∃ (idx : Nat) (sub : Nat) (p : Path) (data : List Byte) (s : State),
    s.pw.dev ≠ .off ∧ servedAt s p idx sub = true ∧ isCust idx = true ∧ s.mg.custState = 2 ∧ 1024 < data.length :=
  ⟨0x5003, 4, .can, List.replicate 1025 3, { pw := { dev := .ready, doms := [2, 2, 2, 2, 2, 2, 2, 2, 2, 2, 2, 2, 2, 2, 2, 2] }, tb := { src := [0, 0, 0, 0, 0, 1, 0, 0, 0, 0, 0, 0, 0], keeper := .unqualified }, can := { joined := true, assigned := 5 }, dict := { sesCan := { isOpen := true } }, mg := { custState := 2 } }, by decide +kernel⟩

theorem wit_CustomerObjectsAreAnswered_6 : ∃ (idx : Nat) (sub : Nat) (p : Path) (s : State),
    s.pw.dev ≠ .off ∧ servedAt s p idx sub = true ∧ isCust idx = true ∧ s.mg.custState ≠ 2 :=
  ⟨0x5003, 4, .can, { pw := { dev := .ready, doms := [2, 2, 2, 2, 2, 2, 2, 2, 2, 2, 2, 2, 2, 2, 2, 2] }, tb := { src := [0, 0, 0, 0, 0, 1, 0, 0, 0, 0, 0, 0, 0], keeper := .unqualified }, can := { joined := true, assigned := 5 }, dict := { sesCan := { isOpen := true } }, mg := {  } }, by decide +kernel⟩

theorem wit_CustomerObjectsAreAnswered_7 : ∃ (code : Nat) (tag : Nat) (m : MbxReq) (s : State),
    s.pw.dev ≠ .off ∧ s.mg.mbx = some m ∧ s.mg.custState = 2 ∧ m.tag = tag % 65536 ∧ m.ans = .writeOk ∧ m.path = .can ∧
    s.dict.canQueue = [] ∧ canUp s = true ∧ nodeOf s ≠ 0 ∧ m.write = true ∧ m.reqTag < 256 ∧ m.idx < 65536 ∧
    m.sub < 256 ∧ 1 ≤ code ∧ code < 4294967296 :=
  ⟨3, 4, { tag := 4, idx := 0x5001, sub := 2, write := true, data := [], ans := .writeOk, path := .can, bcast := false, bulk := false, reqTag := 8, seq := 3, at_ := 0 }, { pw := { dev := .ready, doms := [2, 2, 2, 2, 2, 2, 2, 2, 2, 2, 2, 2, 2, 2, 2, 2] }, tb := { src := [0, 0, 0, 0, 0, 1, 0, 0, 0, 0, 0, 0, 0], keeper := .unqualified }, can := { joined := true, assigned := 5 }, dict := { sesCan := { isOpen := true } }, mg := { custState := 2, mbx := some { tag := 4, idx := 0x5001, sub := 2, write := true, data := [], ans := .writeOk, path := .can, bcast := false, bulk := false, reqTag := 8, seq := 3, at_ := 0 } } }, by decide +kernel⟩

theorem wit_CustomerObjectsAreAnswered_8 : ∃ (code : Nat) (tag : Nat) (data : List Byte) (m : MbxReq) (s : State),
    s.pw.dev ≠ .off ∧ s.mg.mbx = some m ∧ s.mg.custState = 2 ∧ m.tag = tag % 65536 ∧ m.ans = .readOk ∧ m.path = .can ∧
    s.dict.canQueue = [] ∧ canUp s = true ∧ nodeOf s ≠ 0 ∧ m.write = false ∧ m.reqTag < 256 ∧ m.idx < 65536 ∧
    m.sub < 256 ∧ code = 0 ∧ data.length ≤ 56 :=
  ⟨0, 4, [7, 8], { tag := 4, idx := 0x5001, sub := 2, write := false, data := [], ans := .readOk, path := .can, bcast := false, bulk := false, reqTag := 8, seq := 3, at_ := 0 }, { pw := { dev := .ready, doms := [2, 2, 2, 2, 2, 2, 2, 2, 2, 2, 2, 2, 2, 2, 2, 2] }, tb := { src := [0, 0, 0, 0, 0, 1, 0, 0, 0, 0, 0, 0, 0], keeper := .unqualified }, can := { joined := true, assigned := 5 }, dict := { sesCan := { isOpen := true } }, mg := { custState := 2, mbx := some { tag := 4, idx := 0x5001, sub := 2, write := false, data := [], ans := .readOk, path := .can, bcast := false, bulk := false, reqTag := 8, seq := 3, at_ := 0 } } }, by decide +kernel⟩

theorem wit_CustomerObjectsAreAnswered_9 : ∃ (tag : Nat) (s : State),
    s.pw.dev ≠ .off ∧ (∀ m, s.mg.mbx = some m → m.tag ≠ tag % 65536) :=
  ⟨4, { pw := { dev := .ready, doms := [2, 2, 2, 2, 2, 2, 2, 2, 2, 2, 2, 2, 2, 2, 2, 2] }, tb := { src := [0, 0, 0, 0, 0, 1, 0, 0, 0, 0, 0, 0, 0], keeper := .unqualified }, can := { joined := true, assigned := 5 }, dict := { sesCan := { isOpen := true } }, mg := { custState := 2 } }, by decide, by intro m h; cases h⟩

theorem wit_CustomerObjectsAreAnswered_10 : ∃ (t : Nat) (m : MbxReq) (s : State),
    s.pw.dev ≠ .off ∧ s.mg.mbx = some m ∧ spanOver (s.advance t) m.at_ 100000000000 = true ∧ m.ans = .readOk ∧
    m.path = .can ∧ s.dict.canQueue = [] ∧ canUp s = true ∧ nodeOf s ≠ 0 ∧ m.write = false ∧ m.reqTag < 256 ∧
    m.idx < 65536 ∧ m.sub < 256 :=
  ⟨100000000000, { tag := 4, idx := 0x5001, sub := 2, write := false, data := [], ans := .readOk, path := .can, bcast := false, bulk := false, reqTag := 8, seq := 3, at_ := 0 }, { pw := { dev := .ready, doms := [2, 2, 2, 2, 2, 2, 2, 2, 2, 2, 2, 2, 2, 2, 2, 2] }, tb := { src := [0, 0, 0, 0, 0, 1, 0, 0, 0, 0, 0, 0, 0], keeper := .unqualified }, can := { joined := true, assigned := 5 }, dict := { sesCan := { isOpen := true } }, mg := { custState := 2, mbx := some { tag := 4, idx := 0x5001, sub := 2, write := false, data := [], ans := .readOk, path := .can, bcast := false, bulk := false, reqTag := 8, seq := 3, at_ := 0 } } }, by decide +kernel⟩

theorem wit_CustomerObjectsAreAnswered_11 : ∃ (t : Nat) (s : State),
    s.pw.dev ≠ .off ∧ (∀ m ∈ s.mg.mbx, spanOver (s.advance t) m.at_ 100000000000 = false) :=
  ⟨5, { pw := { dev := .ready, doms := [2, 2, 2, 2, 2, 2, 2, 2, 2, 2, 2, 2, 2, 2, 2, 2] }, tb := { src := [0, 0, 0, 0, 0, 1, 0, 0, 0, 0, 0, 0, 0], keeper := .unqualified }, can := { joined := true, assigned := 5 }, dict := { sesCan := { isOpen := true } }, mg := { custState := 2, mbx := some { tag := 4, idx := 0x5001, sub := 2, write := false, data := [], ans := .readOk, path := .can, bcast := false, bulk := false, reqTag := 8, seq := 3, at_ := 0 } } }, by decide +kernel⟩

theorem wit_HeadersDecideHandling_1 : ∃  (s : State),
    s.pw.dev ≠ .off ∧ s.lane.st = .fl0 :=
  ⟨{ pw := { dev := .ready, doms := [2, 2, 2, 2, 2, 2, 2, 2, 2, 2, 2, 2, 2, 2, 2, 2] }, tb := { src := [0, 0, 0, 0, 0, 1, 0, 0, 0, 0, 0, 0, 0], keeper := .unqualified }, fy := { address := 3 }, lane := { st := .fl0 }, dict := {  }, mg := {  }, tim := {  } }, by decide +kernel⟩

theorem wit_HeadersDecideHandling_2 : ∃ (k : Packet) (badBlock : Bool) (s : State),
    s.pw.dev ≠ .off ∧ s.lane.st = .fl0 ∧ s.fy.hunt = false ∧
    (badBlock = true ∨ hdrOk k.hdr = false ∨ k.payload.length < 16 * kLen k) :=
  ⟨{ hdr := 1, payload := [], trailer := 0, errored := false }, false, { pw := { dev := .ready, doms := [2, 2, 2, 2, 2, 2, 2, 2, 2, 2, 2, 2, 2, 2, 2, 2] }, tb := { src := [0, 0, 0, 0, 0, 1, 0, 0, 0, 0, 0, 0, 0], keeper := .unqualified }, fy := { address := 3 }, lane := { st := .fl0 }, dict := {  }, mg := {  }, tim := {  } }, by decide +kernel⟩

theorem wit_HeadersDecideHandling_3 : ∃ (k : Packet) (badBlock : Bool) (s : State),
    s.pw.dev ≠ .off ∧ s.lane.st = .fl0 ∧ s.fy.hunt = true ∧ (confirms s k.hdr = false ∨ badBlock = true) :=
  ⟨pkt 1 4 9 false (List.replicate 16 1), false, { pw := { dev := .ready, doms := [2, 2, 2, 2, 2, 2, 2, 2, 2, 2, 2, 2, 2, 2, 2, 2] }, tb := { src := [0, 0, 0, 0, 0, 1, 0, 0, 0, 0, 0, 0, 0], keeper := .unqualified }, fy := { hunt := true }, lane := { st := .fl0 }, dict := {  }, mg := {  }, tim := {  } }, by decide +kernel⟩

theorem wit_HeadersDecideHandling_4 : ∃ (k : Packet) (s : State),
    s.pw.dev ≠ .off ∧ s.lane.st = .fl0 ∧ s.fy.hunt = true ∧ confirms s k.hdr = true ∧ 16 * kLen k ≤ k.payload.length :=
  ⟨pkt 1 4 9 false (List.replicate 16 1), { pw := { dev := .ready, doms := [2, 2, 2, 2, 2, 2, 2, 2, 2, 2, 2, 2, 2, 2, 2, 2] }, tb := { src := [0, 0, 0, 0, 0, 1, 0, 0, 0, 0, 0, 0, 0], keeper := .unqualified }, fy := { address := 3, hunt := true, cands := [0] }, lane := { st := .fl0 }, dict := {  }, mg := {  }, tim := {  } }, by decide +kernel⟩

theorem wit_HeadersDecideHandling_5 : ∃ (h : BitVec 64) (s : State),
    s.pw.dev ≠ .off ∧ s.lane.st = .fl0 ∧ s.fy.hunt = true ∧ confirms s h = true :=
  ⟨(pkt 1 4 9 false (List.replicate 16 1)).hdr, { pw := { dev := .ready, doms := [2, 2, 2, 2, 2, 2, 2, 2, 2, 2, 2, 2, 2, 2, 2, 2] }, tb := { src := [0, 0, 0, 0, 0, 1, 0, 0, 0, 0, 0, 0, 0], keeper := .unqualified }, fy := { hunt := true, cands := [0] }, lane := { st := .fl0 }, dict := {  }, mg := {  }, tim := {  } }, by decide +kernel⟩

theorem wit_HeadersDecideHandling_6 : ∃ (h : BitVec 64) (s : State),
    s.pw.dev ≠ .off ∧ (s.lane.st ≠ .fl0 ∨ s.fy.hunt = false ∨ confirms s h = false) :=
  ⟨(pkt 1 4 9 false (List.replicate 16 1)).hdr, { pw := { dev := .ready, doms := [2, 2, 2, 2, 2, 2, 2, 2, 2, 2, 2, 2, 2, 2, 2, 2] }, tb := { src := [0, 0, 0, 0, 0, 1, 0, 0, 0, 0, 0, 0, 0], keeper := .unqualified }, fy := { hunt := true, cands := [2] }, lane := { st := .fl0 }, dict := {  }, mg := {  }, tim := {  } }, by decide +kernel⟩

theorem wit_HeadersDecideHandling_7 : ∃ (k : Packet) (s : State),
    s.pw.dev ≠ .off ∧ kHere s k = true ∧ kTy k ≠ 0 ∧ consumes s k = false ∧ kPass k = true :=
  ⟨pkt 1 4 9 false (List.replicate 16 1), { pw := { dev := .ready, doms := [2, 2, 2, 2, 2, 2, 2, 2, 2, 2, 2, 2, 2, 2, 2, 2] }, tb := { src := [0, 0, 0, 0, 0, 1, 0, 0, 0, 0, 0, 0, 0], keeper := .unqualified }, fy := { address := 3 }, lane := { st := .fl0 }, dict := {  }, mg := {  }, tim := {  } }, by decide +kernel⟩

theorem wit_HeadersDecideHandling_8 : ∃ (k : Packet) (s : State),
    s.pw.dev ≠ .off ∧ kHere s k = true ∧ kTy k ≠ 0 ∧ consumes s k = false ∧ kPass k = false :=
  ⟨{ pkt 1 4 9 false (List.replicate 16 1) with trailer := 7 }, { pw := { dev := .ready, doms := [2, 2, 2, 2, 2, 2, 2, 2, 2, 2, 2, 2, 2, 2, 2, 2] }, tb := { src := [0, 0, 0, 0, 0, 1, 0, 0, 0, 0, 0, 0, 0], keeper := .unqualified }, fy := { address := 3 }, lane := { st := .fl0 }, dict := {  }, mg := {  }, tim := {  } }, by decide +kernel⟩

theorem wit_HeadersDecideHandling_9 : ∃ (k : Packet) (s : State),
    s.pw.dev ≠ .off ∧ kHere s k = true ∧ kTy k = 0 :=
  ⟨pkt 0 0 0 false (List.replicate 16 0), { pw := { dev := .ready, doms := [2, 2, 2, 2, 2, 2, 2, 2, 2, 2, 2, 2, 2, 2, 2, 2] }, tb := { src := [0, 0, 0, 0, 0, 1, 0, 0, 0, 0, 0, 0, 0], keeper := .unqualified }, fy := { address := 3 }, lane := { st := .fl0 }, dict := {  }, mg := {  }, tim := {  } }, by decide +kernel⟩

theorem wit_HeadersDecideHandling_10 : ∃ (k : Packet) (s : State),
    s.pw.dev ≠ .off ∧ kHere s k = true ∧ consumes s k = true ∧ hasRow k = true ∧ kAddr k ≠ 63 :=
  ⟨pkt 1 3 9 false (List.replicate 16 1), { pw := { dev := .ready, doms := [2, 2, 2, 2, 2, 2, 2, 2, 2, 2, 2, 2, 2, 2, 2, 2] }, tb := { src := [0, 0, 0, 0, 0, 1, 0, 0, 0, 0, 0, 0, 0], keeper := .unqualified }, fy := { address := 3 }, lane := { st := .fl0 }, dict := {  }, mg := {  }, tim := {  } }, by decide +kernel⟩

theorem wit_HeadersDecideHandling_11 : ∃ (k : Packet) (s : State),
    s.pw.dev ≠ .off ∧ kHere s k = true ∧ consumes s k = true ∧ hasRow k = true ∧ kAddr k = 63 ∧ kTy k ≠ 6 ∧
    kPass k = true :=
  ⟨pkt 5 63 9 false (List.replicate 32 0), { pw := { dev := .ready, doms := [2, 2, 2, 2, 2, 2, 2, 2, 2, 2, 2, 2, 2, 2, 2, 2] }, tb := { src := [0, 0, 0, 0, 0, 1, 0, 0, 0, 0, 0, 0, 0], keeper := .unqualified }, fy := { address := 3 }, lane := { st := .fl0 }, dict := {  }, mg := {  }, tim := {  } }, by decide +kernel⟩

theorem wit_HeadersDecideHandling_12 : ∃ (k : Packet) (s : State),
    s.pw.dev ≠ .off ∧ kHere s k = true ∧ consumes s k = true ∧ hasRow k = false ∧ kAddr k ≠ 63 ∧ kPass k = true ∧
    kTy k ≠ 3 ∧ kTy k ≠ 4 ∧ (s.pw.exiting = false ∨ kTy k = 6) :=
  ⟨pkt 9 3 9 false (List.replicate 16 1), { pw := { dev := .ready, doms := [2, 2, 2, 2, 2, 2, 2, 2, 2, 2, 2, 2, 2, 2, 2, 2] }, tb := { src := [0, 0, 0, 0, 0, 1, 0, 0, 0, 0, 0, 0, 0], keeper := .unqualified }, fy := { address := 3 }, lane := { st := .fl0 }, dict := {  }, mg := {  }, tim := {  } }, by decide +kernel⟩

theorem wit_HeadersDecideHandling_13 : ∃  (s : State),
    s.pw.dev ≠ .off ∧ s.lane.st ≠ .fl0 :=
  ⟨{ pw := { dev := .ready, doms := [2, 2, 2, 2, 2, 2, 2, 2, 2, 2, 2, 2, 2, 2, 2, 2] }, tb := { src := [0, 0, 0, 0, 0, 1, 0, 0, 0, 0, 0, 0, 0], keeper := .unqualified }, fy := { address := 3 }, lane := { st := .down }, dict := {  }, mg := {  }, tim := {  } }, by decide +kernel⟩

theorem wit_ChainAndOwnPackets_1 : ∃ (k : Packet) (s : State),
    s.pw.dev ≠ .off ∧ pktTakes s k = true ∧ kTy k = 6 ∧ kAddr k = 63 ∧ kF k 0 1 = 1 ∧ kLen k = 1 ∧ kZero k 4 12 = true ∧
    kF k 2 1 < 2 ∧ kF k 1 1 < 62 ∧ kF k 1 1 + 1 ≠ s.fy.address :=
  ⟨pkt 6 63 0 false [1, 4, 0, 9, 0, 0, 0, 0, 0, 0, 0, 0, 0, 0, 0, 0], { pw := { dev := .ready, doms := [2, 2, 2, 2, 2, 2, 2, 2, 2, 2, 2, 2, 2, 2, 2, 2] }, tb := { src := [0, 0, 0, 0, 0, 1, 0, 0, 0, 0, 0, 0, 0], keeper := .unqualified }, fy := { address := 3 }, lane := { st := .fl0 }, dict := {  }, mg := {  }, tim := {  } }, by decide +kernel⟩

theorem wit_ChainAndOwnPackets_2 : ∃ (k : Packet) (s : State),
    s.pw.dev ≠ .off ∧ pktTakes s k = true ∧ kTy k = 6 ∧ kAddr k = 63 ∧ kF k 0 1 = 1 ∧ kLen k = 1 ∧ kZero k 4 12 = true ∧
    kF k 2 1 < 2 ∧ kF k 1 1 < 62 ∧ kF k 1 1 + 1 ≠ s.fy.address ∧ s.dict.xferFerry = none :=
  ⟨pkt 6 63 0 false [1, 4, 0, 9, 0, 0, 0, 0, 0, 0, 0, 0, 0, 0, 0, 0], { pw := { dev := .ready, doms := [2, 2, 2, 2, 2, 2, 2, 2, 2, 2, 2, 2, 2, 2, 2, 2] }, tb := { src := [0, 0, 0, 0, 0, 1, 0, 0, 0, 0, 0, 0, 0], keeper := .unqualified }, fy := { address := 3 }, lane := { st := .fl0 }, dict := {  }, mg := {  }, tim := {  } }, by decide +kernel⟩

theorem wit_ChainAndOwnPackets_3 : ∃ (k : Packet) (s : State),
    s.pw.dev ≠ .off ∧ pktTakes s k = true ∧ kTy k = 6 ∧ kAddr k = 63 ∧ kF k 0 1 = 1 ∧ kLen k = 1 ∧ kZero k 4 12 = true ∧
    kF k 2 1 < 2 ∧ kF k 1 1 < 62 ∧ kF k 1 1 + 1 = s.fy.address :=
  ⟨pkt 6 63 0 false [1, 2, 0, 9, 0, 0, 0, 0, 0, 0, 0, 0, 0, 0, 0, 0], { pw := { dev := .ready, doms := [2, 2, 2, 2, 2, 2, 2, 2, 2, 2, 2, 2, 2, 2, 2, 2] }, tb := { src := [0, 0, 0, 0, 0, 1, 0, 0, 0, 0, 0, 0, 0], keeper := .unqualified }, fy := { address := 3 }, lane := { st := .fl0 }, dict := {  }, mg := {  }, tim := {  } }, by decide +kernel⟩

theorem wit_ChainAndOwnPackets_4 : ∃ (k : Packet) (s : State),
    s.pw.dev ≠ .off ∧ pktTakes s k = true ∧ kTy k = 6 ∧ kAddr k = 63 ∧ kF k 0 1 = 1 ∧ kLen k = 1 ∧ kZero k 4 12 = true ∧
    kF k 2 1 < 2 ∧ 62 ≤ kF k 1 1 :=
  ⟨pkt 6 63 0 false [1, 62, 1, 9, 0, 0, 0, 0, 0, 0, 0, 0, 0, 0, 0, 0], { pw := { dev := .ready, doms := [2, 2, 2, 2, 2, 2, 2, 2, 2, 2, 2, 2, 2, 2, 2, 2] }, tb := { src := [0, 0, 0, 0, 0, 1, 0, 0, 0, 0, 0, 0, 0], keeper := .unqualified }, fy := { address := 3 }, lane := { st := .fl0 }, dict := {  }, mg := {  }, tim := {  } }, by decide +kernel⟩

theorem wit_ChainAndOwnPackets_5 : ∃ (k : Packet) (s : State),
    s.pw.dev ≠ .off ∧ kTy k = 6 ∧ kF k 0 1 = 1 ∧ kAddr k = 63 ∧ kHere s k = true ∧ consumes s k = true ∧ kPass k = false :=
  ⟨{ pkt 6 63 0 false [1, 4, 0, 9, 0, 0, 0, 0, 0, 0, 0, 0, 0, 0, 0, 0] with errored := true }, { pw := { dev := .ready, doms := [2, 2, 2, 2, 2, 2, 2, 2, 2, 2, 2, 2, 2, 2, 2, 2] }, tb := { src := [0, 0, 0, 0, 0, 1, 0, 0, 0, 0, 0, 0, 0], keeper := .unqualified }, fy := { address := 3 }, lane := { st := .fl0 }, dict := {  }, mg := {  }, tim := {  } }, by decide +kernel⟩

theorem wit_ChainAndOwnPackets_6 : ∃ (k : Packet) (s : State),
    s.pw.dev ≠ .off ∧ pktTakes s k = true ∧ kTy k = 6 ∧ kAddr k = 63 ∧ kF k 0 1 = 1 ∧
    (kLen k ≠ 1 ∨ kZero k 4 12 = false ∨ 2 ≤ kF k 2 1) :=
  ⟨pkt 6 63 0 false [1, 4, 7, 9, 0, 0, 0, 0, 0, 0, 0, 0, 0, 0, 0, 0], { pw := { dev := .ready, doms := [2, 2, 2, 2, 2, 2, 2, 2, 2, 2, 2, 2, 2, 2, 2, 2] }, tb := { src := [0, 0, 0, 0, 0, 1, 0, 0, 0, 0, 0, 0, 0], keeper := .unqualified }, fy := { address := 3 }, lane := { st := .fl0 }, dict := {  }, mg := {  }, tim := {  } }, by decide +kernel⟩

theorem wit_ChainAndOwnPackets_7 : ∃ (k : Packet) (s : State),
    s.pw.dev ≠ .off ∧ (kTy k ≠ 6 ∨ kF k 0 1 ≠ 1 ∨ kAddr k ≠ 63 ∨ kHere s k = false) :=
  ⟨pkt 6 63 0 false ([5] ++ List.replicate 15 0), { pw := { dev := .ready, doms := [2, 2, 2, 2, 2, 2, 2, 2, 2, 2, 2, 2, 2, 2, 2, 2] }, tb := { src := [0, 0, 0, 0, 0, 1, 0, 0, 0, 0, 0, 0, 0], keeper := .unqualified }, fy := { address := 3 }, lane := { st := .fl0 }, dict := {  }, mg := {  }, tim := {  } }, by decide +kernel⟩

theorem wit_ChainAndOwnPackets_8 : ∃ (k : Packet) (s : State),
    s.pw.dev ≠ .off ∧ pktTakes s k = true ∧ kTy k = 6 ∧ kF k 0 1 = 3 ∧ kLen k = 2 ∧ kZero k 1 7 = true ∧
    kZero k 26 6 = true :=
  ⟨pkt 6 3 7 false ([3, 0, 0, 0, 0, 0, 0, 0] ++ List.replicate 8 5 ++ List.replicate 16 0), { pw := { dev := .ready, doms := [2, 2, 2, 2, 2, 2, 2, 2, 2, 2, 2, 2, 2, 2, 2, 2] }, tb := { src := [0, 0, 0, 0, 0, 1, 0, 0, 0, 0, 0, 0, 0], keeper := .unqualified }, fy := { address := 3 }, lane := { st := .fl0 }, dict := {  }, mg := {  }, tim := {  } }, by decide +kernel⟩

theorem wit_ChainAndOwnPackets_9 : ∃ (k : Packet) (s : State),
    s.pw.dev ≠ .off ∧ kHere s k = true ∧ consumes s k = true ∧ kPass k = true ∧ hdrBits k.hdr 47 38 = 0 ∧
    queueFree s = false ∧ kTy k = 6 ∧ kF k 0 1 = 3 ∧ kLen k = 2 ∧ kZero k 1 7 = true ∧ kZero k 26 6 = true :=
  ⟨pkt 6 3 7 false ([3, 0, 0, 0, 0, 0, 0, 0] ++ List.replicate 8 5 ++ List.replicate 16 0), { pw := { dev := .ready, doms := [2, 2, 2, 2, 2, 2, 2, 2, 2, 2, 2, 2, 2, 2, 2, 2] }, tb := { src := [0, 0, 0, 0, 0, 1, 0, 0, 0, 0, 0, 0, 0], keeper := .unqualified }, fy := { address := 3, insert := List.replicate 8 ⟨1, 3, 3, 4, []⟩ }, lane := { st := .fl0 }, dict := {  }, mg := {  }, tim := {  } }, by decide +kernel⟩

theorem wit_ChainAndOwnPackets_10 : ∃ (k : Packet) (s : State),
    s.pw.dev ≠ .off ∧ (kTy k ≠ 6 ∨ kF k 0 1 ≠ 3 ∨ kHere s k = false ∨ consumes s k = false) :=
  ⟨pkt 6 3 0 false ([5] ++ List.replicate 15 0), { pw := { dev := .ready, doms := [2, 2, 2, 2, 2, 2, 2, 2, 2, 2, 2, 2, 2, 2, 2, 2] }, tb := { src := [0, 0, 0, 0, 0, 1, 0, 0, 0, 0, 0, 0, 0], keeper := .unqualified }, fy := { address := 3 }, lane := { st := .fl0 }, dict := {  }, mg := {  }, tim := {  } }, by decide +kernel⟩

theorem wit_ChainAndOwnPackets_11 : ∃ (k : Packet) (s : State),
    s.pw.dev ≠ .off ∧ pktTakes s k = true ∧ kTy k = 6 ∧ kF k 0 1 = 5 ∧ kLen k = 1 ∧ kZero k 1 15 = true :=
  ⟨pkt 6 3 7 false ([5] ++ List.replicate 15 0), { pw := { dev := .ready, doms := [2, 2, 2, 2, 2, 2, 2, 2, 2, 2, 2, 2, 2, 2, 2, 2] }, tb := { src := [0, 0, 0, 0, 0, 1, 0, 0, 0, 0, 0, 0, 0], keeper := .unqualified }, fy := { address := 3 }, lane := { st := .fl0 }, dict := {  }, mg := {  }, tim := {  } }, by decide +kernel⟩

theorem wit_ChainAndOwnPackets_12 : ∃ (k : Packet) (s : State),
    s.pw.dev ≠ .off ∧ (kTy k ≠ 6 ∨ kF k 0 1 ≠ 5 ∨ kHere s k = false ∨ consumes s k = false) :=
  ⟨pkt 6 3 0 false ([3] ++ List.replicate 15 0), { pw := { dev := .ready, doms := [2, 2, 2, 2, 2, 2, 2, 2, 2, 2, 2, 2, 2, 2, 2, 2] }, tb := { src := [0, 0, 0, 0, 0, 1, 0, 0, 0, 0, 0, 0, 0], keeper := .unqualified }, fy := { address := 3 }, lane := { st := .fl0 }, dict := {  }, mg := {  }, tim := {  } }, by decide +kernel⟩

theorem wit_ChainAndOwnPackets_13 : ∃ (t : Nat) (s : State),
    s.pw.dev ≠ .off ∧ spanOver (s.advance t) s.fy.periodAt (s.objN 0x2300 4 * 1000000000) = true :=
  ⟨1000000000000, { pw := { dev := .ready, doms := [2, 2, 2, 2, 2, 2, 2, 2, 2, 2, 2, 2, 2, 2, 2, 2] }, tb := { src := [0, 0, 0, 0, 0, 1, 0, 0, 0, 0, 0, 0, 0], keeper := .unqualified }, fy := { address := 3 }, lane := { st := .fl0 }, dict := {  }, mg := {  }, tim := {  } }, by decide +kernel⟩

theorem wit_ChainAndOwnPackets_14 : ∃ (t : Nat) (s : State),
    s.pw.dev ≠ .off ∧ spanOver (s.advance t) s.fy.periodAt (s.objN 0x2300 4 * 1000000000) = false :=
  ⟨5, { pw := { dev := .ready, doms := [2, 2, 2, 2, 2, 2, 2, 2, 2, 2, 2, 2, 2, 2, 2, 2] }, tb := { src := [0, 0, 0, 0, 0, 1, 0, 0, 0, 0, 0, 0, 0], keeper := .unqualified }, fy := { address := 3 }, lane := { st := .fl0 }, dict := {  }, mg := {  }, tim := {  } }, by decide +kernel⟩

theorem wit_ChainAndOwnPackets_15 : ∃ (units : Nat) (o : Own) (s : State),
    s.pw.dev ≠ .off ∧ s.lane.st = .fl0 ∧ s.fy.hunt = false ∧ nextOwn s.fy.insert = some o ∧
    o.payload.length / 16 + 1 ≤ units :=
  ⟨9, ⟨1, 3, 3, 4, []⟩, { pw := { dev := .ready, doms := [2, 2, 2, 2, 2, 2, 2, 2, 2, 2, 2, 2, 2, 2, 2, 2] }, tb := { src := [0, 0, 0, 0, 0, 1, 0, 0, 0, 0, 0, 0, 0], keeper := .unqualified }, fy := { insert := [⟨3, 4, 3, 1, []⟩, ⟨1, 3, 3, 4, []⟩] }, lane := { st := .fl0 }, dict := {  }, mg := {  }, tim := {  } }, by decide +kernel⟩

theorem wit_ChainAndOwnPackets_16 : ∃ (units : Nat) (o : Own) (s : State),
    s.pw.dev ≠ .off ∧ s.lane.st = .fl0 ∧ s.fy.hunt = false ∧ nextOwn s.fy.insert = some o ∧
    units ≤ o.payload.length / 16 :=
  ⟨0, ⟨1, 3, 3, 4, []⟩, { pw := { dev := .ready, doms := [2, 2, 2, 2, 2, 2, 2, 2, 2, 2, 2, 2, 2, 2, 2, 2] }, tb := { src := [0, 0, 0, 0, 0, 1, 0, 0, 0, 0, 0, 0, 0], keeper := .unqualified }, fy := { insert := [⟨1, 3, 3, 4, []⟩] }, lane := { st := .fl0 }, dict := {  }, mg := {  }, tim := {  } }, by decide +kernel⟩

theorem wit_ChainAndOwnPackets_17 : ∃ (t : Nat) (units : Nat) (s : State),
    s.pw.dev ≠ .off ∧ s.lane.st = .fl0 ∧ s.fy.hunt = false ∧ nextOwn s.fy.insert = none ∧ s.statusDue = true ∧
    7 ≤ units ∧ (s.fy.identPend = true ∨ s.fy.statusAt.all (fun a => decide (a + 100000000 ≤ (s.advance t).now)) = true) :=
  ⟨5, 7, { pw := { dev := .ready, doms := [2, 2, 2, 2, 2, 2, 2, 2, 2, 2, 2, 2, 2, 2, 2, 2] }, tb := { src := [0, 0, 0, 0, 0, 1, 0, 0, 0, 0, 0, 0, 0], keeper := .unqualified }, fy := { statusAt := none }, lane := { st := .fl0 }, dict := {  }, mg := {  }, tim := {  }, statusDue := true }, by decide +kernel⟩

theorem wit_ChainAndOwnPackets_18 : ∃ (t : Nat) (units : Nat) (s : State),
    s.pw.dev ≠ .off ∧ s.lane.st = .fl0 ∧ s.fy.hunt = false ∧ nextOwn s.fy.insert = none ∧
    (s.statusDue = false ∨ units < 7 ∨ (s.fy.identPend = false ∧
    s.fy.statusAt.all (fun a => decide (a + 100000000 ≤ (s.advance t).now)) = false)) :=
  ⟨5, 7, { pw := { dev := .ready, doms := [2, 2, 2, 2, 2, 2, 2, 2, 2, 2, 2, 2, 2, 2, 2, 2] }, tb := { src := [0, 0, 0, 0, 0, 1, 0, 0, 0, 0, 0, 0, 0], keeper := .unqualified }, fy := { statusAt := some 3 }, lane := { st := .fl0 }, dict := {  }, mg := {  }, tim := {  }, statusDue := true }, by decide +kernel⟩

theorem wit_ChainAndOwnPackets_19 : ∃  (s : State),
    s.pw.dev ≠ .off ∧ (s.lane.st ≠ .fl0 ∨ s.fy.hunt = true) :=
  ⟨{ pw := { dev := .ready, doms := [2, 2, 2, 2, 2, 2, 2, 2, 2, 2, 2, 2, 2, 2, 2, 2] }, tb := { src := [0, 0, 0, 0, 0, 1, 0, 0, 0, 0, 0, 0, 0], keeper := .unqualified }, fy := { hunt := true }, lane := { st := .fl0 }, dict := {  }, mg := {  }, tim := {  } }, by decide +kernel⟩

theorem wit_DictAndTimePacketsAct_1 : ∃ (n : Nat) (k : Packet) (s : State),
    s.pw.dev ≠ .off ∧ pktTakes s k = true ∧ kTy k = 4 ∧ kF k 0 1 = 1 ∧ kF k 1 1 = 0 ∧ kF k 2 2 = n ∧
    8 + n ≤ k.payload.length ∧ kZero k 4 4 = true ∧ kZero k (8 + n) k.payload.length = true ∧ s.dict.queue.length < 4 ∧
    slotMsg s ((k.payload.drop 8).take n) = false :=
  ⟨8, pkt 4 3 7 false ([1, 0, 8, 0, 0, 0, 0, 0] ++ msgOf 1 7 0x1000 4 0 []), { pw := { dev := .ready, doms := [2, 2, 2, 2, 2, 2, 2, 2, 2, 2, 2, 2, 2, 2, 2, 2] }, tb := { src := [0, 0, 0, 0, 0, 1, 0, 0, 0, 0, 0, 0, 0], keeper := .unqualified }, fy := { address := 3 }, lane := { st := .fl0 }, dict := {  }, mg := {  }, tim := {  } }, by decide +kernel⟩

theorem wit_DictAndTimePacketsAct_2 : ∃ (n : Nat) (k : Packet) (s : State),
    s.pw.dev ≠ .off ∧ pktTakes s k = true ∧ kTy k = 4 ∧ kF k 0 1 = 1 ∧ kF k 1 1 = 0 ∧ kF k 2 2 = n ∧
    8 + n ≤ k.payload.length ∧ kZero k 4 4 = true ∧ kZero k (8 + n) k.payload.length = true ∧ 4 ≤ s.dict.queue.length :=
  ⟨8, pkt 4 3 7 false ([1, 0, 8, 0, 0, 0, 0, 0] ++ msgOf 1 7 0x1000 4 0 []), { pw := { dev := .ready, doms := [2, 2, 2, 2, 2, 2, 2, 2, 2, 2, 2, 2, 2, 2, 2, 2] }, tb := { src := [0, 0, 0, 0, 0, 1, 0, 0, 0, 0, 0, 0, 0], keeper := .unqualified }, fy := { address := 3 }, lane := { st := .fl0 }, dict := { queue := List.replicate 4 (1, false, []) }, mg := {  }, tim := {  } }, by decide +kernel⟩

theorem wit_DictAndTimePacketsAct_3 : ∃ (k : Packet) (s : State),
    s.pw.dev ≠ .off ∧ pktTakes s k = true ∧ kTy k = 4 ∧
    (kF k 0 1 ≠ 1 ∨ kF k 1 1 ≠ 0 ∨ kZero k 4 4 = false ∨ k.payload.length < 8 + kF k 2 2) ∧
    alook s.fy.nackDict (kSeq k) 0 ≠ 2 :=
  ⟨pkt 4 3 7 false (List.replicate 16 1), { pw := { dev := .ready, doms := [2, 2, 2, 2, 2, 2, 2, 2, 2, 2, 2, 2, 2, 2, 2, 2] }, tb := { src := [0, 0, 0, 0, 0, 1, 0, 0, 0, 0, 0, 0, 0], keeper := .unqualified }, fy := { address := 3 }, lane := { st := .fl0 }, dict := {  }, mg := {  }, tim := {  } }, by decide +kernel⟩

theorem wit_DictAndTimePacketsAct_4 : ∃ (k : Packet) (s : State),
    s.pw.dev ≠ .off ∧ kHere s k = true ∧ consumes s k = true ∧ s.pw.exiting = false ∧ queueFree s = true ∧ kTy k = 4 ∧
    kPass k = false ∧ alook s.fy.nackDict (kSeq k) 0 = 2 :=
  ⟨{ pkt 4 3 7 false (List.replicate 16 1) with errored := true }, { pw := { dev := .ready, doms := [2, 2, 2, 2, 2, 2, 2, 2, 2, 2, 2, 2, 2, 2, 2, 2] }, tb := { src := [0, 0, 0, 0, 0, 1, 0, 0, 0, 0, 0, 0, 0], keeper := .unqualified }, fy := { address := 3, nackDict := [(7, 2)] }, lane := { st := .fl0 }, dict := {  }, mg := {  }, tim := {  } }, by decide +kernel⟩

theorem wit_DictAndTimePacketsAct_5 : ∃ (k : Packet) (s : State),
    s.pw.dev ≠ .off ∧ kHere s k = true ∧ consumes s k = true ∧ s.pw.exiting = false ∧ queueFree s = true ∧ kTy k = 4 ∧
    kPass k = false ∧ alook s.fy.nackDict (kSeq k) 0 + 1 < 3 :=
  ⟨{ pkt 4 3 7 false (List.replicate 16 1) with errored := true }, { pw := { dev := .ready, doms := [2, 2, 2, 2, 2, 2, 2, 2, 2, 2, 2, 2, 2, 2, 2, 2] }, tb := { src := [0, 0, 0, 0, 0, 1, 0, 0, 0, 0, 0, 0, 0], keeper := .unqualified }, fy := { address := 3 }, lane := { st := .fl0 }, dict := {  }, mg := {  }, tim := {  } }, by decide +kernel⟩

theorem wit_DictAndTimePacketsAct_6 : ∃ (k : Packet) (p : List Byte) (s : State),
    s.pw.dev ≠ .off ∧ kHere s k = true ∧ consumes s k = true ∧ s.pw.exiting = false ∧ queueFree s = true ∧ kTy k = 4 ∧
    kPass k = true ∧ kRetry k = true ∧ dictRuns (kSeq k) s = false ∧ afind s.fy.nackDict (kSeq k) = none ∧
    afind s.fy.doneDict (kSeq k) = some p ∧ p ≠ [] :=
  ⟨pkt 4 3 7 true ([1, 0, 8, 0, 0, 0, 0, 0] ++ msgOf 1 7 0x1000 4 0 []), [1, 2], { pw := { dev := .ready, doms := [2, 2, 2, 2, 2, 2, 2, 2, 2, 2, 2, 2, 2, 2, 2, 2] }, tb := { src := [0, 0, 0, 0, 0, 1, 0, 0, 0, 0, 0, 0, 0], keeper := .unqualified }, fy := { address := 3, doneDict := [(7, [1, 2])] }, lane := { st := .fl0 }, dict := {  }, mg := {  }, tim := {  } }, by decide +kernel⟩

theorem wit_DictAndTimePacketsAct_7 : ∃ (n : Nat) (k : Packet) (s : State),
    s.pw.dev ≠ .off ∧ kHere s k = true ∧ consumes s k = true ∧ s.pw.exiting = false ∧ queueFree s = true ∧ kTy k = 4 ∧
    kPass k = true ∧ hdrBits k.hdr 47 38 = 0 ∧ kF k 0 1 = 1 ∧ kF k 1 1 = 0 ∧ kF k 2 2 = n ∧ 8 + n ≤ k.payload.length ∧
    kZero k 4 4 = true ∧ kZero k (8 + n) k.payload.length = true ∧ kRetry k = true ∧ dictRuns (kSeq k) s = true ∧
    afind s.fy.nackDict (kSeq k) = none :=
  ⟨8, pkt 4 3 7 true ([1, 0, 8, 0, 0, 0, 0, 0] ++ msgOf 1 7 0x1000 4 0 []), { pw := { dev := .ready, doms := [2, 2, 2, 2, 2, 2, 2, 2, 2, 2, 2, 2, 2, 2, 2, 2] }, tb := { src := [0, 0, 0, 0, 0, 1, 0, 0, 0, 0, 0, 0, 0], keeper := .unqualified }, fy := { address := 3 }, lane := { st := .fl0 }, dict := { queue := [(7, false, [])] }, mg := {  }, tim := {  } }, by decide +kernel⟩

theorem wit_DictAndTimePacketsAct_8 : ∃ (n : Nat) (k : Packet) (s : State),
    s.pw.dev ≠ .off ∧ kHere s k = true ∧ consumes s k = true ∧ s.pw.exiting = false ∧ queueFree s = true ∧ kTy k = 4 ∧
    kPass k = true ∧ hdrBits k.hdr 47 38 = 0 ∧ kF k 0 1 = 1 ∧ kF k 1 1 = 0 ∧ kF k 2 2 = n ∧ 8 + n ≤ k.payload.length ∧
    kZero k 4 4 = true ∧ kZero k (8 + n) k.payload.length = true ∧ kRetry k = true ∧ dictRuns (kSeq k) s = true ∧
    (afind s.fy.nackDict (kSeq k)).isSome = true :=
  ⟨8, pkt 4 3 7 true ([1, 0, 8, 0, 0, 0, 0, 0] ++ msgOf 1 7 0x1000 4 0 []), { pw := { dev := .ready, doms := [2, 2, 2, 2, 2, 2, 2, 2, 2, 2, 2, 2, 2, 2, 2, 2] }, tb := { src := [0, 0, 0, 0, 0, 1, 0, 0, 0, 0, 0, 0, 0], keeper := .unqualified }, fy := { address := 3, nackDict := [(7, 1)] }, lane := { st := .fl0 }, dict := { queue := [(7, false, [])] }, mg := {  }, tim := {  } }, by decide +kernel⟩

theorem wit_DictAndTimePacketsAct_9 : ∃ (k : Packet) (s : State),
    s.pw.dev ≠ .off ∧ (kTy k ≠ 4 ∨ kHere s k = false ∨ consumes s k = false) :=
  ⟨pkt 6 3 0 false ([3] ++ List.replicate 15 0), { pw := { dev := .ready, doms := [2, 2, 2, 2, 2, 2, 2, 2, 2, 2, 2, 2, 2, 2, 2, 2] }, tb := { src := [0, 0, 0, 0, 0, 1, 0, 0, 0, 0, 0, 0, 0], keeper := .unqualified }, fy := { address := 3 }, lane := { st := .fl0 }, dict := {  }, mg := {  }, tim := {  } }, by decide +kernel⟩

theorem wit_DictAndTimePacketsAct_10 : ∃ (k : Packet) (s : State),
    s.pw.dev ≠ .off ∧ pktTakes s k = true ∧ kTy k = 5 ∧ kLen k = 2 ∧ kZero k 0x1A 6 = true ∧
    headCount s k ≠ some (kF k 0 4) :=
  ⟨pkt 5 63 0 false ([9, 0, 0, 0] ++ List.replicate 28 0), { pw := { dev := .ready, doms := [2, 2, 2, 2, 2, 2, 2, 2, 2, 2, 2, 2, 2, 2, 2, 2] }, tb := { src := [0, 0, 0, 0, 0, 1, 0, 0, 0, 0, 0, 0, 0], keeper := .unqualified }, fy := { address := 3 }, lane := { st := .fl0 }, dict := {  }, mg := {  }, tim := {  } }, by decide +kernel⟩

theorem wit_DictAndTimePacketsAct_11 : ∃ (t : Nat) (k : Packet) (m : Marker) (th : Int) (s : State),
    s.pw.dev ≠ .off ∧ pktTakes s k = true ∧ kTy k = 5 ∧ kLen k = 2 ∧ kZero k 0x1A 6 = true ∧
    headCount s k = some (kF k 0 4) ∧ s.lane.markers.find? (fun m => m.count == kF k 0 4) = some m ∧
    kF k 10 4 ≤ 999999999 ∧ 1 ≤ kF k 24 2 ∧ kF k 24 2 ≤ 1000 ∧ (s.advance t).now ≤ m.at_ + 2000000000000 ∧
    th = m.time - (((kF k 4 6 * 1000000000 + kF k 10 4) * 4294967296 + kF k 14 2 * 65536 : Nat) : Int) * 1000 - psU (s.objN 0x2C00 2) ∧
    s.clk.valid = false ∧ s.clk.step = none ∧ (domOf s 0).st = 0 ∧ s.tim.doms.length = 2 :=
  ⟨5, pkt 5 63 0 false ([9, 0, 0, 0] ++ List.replicate 20 0 ++ [100, 0] ++ List.replicate 6 0), ⟨9, 3, 4294967296000⟩, 4294967296000 - psU 0, { pw := { dev := .ready, doms := [2, 2, 2, 2, 2, 2, 2, 2, 2, 2, 2, 2, 2, 2, 2, 2] }, tb := { src := [0, 0, 0, 0, 0, 1, 0, 0, 0, 0, 0, 0, 0], keeper := .unqualified }, fy := { address := 3 }, lane := { st := .fl0, count := some 9, markers := [⟨9, 3, 4294967296000⟩] }, dict := {  }, mg := {  }, tim := {  } }, by decide +kernel⟩

theorem wit_DictAndTimePacketsAct_12 : ∃ (k : Packet) (s : State),
    s.pw.dev ≠ .off ∧ pktTakes s k = true ∧ kTy k = 5 ∧ kLen k = 2 ∧ kZero k 0x1A 6 = true ∧
    headCount s k = some (kF k 0 4) ∧ s.lane.markers.find? (fun m => m.count == kF k 0 4) = none :=
  ⟨pkt 5 63 0 false ([9, 0, 0, 0] ++ List.replicate 28 0), { pw := { dev := .ready, doms := [2, 2, 2, 2, 2, 2, 2, 2, 2, 2, 2, 2, 2, 2, 2, 2] }, tb := { src := [0, 0, 0, 0, 0, 1, 0, 0, 0, 0, 0, 0, 0], keeper := .unqualified }, fy := { address := 3 }, lane := { st := .fl0, count := some 9 }, dict := {  }, mg := {  }, tim := {  } }, by decide +kernel⟩

theorem wit_DictAndTimePacketsAct_13 : ∃ (t : Nat) (k : Packet) (m : Marker) (s : State),
    s.pw.dev ≠ .off ∧ pktTakes s k = true ∧ kTy k = 5 ∧ kLen k = 2 ∧ kZero k 0x1A 6 = true ∧
    headCount s k = some (kF k 0 4) ∧ s.lane.markers.find? (fun m => m.count == kF k 0 4) = some m ∧
    (999999999 < kF k 10 4 ∨ kF k 24 2 = 0 ∨ 1000 < kF k 24 2 ∨ m.at_ + 2000000000000 < (s.advance t).now) :=
  ⟨5, pkt 5 63 0 false ([9, 0, 0, 0] ++ List.replicate 28 0), ⟨9, 3, 4294967296000⟩, { pw := { dev := .ready, doms := [2, 2, 2, 2, 2, 2, 2, 2, 2, 2, 2, 2, 2, 2, 2, 2] }, tb := { src := [0, 0, 0, 0, 0, 1, 0, 0, 0, 0, 0, 0, 0], keeper := .unqualified }, fy := { address := 3 }, lane := { st := .fl0, count := some 9, markers := [⟨9, 3, 4294967296000⟩] }, dict := {  }, mg := {  }, tim := {  } }, by decide +kernel⟩

theorem wit_DictAndTimePacketsAct_14 : ∃ (k : Packet) (s : State),
    s.pw.dev ≠ .off ∧ kHere s k = true ∧ consumes s k = true ∧ kTy k = 5 ∧ kPass k = false :=
  ⟨{ pkt 5 63 0 false ([9, 0, 0, 0] ++ List.replicate 28 0) with errored := true }, { pw := { dev := .ready, doms := [2, 2, 2, 2, 2, 2, 2, 2, 2, 2, 2, 2, 2, 2, 2, 2] }, tb := { src := [0, 0, 0, 0, 0, 1, 0, 0, 0, 0, 0, 0, 0], keeper := .unqualified }, fy := { address := 3 }, lane := { st := .fl0 }, dict := {  }, mg := {  }, tim := {  } }, by decide +kernel⟩

theorem wit_DictAndTimePacketsAct_15 : ∃ (k : Packet) (s : State),
    s.pw.dev ≠ .off ∧ (kTy k ≠ 5 ∨ kHere s k = false ∨ consumes s k = false) :=
  ⟨pkt 6 3 0 false ([3] ++ List.replicate 15 0), { pw := { dev := .ready, doms := [2, 2, 2, 2, 2, 2, 2, 2, 2, 2, 2, 2, 2, 2, 2, 2] }, tb := { src := [0, 0, 0, 0, 0, 1, 0, 0, 0, 0, 0, 0, 0], keeper := .unqualified }, fy := { address := 3 }, lane := { st := .fl0 }, dict := {  }, mg := {  }, tim := {  } }, by decide +kernel⟩

theorem wit_SurfacesAreWritten_1 : ∃ (t : Nat) (k : Packet) (s : State),
    s.pw.dev ≠ .off ∧ pktTakes s k = true ∧ kTy k = 1 ∧ surfMalformed k = false ∧
    surfReject (slotAtWrite (s.advance t) (kF k 0 1)) false (kF k 1 1) (kF k 2 2) (kF k 4 2) (kF k 6 2) (kF k 2 4) = none ∧
    memOk s :=
  ⟨5, pkt 1 3 7 false ([0, 0, 1, 0, 2, 0, 3, 0, 7, 0, 9] ++ List.replicate 5 0), { pw := { dev := .ready, doms := [2, 2, 2, 2, 2, 2, 2, 2, 2, 2, 2, 2, 2, 2, 2, 2] }, tb := { src := [0, 0, 0, 0, 0, 1, 0, 0, 0, 0, 0, 0, 0], keeper := .unqualified }, fy := { address := 3 }, lane := { st := .fl0 }, dict := { sesCan := { isOpen := true } }, surf := { slots := [{ base := 64, size := 128, width := 8, height := 4, stride := 8, format := 1, state := 2, gen := 3 }], mem := [(70, 1), (74, 5), (75, 6)] } }, by decide +kernel⟩

theorem wit_SurfacesAreWritten_2 : ∃ (t : Nat) (k : Packet) (s : State),
    s.pw.dev ≠ .off ∧ pktTakes s k = true ∧ kTy k = 1 ∧ surfMalformed k = false ∧
    surfReject (slotAtWrite (s.advance t) (kF k 0 1)) false (kF k 1 1) (kF k 2 2) (kF k 4 2) (kF k 6 2) (kF k 2 4) = none ∧
    memOk s :=
  ⟨5, pkt 1 3 7 false ([0, 0, 1, 0, 2, 0, 3, 0, 7, 0, 9] ++ List.replicate 5 0), { pw := { dev := .ready, doms := [2, 2, 2, 2, 2, 2, 2, 2, 2, 2, 2, 2, 2, 2, 2, 2] }, tb := { src := [0, 0, 0, 0, 0, 1, 0, 0, 0, 0, 0, 0, 0], keeper := .unqualified }, fy := { address := 3 }, lane := { st := .fl0 }, dict := { sesCan := { isOpen := true } }, surf := { slots := [{ base := 64, size := 128, width := 8, height := 4, stride := 8, format := 1, state := 2, gen := 3 }], mem := [(70, 1), (74, 5), (75, 6)] } }, by decide +kernel⟩

theorem wit_SurfacesAreWritten_3 : ∃ (t : Nat) (w : Nat) (k : Packet) (s : State),
    s.pw.dev ≠ .off ∧ pktTakes s k = true ∧ kTy k = 1 ∧ surfMalformed k = false ∧
    surfReject (slotAtWrite (s.advance t) (kF k 0 1)) false (kF k 1 1) (kF k 2 2) (kF k 4 2) (kF k 6 2) (kF k 2 4) = none ∧
    partWord (if kF k 1 1 = 0 then (slotOf s (kF k 0 1)).base + kF k 2 2 * (slotOf s (kF k 0 1)).stride + pixByte (slotOf s (kF k 0 1)).format (kF k 4 2) else (slotOf s (kF k 0 1)).base + kF k 2 4) (kF k 6 2) w = true ∧
    s.surf.poison.contains w = false :=
  ⟨5, 9, pkt 1 3 7 false ([0, 0, 1, 0, 2, 0, 3, 0, 7, 0, 9] ++ List.replicate 5 0), { pw := { dev := .ready, doms := [2, 2, 2, 2, 2, 2, 2, 2, 2, 2, 2, 2, 2, 2, 2, 2] }, tb := { src := [0, 0, 0, 0, 0, 1, 0, 0, 0, 0, 0, 0, 0], keeper := .unqualified }, fy := { address := 3 }, lane := { st := .fl0 }, dict := { sesCan := { isOpen := true } }, surf := { slots := [{ base := 64, size := 128, width := 8, height := 4, stride := 8, format := 1, state := 2, gen := 3 }] } }, by decide +kernel⟩

theorem wit_SurfacesAreWritten_4 : ∃ (t : Nat) (reason : Nat) (c : Nat) (k : Packet) (s : State),
    s.pw.dev ≠ .off ∧ pktTakes s k = true ∧ kTy k = 1 ∧ surfMalformed k = false ∧
    surfReject (slotAtWrite (s.advance t) (kF k 0 1)) false (kF k 1 1) (kF k 2 2) (kF k 4 2) (kF k 6 2) (kF k 2 4) = some (reason, c) :=
  ⟨5, 4, 3, pkt 1 3 7 false ([0, 0, 9, 0, 2, 0, 3, 0, 7, 0, 9] ++ List.replicate 5 0), { pw := { dev := .ready, doms := [2, 2, 2, 2, 2, 2, 2, 2, 2, 2, 2, 2, 2, 2, 2, 2] }, tb := { src := [0, 0, 0, 0, 0, 1, 0, 0, 0, 0, 0, 0, 0], keeper := .unqualified }, fy := { address := 3 }, lane := { st := .fl0 }, dict := { sesCan := { isOpen := true } }, surf := { slots := [{ base := 64, size := 128, width := 8, height := 4, stride := 8, format := 1, state := 2, gen := 3 }] } }, by decide +kernel⟩

theorem wit_SurfacesAreWritten_5 : ∃ (t : Nat) (n : Nat) (k : Packet) (v : Snap) (f : Desc) (s : State),
    s.pw.dev ≠ .off ∧ pktTakes s k = true ∧ kTy k = 1 ∧ surfMalformed k = false ∧ n = kF k 0 1 ∧
    (slotOf s n).state = 3 ∧ (slotOf s n).pins = 1 ∧ (slotOf s n).pending = true ∧ s.frm.snap = some v ∧ v.new = true ∧
    v.pops = true ∧ snapHolds v s = true ∧ s.frm.windowOpen = false ∧ s.pending.head? = some (.frameLaunch t) ∧
    s.frm.cur = some f ∧ f.pins.contains n = true :=
  ⟨9, 0, pkt 1 3 7 false ([0, 0, 1, 0, 2, 0, 3, 0, 7, 0, 9] ++ List.replicate 5 0), snapOf .boundary .zero, { raw := [], seq := 1, pins := [0] }, { pw := { dev := .ready, doms := [2, 2, 2, 2, 2, 2, 2, 2, 2, 2, 2, 2, 2, 2, 2, 2] }, tb := { src := [0, 0, 0, 0, 0, 1, 0, 0, 0, 0, 0, 0, 0], keeper := .unqualified }, fy := { address := 3 }, lane := { st := .fl0 }, dict := { sesCan := { isOpen := true } }, surf := { slots := [{ base := 64, size := 128, width := 8, height := 4, stride := 8, format := 1, state := 3, pins := 1, sflags := 1 }] }, pending := [.frameLaunch 9], frm := { snap := some (snapOf .boundary .zero), cur := some { raw := [], seq := 1, pins := [0] } } }, by decide +kernel⟩

theorem wit_SurfacesAreWritten_6 : ∃ (k : Packet) (s : State),
    s.pw.dev ≠ .off ∧ pktTakes s k = true ∧ kTy k = 1 ∧ surfMalformed k = true :=
  ⟨pkt 1 3 7 false ([0, 2, 1, 0, 2, 0, 3, 0, 7, 0, 9] ++ List.replicate 5 0), { pw := { dev := .ready, doms := [2, 2, 2, 2, 2, 2, 2, 2, 2, 2, 2, 2, 2, 2, 2, 2] }, tb := { src := [0, 0, 0, 0, 0, 1, 0, 0, 0, 0, 0, 0, 0], keeper := .unqualified }, fy := { address := 3 }, lane := { st := .fl0 }, dict := { sesCan := { isOpen := true } }, surf := { slots := [{ base := 64, size := 128, width := 8, height := 4, stride := 8, format := 1, state := 2, gen := 3 }] } }, by decide +kernel⟩

theorem wit_SurfacesAreWritten_7 : ∃ (k : Packet) (s : State),
    s.pw.dev ≠ .off ∧ kHere s k = true ∧ consumes s k = true ∧ s.pw.exiting = false ∧ kTy k = 1 ∧ kPass k = false ∧
    s.fy.rowPend.length < 64 ∧
    rowHit s.fy.rowPrev (kF k 0 1) (if kF k 1 1 = 0 then kF k 2 2 else 0) (decide (kF k 1 1 ≠ 0)) = false :=
  ⟨{ pkt 1 3 7 false ([0, 0, 1, 0, 2, 0, 3, 0, 7, 0, 9] ++ List.replicate 5 0) with errored := true }, { pw := { dev := .ready, doms := [2, 2, 2, 2, 2, 2, 2, 2, 2, 2, 2, 2, 2, 2, 2, 2] }, tb := { src := [0, 0, 0, 0, 0, 1, 0, 0, 0, 0, 0, 0, 0], keeper := .unqualified }, fy := { address := 3 }, lane := { st := .fl0 }, dict := { sesCan := { isOpen := true } }, surf := { slots := [{ base := 64, size := 128, width := 8, height := 4, stride := 8, format := 1, state := 2, gen := 3 }] } }, by decide +kernel⟩

theorem wit_SurfacesAreWritten_8 : ∃ (k : Packet) (s : State),
    s.pw.dev ≠ .off ∧ (kTy k ≠ 1 ∨ kHere s k = false ∨ consumes s k = false) :=
  ⟨pkt 7 3 7 false [], { pw := { dev := .ready, doms := [2, 2, 2, 2, 2, 2, 2, 2, 2, 2, 2, 2, 2, 2, 2, 2] }, tb := { src := [0, 0, 0, 0, 0, 1, 0, 0, 0, 0, 0, 0, 0], keeper := .unqualified }, fy := { address := 3 }, lane := { st := .fl0 }, dict := { sesCan := { isOpen := true } }, surf := { slots := [{ base := 64, size := 128, width := 8, height := 4, stride := 8, format := 1, state := 2, gen := 3 }] } }, by decide +kernel⟩

theorem wit_SurfacesAreWritten_9 : ∃ (t : Nat) (k : Packet) (s : State),
    s.pw.dev ≠ .off ∧ pktTakes s k = true ∧ kTy k = 7 ∧ surfMalformed k = false ∧
    surfReject (slotAtWrite (s.advance t) (kF k 0 1)) true (kF k 1 1) (kF k 2 2) (kF k 4 2) (kF k 6 2) (kF k 2 4) = none ∧
    memOk s :=
  ⟨5, pkt 7 3 7 false ([0, 0, 1, 0, 16, 0, 3, 0, 7, 0, 9] ++ List.replicate 5 0), { pw := { dev := .ready, doms := [2, 2, 2, 2, 2, 2, 2, 2, 2, 2, 2, 2, 2, 2, 2, 2] }, tb := { src := [0, 0, 0, 0, 0, 1, 0, 0, 0, 0, 0, 0, 0], keeper := .unqualified }, fy := { address := 3 }, lane := { st := .fl0 }, dict := { sesCan := { isOpen := true } }, surf := { slots := [{ base := 64, size := 128, width := 64, height := 4, stride := 8, format := 7, state := 2, gen := 3 }], mem := [(74, 5), (75, 6)] } }, by decide +kernel⟩

theorem wit_SurfacesAreWritten_10 : ∃ (t : Nat) (k : Packet) (s : State),
    s.pw.dev ≠ .off ∧ pktTakes s k = true ∧ kTy k = 7 ∧ surfMalformed k = false ∧
    surfReject (slotAtWrite (s.advance t) (kF k 0 1)) true (kF k 1 1) (kF k 2 2) (kF k 4 2) (kF k 6 2) (kF k 2 4) = none ∧
    memOk s :=
  ⟨5, pkt 7 3 7 false ([0, 0, 1, 0, 16, 0, 3, 0, 7, 0, 9] ++ List.replicate 5 0), { pw := { dev := .ready, doms := [2, 2, 2, 2, 2, 2, 2, 2, 2, 2, 2, 2, 2, 2, 2, 2] }, tb := { src := [0, 0, 0, 0, 0, 1, 0, 0, 0, 0, 0, 0, 0], keeper := .unqualified }, fy := { address := 3 }, lane := { st := .fl0 }, dict := { sesCan := { isOpen := true } }, surf := { slots := [{ base := 64, size := 128, width := 64, height := 4, stride := 8, format := 7, state := 2, gen := 3 }], mem := [(74, 5), (75, 6)] } }, by decide +kernel⟩

theorem wit_SurfacesAreWritten_11 : ∃ (t : Nat) (reason : Nat) (c : Nat) (k : Packet) (s : State),
    s.pw.dev ≠ .off ∧ pktTakes s k = true ∧ kTy k = 7 ∧ surfMalformed k = false ∧
    surfReject (slotAtWrite (s.advance t) (kF k 0 1)) true (kF k 1 1) (kF k 2 2) (kF k 4 2) (kF k 6 2) (kF k 2 4) = some (reason, c) :=
  ⟨5, 3, 3, pkt 7 3 7 false ([0, 1, 1, 0, 16, 0, 3, 0, 7, 0, 9] ++ List.replicate 5 0), { pw := { dev := .ready, doms := [2, 2, 2, 2, 2, 2, 2, 2, 2, 2, 2, 2, 2, 2, 2, 2] }, tb := { src := [0, 0, 0, 0, 0, 1, 0, 0, 0, 0, 0, 0, 0], keeper := .unqualified }, fy := { address := 3 }, lane := { st := .fl0 }, dict := { sesCan := { isOpen := true } }, surf := { slots := [{ base := 64, size := 128, width := 8, height := 4, stride := 8, format := 1, state := 2, gen := 3 }] } }, by decide +kernel⟩

theorem wit_SurfacesAreWritten_12 : ∃ (k : Packet) (s : State),
    s.pw.dev ≠ .off ∧ pktTakes s k = true ∧ kTy k = 7 ∧ surfMalformed k = true :=
  ⟨pkt 7 3 7 false ([0, 2, 1, 0, 2, 0, 3, 0, 7, 0, 9] ++ List.replicate 5 0), { pw := { dev := .ready, doms := [2, 2, 2, 2, 2, 2, 2, 2, 2, 2, 2, 2, 2, 2, 2, 2] }, tb := { src := [0, 0, 0, 0, 0, 1, 0, 0, 0, 0, 0, 0, 0], keeper := .unqualified }, fy := { address := 3 }, lane := { st := .fl0 }, dict := { sesCan := { isOpen := true } }, surf := { slots := [{ base := 64, size := 128, width := 8, height := 4, stride := 8, format := 1, state := 2, gen := 3 }] } }, by decide +kernel⟩

theorem wit_SurfacesAreWritten_13 : ∃ (word : Nat) (errors : Nat) (s : State),
    s.pw.dev ≠ .off ∧ active s = true ∧ 8 * word < surfBytes ∧
    (cacheBase s ≤ 8 * word ∨ s.surf.slots.any (fun k => k.holds (8 * word)) = true) ∧
    s.surf.poison.contains word = false ∧ errors = 1 :=
  ⟨9, 1, { pw := { dev := .ready, doms := [2, 2, 2, 2, 2, 2, 2, 2, 2, 2, 2, 2, 2, 2, 2, 2] }, tb := { src := [0, 0, 0, 0, 0, 1, 0, 0, 0, 0, 0, 0, 0], keeper := .unqualified }, fy := { address := 3 }, lane := { st := .fl0 }, dict := { sesCan := { isOpen := true } }, surf := { slots := [{ base := 64, size := 128, width := 8, height := 4, stride := 8, format := 1, state := 2, gen := 3 }] } }, by decide +kernel⟩

theorem wit_SurfacesAreWritten_14 : ∃ (word : Nat) (errors : Nat) (s : State),
    s.pw.dev ≠ .off ∧ active s = true ∧ 8 * word < surfBytes ∧
    (cacheBase s ≤ 8 * word ∨ s.surf.slots.any (fun k => k.holds (8 * word)) = true) ∧
    s.surf.poison.contains word = false ∧ 2 ≤ errors :=
  ⟨9, 2, { pw := { dev := .ready, doms := [2, 2, 2, 2, 2, 2, 2, 2, 2, 2, 2, 2, 2, 2, 2, 2] }, tb := { src := [0, 0, 0, 0, 0, 1, 0, 0, 0, 0, 0, 0, 0], keeper := .unqualified }, fy := { address := 3 }, lane := { st := .fl0 }, dict := { sesCan := { isOpen := true } }, surf := { slots := [{ base := 64, size := 128, width := 8, height := 4, stride := 8, format := 1, state := 2, gen := 3 }] } }, by decide +kernel⟩

theorem wit_SurfacesAreWritten_15 : ∃ (word : Nat) (errors : Nat) (s : State),
    s.pw.dev ≠ .off ∧ (active s = false ∨ surfBytes ≤ 8 * word ∨ (8 * word < cacheBase s ∧
    s.surf.slots.any (fun k => k.holds (8 * word)) = false) ∨ s.surf.poison.contains word = true ∨ errors = 0) :=
  ⟨1, 2, { pw := { dev := .ready, doms := [2, 2, 2, 2, 2, 2, 2, 2, 2, 2, 2, 2, 2, 2, 2, 2] }, tb := { src := [0, 0, 0, 0, 0, 1, 0, 0, 0, 0, 0, 0, 0], keeper := .unqualified }, fy := { address := 3 }, lane := { st := .fl0 }, dict := { sesCan := { isOpen := true } }, surf := { slots := [{ base := 64, size := 128, width := 8, height := 4, stride := 8, format := 1, state := 2, gen := 3 }] } }, by decide +kernel⟩

theorem wit_SlotsMoveOn_1 : ∃ (p : Path) (data : List Byte) (s : State),
    s.pw.dev ≠ .off ∧ takes s p 0x2410 1 data = true ∧ cfgCheck s data = 0 ∧ leField data 0 1 < s.surf.slots.length ∧
    leField data 18 1 ≠ 7 :=
  ⟨.can, [0, 0, 0, 0, 0, 1, 0, 0, 64, 0, 0, 0, 8, 0, 4, 0, 8, 0, 1, 0, 0, 0, 0, 0], { pw := { dev := .ready, doms := [2, 2, 2, 2, 2, 2, 2, 2, 2, 2, 2, 2, 2, 2, 2, 2] }, tb := { src := [0, 0, 0, 0, 0, 1, 0, 0, 0, 0, 0, 0, 0], keeper := .unqualified }, fy := { address := 3 }, lane := { st := .fl0 }, dict := { sesCan := { isOpen := true } }, surf := { slots := [{}] } }, by decide +kernel⟩

theorem wit_SlotsMoveOn_2 : ∃ (p : Path) (data : List Byte) (s : State),
    s.pw.dev ≠ .off ∧ takes s p 0x2410 1 data = true ∧ cfgCheck s data = 0 ∧ leField data 0 1 < s.surf.slots.length ∧
    leField data 18 1 = 7 :=
  ⟨.can, [0, 0, 0, 0, 0, 1, 0, 0, 64, 0, 0, 0, 64, 0, 4, 0, 8, 0, 7, 0, 0, 0, 0, 0], { pw := { dev := .ready, doms := [2, 2, 2, 2, 2, 2, 2, 2, 2, 2, 2, 2, 2, 2, 2, 2] }, tb := { src := [0, 0, 0, 0, 0, 1, 0, 0, 0, 0, 0, 0, 0], keeper := .unqualified }, fy := { address := 3 }, lane := { st := .fl0 }, dict := { sesCan := { isOpen := true } }, surf := { slots := [{}] } }, by decide +kernel⟩

theorem wit_SlotsMoveOn_3 : ∃ (c : Nat) (p : Path) (data : List Byte) (s : State),
    s.pw.dev ≠ .off ∧ takes s p 0x2410 1 data = true ∧ cfgCheck s data = c ∧ c ≠ 0 ∧ leField data 1 3 = 0 ∧
    leField data 21 3 = 0 :=
  ⟨4, .can, [1] ++ ([0, 0, 0, 0, 0, 1, 0, 0, 64, 0, 0, 0, 8, 0, 4, 0, 8, 0, 1, 0, 0, 0, 0, 0]).drop 1, { pw := { dev := .ready, doms := [2, 2, 2, 2, 2, 2, 2, 2, 2, 2, 2, 2, 2, 2, 2, 2] }, tb := { src := [0, 0, 0, 0, 0, 1, 0, 0, 0, 0, 0, 0, 0], keeper := .unqualified }, fy := { address := 3 }, lane := { st := .fl0 }, dict := { sesCan := { isOpen := true } }, surf := { slots := [{ state := 1, base := 256, size := 64 }] } }, by decide +kernel⟩

theorem wit_SlotsMoveOn_4 : ∃ (p : Path) (data : List Byte) (s : State),
    s.pw.dev ≠ .off ∧ takes s p 0x2410 1 data = true ∧ (leField data 1 3 ≠ 0 ∨ leField data 21 3 ≠ 0) :=
  ⟨.can, [1, 1] ++ ([0, 0, 0, 0, 0, 1, 0, 0, 64, 0, 0, 0, 8, 0, 4, 0, 8, 0, 1, 0, 0, 0, 0, 0]).drop 2, { pw := { dev := .ready, doms := [2, 2, 2, 2, 2, 2, 2, 2, 2, 2, 2, 2, 2, 2, 2, 2] }, tb := { src := [0, 0, 0, 0, 0, 1, 0, 0, 0, 0, 0, 0, 0], keeper := .unqualified }, fy := { address := 3 }, lane := { st := .fl0 }, dict := { sesCan := { isOpen := true } }, surf := { slots := [{}] } }, by decide +kernel⟩

theorem wit_SlotsMoveOn_5 : ∃ (v : Nat) (p : Path) (s : State),
    s.pw.dev ≠ .off ∧ takes s p 0x2410 2 (leBytes 4 (256 + v)) = true ∧ v < 256 ∧ (slotOf s v).state = 1 ∧
    (slotOf s v).checking = false ∧ (slotOf s v).compressed = false :=
  ⟨0, .can, { pw := { dev := .ready, doms := [2, 2, 2, 2, 2, 2, 2, 2, 2, 2, 2, 2, 2, 2, 2, 2] }, tb := { src := [0, 0, 0, 0, 0, 1, 0, 0, 0, 0, 0, 0, 0], keeper := .unqualified }, fy := { address := 3 }, lane := { st := .fl0 }, dict := { sesCan := { isOpen := true } }, surf := { slots := [{ state := 1, base := 256, size := 64 }] } }, by decide +kernel⟩

theorem wit_SlotsMoveOn_6 : ∃ (v : Nat) (p : Path) (s : State),
    s.pw.dev ≠ .off ∧ takes s p 0x2410 2 (leBytes 4 (256 + v)) = true ∧ v < 256 ∧ (slotOf s v).state = 1 ∧
    (slotOf s v).checking = false ∧ (slotOf s v).compressed = true :=
  ⟨0, .can, { pw := { dev := .ready, doms := [2, 2, 2, 2, 2, 2, 2, 2, 2, 2, 2, 2, 2, 2, 2, 2] }, tb := { src := [0, 0, 0, 0, 0, 1, 0, 0, 0, 0, 0, 0, 0], keeper := .unqualified }, fy := { address := 3 }, lane := { st := .fl0 }, dict := { sesCan := { isOpen := true } }, surf := { slots := [{ base := 64, size := 128, width := 8, height := 4, stride := 8, format := 1, flags := 1, state := 1 }] } }, by decide +kernel⟩

theorem wit_SlotsMoveOn_7 : ∃ (v : Nat) (p : Path) (s : State),
    s.pw.dev ≠ .off ∧ takes s p 0x2410 2 (leBytes 4 (256 + v)) = true ∧ v < 256 ∧
    ((slotOf s v).state ≠ 1 ∨ (slotOf s v).checking = true) :=
  ⟨0, .can, { pw := { dev := .ready, doms := [2, 2, 2, 2, 2, 2, 2, 2, 2, 2, 2, 2, 2, 2, 2, 2] }, tb := { src := [0, 0, 0, 0, 0, 1, 0, 0, 0, 0, 0, 0, 0], keeper := .unqualified }, fy := { address := 3 }, lane := { st := .fl0 }, dict := { sesCan := { isOpen := true } }, surf := { slots := [{ base := 64, size := 128, width := 8, height := 4, stride := 8, format := 1, state := 2, gen := 3 }] } }, by decide +kernel⟩

theorem wit_SlotsMoveOn_8 : ∃ (v : Nat) (p : Path) (s : State),
    s.pw.dev ≠ .off ∧ takes s p 0x2410 2 (leBytes 4 (256 + v % 256 + 65536 * (v / 65536))) = true ∧ 65536 ≤ v ∧
    v < 4294967296 :=
  ⟨65536, .can, { pw := { dev := .ready, doms := [2, 2, 2, 2, 2, 2, 2, 2, 2, 2, 2, 2, 2, 2, 2, 2] }, tb := { src := [0, 0, 0, 0, 0, 1, 0, 0, 0, 0, 0, 0, 0], keeper := .unqualified }, fy := { address := 3 }, lane := { st := .fl0 }, dict := { sesCan := { isOpen := true } }, surf := { slots := [{ base := 64, size := 128, width := 8, height := 4, stride := 8, format := 1, state := 2, gen := 3 }] } }, by decide +kernel⟩

theorem wit_SlotsMoveOn_9 : ∃ (n : Fin 256) (s : State),
    s.pw.dev ≠ .off ∧ (slotOf s n.val).checking = true :=
  ⟨0, { pw := { dev := .ready, doms := [2, 2, 2, 2, 2, 2, 2, 2, 2, 2, 2, 2, 2, 2, 2, 2] }, tb := { src := [0, 0, 0, 0, 0, 1, 0, 0, 0, 0, 0, 0, 0], keeper := .unqualified }, fy := { address := 3 }, lane := { st := .fl0 }, dict := { sesCan := { isOpen := true } }, surf := { slots := [{ base := 64, size := 128, width := 8, height := 4, stride := 8, format := 1, flags := 1, state := 1, sflags := 4 }] } }, by decide +kernel⟩

theorem wit_SlotsMoveOn_10 : ∃ (n : Fin 256) (s : State),
    s.pw.dev ≠ .off ∧ (slotOf s n.val).checking = true :=
  ⟨0, { pw := { dev := .ready, doms := [2, 2, 2, 2, 2, 2, 2, 2, 2, 2, 2, 2, 2, 2, 2, 2] }, tb := { src := [0, 0, 0, 0, 0, 1, 0, 0, 0, 0, 0, 0, 0], keeper := .unqualified }, fy := { address := 3 }, lane := { st := .fl0 }, dict := { sesCan := { isOpen := true } }, surf := { slots := [{ base := 64, size := 128, width := 8, height := 4, stride := 8, format := 1, flags := 1, state := 1, sflags := 4 }] } }, by decide +kernel⟩

theorem wit_SlotsMoveOn_11 : ∃ (n : Fin 256) (s : State),
    s.pw.dev ≠ .off ∧ (slotOf s n.val).checking = false :=
  ⟨0, { pw := { dev := .ready, doms := [2, 2, 2, 2, 2, 2, 2, 2, 2, 2, 2, 2, 2, 2, 2, 2] }, tb := { src := [0, 0, 0, 0, 0, 1, 0, 0, 0, 0, 0, 0, 0], keeper := .unqualified }, fy := { address := 3 }, lane := { st := .fl0 }, dict := { sesCan := { isOpen := true } }, surf := { slots := [{ base := 64, size := 128, width := 8, height := 4, stride := 8, format := 1, flags := 1, state := 1 }] } }, by decide +kernel⟩

theorem wit_SlotsMoveOn_12 : ∃ (v : Nat) (p : Path) (s : State),
    s.pw.dev ≠ .off ∧ takes s p 0x2410 2 (leBytes 4 (512 + v)) = true ∧ v < 256 ∧ (slotOf s v).state ≠ 0 ∧
    (slotOf s v).checking = false ∧ (slotOf s v).pins = 0 :=
  ⟨0, .can, { pw := { dev := .ready, doms := [2, 2, 2, 2, 2, 2, 2, 2, 2, 2, 2, 2, 2, 2, 2, 2] }, tb := { src := [0, 0, 0, 0, 0, 1, 0, 0, 0, 0, 0, 0, 0], keeper := .unqualified }, fy := { address := 3 }, lane := { st := .fl0 }, dict := { sesCan := { isOpen := true } }, surf := { slots := [{ base := 64, size := 128, width := 8, height := 4, stride := 8, format := 1, state := 2, gen := 3 }] } }, by decide +kernel⟩

theorem wit_SlotsMoveOn_13 : ∃ (v : Nat) (p : Path) (s : State),
    s.pw.dev ≠ .off ∧ takes s p 0x2410 2 (leBytes 4 (512 + v)) = true ∧ v < 256 ∧ (slotOf s v).state ≠ 0 ∧
    (slotOf s v).checking = false ∧ 0 < (slotOf s v).pins :=
  ⟨0, .can, { pw := { dev := .ready, doms := [2, 2, 2, 2, 2, 2, 2, 2, 2, 2, 2, 2, 2, 2, 2, 2] }, tb := { src := [0, 0, 0, 0, 0, 1, 0, 0, 0, 0, 0, 0, 0], keeper := .unqualified }, fy := { address := 3 }, lane := { st := .fl0 }, dict := { sesCan := { isOpen := true } }, surf := { slots := [{ state := 3, pins := 2, base := 256, size := 64 }] } }, by decide +kernel⟩

theorem wit_SlotsMoveOn_14 : ∃ (v : Nat) (p : Path) (s : State),
    s.pw.dev ≠ .off ∧ takes s p 0x2410 2 (leBytes 4 (512 + v)) = true ∧ v < 256 ∧
    ((slotOf s v).state = 0 ∨ (slotOf s v).checking = true) :=
  ⟨1, .can, { pw := { dev := .ready, doms := [2, 2, 2, 2, 2, 2, 2, 2, 2, 2, 2, 2, 2, 2, 2, 2] }, tb := { src := [0, 0, 0, 0, 0, 1, 0, 0, 0, 0, 0, 0, 0], keeper := .unqualified }, fy := { address := 3 }, lane := { st := .fl0 }, dict := { sesCan := { isOpen := true } }, surf := { slots := [{ base := 64, size := 128, width := 8, height := 4, stride := 8, format := 1, state := 2, gen := 3 }] } }, by decide +kernel⟩

theorem wit_SlotsMoveOn_15 : ∃ (v : Nat) (p : Path) (s : State),
    s.pw.dev ≠ .off ∧ takes s p 0x2410 2 (leBytes 4 (512 + v % 256 + 65536 * (v / 65536))) = true ∧ 65536 ≤ v ∧
    v < 4294967296 :=
  ⟨65536, .can, { pw := { dev := .ready, doms := [2, 2, 2, 2, 2, 2, 2, 2, 2, 2, 2, 2, 2, 2, 2, 2] }, tb := { src := [0, 0, 0, 0, 0, 1, 0, 0, 0, 0, 0, 0, 0], keeper := .unqualified }, fy := { address := 3 }, lane := { st := .fl0 }, dict := { sesCan := { isOpen := true } }, surf := { slots := [{ base := 64, size := 128, width := 8, height := 4, stride := 8, format := 1, state := 2, gen := 3 }] } }, by decide +kernel⟩

theorem wit_SlotsMoveOn_16 : ∃ (v : Nat) (p : Path) (s : State),
    s.pw.dev ≠ .off ∧ takes s p 0x2400 1 (leBytes 1 v) = true ∧ v < 256 ∧ (∀ k ∈ s.surf.slots, k.state ≠ 0 →
    k.base + k.size ≤ surfBytes - 65536 * v) ∧ s.frm.queue.any (fun x => x.contd) = false ∧
    s.frm.cur.any (fun x => x.contd) = false ∧ rising s.objs = true :=
  ⟨9, .can, { pw := { dev := .ready, doms := [2, 2, 2, 2, 2, 2, 2, 2, 2, 2, 2, 2, 2, 2, 2, 2] }, tb := { src := [0, 0, 0, 0, 0, 1, 0, 0, 0, 0, 0, 0, 0], keeper := .unqualified }, fy := { address := 3 }, lane := { st := .fl0 }, dict := { sesCan := { isOpen := true } }, surf := { slots := [{ base := 64, size := 128, width := 8, height := 4, stride := 8, format := 1, state := 2, gen := 3 }] } }, by decide +kernel⟩

theorem wit_SlotsMoveOn_17 : ∃ (v : Nat) (p : Path) (s : State),
    s.pw.dev ≠ .off ∧ takes s p 0x2400 1 (leBytes 1 v) = true ∧ v < 256 ∧ ((∃ k ∈ s.surf.slots, k.state ≠ 0 ∧
    surfBytes - 65536 * v < k.base + k.size) ∨ s.frm.queue.any (fun x => x.contd) = true ∨ s.frm.cur.any (fun x => x.contd) = true) :=
  ⟨9, .can, { pw := { dev := .ready, doms := [2, 2, 2, 2, 2, 2, 2, 2, 2, 2, 2, 2, 2, 2, 2, 2] }, tb := { src := [0, 0, 0, 0, 0, 1, 0, 0, 0, 0, 0, 0, 0], keeper := .unqualified }, fy := { address := 3 }, lane := { st := .fl0 }, dict := { sesCan := { isOpen := true } }, surf := { slots := [{ state := 1, base := 0x17FFFC0, size := 64 }] } }, by decide +kernel⟩

theorem wit_SlotsMoveOn_18 : ∃ (p : Path) (n : Fin 32) (data : List Byte) (s : State),
    s.pw.dev ≠ .off ∧ takes s p (0x2420 + n.val) 1 data = true ∧
    (data.length ≠ 514 ∨ leField data 512 2 < 256 ∨ leField data 512 2 = 65535) ∧ (∀ k ∈ s.surf.slots, 0 < k.pins →
    (k.format = 4 ∨ k.format = 5) → k.palette ≠ n.val) :=
  ⟨.can, 3, List.replicate 512 1 ++ [255, 255], { pw := { dev := .ready, doms := [2, 2, 2, 2, 2, 2, 2, 2, 2, 2, 2, 2, 2, 2, 2, 2] }, tb := { src := [0, 0, 0, 0, 0, 1, 0, 0, 0, 0, 0, 0, 0], keeper := .unqualified }, fy := { address := 3 }, lane := { st := .fl0 }, dict := { sesCan := { isOpen := true } }, surf := { slots := [{ base := 64, size := 128, width := 8, height := 4, stride := 8, format := 1, state := 2, gen := 3 }] } }, by decide +kernel⟩

theorem wit_SlotsMoveOn_19 : ∃ (p : Path) (n : Fin 32) (data : List Byte) (r : Run) (s : State),
    s.pw.dev ≠ .off ∧ takes s p (0x2420 + n.val) 1 data = true ∧
    (leField data 512 2 < 256 ∨ leField data 512 2 = 65535) ∧ (∀ k ∈ s.surf.slots, 0 < k.pins →
    (k.format = 4 ∨ k.format = 5) → k.palette ≠ n.val) ∧ s.comp.cacheRun = some r ∧
    r.slots.any (fun m => ((slotOf s m).format = 4 || (slotOf s m).format = 5) && decide ((slotOf s m).palette = n.val)) = true :=
  ⟨.can, 3, List.replicate 512 1 ++ [255, 255], { layers := [([0], 0)], x0 := 0, y0 := 0, w := 8, h := 4 }, { pw := { dev := .ready, doms := [2, 2, 2, 2, 2, 2, 2, 2, 2, 2, 2, 2, 2, 2, 2, 2] }, tb := { src := [0, 0, 0, 0, 0, 1, 0, 0, 0, 0, 0, 0, 0], keeper := .unqualified }, fy := { address := 3 }, lane := { st := .fl0 }, dict := { sesCan := { isOpen := true } }, surf := { slots := [{ base := 64, size := 128, width := 8, height := 4, stride := 8, format := 5, palette := 3, state := 2 }] }, comp := { cache := .valid, cacheRun := some { layers := [([0], 0)], x0 := 0, y0 := 0, w := 8, h := 4 } } }, by decide +kernel⟩

theorem wit_SlotsMoveOn_20 : ∃ (p : Path) (n : Fin 32) (data : List Byte) (s : State),
    s.pw.dev ≠ .off ∧ takes s p (0x2420 + n.val) 1 data = true ∧
    (data.length ≠ 514 ∨ leField data 512 2 < 256 ∨ leField data 512 2 = 65535) ∧ (∃ k ∈ s.surf.slots, 0 < k.pins ∧
    (k.format = 4 ∨ k.format = 5) ∧ k.palette = n.val) :=
  ⟨.can, 3, List.replicate 512 1 ++ [255, 255], { pw := { dev := .ready, doms := [2, 2, 2, 2, 2, 2, 2, 2, 2, 2, 2, 2, 2, 2, 2, 2] }, tb := { src := [0, 0, 0, 0, 0, 1, 0, 0, 0, 0, 0, 0, 0], keeper := .unqualified }, fy := { address := 3 }, lane := { st := .fl0 }, dict := { sesCan := { isOpen := true } }, surf := { slots := [{ base := 64, size := 128, width := 8, height := 4, stride := 8, format := 5, palette := 3, state := 3, pins := 1 }] } }, by decide +kernel⟩

theorem wit_SlotsMoveOn_21 : ∃ (p : Path) (n : Fin 32) (data : List Byte) (s : State),
    s.pw.dev ≠ .off ∧ takes s p (0x2420 + n.val) 1 data = true ∧ data.length = 514 ∧ 256 ≤ leField data 512 2 ∧
    leField data 512 2 ≠ 65535 :=
  ⟨.can, 3, List.replicate 512 1 ++ [0, 1], { pw := { dev := .ready, doms := [2, 2, 2, 2, 2, 2, 2, 2, 2, 2, 2, 2, 2, 2, 2, 2] }, tb := { src := [0, 0, 0, 0, 0, 1, 0, 0, 0, 0, 0, 0, 0], keeper := .unqualified }, fy := { address := 3 }, lane := { st := .fl0 }, dict := { sesCan := { isOpen := true } }, surf := { slots := [{ base := 64, size := 128, width := 8, height := 4, stride := 8, format := 1, state := 2, gen := 3 }] } }, by decide +kernel⟩

theorem wit_FramePacketsAct_1 : ∃ (k : Packet) (s : State),
    s.pw.dev ≠ .off ∧ pktTakes s k = true ∧ kTy k = 3 ∧ kF k 0 1 = 1 ∧ writeBad k = false :=
  ⟨pkt 3 3 7 false ([1, 0, 40, 0, 0, 0, 0, 0] ++ rawDesc 9), { pw := { dev := .ready, doms := [2, 2, 2, 2, 2, 2, 2, 2, 2, 2, 2, 2, 2, 2, 2, 2] }, tb := { src := [0, 0, 0, 0, 0, 1, 0, 0, 0, 0, 0, 0, 0], keeper := .unqualified }, fy := { address := 3 }, lane := { st := .fl0 }, dict := { sesCan := { isOpen := true } }, frm := {  }, arr := {  }, saf := {  }, quay := {  }, comp := {  }, mask := {  } }, by decide +kernel⟩

theorem wit_FramePacketsAct_2 : ∃ (k : Packet) (s : State),
    s.pw.dev ≠ .off ∧ pktTakes s k = true ∧ kTy k = 3 ∧ kF k 0 1 = 1 ∧ writeBad k = true ∧
    alook s.fy.nackFrame (kSeq k) 0 ≠ 2 :=
  ⟨pkt 3 3 7 false (1 :: List.replicate 15 1), { pw := { dev := .ready, doms := [2, 2, 2, 2, 2, 2, 2, 2, 2, 2, 2, 2, 2, 2, 2, 2] }, tb := { src := [0, 0, 0, 0, 0, 1, 0, 0, 0, 0, 0, 0, 0], keeper := .unqualified }, fy := { address := 3 }, lane := { st := .fl0 }, dict := { sesCan := { isOpen := true } }, frm := {  }, arr := {  }, saf := {  }, quay := {  }, comp := {  }, mask := {  } }, by decide +kernel⟩

theorem wit_FramePacketsAct_3 : ∃ (k : Packet) (s : State),
    s.pw.dev ≠ .off ∧ (kTy k ≠ 3 ∨ kF k 0 1 ≠ 1 ∨ kHere s k = false ∨ consumes s k = false) :=
  ⟨pkt 3 3 7 false (9 :: List.replicate 15 0), { pw := { dev := .ready, doms := [2, 2, 2, 2, 2, 2, 2, 2, 2, 2, 2, 2, 2, 2, 2, 2] }, tb := { src := [0, 0, 0, 0, 0, 1, 0, 0, 0, 0, 0, 0, 0], keeper := .unqualified }, fy := { address := 3 }, lane := { st := .fl0 }, dict := { sesCan := { isOpen := true } }, frm := {  }, arr := {  }, saf := {  }, quay := {  }, comp := {  }, mask := {  } }, by decide +kernel⟩

theorem wit_FramePacketsAct_4 : ∃ (k : Packet) (s : State),
    s.pw.dev ≠ .off ∧ pktTakes s k = true ∧ kTy k = 3 ∧ kF k 0 1 = 2 ∧ kZero k 1 k.payload.length = true ∧
    s.frm.shadowDesc = none :=
  ⟨pkt 3 3 7 false (2 :: List.replicate 15 0), { pw := { dev := .ready, doms := [2, 2, 2, 2, 2, 2, 2, 2, 2, 2, 2, 2, 2, 2, 2, 2] }, tb := { src := [0, 0, 0, 0, 0, 1, 0, 0, 0, 0, 0, 0, 0], keeper := .unqualified }, fy := { address := 3 }, lane := { st := .fl0 }, dict := { sesCan := { isOpen := true } }, frm := {  }, arr := {  }, saf := {  }, quay := {  }, comp := {  }, mask := {  } }, by decide +kernel⟩

theorem wit_FramePacketsAct_5 : ∃ (t : Nat) (c : Nat) (k : Packet) (raw : List Byte) (s : State),
    s.pw.dev ≠ .off ∧ pktTakes s k = true ∧ kTy k = 3 ∧ kF k 0 1 = 2 ∧ kZero k 1 k.payload.length = true ∧
    s.frm.shadowDesc = some raw ∧ frameCheck (s.advance t) raw = c ∧ c ≠ 0 :=
  ⟨5, 2, pkt 3 3 7 false (2 :: List.replicate 15 0), (rawDesc 9), { pw := { dev := .ready, doms := [2, 2, 2, 2, 2, 2, 2, 2, 2, 2, 2, 2, 2, 2, 2, 2] }, tb := { src := [0, 0, 0, 0, 0, 1, 0, 0, 0, 0, 0, 0, 0], keeper := .unqualified }, fy := { address := 3 }, lane := { st := .fl0 }, dict := { sesCan := { isOpen := true } }, frm := { shadowDesc := some (rawDesc 9), lastSeq := some 9 }, arr := {  }, saf := {  }, quay := {  }, comp := {  }, mask := {  } }, by decide +kernel⟩

theorem wit_FramePacketsAct_6 : ∃ (t : Nat) (c : Nat) (item : Nat) (k : Packet) (raw : List Byte) (s : State),
    s.pw.dev ≠ .off ∧ pktTakes s k = true ∧ kTy k = 3 ∧ kF k 0 1 = 2 ∧ kZero k 1 k.payload.length = true ∧
    s.frm.shadowDesc = some raw ∧ frameCheck (s.advance t) raw = 0 ∧ squareCheck s raw = some (c, item) :=
  ⟨5, 0x10, 255, pkt 3 3 7 false (2 :: List.replicate 15 0), ((rawDesc 9).take 32 ++ [9, 0, 0, 0, 0, 0, 0, 0]), { pw := { dev := .ready, doms := [2, 2, 2, 2, 2, 2, 2, 2, 2, 2, 2, 2, 2, 2, 2, 2] }, tb := { src := [0, 0, 0, 0, 0, 1, 0, 0, 0, 0, 0, 0, 0], keeper := .unqualified }, fy := { address := 3 }, lane := { st := .fl0 }, dict := { sesCan := { isOpen := true } }, frm := { shadowDesc := some ((rawDesc 9).take 32 ++ [9, 0, 0, 0, 0, 0, 0, 0]) }, arr := {  }, saf := {  }, quay := {  }, comp := {  }, mask := {  } }, by decide +kernel⟩

theorem wit_FramePacketsAct_7 : ∃ (t : Nat) (k : Packet) (raw : List Byte) (s : State),
    s.pw.dev ≠ .off ∧ pktTakes s k = true ∧ kTy k = 3 ∧ kF k 0 1 = 2 ∧ kZero k 1 k.payload.length = true ∧
    s.frm.shadowDesc = some raw ∧ frameCheck (s.advance t) raw = 0 ∧ squareCheck s raw = none :=
  ⟨5, pkt 3 3 7 false (2 :: List.replicate 15 0), (rawDesc 9), { pw := { dev := .ready, doms := [2, 2, 2, 2, 2, 2, 2, 2, 2, 2, 2, 2, 2, 2, 2, 2] }, tb := { src := [0, 0, 0, 0, 0, 1, 0, 0, 0, 0, 0, 0, 0], keeper := .unqualified }, fy := { address := 3 }, lane := { st := .fl0 }, dict := { sesCan := { isOpen := true } }, frm := { shadowDesc := some (rawDesc 9) }, arr := {  }, saf := {  }, quay := {  }, comp := {  }, mask := {  } }, by decide +kernel⟩

theorem wit_FramePacketsAct_8 : ∃ (k : Packet) (p : List Byte) (s : State),
    s.pw.dev ≠ .off ∧ kHere s k = true ∧ consumes s k = true ∧ s.pw.exiting = false ∧ queueFree s = true ∧ kTy k = 3 ∧
    kF k 0 1 = 2 ∧ kPass k = true ∧ kRetry k = true ∧ afind s.fy.nackFrame (kSeq k) = none ∧
    afind s.fy.doneFrame (kSeq k) = some p ∧ p ≠ [] :=
  ⟨pkt 3 3 7 true (2 :: List.replicate 15 0), [1, 2], { pw := { dev := .ready, doms := [2, 2, 2, 2, 2, 2, 2, 2, 2, 2, 2, 2, 2, 2, 2, 2] }, tb := { src := [0, 0, 0, 0, 0, 1, 0, 0, 0, 0, 0, 0, 0], keeper := .unqualified }, fy := { address := 3, doneFrame := [(7, [1, 2])] }, lane := { st := .fl0 }, dict := { sesCan := { isOpen := true } }, frm := { shadowDesc := some (rawDesc 9) }, arr := {  }, saf := {  }, quay := {  }, comp := {  }, mask := {  } }, by decide +kernel⟩

theorem wit_FramePacketsAct_9 : ∃ (k : Packet) (s : State),
    s.pw.dev ≠ .off ∧ pktTakes s k = true ∧ kTy k = 3 ∧ kF k 0 1 = 2 ∧ kZero k 1 k.payload.length = false ∧
    alook s.fy.nackFrame (kSeq k) 0 ≠ 2 :=
  ⟨pkt 3 3 7 false (2 :: List.replicate 15 1), { pw := { dev := .ready, doms := [2, 2, 2, 2, 2, 2, 2, 2, 2, 2, 2, 2, 2, 2, 2, 2] }, tb := { src := [0, 0, 0, 0, 0, 1, 0, 0, 0, 0, 0, 0, 0], keeper := .unqualified }, fy := { address := 3 }, lane := { st := .fl0 }, dict := { sesCan := { isOpen := true } }, frm := {  }, arr := {  }, saf := {  }, quay := {  }, comp := {  }, mask := {  } }, by decide +kernel⟩

theorem wit_FramePacketsAct_10 : ∃ (k : Packet) (s : State),
    s.pw.dev ≠ .off ∧ (kTy k ≠ 3 ∨ kF k 0 1 ≠ 2 ∨ kHere s k = false ∨ consumes s k = false) :=
  ⟨pkt 3 3 7 false (9 :: List.replicate 15 0), { pw := { dev := .ready, doms := [2, 2, 2, 2, 2, 2, 2, 2, 2, 2, 2, 2, 2, 2, 2, 2] }, tb := { src := [0, 0, 0, 0, 0, 1, 0, 0, 0, 0, 0, 0, 0], keeper := .unqualified }, fy := { address := 3 }, lane := { st := .fl0 }, dict := { sesCan := { isOpen := true } }, frm := {  }, arr := {  }, saf := {  }, quay := {  }, comp := {  }, mask := {  } }, by decide +kernel⟩

theorem wit_FramePacketsAct_11 : ∃ (t : Nat) (c : Nat) (item : Nat) (k : Packet) (s : State),
    s.pw.dev ≠ .off ∧ pktTakes s k = true ∧ kTy k = 3 ∧ kF k 0 1 = 3 ∧ writeBad k = false ∧
    frameCheck (s.advance t) (writeDesc k) = 0 ∧ squareCheck s (writeDesc k) = some (c, item) :=
  ⟨5, 0x10, 255, pkt 3 3 7 false ([3, 0, 40, 0, 0, 0, 0, 0] ++ (rawDesc 9).take 32 ++ [9, 0, 0, 0, 0, 0, 0, 0]), { pw := { dev := .ready, doms := [2, 2, 2, 2, 2, 2, 2, 2, 2, 2, 2, 2, 2, 2, 2, 2] }, tb := { src := [0, 0, 0, 0, 0, 1, 0, 0, 0, 0, 0, 0, 0], keeper := .unqualified }, fy := { address := 3 }, lane := { st := .fl0 }, dict := { sesCan := { isOpen := true } }, frm := {  }, arr := {  }, saf := {  }, quay := {  }, comp := {  }, mask := {  } }, by decide +kernel⟩

theorem wit_FramePacketsAct_12 : ∃ (t : Nat) (c : Nat) (k : Packet) (s : State),
    s.pw.dev ≠ .off ∧ pktTakes s k = true ∧ kTy k = 3 ∧ kF k 0 1 = 3 ∧ writeBad k = false ∧
    frameCheck (s.advance t) (writeDesc k) = c ∧ c ≠ 0 :=
  ⟨5, 2, pkt 3 3 7 false ([3, 0, 40, 0, 0, 0, 0, 0] ++ rawDesc 9), { pw := { dev := .ready, doms := [2, 2, 2, 2, 2, 2, 2, 2, 2, 2, 2, 2, 2, 2, 2, 2] }, tb := { src := [0, 0, 0, 0, 0, 1, 0, 0, 0, 0, 0, 0, 0], keeper := .unqualified }, fy := { address := 3 }, lane := { st := .fl0 }, dict := { sesCan := { isOpen := true } }, frm := { lastSeq := some 9 }, arr := {  }, saf := {  }, quay := {  }, comp := {  }, mask := {  } }, by decide +kernel⟩

theorem wit_FramePacketsAct_13 : ∃ (t : Nat) (k : Packet) (s : State),
    s.pw.dev ≠ .off ∧ pktTakes s k = true ∧ kTy k = 3 ∧ kF k 0 1 = 3 ∧ writeBad k = false ∧
    frameCheck (s.advance t) (writeDesc k) = 0 ∧ squareCheck s (writeDesc k) = none :=
  ⟨5, pkt 3 3 7 false ([3, 0, 40, 0, 0, 0, 0, 0] ++ rawDesc 9), { pw := { dev := .ready, doms := [2, 2, 2, 2, 2, 2, 2, 2, 2, 2, 2, 2, 2, 2, 2, 2] }, tb := { src := [0, 0, 0, 0, 0, 1, 0, 0, 0, 0, 0, 0, 0], keeper := .unqualified }, fy := { address := 3 }, lane := { st := .fl0 }, dict := { sesCan := { isOpen := true } }, frm := {  }, arr := {  }, saf := {  }, quay := {  }, comp := {  }, mask := {  } }, by decide +kernel⟩

theorem wit_FramePacketsAct_14 : ∃ (k : Packet) (s : State),
    s.pw.dev ≠ .off ∧ pktTakes s k = true ∧ kTy k = 3 ∧ kF k 0 1 = 3 ∧ writeBad k = true ∧
    alook s.fy.nackFrame (kSeq k) 0 ≠ 2 :=
  ⟨pkt 3 3 7 false (3 :: List.replicate 15 1), { pw := { dev := .ready, doms := [2, 2, 2, 2, 2, 2, 2, 2, 2, 2, 2, 2, 2, 2, 2, 2] }, tb := { src := [0, 0, 0, 0, 0, 1, 0, 0, 0, 0, 0, 0, 0], keeper := .unqualified }, fy := { address := 3 }, lane := { st := .fl0 }, dict := { sesCan := { isOpen := true } }, frm := {  }, arr := {  }, saf := {  }, quay := {  }, comp := {  }, mask := {  } }, by decide +kernel⟩

theorem wit_FramePacketsAct_15 : ∃ (k : Packet) (s : State),
    s.pw.dev ≠ .off ∧ (kTy k ≠ 3 ∨ kF k 0 1 ≠ 3 ∨ kHere s k = false ∨ consumes s k = false) :=
  ⟨pkt 3 3 7 false (9 :: List.replicate 15 0), { pw := { dev := .ready, doms := [2, 2, 2, 2, 2, 2, 2, 2, 2, 2, 2, 2, 2, 2, 2, 2] }, tb := { src := [0, 0, 0, 0, 0, 1, 0, 0, 0, 0, 0, 0, 0], keeper := .unqualified }, fy := { address := 3 }, lane := { st := .fl0 }, dict := { sesCan := { isOpen := true } }, frm := {  }, arr := {  }, saf := {  }, quay := {  }, comp := {  }, mask := {  } }, by decide +kernel⟩

theorem wit_FramePacketsAct_16 : ∃ (k : Packet) (s : State),
    s.pw.dev ≠ .off ∧ kHere s k = true ∧ consumes s k = true ∧ s.pw.exiting = false ∧ queueFree s = true ∧ kTy k = 3 ∧
    kPass k = false ∧ kF k 0 1 = 3 ∧ alook s.fy.nackFrame (kSeq k) 0 + 1 < 3 :=
  ⟨{ pkt 3 3 7 false ([3, 0, 40, 0, 0, 0, 0, 0] ++ rawDesc 9) with errored := true }, { pw := { dev := .ready, doms := [2, 2, 2, 2, 2, 2, 2, 2, 2, 2, 2, 2, 2, 2, 2, 2] }, tb := { src := [0, 0, 0, 0, 0, 1, 0, 0, 0, 0, 0, 0, 0], keeper := .unqualified }, fy := { address := 3 }, lane := { st := .fl0 }, dict := { sesCan := { isOpen := true } }, frm := {  }, arr := {  }, saf := {  }, quay := {  }, comp := {  }, mask := {  } }, by decide +kernel⟩

theorem wit_FramePacketsAct_17 : ∃ (k : Packet) (s : State),
    s.pw.dev ≠ .off ∧ pktTakes s k = true ∧ kTy k = 3 ∧ kF k 0 1 = 4 ∧ kZero k 1 k.payload.length = true :=
  ⟨pkt 3 3 7 false (4 :: List.replicate 15 0), { pw := { dev := .ready, doms := [2, 2, 2, 2, 2, 2, 2, 2, 2, 2, 2, 2, 2, 2, 2, 2] }, tb := { src := [0, 0, 0, 0, 0, 1, 0, 0, 0, 0, 0, 0, 0], keeper := .unqualified }, fy := { address := 3 }, lane := { st := .fl0 }, dict := { sesCan := { isOpen := true } }, frm := { shadowDesc := some (rawDesc 9) }, arr := {  }, saf := {  }, quay := {  }, comp := {  }, mask := {  } }, by decide +kernel⟩

theorem wit_FramePacketsAct_18 : ∃ (k : Packet) (s : State),
    s.pw.dev ≠ .off ∧ pktTakes s k = true ∧ kTy k = 3 ∧ kF k 0 1 = 4 ∧ kZero k 1 k.payload.length = false ∧
    alook s.fy.nackFrame (kSeq k) 0 ≠ 2 :=
  ⟨pkt 3 3 7 false (4 :: List.replicate 15 1), { pw := { dev := .ready, doms := [2, 2, 2, 2, 2, 2, 2, 2, 2, 2, 2, 2, 2, 2, 2, 2] }, tb := { src := [0, 0, 0, 0, 0, 1, 0, 0, 0, 0, 0, 0, 0], keeper := .unqualified }, fy := { address := 3 }, lane := { st := .fl0 }, dict := { sesCan := { isOpen := true } }, frm := {  }, arr := {  }, saf := {  }, quay := {  }, comp := {  }, mask := {  } }, by decide +kernel⟩

theorem wit_FramePacketsAct_19 : ∃ (k : Packet) (s : State),
    s.pw.dev ≠ .off ∧ (kTy k ≠ 3 ∨ kF k 0 1 ≠ 4 ∨ kHere s k = false ∨ consumes s k = false) :=
  ⟨pkt 3 3 7 false (9 :: List.replicate 15 0), { pw := { dev := .ready, doms := [2, 2, 2, 2, 2, 2, 2, 2, 2, 2, 2, 2, 2, 2, 2, 2] }, tb := { src := [0, 0, 0, 0, 0, 1, 0, 0, 0, 0, 0, 0, 0], keeper := .unqualified }, fy := { address := 3 }, lane := { st := .fl0 }, dict := { sesCan := { isOpen := true } }, frm := {  }, arr := {  }, saf := {  }, quay := {  }, comp := {  }, mask := {  } }, by decide +kernel⟩

theorem wit_WindowsOpenAndClose_1 : ∃ (v : Nat) (p : Path) (s : State),
    s.pw.dev ≠ .off ∧ takes s p 0x2104 3 (leBytes 1 v) = true ∧ modeCheck s (modeShadow s) = 0 :=
  ⟨1, .can, { pw := { dev := .ready, doms := [2, 2, 2, 2, 2, 2, 2, 2, 2, 2, 2, 2, 2, 2, 2, 2] }, tb := { src := [0, 0, 0, 0, 0, 1, 0, 0, 0, 0, 0, 0, 0], keeper := .unqualified }, fy := { address := 3 }, lane := { st := .fl0 }, dict := { sesCan := { isOpen := true } }, frm := { mode := { rate := 60000 } }, arr := {  }, saf := {  }, quay := {  }, comp := {  }, mask := {  }, objs := [(0x210803, [1]), (0x210903, [1]), (0x210A03, [1]), (0x210B03, [1]), (0x210C03, [1]), (0x210D03, [1])], diag := { pulses := [(1, 2, 3)] } }, by decide +kernel⟩

theorem wit_WindowsOpenAndClose_2 : ∃ (v : Nat) (c : Nat) (p : Path) (s : State),
    s.pw.dev ≠ .off ∧ takes s p 0x2104 3 (leBytes 1 v) = true ∧ modeCheck s (modeShadow s) = c ∧ c ≠ 0 :=
  ⟨1, 0x0A, .can, { pw := { dev := .ready, doms := [2, 2, 2, 2, 2, 2, 2, 2, 2, 2, 2, 2, 2, 2, 2, 2] }, tb := { src := [0, 0, 0, 0, 0, 1, 0, 0, 0, 0, 0, 0, 0], keeper := .unqualified }, fy := { address := 3 }, lane := { st := .fl0 }, dict := { sesCan := { isOpen := true } }, frm := {  }, arr := {  }, saf := {  }, quay := {  }, comp := {  }, mask := {  } }, by decide +kernel⟩

theorem wit_WindowsOpenAndClose_3 : ∃  (s : State),
    s.pw.dev ≠ .off :=
  ⟨{ pw := { dev := .ready, doms := [2, 2, 2, 2, 2, 2, 2, 2, 2, 2, 2, 2, 2, 2, 2, 2] }, tb := { src := [0, 0, 0, 0, 0, 1, 0, 0, 0, 0, 0, 0, 0], keeper := .unqualified }, fy := { address := 3 }, lane := { st := .fl0 }, dict := { sesCan := { isOpen := true } }, frm := { retiming := true }, arr := {  }, saf := {  }, quay := {  }, comp := {  }, mask := {  } }, by decide +kernel⟩

theorem wit_WindowsOpenAndClose_4 : ∃  (s : State),
    s.pw.dev ≠ .off ∧ scheduleRuns s = true ∧ hostBeam s = true ∧ s.saf.pendingReturn = false ∧ s.frm.snap = none ∧
    s.frm.queue = [] ∧ s.quay.repeatCur = false :=
  ⟨{ pw := { dev := .lit, doms := [2, 2, 2, 2, 2, 2, 2, 2, 2, 2, 2, 2, 2, 2, 2, 2] }, tb := { src := [0, 0, 0, 0, 0, 1, 0, 0, 0, 0, 0, 0, 0], keeper := .unqualified }, fy := { address := 3 }, lane := { st := .fl0 }, dict := { sesCan := { isOpen := true } }, frm := { fPrime := 8192 }, arr := {  }, saf := {  }, quay := {  }, comp := {  }, mask := {  } }, by decide +kernel⟩

theorem wit_WindowsOpenAndClose_5 : ∃ (q : Desc) (rest : List Desc) (s : State),
    s.pw.dev ≠ .off ∧ scheduleRuns s = true ∧ hostBeam s = true ∧ s.saf.pendingReturn = false ∧ s.frm.snap = none ∧
    s.frm.queue = q :: rest ∧ s.quay.repeatCur = false ∧ dTimed q.raw = false ∧ q.missed = false ∧ headDone s = true ∧
    (s.frm.pend.isSome = false ∨ s.frm.retiming = false) :=
  ⟨{ raw := rawDesc 9, seq := 9, pins := [] }, [], { pw := { dev := .lit, doms := [2, 2, 2, 2, 2, 2, 2, 2, 2, 2, 2, 2, 2, 2, 2, 2] }, tb := { src := [0, 0, 0, 0, 0, 1, 0, 0, 0, 0, 0, 0, 0], keeper := .unqualified }, fy := { address := 3 }, lane := { st := .fl0 }, dict := { sesCan := { isOpen := true } }, frm := { fPrime := 8192, queue := [{ raw := rawDesc 9, seq := 9, pins := [] }] }, arr := {  }, saf := {  }, quay := { complete := true }, comp := { job := some { desc := { raw := rawDesc 9, seq := 9, pins := [] }, layers := [], regions := [], useRegions := false, useLevel := false, level := 0, soft := none, prot := [], protPoison := [], dim := [], degrade := [], maskable := [], map := [], runLen := 0, run := none, useCache := false, fill := false, fits := false, complete := false, counted := false, isRepeat := false } }, mask := {  } }, by decide +kernel⟩

theorem wit_WindowsOpenAndClose_6 : ∃ (i : Nat) (s : State),
    s.pw.dev ≠ .off ∧ scheduleRuns s = true ∧ hostBeam s = true ∧ s.frm.snap = none ∧ 1 ≤ i ∧ i < s.frm.mode.subframes ∧
    s.frm.queue = [] :=
  ⟨1, { pw := { dev := .lit, doms := [2, 2, 2, 2, 2, 2, 2, 2, 2, 2, 2, 2, 2, 2, 2, 2] }, tb := { src := [0, 0, 0, 0, 0, 1, 0, 0, 0, 0, 0, 0, 0], keeper := .unqualified }, fy := { address := 3 }, lane := { st := .fl0 }, dict := { sesCan := { isOpen := true } }, frm := { fPrime := 8192 }, arr := {  }, saf := {  }, quay := {  }, comp := {  }, mask := {  } }, by decide +kernel⟩

theorem wit_WindowsOpenAndClose_7 : ∃ (i : Nat) (s : State),
    s.pw.dev ≠ .off ∧ active s = true ∧ s.saf.state = .limp ∧ s.frm.snap = none ∧ 1 ≤ i ∧ i < s.frm.mode.subframes :=
  ⟨1, { pw := { dev := .lit, doms := [2, 2, 2, 2, 2, 2, 2, 2, 2, 2, 2, 2, 2, 2, 2, 2] }, tb := { src := [0, 0, 0, 0, 0, 1, 0, 0, 0, 0, 0, 0, 0], keeper := .unqualified }, fy := { address := 3 }, lane := { st := .fl0 }, dict := { sesCan := { isOpen := true } }, frm := { fPrime := 8192 }, arr := {  }, saf := { state := .limp }, quay := {  }, comp := {  }, mask := {  } }, by decide +kernel⟩

theorem wit_WindowsOpenAndClose_8 : ∃ (w : Nat) (s : State),
    s.pw.dev ≠ .off ∧ scheduleRuns s = true ∧ hostBeam s = true ∧ s.frm.snap = none ∧ placed s w = true ∧
    isWhole s.frm.mode w = false :=
  ⟨0, { pw := { dev := .lit, doms := [2, 2, 2, 2, 2, 2, 2, 2, 2, 2, 2, 2, 2, 2, 2, 2] }, tb := { src := [0, 0, 0, 0, 0, 1, 0, 0, 0, 0, 0, 0, 0], keeper := .unqualified }, fy := { address := 3 }, lane := { st := .fl0 }, dict := { sesCan := { isOpen := true } }, frm := { mode := { offs := [{ kind := 1 }, {}, {}, {}] }, items := [⟨0, 4, 9⟩, ⟨5, 9, 12⟩] }, arr := {  }, saf := {  }, quay := {  }, comp := {  }, mask := {  } }, by decide +kernel⟩

theorem wit_WindowsOpenAndClose_9 : ∃ (w : Nat) (s : State),
    s.pw.dev ≠ .off ∧ scheduleRuns s = true ∧ hostBeam s = true ∧ s.frm.snap = none ∧ placed s w = true ∧
    isWhole s.frm.mode w = false :=
  ⟨0, { pw := { dev := .lit, doms := [2, 2, 2, 2, 2, 2, 2, 2, 2, 2, 2, 2, 2, 2, 2, 2] }, tb := { src := [0, 0, 0, 0, 0, 1, 0, 0, 0, 0, 0, 0, 0], keeper := .unqualified }, fy := { address := 3 }, lane := { st := .fl0 }, dict := { sesCan := { isOpen := true } }, frm := { mode := { offs := [{ kind := 1 }, {}, {}, {}] }, items := [⟨0, 4, 9⟩, ⟨5, 9, 12⟩] }, arr := {  }, saf := {  }, quay := {  }, comp := {  }, mask := {  } }, by decide +kernel⟩

theorem wit_WindowsOpenAndClose_10 : ∃ (q : Nat) (s : State),
    s.pw.dev ≠ .off ∧ scheduleRuns s = true ∧ hostBeam s = true ∧ s.frm.snap = none ∧ placed s (4 + q) = true :=
  ⟨1, { pw := { dev := .lit, doms := [2, 2, 2, 2, 2, 2, 2, 2, 2, 2, 2, 2, 2, 2, 2, 2] }, tb := { src := [0, 0, 0, 0, 0, 1, 0, 0, 0, 0, 0, 0, 0], keeper := .unqualified }, fy := { address := 3 }, lane := { st := .fl0 }, dict := { sesCan := { isOpen := true } }, frm := { mode := { offs := [{ kind := 1 }, {}, {}, {}] }, items := [⟨0, 4, 9⟩, ⟨5, 9, 12⟩] }, arr := {  }, saf := {  }, quay := {  }, comp := {  }, mask := {  } }, by decide +kernel⟩

theorem wit_WindowsOpenAndClose_11 : ∃ (q : Nat) (ecc : List (Nat × Nat)) (s : State),
    s.pw.dev ≠ .off ∧ scheduleRuns s = true ∧ hostBeam s = true ∧ s.frm.snap = none ∧ placed s (4 + q) = true ∧
    (∀ e ∈ ecc, e.2 ≤ 1) :=
  ⟨1, [(9, 1)], { pw := { dev := .lit, doms := [2, 2, 2, 2, 2, 2, 2, 2, 2, 2, 2, 2, 2, 2, 2, 2] }, tb := { src := [0, 0, 0, 0, 0, 1, 0, 0, 0, 0, 0, 0, 0], keeper := .unqualified }, fy := { address := 3 }, lane := { st := .fl0 }, dict := { sesCan := { isOpen := true } }, frm := { mode := { offs := [{ kind := 1 }, {}, {}, {}] }, items := [⟨0, 4, 9⟩, ⟨5, 9, 12⟩] }, arr := {  }, saf := {  }, quay := {  }, comp := {  }, mask := {  } }, by decide +kernel⟩

theorem wit_WindowsOpenAndClose_12 : ∃ (q : Nat) (s : State),
    s.pw.dev ≠ .off ∧ scheduleRuns s = true ∧ hostBeam s = true ∧ s.frm.snap = none ∧ placed s (4 + q) = true :=
  ⟨1, { pw := { dev := .lit, doms := [2, 2, 2, 2, 2, 2, 2, 2, 2, 2, 2, 2, 2, 2, 2, 2] }, tb := { src := [0, 0, 0, 0, 0, 1, 0, 0, 0, 0, 0, 0, 0], keeper := .unqualified }, fy := { address := 3 }, lane := { st := .fl0 }, dict := { sesCan := { isOpen := true } }, frm := { mode := { offs := [{ kind := 1 }, {}, {}, {}] }, items := [⟨0, 4, 9⟩, ⟨5, 9, 12⟩] }, arr := {  }, saf := {  }, quay := {  }, comp := {  }, mask := {  } }, by decide +kernel⟩

theorem wit_WindowsOpenAndClose_13 : ∃  (s : State),
    s.pw.dev ≠ .off ∧ (scheduleRuns s = false ∨ s.frm.snap.isSome = true) :=
  ⟨{ pw := { dev := .lit, doms := [2, 2, 2, 2, 2, 2, 2, 2, 2, 2, 2, 2, 2, 2, 2, 2] }, tb := { src := [0, 0, 0, 0, 0, 1, 0, 0, 0, 0, 0, 0, 0], keeper := .unqualified }, fy := { address := 3 }, lane := { st := .fl0 }, dict := { sesCan := { isOpen := true } }, frm := { snap := some (snapOf .boundary .zero) }, arr := {  }, saf := {  }, quay := {  }, comp := {  }, mask := {  } }, by decide +kernel⟩

theorem wit_WindowsOpenAndClose_14 : ∃ (x : Snap) (s : State),
    s.pw.dev ≠ .off ∧ s.frm.snap = some x ∧ s.frm.windowOpen = true :=
  ⟨snapOf .boundary (.probe [3]), { pw := { dev := .ready, doms := [2, 2, 2, 2, 2, 2, 2, 2, 2, 2, 2, 2, 2, 2, 2, 2] }, tb := { src := [0, 0, 0, 0, 0, 1, 0, 0, 0, 0, 0, 0, 0], keeper := .unqualified }, fy := { address := 3 }, lane := { st := .fl0 }, dict := { sesCan := { isOpen := true } }, frm := { snap := some (snapOf .boundary (.probe [3])), windowOpen := true }, arr := {  }, saf := {  }, quay := {  }, comp := {  }, mask := {  } }, by decide +kernel⟩

theorem wit_WindowsOpenAndClose_15 : ∃  (s : State),
    s.pw.dev ≠ .off ∧ s.frm.windowOpen = false :=
  ⟨{ pw := { dev := .ready, doms := [2, 2, 2, 2, 2, 2, 2, 2, 2, 2, 2, 2, 2, 2, 2, 2] }, tb := { src := [0, 0, 0, 0, 0, 1, 0, 0, 0, 0, 0, 0, 0], keeper := .unqualified }, fy := { address := 3 }, lane := { st := .fl0 }, dict := { sesCan := { isOpen := true } }, frm := {  }, arr := {  }, saf := {  }, quay := {  }, comp := {  }, mask := {  } }, by decide +kernel⟩

theorem wit_LaunchesAndItems_1 : ∃ (i : Nat) (x : Snap) (s : State),
    s.pw.dev ≠ .off ∧ s.frm.snap = some x ∧ x.kind = .subframe i ∧ s.frm.windowOpen = false ∧ active s = true ∧
    s.saf.state.code ≤ 2 :=
  ⟨2, snapOf (.subframe 2) .zero, { pw := { dev := .lit, doms := [2, 2, 2, 2, 2, 2, 2, 2, 2, 2, 2, 2, 2, 2, 2, 2] }, tb := { src := [0, 0, 0, 0, 0, 1, 0, 0, 0, 0, 0, 0, 0], keeper := .unqualified }, fy := { address := 3 }, lane := { st := .fl0 }, dict := { sesCan := { isOpen := true } }, frm := { fPrime := 8192, snap := some (snapOf (.subframe 2) .zero) }, arr := { gateShadow := .probe [3], shadow := [(4, 5)] }, saf := { permission := true, closeOk := true }, quay := {  }, comp := {  }, mask := {  } }, by decide +kernel⟩

theorem wit_LaunchesAndItems_2 : ∃ (x : Snap) (s : State),
    s.pw.dev ≠ .off ∧ s.frm.snap = some x ∧ x.kind ≠ .boundary ∧ s.frm.windowOpen = false ∧
    (active s = false ∨ 2 < s.saf.state.code) :=
  ⟨snapOf (.subframe 2) .zero, { pw := { dev := .ready, doms := [2, 2, 2, 2, 2, 2, 2, 2, 2, 2, 2, 2, 2, 2, 2, 2] }, tb := { src := [0, 0, 0, 0, 0, 1, 0, 0, 0, 0, 0, 0, 0], keeper := .unqualified }, fy := { address := 3 }, lane := { st := .fl0 }, dict := { sesCan := { isOpen := true } }, frm := { snap := some (snapOf (.subframe 2) .zero) }, arr := {  }, saf := { state := .dark }, quay := {  }, comp := {  }, mask := {  } }, by decide +kernel⟩

theorem wit_LaunchesAndItems_3 : ∃  (s : State),
    s.pw.dev ≠ .off ∧ (∀ x ∈ s.frm.snap, s.frm.windowOpen = true ∨ x.kind = .boundary) :=
  ⟨{ pw := { dev := .ready, doms := [2, 2, 2, 2, 2, 2, 2, 2, 2, 2, 2, 2, 2, 2, 2, 2] }, tb := { src := [0, 0, 0, 0, 0, 1, 0, 0, 0, 0, 0, 0, 0], keeper := .unqualified }, fy := { address := 3 }, lane := { st := .fl0 }, dict := { sesCan := { isOpen := true } }, frm := { windowOpen := true, snap := some (snapOf (.subframe 2) .zero) }, arr := {  }, saf := {  }, quay := {  }, comp := {  }, mask := {  } }, by decide +kernel⟩

theorem wit_LaunchesAndItems_4 : ∃ (x : Snap) (s : State),
    s.pw.dev ≠ .off ∧ s.frm.snap = some x ∧ s.frm.windowOpen = false ∧ (scheduleRuns s = false ∨ (2 < s.saf.state.code ∧
    x.ret = false)) :=
  ⟨snapOf .boundary .zero, { pw := { dev := .ready, doms := [2, 2, 2, 2, 2, 2, 2, 2, 2, 2, 2, 2, 2, 2, 2, 2] }, tb := { src := [0, 0, 0, 0, 0, 1, 0, 0, 0, 0, 0, 0, 0], keeper := .unqualified }, fy := { address := 3 }, lane := { st := .fl0 }, dict := { sesCan := { isOpen := true } }, frm := { snap := some (snapOf .boundary .zero) }, arr := {  }, saf := { state := .dark }, quay := {  }, comp := {  }, mask := {  } }, by decide +kernel⟩

theorem wit_LaunchesAndItems_5 : ∃  (s : State),
    s.pw.dev ≠ .off ∧ (∀ x ∈ s.frm.snap, s.frm.windowOpen = true ∨ x.kind ≠ .boundary) :=
  ⟨{ pw := { dev := .ready, doms := [2, 2, 2, 2, 2, 2, 2, 2, 2, 2, 2, 2, 2, 2, 2, 2] }, tb := { src := [0, 0, 0, 0, 0, 1, 0, 0, 0, 0, 0, 0, 0], keeper := .unqualified }, fy := { address := 3 }, lane := { st := .fl0 }, dict := { sesCan := { isOpen := true } }, frm := { windowOpen := true, snap := some (snapOf .boundary .zero) }, arr := {  }, saf := {  }, quay := {  }, comp := {  }, mask := {  } }, by decide +kernel⟩

theorem wit_LaunchesAndItems_6 : ∃ (x : Snap) (s : State),
    s.pw.dev ≠ .off ∧ s.frm.snap = some x ∧ x.kind = .boundary ∧ s.frm.windowOpen = false ∧ x.new = false ∧
    x.ret = false ∧ x.back = false ∧ x.limp = false ∧ scheduleRuns s = true ∧ hostBeam s = true :=
  ⟨{ snapOf .boundary .zero with new := false, pops := false }, { pw := { dev := .lit, doms := [2, 2, 2, 2, 2, 2, 2, 2, 2, 2, 2, 2, 2, 2, 2, 2] }, tb := { src := [0, 0, 0, 0, 0, 1, 0, 0, 0, 0, 0, 0, 0], keeper := .unqualified }, fy := { address := 3 }, lane := { st := .fl0 }, dict := { sesCan := { isOpen := true } }, frm := { snap := some { snapOf .boundary .zero with new := false, pops := false } }, arr := { gateShadow := .probe [3], shadow := [(4, 5)] }, saf := { permission := true, closeOk := true }, quay := {  }, comp := {  }, mask := {  } }, by decide +kernel⟩

theorem wit_LaunchesAndItems_7 : ∃ (x : Snap) (d : Desc) (rest : List Desc) (s : State),
    s.pw.dev ≠ .off ∧ s.frm.snap = some x ∧ x.kind = .boundary ∧ s.frm.windowOpen = false ∧ x.new = true ∧
    x.pops = true ∧ x.ret = false ∧ x.back = false ∧ x.limp = false ∧ scheduleRuns s = true ∧ hostBeam s = true ∧
    s.frm.queue = d :: rest :=
  ⟨snapOf .boundary .zero, { raw := rawDesc 9, seq := 9, pins := [] }, [], { pw := { dev := .lit, doms := [2, 2, 2, 2, 2, 2, 2, 2, 2, 2, 2, 2, 2, 2, 2, 2] }, tb := { src := [0, 0, 0, 0, 0, 1, 0, 0, 0, 0, 0, 0, 0], keeper := .unqualified }, fy := { address := 3 }, lane := { st := .fl0 }, dict := { sesCan := { isOpen := true } }, frm := { snap := some (snapOf .boundary .zero), queue := [{ raw := rawDesc 9, seq := 9, pins := [] }], cur := some { raw := rawDesc 4, seq := 4, pins := [] } }, arr := { gateShadow := .probe [3], shadow := [(4, 5)] }, saf := { permission := true, closeOk := true }, quay := {  }, comp := {  }, mask := {  } }, by decide +kernel⟩

theorem wit_LaunchesAndItems_8 : ∃ (x : Snap) (s : State),
    s.pw.dev ≠ .off ∧ s.frm.snap = some x ∧ x.kind = .boundary ∧ s.frm.windowOpen = false ∧ x.new = true ∧
    x.pops = false ∧ x.ret = false ∧ x.back = false ∧ x.limp = false ∧ scheduleRuns s = true ∧ hostBeam s = true :=
  ⟨{ snapOf .boundary .zero with pops := false }, { pw := { dev := .lit, doms := [2, 2, 2, 2, 2, 2, 2, 2, 2, 2, 2, 2, 2, 2, 2, 2] }, tb := { src := [0, 0, 0, 0, 0, 1, 0, 0, 0, 0, 0, 0, 0], keeper := .unqualified }, fy := { address := 3 }, lane := { st := .fl0 }, dict := { sesCan := { isOpen := true } }, frm := { snap := some { snapOf .boundary .zero with pops := false }, queue := [{ raw := rawDesc 9, seq := 9, pins := [] }] }, arr := { gateShadow := .probe [3], shadow := [(4, 5)] }, saf := { permission := true, closeOk := true }, quay := {  }, comp := {  }, mask := {  } }, by decide +kernel⟩

theorem wit_LaunchesAndItems_9 : ∃ (x : Snap) (s : State),
    s.pw.dev ≠ .off ∧ s.frm.snap = some x ∧ x.kind = .boundary ∧ s.frm.windowOpen = false ∧ x.limp = true ∧
    x.loaded = true ∧ x.new = false ∧ x.ret = false ∧ x.back = false ∧ active s = true ∧ s.saf.state = .limp ∧
    s.saf.limpLaunched = false :=
  ⟨{ snapOf .boundary .zero with new := false, pops := false, limp := true, loaded := true }, { pw := { dev := .lit, doms := [2, 2, 2, 2, 2, 2, 2, 2, 2, 2, 2, 2, 2, 2, 2, 2] }, tb := { src := [0, 0, 0, 0, 0, 1, 0, 0, 0, 0, 0, 0, 0], keeper := .unqualified }, fy := { address := 3 }, lane := { st := .fl0 }, dict := { sesCan := { isOpen := true } }, frm := { snap := some { snapOf .boundary .zero with new := false, pops := false, limp := true, loaded := true } }, arr := { gateShadow := .probe [3], shadow := [(4, 5)] }, saf := { state := .limp, permission := true, closeOk := true, holdN := true, holdS := true }, quay := {  }, comp := {  }, mask := {  } }, by decide +kernel⟩

theorem wit_LaunchesAndItems_10 : ∃ (x : Snap) (s : State),
    s.pw.dev ≠ .off ∧ s.frm.snap = some x ∧ x.kind = .boundary ∧ s.frm.windowOpen = false ∧ x.limp = false ∧
    x.ret = false ∧ x.back = false ∧ active s = true ∧ s.saf.state = .limp :=
  ⟨snapOf .boundary .zero, { pw := { dev := .lit, doms := [2, 2, 2, 2, 2, 2, 2, 2, 2, 2, 2, 2, 2, 2, 2, 2] }, tb := { src := [0, 0, 0, 0, 0, 1, 0, 0, 0, 0, 0, 0, 0], keeper := .unqualified }, fy := { address := 3 }, lane := { st := .fl0 }, dict := { sesCan := { isOpen := true } }, frm := { snap := some (snapOf .boundary .zero), queue := [{ raw := rawDesc 9, seq := 9, pins := [] }] }, arr := { gateShadow := .probe [3], shadow := [(4, 5)] }, saf := { state := .limp, permission := true, closeOk := true }, quay := {  }, comp := {  }, mask := {  } }, by decide +kernel⟩

theorem wit_LaunchesAndItems_11 : ∃ (x : Snap) (s : State),
    s.pw.dev ≠ .off ∧ s.frm.snap = some x ∧ x.kind = .boundary ∧ s.frm.windowOpen = false ∧ x.ret = true ∧
    x.new = true ∧ x.limp = false ∧ x.back = false ∧ scheduleRuns s = true ∧ s.saf.pendingReturn = true ∧
    targetClass s ≤ 1 :=
  ⟨{ snapOf .boundary .zero with ret := true, pops := false }, { pw := { dev := .lit, doms := [2, 2, 2, 2, 2, 2, 2, 2, 2, 2, 2, 2, 2, 2, 2, 2] }, tb := { src := [0, 0, 0, 0, 0, 1, 0, 0, 0, 0, 0, 0, 0], keeper := .unqualified }, fy := { address := 3 }, lane := { st := .fl0 }, dict := { sesCan := { isOpen := true } }, frm := { snap := some { snapOf .boundary .zero with ret := true, pops := false } }, arr := { gateShadow := .probe [3], shadow := [(4, 5)] }, saf := { state := .limp, pendingReturn := true, permission := true, closeOk := true, holdN := true, holdS := true }, quay := {  }, comp := {  }, mask := {  } }, by decide +kernel⟩

theorem wit_LaunchesAndItems_12 : ∃ (w : Fin 4) (s : State),
    s.pw.dev ≠ .off ∧ placed s w.val = true ∧ scheduleRuns s = true ∧ hostBeam s = true ∧
    isWhole s.frm.mode w.val = true :=
  ⟨1, { pw := { dev := .ready, doms := [2, 2, 2, 2, 2, 2, 2, 2, 2, 2, 2, 2, 2, 2, 2, 2] }, tb := { src := [0, 0, 0, 0, 0, 1, 0, 0, 0, 0, 0, 0, 0], keeper := .unqualified }, fy := { address := 3 }, lane := { st := .fl0 }, dict := { sesCan := { isOpen := true } }, frm := { items := [⟨1, 4, 9⟩] }, arr := { ramp := .run }, saf := {  }, quay := {  }, comp := {  }, mask := {  } }, by decide +kernel⟩

theorem wit_LaunchesAndItems_13 : ∃ (w : Fin 4) (x : Snap) (s : State),
    s.pw.dev ≠ .off ∧ placed s w.val = true ∧ scheduleRuns s = true ∧ hostBeam s = true ∧
    isWhole s.frm.mode w.val = false ∧ s.frm.snap = some x ∧ x.kind = .offStart w.val ∧ s.frm.windowOpen = false :=
  ⟨0, snapOf (.offStart 0) .zero, { pw := { dev := .ready, doms := [2, 2, 2, 2, 2, 2, 2, 2, 2, 2, 2, 2, 2, 2, 2, 2] }, tb := { src := [0, 0, 0, 0, 0, 1, 0, 0, 0, 0, 0, 0, 0], keeper := .unqualified }, fy := { address := 3 }, lane := { st := .fl0 }, dict := { sesCan := { isOpen := true } }, frm := { mode := { offs := [{ kind := 1 }, {}, {}, {}] }, items := [⟨0, 4, 9⟩], snap := some (snapOf (.offStart 0) .zero) }, arr := {  }, saf := {  }, quay := {  }, comp := {  }, mask := {  } }, by decide +kernel⟩

theorem wit_LaunchesAndItems_14 : ∃ (w : Fin 4) (s : State),
    s.pw.dev ≠ .off ∧ (placed s w.val = false ∨ scheduleRuns s = false ∨ hostBeam s = false) :=
  ⟨1, { pw := { dev := .ready, doms := [2, 2, 2, 2, 2, 2, 2, 2, 2, 2, 2, 2, 2, 2, 2, 2] }, tb := { src := [0, 0, 0, 0, 0, 1, 0, 0, 0, 0, 0, 0, 0], keeper := .unqualified }, fy := { address := 3 }, lane := { st := .fl0 }, dict := { sesCan := { isOpen := true } }, frm := {  }, arr := { ramp := .run }, saf := {  }, quay := {  }, comp := {  }, mask := {  } }, by decide +kernel⟩

theorem wit_LaunchesAndItems_15 : ∃ (w : Fin 4) (s : State),
    s.pw.dev ≠ .off ∧ s.frm.inItem = some (.offStart w.val) ∧ scheduleRuns s = true ∧ isWhole s.frm.mode w.val = true ∧
    s.arr.ramp = .pause :=
  ⟨1, { pw := { dev := .ready, doms := [2, 2, 2, 2, 2, 2, 2, 2, 2, 2, 2, 2, 2, 2, 2, 2] }, tb := { src := [0, 0, 0, 0, 0, 1, 0, 0, 0, 0, 0, 0, 0], keeper := .unqualified }, fy := { address := 3 }, lane := { st := .fl0 }, dict := { sesCan := { isOpen := true } }, frm := { inItem := some (.offStart 1) }, arr := { ramp := .pause }, saf := {  }, quay := {  }, comp := {  }, mask := {  } }, by decide +kernel⟩

theorem wit_LaunchesAndItems_16 : ∃ (w : Fin 4) (s : State),
    s.pw.dev ≠ .off ∧ s.frm.inItem = some (.offStart w.val) ∧ scheduleRuns s = true ∧ isWhole s.frm.mode w.val = true ∧
    s.arr.ramp ≠ .pause :=
  ⟨1, { pw := { dev := .ready, doms := [2, 2, 2, 2, 2, 2, 2, 2, 2, 2, 2, 2, 2, 2, 2, 2] }, tb := { src := [0, 0, 0, 0, 0, 1, 0, 0, 0, 0, 0, 0, 0], keeper := .unqualified }, fy := { address := 3 }, lane := { st := .fl0 }, dict := { sesCan := { isOpen := true } }, frm := { inItem := some (.offStart 1) }, arr := { ramp := .tail }, saf := {  }, quay := {  }, comp := {  }, mask := {  } }, by decide +kernel⟩

theorem wit_LaunchesAndItems_17 : ∃ (w : Fin 4) (x : Snap) (s : State),
    s.pw.dev ≠ .off ∧ s.frm.inItem = some (.offStart w.val) ∧ active s = true ∧ s.saf.state.code ≤ 2 ∧
    isWhole s.frm.mode w.val = false ∧ s.frm.snap = some x ∧ x.kind = .offEnd w.val ∧ s.frm.windowOpen = false :=
  ⟨0, snapOf (.offEnd 0) .zero, { pw := { dev := .ready, doms := [2, 2, 2, 2, 2, 2, 2, 2, 2, 2, 2, 2, 2, 2, 2, 2] }, tb := { src := [0, 0, 0, 0, 0, 1, 0, 0, 0, 0, 0, 0, 0], keeper := .unqualified }, fy := { address := 3 }, lane := { st := .fl0 }, dict := { sesCan := { isOpen := true } }, frm := { mode := { offs := [{ kind := 1 }, {}, {}, {}] }, inItem := some (.offStart 0), snap := some (snapOf (.offEnd 0) .zero) }, arr := {  }, saf := {  }, quay := {  }, comp := {  }, mask := {  } }, by decide +kernel⟩

theorem wit_LaunchesAndItems_18 : ∃ (w : Fin 4) (s : State),
    s.pw.dev ≠ .off ∧ (s.frm.inItem ≠ some (.offStart w.val) ∨ scheduleRuns s = false) :=
  ⟨1, { pw := { dev := .ready, doms := [2, 2, 2, 2, 2, 2, 2, 2, 2, 2, 2, 2, 2, 2, 2, 2] }, tb := { src := [0, 0, 0, 0, 0, 1, 0, 0, 0, 0, 0, 0, 0], keeper := .unqualified }, fy := { address := 3 }, lane := { st := .fl0 }, dict := { sesCan := { isOpen := true } }, frm := {  }, arr := { ramp := .pause }, saf := {  }, quay := {  }, comp := {  }, mask := {  } }, by decide +kernel⟩

theorem wit_LaunchesAndItems_19 : ∃ (q : Fin 2) (x : Snap) (s : State),
    s.pw.dev ≠ .off ∧ active s = true ∧ s.saf.state.code ≤ 2 ∧ s.frm.snap = some x ∧ x.kind = .probeStart q.val ∧
    s.frm.windowOpen = false :=
  ⟨1, snapOf (.probeStart 1) .zero, { pw := { dev := .ready, doms := [2, 2, 2, 2, 2, 2, 2, 2, 2, 2, 2, 2, 2, 2, 2, 2] }, tb := { src := [0, 0, 0, 0, 0, 1, 0, 0, 0, 0, 0, 0, 0], keeper := .unqualified }, fy := { address := 3 }, lane := { st := .fl0 }, dict := { sesCan := { isOpen := true } }, frm := { snap := some (snapOf (.probeStart 1) .zero) }, arr := { ramp := .run }, saf := {  }, quay := {  }, comp := {  }, mask := {  } }, by decide +kernel⟩

theorem wit_LaunchesAndItems_20 : ∃ (q : Fin 2) (s : State),
    s.pw.dev ≠ .off ∧ (∀ x ∈ s.frm.snap, x.kind ≠ .probeStart q.val ∨ s.frm.windowOpen = true) :=
  ⟨1, { pw := { dev := .ready, doms := [2, 2, 2, 2, 2, 2, 2, 2, 2, 2, 2, 2, 2, 2, 2, 2] }, tb := { src := [0, 0, 0, 0, 0, 1, 0, 0, 0, 0, 0, 0, 0], keeper := .unqualified }, fy := { address := 3 }, lane := { st := .fl0 }, dict := { sesCan := { isOpen := true } }, frm := { snap := some (snapOf (.probeStart 0) .zero) }, arr := { ramp := .run }, saf := {  }, quay := {  }, comp := {  }, mask := {  } }, by decide +kernel⟩

theorem wit_LaunchesAndItems_21 : ∃ (q : Fin 2) (x : Snap) (s : State),
    s.pw.dev ≠ .off ∧ active s = true ∧ s.saf.state.code ≤ 2 ∧ s.frm.snap = some x ∧ x.kind = .probeEnd q.val ∧
    s.frm.windowOpen = false :=
  ⟨1, snapOf (.probeEnd 1) .zero, { pw := { dev := .ready, doms := [2, 2, 2, 2, 2, 2, 2, 2, 2, 2, 2, 2, 2, 2, 2, 2] }, tb := { src := [0, 0, 0, 0, 0, 1, 0, 0, 0, 0, 0, 0, 0], keeper := .unqualified }, fy := { address := 3 }, lane := { st := .fl0 }, dict := { sesCan := { isOpen := true } }, frm := { snap := some (snapOf (.probeEnd 1) .zero) }, arr := { ramp := .pause }, saf := {  }, quay := {  }, comp := {  }, mask := {  } }, by decide +kernel⟩

theorem wit_LaunchesAndItems_22 : ∃ (q : Fin 2) (s : State),
    s.pw.dev ≠ .off ∧ (∀ x ∈ s.frm.snap, x.kind ≠ .probeEnd q.val ∨ s.frm.windowOpen = true) :=
  ⟨1, { pw := { dev := .ready, doms := [2, 2, 2, 2, 2, 2, 2, 2, 2, 2, 2, 2, 2, 2, 2, 2] }, tb := { src := [0, 0, 0, 0, 0, 1, 0, 0, 0, 0, 0, 0, 0], keeper := .unqualified }, fy := { address := 3 }, lane := { st := .fl0 }, dict := { sesCan := { isOpen := true } }, frm := { snap := some (snapOf (.probeStart 0) .zero) }, arr := { ramp := .run }, saf := {  }, quay := {  }, comp := {  }, mask := {  } }, by decide +kernel⟩

theorem wit_LaunchesAndItems_23 : ∃ (q : Fin 2) (s : State),
    s.pw.dev ≠ .off ∧ s.frm.inItem = some (.probeStart q.val) ∧ s.arr.ramp = .force ∧
    nsTicks (tickPs s) (itemCfg s.frm.mode (4 + q.val)).length < leadTicks (tickPs s) :=
  ⟨1, { pw := { dev := .ready, doms := [2, 2, 2, 2, 2, 2, 2, 2, 2, 2, 2, 2, 2, 2, 2, 2] }, tb := { src := [0, 0, 0, 0, 0, 1, 0, 0, 0, 0, 0, 0, 0], keeper := .unqualified }, fy := { address := 3 }, lane := { st := .fl0 }, dict := { sesCan := { isOpen := true } }, frm := { mode := { probes := [{}, { length := 50000 }] }, inItem := some (.probeStart 1) }, arr := { ramp := .force }, saf := {  }, quay := {  }, comp := {  }, mask := {  } }, by decide +kernel⟩

theorem wit_LaunchesAndItems_24 : ∃ (q : Fin 2) (s : State),
    s.pw.dev ≠ .off ∧
    (s.frm.inItem ≠ some (.probeStart q.val) ∨ s.arr.ramp ≠ .force ∨ leadTicks (tickPs s) ≤ nsTicks (tickPs s) (itemCfg s.frm.mode (4 + q.val)).length) :=
  ⟨1, { pw := { dev := .ready, doms := [2, 2, 2, 2, 2, 2, 2, 2, 2, 2, 2, 2, 2, 2, 2, 2] }, tb := { src := [0, 0, 0, 0, 0, 1, 0, 0, 0, 0, 0, 0, 0], keeper := .unqualified }, fy := { address := 3 }, lane := { st := .fl0 }, dict := { sesCan := { isOpen := true } }, frm := {  }, arr := { ramp := .force }, saf := {  }, quay := {  }, comp := {  }, mask := {  } }, by decide +kernel⟩

theorem wit_LaunchesAndItems_25 : ∃  (s : State),
    s.pw.dev ≠ .off ∧ s.frm.claim = true ∧ scheduleRuns s = true ∧ hostBeam s = true ∧
    s.frm.sub + 1 = s.frm.mode.subframes ∧ s.arr.ramp ≠ .tail :=
  ⟨{ pw := { dev := .ready, doms := [2, 2, 2, 2, 2, 2, 2, 2, 2, 2, 2, 2, 2, 2, 2, 2] }, tb := { src := [0, 0, 0, 0, 0, 1, 0, 0, 0, 0, 0, 0, 0], keeper := .unqualified }, fy := { address := 3 }, lane := { st := .fl0 }, dict := { sesCan := { isOpen := true } }, frm := { claim := true, sub := 3 }, arr := { ramp := .run }, saf := {  }, quay := {  }, comp := {  }, mask := {  } }, by decide +kernel⟩

theorem wit_LaunchesAndItems_26 : ∃  (s : State),
    s.pw.dev ≠ .off ∧ s.frm.claim = true ∧ scheduleRuns s = true ∧ hostBeam s = true ∧
    s.frm.sub + 1 = s.frm.mode.subframes ∧ s.arr.ramp = .tail :=
  ⟨{ pw := { dev := .ready, doms := [2, 2, 2, 2, 2, 2, 2, 2, 2, 2, 2, 2, 2, 2, 2, 2] }, tb := { src := [0, 0, 0, 0, 0, 1, 0, 0, 0, 0, 0, 0, 0], keeper := .unqualified }, fy := { address := 3 }, lane := { st := .fl0 }, dict := { sesCan := { isOpen := true } }, frm := { claim := true, sub := 3 }, arr := { ramp := .tail }, saf := {  }, quay := {  }, comp := {  }, mask := {  } }, by decide +kernel⟩

theorem wit_LaunchesAndItems_27 : ∃  (s : State),
    s.pw.dev ≠ .off ∧
    (s.frm.claim = false ∨ scheduleRuns s = false ∨ hostBeam s = false ∨ s.frm.sub + 1 ≠ s.frm.mode.subframes) :=
  ⟨{ pw := { dev := .ready, doms := [2, 2, 2, 2, 2, 2, 2, 2, 2, 2, 2, 2, 2, 2, 2, 2] }, tb := { src := [0, 0, 0, 0, 0, 1, 0, 0, 0, 0, 0, 0, 0], keeper := .unqualified }, fy := { address := 3 }, lane := { st := .fl0 }, dict := { sesCan := { isOpen := true } }, frm := {  }, arr := { ramp := .run }, saf := {  }, quay := {  }, comp := {  }, mask := {  } }, by decide +kernel⟩

theorem wit_LaunchesAndItems_28 : ∃ (t : Nat) (s : State),
    s.pw.dev ≠ .off ∧ s.arr.ramp = .run ∧ rampEnd s ≤ rampRun (s.advance t) :=
  ⟨5, { pw := { dev := .ready, doms := [2, 2, 2, 2, 2, 2, 2, 2, 2, 2, 2, 2, 2, 2, 2, 2] }, tb := { src := [0, 0, 0, 0, 0, 1, 0, 0, 0, 0, 0, 0, 0], keeper := .unqualified }, fy := { address := 3 }, lane := { st := .fl0 }, dict := { sesCan := { isOpen := true } }, frm := {  }, arr := { ramp := .run }, saf := {  }, quay := {  }, comp := {  }, mask := {  } }, by decide +kernel⟩

theorem wit_LaunchesAndItems_29 : ∃ (t : Nat) (s : State),
    s.pw.dev ≠ .off ∧ (s.arr.ramp ≠ .run ∨ rampRun (s.advance t) < rampEnd s) :=
  ⟨5, { pw := { dev := .ready, doms := [2, 2, 2, 2, 2, 2, 2, 2, 2, 2, 2, 2, 2, 2, 2, 2] }, tb := { src := [0, 0, 0, 0, 0, 1, 0, 0, 0, 0, 0, 0, 0], keeper := .unqualified }, fy := { address := 3 }, lane := { st := .fl0 }, dict := { sesCan := { isOpen := true } }, frm := {  }, arr := { ramp := .pause }, saf := {  }, quay := {  }, comp := {  }, mask := {  } }, by decide +kernel⟩

theorem wit_RowsAreComposed_1 : ∃ (d : Desc) (rest : List Desc) (s : State),
    s.pw.dev ≠ .off ∧ loadsRun s = true ∧ s.quay.repeatCur = false ∧ s.frm.queue = d :: rest ∧
    s.comp.job.any (fun j => j.desc.seq == d.seq) = false ∧ s.diag.gainWait = [] :=
  ⟨{ raw := rawDesc 9, seq := 9, pins := [] }, [], { pw := { dev := .ready, doms := [2, 2, 2, 2, 2, 2, 2, 2, 2, 2, 2, 2, 2, 2, 2, 2] }, tb := { src := [0, 0, 0, 0, 0, 1, 0, 0, 0, 0, 0, 0, 0], keeper := .unqualified }, fy := { address := 3 }, lane := { st := .fl0 }, dict := { sesCan := { isOpen := true } }, frm := { queue := [{ raw := rawDesc 9, seq := 9, pins := [] }] }, arr := {  }, saf := {  }, quay := {  }, comp := {  }, mask := {  } }, by decide +kernel⟩

theorem wit_RowsAreComposed_2 : ∃ (d : Desc) (rest : List Desc) (s : State),
    s.pw.dev ≠ .off ∧ loadsRun s = true ∧ s.quay.repeatCur = false ∧ s.frm.queue = d :: rest ∧
    s.comp.job.any (fun j => j.desc.seq == d.seq) = false :=
  ⟨{ raw := rawDesc 9, seq := 9, pins := [] }, [], { pw := { dev := .ready, doms := [2, 2, 2, 2, 2, 2, 2, 2, 2, 2, 2, 2, 2, 2, 2, 2] }, tb := { src := [0, 0, 0, 0, 0, 1, 0, 0, 0, 0, 0, 0, 0], keeper := .unqualified }, fy := { address := 3 }, lane := { st := .fl0 }, dict := { sesCan := { isOpen := true } }, frm := { queue := [{ raw := rawDesc 9, seq := 9, pins := [] }] }, arr := {  }, saf := {  }, quay := {  }, comp := {  }, mask := {  } }, by decide +kernel⟩

theorem wit_RowsAreComposed_3 : ∃  (s : State),
    s.pw.dev ≠ .off ∧
    (loadsRun s = false ∨ s.quay.repeatCur = true ∨ s.frm.queue = [] ∨ (∃ d ∈ s.frm.queue.head?, s.comp.job.any (fun j => j.desc.seq == d.seq) = true)) :=
  ⟨{ pw := { dev := .ready, doms := [2, 2, 2, 2, 2, 2, 2, 2, 2, 2, 2, 2, 2, 2, 2, 2] }, tb := { src := [0, 0, 0, 0, 0, 1, 0, 0, 0, 0, 0, 0, 0], keeper := .unqualified }, fy := { address := 3 }, lane := { st := .fl0 }, dict := { sesCan := { isOpen := true } }, frm := {  }, arr := {  }, saf := {  }, quay := {  }, comp := {  }, mask := {  } }, by decide +kernel⟩

theorem wit_RowsAreComposed_4 : ∃ (south : Bool) (j : Job) (s : State),
    s.pw.dev ≠ .off ∧ loadsRun s = true ∧ s.quay.loading = true ∧ s.comp.job = some j ∧ j.complete = false ∧
    j.useCache = false ∧ (halfOf s south).nextComp < halfEnd south ∧
    (halfOf s south).nextCorr ≤ (halfOf s south).nextComp ∧ (halfOf s south).lines.length < 7 ∧
    s.quay.retryPend = false ∧ (∀ w ∈ s.quay.win, w.valid = false) :=
  ⟨true, { desc := { raw := rawDesc 9, seq := 9, pins := [] }, layers := [], regions := [], useRegions := false, useLevel := false, level := 0, soft := none, prot := [], protPoison := [], dim := [], degrade := [], maskable := [], map := [], runLen := 0, run := none, useCache := false, fill := false, fits := false, complete := false, counted := false, isRepeat := false }, { pw := { dev := .ready, doms := [2, 2, 2, 2, 2, 2, 2, 2, 2, 2, 2, 2, 2, 2, 2, 2] }, tb := { src := [0, 0, 0, 0, 0, 1, 0, 0, 0, 0, 0, 0, 0], keeper := .unqualified }, fy := { address := 3 }, lane := { st := .fl0 }, dict := { sesCan := { isOpen := true } }, frm := {  }, arr := {  }, saf := {  }, quay := { loading := true, win := [], south := { nextComp := 1023, nextCorr := 1020, nextSend := 1020 }, north := { nextComp := 512 } }, comp := { job := some { desc := { raw := rawDesc 9, seq := 9, pins := [] }, layers := [], regions := [], useRegions := false, useLevel := false, level := 0, soft := none, prot := [], protPoison := [], dim := [], degrade := [], maskable := [], map := [], runLen := 0, run := none, useCache := false, fill := false, fits := false, complete := false, counted := false, isRepeat := false } }, mask := {  } }, by decide +kernel⟩

theorem wit_RowsAreComposed_5 : ∃ (south : Bool) (s : State),
    s.pw.dev ≠ .off ∧
    (loadsRun s = false ∨ s.quay.loading = false ∨ s.comp.job.any (fun j => !j.complete) = false ∨ halfEnd south ≤ (halfOf s south).nextComp ∨ 7 ≤ (halfOf s south).lines.length) :=
  ⟨true, { pw := { dev := .ready, doms := [2, 2, 2, 2, 2, 2, 2, 2, 2, 2, 2, 2, 2, 2, 2, 2] }, tb := { src := [0, 0, 0, 0, 0, 1, 0, 0, 0, 0, 0, 0, 0], keeper := .unqualified }, fy := { address := 3 }, lane := { st := .fl0 }, dict := { sesCan := { isOpen := true } }, frm := {  }, arr := {  }, saf := {  }, quay := {  }, comp := {  }, mask := {  } }, by decide +kernel⟩

theorem wit_RowsAreComposed_6 : ∃ (south : Bool) (j : Job) (s : State),
    s.pw.dev ≠ .off ∧ loadsRun s = true ∧ s.quay.loading = true ∧ s.comp.job = some j ∧ j.complete = false ∧
    j.useCache = false ∧ (halfOf s south).nextComp < halfEnd south ∧
    (halfOf s south).nextCorr ≤ (halfOf s south).nextComp ∧ (halfOf s south).lines.length < 7 :=
  ⟨true, { desc := { raw := rawDesc 9, seq := 9, pins := [] }, layers := [], regions := [], useRegions := false, useLevel := false, level := 0, soft := none, prot := [], protPoison := [], dim := [], degrade := [], maskable := [], map := [], runLen := 0, run := none, useCache := false, fill := false, fits := false, complete := false, counted := false, isRepeat := false }, { pw := { dev := .ready, doms := [2, 2, 2, 2, 2, 2, 2, 2, 2, 2, 2, 2, 2, 2, 2, 2] }, tb := { src := [0, 0, 0, 0, 0, 1, 0, 0, 0, 0, 0, 0, 0], keeper := .unqualified }, fy := { address := 3 }, lane := { st := .fl0 }, dict := { sesCan := { isOpen := true } }, frm := {  }, arr := {  }, saf := {  }, quay := { loading := true, win := [], south := { nextComp := 1023, nextCorr := 1020, nextSend := 1020 }, north := { nextComp := 400 } }, comp := { job := some { desc := { raw := rawDesc 9, seq := 9, pins := [] }, layers := [], regions := [], useRegions := false, useLevel := false, level := 0, soft := none, prot := [], protPoison := [], dim := [], degrade := [], maskable := [], map := [], runLen := 0, run := none, useCache := false, fill := false, fits := false, complete := false, counted := false, isRepeat := false } }, mask := {  } }, by decide +kernel⟩

theorem wit_RowsAreComposed_7 : ∃ (south : Bool) (j : Job) (w : WinSt) (s : State),
    s.pw.dev ≠ .off ∧ loadsRun s = true ∧ s.quay.loading = true ∧ s.comp.job = some j ∧ j.complete = false ∧
    j.useCache = false ∧ (halfOf s south).nextComp < halfEnd south ∧
    (halfOf s south).nextCorr ≤ (halfOf s south).nextComp ∧ (halfOf s south).lines.length < 7 ∧
    w = nth s.quay.win 0 {} ∧ w.valid = true ∧ w.tap = 0 ∧ w.y0 ≤ (halfOf s south).nextComp ∧
    w.y1 = (halfOf s south).nextComp ∧ (∀ m < 16, m ≠ 0 → (nth s.quay.win m {}).valid = false) ∧ s.quay.win.length ≠ 0 ∧
    s.quay.retryPend = false ∧ ¬ (s.quay.north.nextComp + (if south = true then 0 else 1) = 512 ∧
    s.quay.south.nextComp + (if south = true then 1 else 0) = 1024) ∧ w.mode = 3 :=
  ⟨true, { desc := { raw := rawDesc 9, seq := 9, pins := [] }, layers := [], regions := [], useRegions := false, useLevel := false, level := 0, soft := none, prot := [], protPoison := [], dim := [], degrade := [], maskable := [], map := [], runLen := 0, run := none, useCache := false, fill := false, fits := false, complete := false, counted := false, isRepeat := false }, { mode := 3, tap := 0, x0 := 0, y0 := 1023, x1 := 1, y1 := 1023, expected := 0, valid := true }, { pw := { dev := .ready, doms := [2, 2, 2, 2, 2, 2, 2, 2, 2, 2, 2, 2, 2, 2, 2, 2] }, tb := { src := [0, 0, 0, 0, 0, 1, 0, 0, 0, 0, 0, 0, 0], keeper := .unqualified }, fy := { address := 3 }, lane := { st := .fl0 }, dict := { sesCan := { isOpen := true } }, frm := {  }, arr := {  }, saf := {  }, quay := { loading := true, win := [{ mode := 3, tap := 0, x0 := 0, y0 := 1023, x1 := 1, y1 := 1023, expected := 0, valid := true }], south := { nextComp := 1023, nextCorr := 1020, nextSend := 1020 }, north := { nextComp := 400 } }, comp := { job := some { desc := { raw := rawDesc 9, seq := 9, pins := [] }, layers := [], regions := [], useRegions := false, useLevel := false, level := 0, soft := none, prot := [], protPoison := [], dim := [], degrade := [], maskable := [], map := [], runLen := 0, run := none, useCache := false, fill := false, fits := false, complete := false, counted := false, isRepeat := false } }, mask := {  } }, by decide +kernel⟩

theorem wit_RowsAreComposed_8 : ∃ (south : Bool) (j : Job) (w : WinSt) (s : State),
    s.pw.dev ≠ .off ∧ loadsRun s = true ∧ s.quay.loading = true ∧ s.comp.job = some j ∧ j.complete = false ∧
    j.useCache = false ∧ (halfOf s south).nextComp < halfEnd south ∧
    (halfOf s south).nextCorr ≤ (halfOf s south).nextComp ∧ (halfOf s south).lines.length < 7 ∧
    w = nth s.quay.win 0 {} ∧ w.valid = true ∧ w.tap = 0 ∧ w.y0 ≤ (halfOf s south).nextComp ∧
    w.y1 = (halfOf s south).nextComp ∧ (∀ m < 16, m ≠ 0 → (nth s.quay.win m {}).valid = false) ∧ s.quay.win.length ≠ 0 ∧
    s.quay.retryPend = false ∧ ¬ (s.quay.north.nextComp + (if south = true then 0 else 1) = 512 ∧
    s.quay.south.nextComp + (if south = true then 1 else 0) = 1024) ∧ w.mode = 1 ∧ w.failed = false ∧
    w.expected % 2 ^ w.params.width = crcFinish w.params (((((codeRow s j w.y1).drop w.x0).take (w.x1 + 1 - w.x0)).flatMap (fun v => leBytes 2 v)).foldl (crcByte w.params) w.acc) :=
  ⟨true, { desc := { raw := rawDesc 9, seq := 9, pins := [] }, layers := [], regions := [], useRegions := false, useLevel := false, level := 0, soft := none, prot := [], protPoison := [], dim := [], degrade := [], maskable := [], map := [], runLen := 0, run := none, useCache := false, fill := false, fits := false, complete := false, counted := false, isRepeat := false }, { mode := 1, tap := 0, x0 := 0, y0 := 1023, x1 := 1, y1 := 1023, expected := 0xFFFFFFFF, valid := true }, { pw := { dev := .ready, doms := [2, 2, 2, 2, 2, 2, 2, 2, 2, 2, 2, 2, 2, 2, 2, 2] }, tb := { src := [0, 0, 0, 0, 0, 1, 0, 0, 0, 0, 0, 0, 0], keeper := .unqualified }, fy := { address := 3 }, lane := { st := .fl0 }, dict := { sesCan := { isOpen := true } }, frm := {  }, arr := {  }, saf := {  }, quay := { loading := true, win := [{ mode := 1, tap := 0, x0 := 0, y0 := 1023, x1 := 1, y1 := 1023, expected := 0xFFFFFFFF, valid := true }], south := { nextComp := 1023, nextCorr := 1020, nextSend := 1020 }, north := { nextComp := 400 } }, comp := { job := some { desc := { raw := rawDesc 9, seq := 9, pins := [] }, layers := [], regions := [], useRegions := false, useLevel := false, level := 0, soft := none, prot := [], protPoison := [], dim := [], degrade := [], maskable := [], map := [], runLen := 0, run := none, useCache := false, fill := false, fits := false, complete := false, counted := false, isRepeat := false } }, mask := {  } }, by decide +kernel⟩

theorem wit_RowsAreComposed_9 : ∃ (south : Bool) (j : Job) (w : WinSt) (s : State),
    s.pw.dev ≠ .off ∧ loadsRun s = true ∧ s.quay.loading = true ∧ s.comp.job = some j ∧ j.complete = false ∧
    j.useCache = false ∧ (halfOf s south).nextComp < halfEnd south ∧
    (halfOf s south).nextCorr ≤ (halfOf s south).nextComp ∧ (halfOf s south).lines.length < 7 ∧
    w = nth s.quay.win 0 {} ∧ w.valid = true ∧ w.tap = 0 ∧ w.y0 ≤ (halfOf s south).nextComp ∧
    w.y1 = (halfOf s south).nextComp ∧ (∀ m < 16, m ≠ 0 → (nth s.quay.win m {}).valid = false) ∧ s.quay.win.length ≠ 0 ∧
    s.quay.retryPend = false ∧ ¬ (s.quay.north.nextComp + (if south = true then 0 else 1) = 512 ∧
    s.quay.south.nextComp + (if south = true then 1 else 0) = 1024) ∧ w.mode = 1 ∧
    w.expected % 2 ^ w.params.width ≠ crcFinish w.params (((((codeRow s j w.y1).drop w.x0).take (w.x1 + 1 - w.x0)).flatMap (fun v => leBytes 2 v)).foldl (crcByte w.params) w.acc) ∧
    s.quay.retried = false :=
  ⟨true, { desc := { raw := rawDesc 9, seq := 9, pins := [] }, layers := [], regions := [], useRegions := false, useLevel := false, level := 0, soft := none, prot := [], protPoison := [], dim := [], degrade := [], maskable := [], map := [], runLen := 0, run := none, useCache := false, fill := false, fits := false, complete := false, counted := false, isRepeat := false }, { mode := 1, tap := 0, x0 := 0, y0 := 1023, x1 := 1, y1 := 1023, expected := 5, valid := true }, { pw := { dev := .ready, doms := [2, 2, 2, 2, 2, 2, 2, 2, 2, 2, 2, 2, 2, 2, 2, 2] }, tb := { src := [0, 0, 0, 0, 0, 1, 0, 0, 0, 0, 0, 0, 0], keeper := .unqualified }, fy := { address := 3 }, lane := { st := .fl0 }, dict := { sesCan := { isOpen := true } }, frm := {  }, arr := {  }, saf := {  }, quay := { loading := true, win := [{ mode := 1, tap := 0, x0 := 0, y0 := 1023, x1 := 1, y1 := 1023, expected := 5, valid := true }], south := { nextComp := 1023, nextCorr := 1020, nextSend := 1020 }, north := { nextComp := 400 } }, comp := { job := some { desc := { raw := rawDesc 9, seq := 9, pins := [] }, layers := [], regions := [], useRegions := false, useLevel := false, level := 0, soft := none, prot := [], protPoison := [], dim := [], degrade := [], maskable := [], map := [], runLen := 0, run := none, useCache := false, fill := false, fits := false, complete := false, counted := false, isRepeat := false } }, mask := {  } }, by decide +kernel⟩

theorem wit_RowsAreComposed_10 : ∃ (south : Bool) (j : Job) (w : WinSt) (s : State),
    s.pw.dev ≠ .off ∧ loadsRun s = true ∧ s.quay.loading = true ∧ s.comp.job = some j ∧ j.complete = false ∧
    j.useCache = false ∧ (halfOf s south).nextComp < halfEnd south ∧
    (halfOf s south).nextCorr ≤ (halfOf s south).nextComp ∧ (halfOf s south).lines.length < 7 ∧
    w = nth s.quay.win 0 {} ∧ w.valid = true ∧ w.tap = 0 ∧ w.y0 ≤ (halfOf s south).nextComp ∧
    w.y1 = (halfOf s south).nextComp ∧ (∀ m < 16, m ≠ 0 → (nth s.quay.win m {}).valid = false) ∧ s.quay.win.length ≠ 0 ∧
    s.quay.retryPend = false ∧ ¬ (s.quay.north.nextComp + (if south = true then 0 else 1) = 512 ∧
    s.quay.south.nextComp + (if south = true then 1 else 0) = 1024) ∧ w.mode = 1 ∧
    w.expected % 2 ^ w.params.width ≠ crcFinish w.params (((((codeRow s j w.y1).drop w.x0).take (w.x1 + 1 - w.x0)).flatMap (fun v => leBytes 2 v)).foldl (crcByte w.params) w.acc) ∧
    s.quay.retried = true :=
  ⟨true, { desc := { raw := rawDesc 9, seq := 9, pins := [] }, layers := [], regions := [], useRegions := false, useLevel := false, level := 0, soft := none, prot := [], protPoison := [], dim := [], degrade := [], maskable := [], map := [], runLen := 0, run := none, useCache := false, fill := false, fits := false, complete := false, counted := false, isRepeat := false }, { mode := 1, tap := 0, x0 := 0, y0 := 1023, x1 := 1, y1 := 1023, expected := 5, valid := true }, { pw := { dev := .ready, doms := [2, 2, 2, 2, 2, 2, 2, 2, 2, 2, 2, 2, 2, 2, 2, 2] }, tb := { src := [0, 0, 0, 0, 0, 1, 0, 0, 0, 0, 0, 0, 0], keeper := .unqualified }, fy := { address := 3 }, lane := { st := .fl0 }, dict := { sesCan := { isOpen := true } }, frm := {  }, arr := {  }, saf := {  }, quay := { loading := true, win := [{ mode := 1, tap := 0, x0 := 0, y0 := 1023, x1 := 1, y1 := 1023, expected := 5, valid := true }], south := { nextComp := 1023, nextCorr := 1020, nextSend := 1020 }, north := { nextComp := 400 }, retried := true }, comp := { job := some { desc := { raw := rawDesc 9, seq := 9, pins := [] }, layers := [], regions := [], useRegions := false, useLevel := false, level := 0, soft := none, prot := [], protPoison := [], dim := [], degrade := [], maskable := [], map := [], runLen := 0, run := none, useCache := false, fill := false, fits := false, complete := false, counted := false, isRepeat := false } }, mask := {  } }, by decide +kernel⟩

theorem wit_RowsAreComposed_11 : ∃ (p : Path) (data : List Byte) (s : State),
    s.pw.dev ≠ .off ∧ takes s p 0x2520 1 data = true ∧ protOk data = true ∧ prepared s .updatePath = false ∧
    s.mg.psVerifying = false ∧ protCoded { staging s with layer := data } ≤ 524288 :=
  ⟨.can, [0, 0, 0, 0, 0, 0, 0, 0, 16, 0, 0, 0, 0, 0, 0, 0], { pw := { dev := .ready, doms := [2, 2, 2, 2, 2, 2, 2, 2, 2, 2, 2, 2, 2, 2, 2, 2] }, tb := { src := [0, 0, 0, 0, 0, 1, 0, 0, 0, 0, 0, 0, 0], keeper := .unqualified }, fy := { address := 3 }, lane := { st := .fl0 }, dict := { sesCan := { isOpen := true } }, frm := {  }, arr := {  }, saf := {  }, quay := {  }, comp := {  }, mask := {  } }, by decide +kernel⟩

theorem wit_RowsAreComposed_12 : ∃ (p : Path) (data : List Byte) (s : State),
    s.pw.dev ≠ .off ∧ takes s p 0x2520 1 data = true ∧ protOk data = false :=
  ⟨.can, [0, 0, 0, 0, 0, 0, 0, 0, 15, 0, 0, 0, 0, 0, 0, 0], { pw := { dev := .ready, doms := [2, 2, 2, 2, 2, 2, 2, 2, 2, 2, 2, 2, 2, 2, 2, 2] }, tb := { src := [0, 0, 0, 0, 0, 1, 0, 0, 0, 0, 0, 0, 0], keeper := .unqualified }, fy := { address := 3 }, lane := { st := .fl0 }, dict := { sesCan := { isOpen := true } }, frm := {  }, arr := {  }, saf := {  }, quay := {  }, comp := {  }, mask := {  } }, by decide +kernel⟩

theorem wit_MasksAreSetAndExpire_1 : ∃ (k : Packet) (s : State),
    s.pw.dev ≠ .off ∧ pktTakes s k = true ∧ kTy k = 2 ∧ kF k 0 1 = 1 ∧ maskMalformed k = false ∧ setCheck k s = 0 :=
  ⟨pkt 2 3 7 false ([1, 0, 4, 0, 20, 0, 15] ++ List.replicate 9 0), { pw := { dev := .ready, doms := [2, 2, 2, 2, 2, 2, 2, 2, 2, 2, 2, 2, 2, 2, 2, 2] }, tb := { src := [0, 0, 0, 0, 0, 1, 0, 0, 0, 0, 0, 0, 0], keeper := .unqualified }, fy := { address := 3 }, lane := { st := .fl0 }, dict := { sesCan := { isOpen := true } }, frm := {  }, arr := {  }, saf := {  }, quay := {  }, comp := {  }, mask := { st := .active, cur := some { mseq := 3, shapes := [], arrival := 0, lifetime := 10, margin := 0 } } }, by decide +kernel⟩

theorem wit_MasksAreSetAndExpire_2 : ∃ (c : Nat) (k : Packet) (s : State),
    s.pw.dev ≠ .off ∧ pktTakes s k = true ∧ kTy k = 2 ∧ kF k 0 1 = 1 ∧ maskMalformed k = false ∧ setCheck k s = c ∧
    c ≠ 0 :=
  ⟨6, pkt 2 3 7 false ([1, 0, 3, 0, 20, 0, 15] ++ List.replicate 9 0), { pw := { dev := .ready, doms := [2, 2, 2, 2, 2, 2, 2, 2, 2, 2, 2, 2, 2, 2, 2, 2] }, tb := { src := [0, 0, 0, 0, 0, 1, 0, 0, 0, 0, 0, 0, 0], keeper := .unqualified }, fy := { address := 3 }, lane := { st := .fl0 }, dict := { sesCan := { isOpen := true } }, frm := {  }, arr := {  }, saf := {  }, quay := {  }, comp := {  }, mask := { st := .active, cur := some { mseq := 3, shapes := [], arrival := 0, lifetime := 10, margin := 0 } } }, by decide +kernel⟩

theorem wit_MasksAreSetAndExpire_3 : ∃ (k : Packet) (s : State),
    s.pw.dev ≠ .off ∧ pktTakes s k = true ∧ kTy k = 2 ∧ kF k 0 1 = 1 ∧ maskMalformed k = true :=
  ⟨pkt 2 3 7 false (1 :: List.replicate 15 1), { pw := { dev := .ready, doms := [2, 2, 2, 2, 2, 2, 2, 2, 2, 2, 2, 2, 2, 2, 2, 2] }, tb := { src := [0, 0, 0, 0, 0, 1, 0, 0, 0, 0, 0, 0, 0], keeper := .unqualified }, fy := { address := 3 }, lane := { st := .fl0 }, dict := { sesCan := { isOpen := true } }, frm := {  }, arr := {  }, saf := {  }, quay := {  }, comp := {  }, mask := {  } }, by decide +kernel⟩

theorem wit_MasksAreSetAndExpire_4 : ∃ (k : Packet) (s : State),
    s.pw.dev ≠ .off ∧ (kTy k ≠ 2 ∨ kF k 0 1 ≠ 1 ∨ kHere s k = false ∨ consumes s k = false) :=
  ⟨pkt 3 3 7 false [], { pw := { dev := .ready, doms := [2, 2, 2, 2, 2, 2, 2, 2, 2, 2, 2, 2, 2, 2, 2, 2] }, tb := { src := [0, 0, 0, 0, 0, 1, 0, 0, 0, 0, 0, 0, 0], keeper := .unqualified }, fy := { address := 3 }, lane := { st := .fl0 }, dict := { sesCan := { isOpen := true } }, frm := {  }, arr := {  }, saf := {  }, quay := {  }, comp := {  }, mask := {  } }, by decide +kernel⟩

theorem wit_MasksAreSetAndExpire_5 : ∃ (k : Packet) (m : MaskSet) (s : State),
    s.pw.dev ≠ .off ∧ pktTakes s k = true ∧ kTy k = 2 ∧ kF k 0 1 = 2 ∧ maskMalformed k = false ∧ 1 ≤ kF k 4 2 ∧
    kF k 4 2 ≤ 1000 ∧ s.mask.st = .active ∧ s.mask.cur = some m ∧ m.mseq = kF k 2 2 :=
  ⟨pkt 2 3 7 false ([2, 0, 3, 0, 20, 0] ++ List.replicate 10 0), { mseq := 3, shapes := [], arrival := 0, lifetime := 10, margin := 0 }, { pw := { dev := .ready, doms := [2, 2, 2, 2, 2, 2, 2, 2, 2, 2, 2, 2, 2, 2, 2, 2] }, tb := { src := [0, 0, 0, 0, 0, 1, 0, 0, 0, 0, 0, 0, 0], keeper := .unqualified }, fy := { address := 3 }, lane := { st := .fl0 }, dict := { sesCan := { isOpen := true } }, frm := {  }, arr := {  }, saf := {  }, quay := {  }, comp := {  }, mask := { st := .active, cur := some { mseq := 3, shapes := [], arrival := 0, lifetime := 10, margin := 0 } } }, by decide +kernel⟩

theorem wit_MasksAreSetAndExpire_6 : ∃ (t : Nat) (k : Packet) (m : MaskSet) (u : MaskUndo) (s : State),
    s.pw.dev ≠ .off ∧ pktTakes s k = true ∧ kTy k = 2 ∧ kF k 0 1 = 2 ∧ maskMalformed k = false ∧ 1 ≤ kF k 4 2 ∧
    kF k 4 2 ≤ 1000 ∧ s.mask.st = .expired ∧ s.mask.cur = some m ∧ m.mseq = kF k 2 2 ∧ s.mask.expiredAt = some u ∧
    tickOf (s.advance t).now = tickOf u.at_ ∧ 0x25 < s.saf.raises.length :=
  ⟨5, pkt 2 3 7 false ([2, 0, 3, 0, 20, 0] ++ List.replicate 10 0), { mseq := 3, shapes := [], arrival := 0, lifetime := 10, margin := 0 }, { at_ := 4, dim := false, dead := false, saf := {}, logQueue := [] }, { pw := { dev := .ready, doms := [2, 2, 2, 2, 2, 2, 2, 2, 2, 2, 2, 2, 2, 2, 2, 2] }, tb := { src := [0, 0, 0, 0, 0, 1, 0, 0, 0, 0, 0, 0, 0], keeper := .unqualified }, fy := { address := 3 }, lane := { st := .fl0 }, dict := { sesCan := { isOpen := true } }, frm := {  }, arr := {  }, saf := {  }, quay := {  }, comp := {  }, mask := { st := .expired, expiries := 1, dim := true, dead := true, expiredAt := some { at_ := 4, dim := false, dead := false, saf := {}, logQueue := [] }, cur := some { mseq := 3, shapes := [], arrival := 0, lifetime := 10, margin := 0 } } }, by decide +kernel⟩

theorem wit_MasksAreSetAndExpire_7 : ∃ (t : Nat) (k : Packet) (s : State),
    s.pw.dev ≠ .off ∧ pktTakes s k = true ∧ kTy k = 2 ∧ kF k 0 1 = 2 ∧ maskMalformed k = false ∧ 1 ≤ kF k 4 2 ∧
    kF k 4 2 ≤ 1000 ∧
    (s.mask.cur.any (fun m => m.mseq == kF k 2 2) = false ∨ s.mask.st = .none ∨ (s.mask.st = .expired ∧
    s.mask.expiredAt.any (fun u => tickOf (s.advance t).now == tickOf u.at_) = false)) :=
  ⟨5, pkt 2 3 7 false ([2, 0, 3, 0, 20, 0] ++ List.replicate 10 0), { pw := { dev := .ready, doms := [2, 2, 2, 2, 2, 2, 2, 2, 2, 2, 2, 2, 2, 2, 2, 2] }, tb := { src := [0, 0, 0, 0, 0, 1, 0, 0, 0, 0, 0, 0, 0], keeper := .unqualified }, fy := { address := 3 }, lane := { st := .fl0 }, dict := { sesCan := { isOpen := true } }, frm := {  }, arr := {  }, saf := {  }, quay := {  }, comp := {  }, mask := { st := .expired } }, by decide +kernel⟩

theorem wit_MasksAreSetAndExpire_8 : ∃ (k : Packet) (s : State),
    s.pw.dev ≠ .off ∧ pktTakes s k = true ∧ kTy k = 2 ∧ kF k 0 1 = 2 ∧ maskMalformed k = false ∧
    (kF k 4 2 = 0 ∨ 1000 < kF k 4 2) :=
  ⟨pkt 2 3 7 false ([2, 0, 3, 0, 0, 0] ++ List.replicate 10 0), { pw := { dev := .ready, doms := [2, 2, 2, 2, 2, 2, 2, 2, 2, 2, 2, 2, 2, 2, 2, 2] }, tb := { src := [0, 0, 0, 0, 0, 1, 0, 0, 0, 0, 0, 0, 0], keeper := .unqualified }, fy := { address := 3 }, lane := { st := .fl0 }, dict := { sesCan := { isOpen := true } }, frm := {  }, arr := {  }, saf := {  }, quay := {  }, comp := {  }, mask := { st := .active, cur := some { mseq := 3, shapes := [], arrival := 0, lifetime := 10, margin := 0 } } }, by decide +kernel⟩

theorem wit_MasksAreSetAndExpire_9 : ∃ (k : Packet) (s : State),
    s.pw.dev ≠ .off ∧ pktTakes s k = true ∧ kTy k = 2 ∧ kF k 0 1 = 2 ∧ maskMalformed k = true :=
  ⟨pkt 2 3 7 false (2 :: List.replicate 15 1), { pw := { dev := .ready, doms := [2, 2, 2, 2, 2, 2, 2, 2, 2, 2, 2, 2, 2, 2, 2, 2] }, tb := { src := [0, 0, 0, 0, 0, 1, 0, 0, 0, 0, 0, 0, 0], keeper := .unqualified }, fy := { address := 3 }, lane := { st := .fl0 }, dict := { sesCan := { isOpen := true } }, frm := {  }, arr := {  }, saf := {  }, quay := {  }, comp := {  }, mask := {  } }, by decide +kernel⟩

theorem wit_MasksAreSetAndExpire_10 : ∃ (k : Packet) (s : State),
    s.pw.dev ≠ .off ∧ (kTy k ≠ 2 ∨ kF k 0 1 ≠ 2 ∨ kHere s k = false ∨ consumes s k = false) :=
  ⟨pkt 3 3 7 false [], { pw := { dev := .ready, doms := [2, 2, 2, 2, 2, 2, 2, 2, 2, 2, 2, 2, 2, 2, 2, 2] }, tb := { src := [0, 0, 0, 0, 0, 1, 0, 0, 0, 0, 0, 0, 0], keeper := .unqualified }, fy := { address := 3 }, lane := { st := .fl0 }, dict := { sesCan := { isOpen := true } }, frm := {  }, arr := {  }, saf := {  }, quay := {  }, comp := {  }, mask := {  } }, by decide +kernel⟩

theorem wit_MasksAreSetAndExpire_11 : ∃ (t : Nat) (s : State),
    s.pw.dev ≠ .off ∧ s.mask.st = .active ∧ maskDue (s.advance t) = true ∧
    s.pending.any (maskWaits (s.advance t)) = false :=
  ⟨5, { pw := { dev := .ready, doms := [2, 2, 2, 2, 2, 2, 2, 2, 2, 2, 2, 2, 2, 2, 2, 2] }, tb := { src := [0, 0, 0, 0, 0, 1, 0, 0, 0, 0, 0, 0, 0], keeper := .unqualified }, fy := { address := 3 }, lane := { st := .fl0 }, dict := { sesCan := { isOpen := true } }, frm := {  }, arr := {  }, saf := {  }, quay := {  }, comp := {  }, mask := { st := .active, cur := some { mseq := 3, shapes := [], arrival := 0, lifetime := 10, margin := 0 } } }, by decide +kernel⟩

theorem wit_MasksAreSetAndExpire_12 : ∃ (t : Nat) (s : State),
    s.pw.dev ≠ .off ∧
    (s.mask.st ≠ .active ∨ maskDue (s.advance t) = false ∨ s.pending.any (maskWaits (s.advance t)) = true) :=
  ⟨5, { pw := { dev := .ready, doms := [2, 2, 2, 2, 2, 2, 2, 2, 2, 2, 2, 2, 2, 2, 2, 2] }, tb := { src := [0, 0, 0, 0, 0, 1, 0, 0, 0, 0, 0, 0, 0], keeper := .unqualified }, fy := { address := 3 }, lane := { st := .fl0 }, dict := { sesCan := { isOpen := true } }, frm := {  }, arr := {  }, saf := {  }, quay := {  }, comp := {  }, mask := { st := .active, expiry := 20000000000, cur := some { mseq := 3, shapes := [], arrival := 0, lifetime := 10, margin := 0 } } }, by decide +kernel⟩

theorem wit_RowsAreLoaded_1 : ∃ (y : Nat) (south : Bool) (codes : List Nat) (rest : List (Nat × List Nat)) (j : Job) (s : State),
    s.pw.dev ≠ .off ∧ loadsRun s = true ∧ s.quay.loading = true ∧ (halfOf s south).outs.length < 2 ∧
    (halfOf s south).lines = (y, codes) :: rest ∧ y = (halfOf s south).nextCorr ∧ s.comp.job = some j ∧
    (rest ≠ [] ∨ halfEnd south ≤ y + 1 ∨ needsNext s.quay.smp j.map y = false) ∧ (∀ r ∈ rest, r.1 ≠ y) :=
  ⟨1023, true, [7, 9], [], { desc := { raw := rawDesc 9, seq := 9, pins := [] }, layers := [], regions := [], useRegions := false, useLevel := false, level := 0, soft := none, prot := [], protPoison := [], dim := [], degrade := [], maskable := [], map := [], runLen := 0, run := none, useCache := false, fill := false, fits := false, complete := true, counted := false, isRepeat := false }, { pw := { dev := .ready, doms := [2, 2, 2, 2, 2, 2, 2, 2, 2, 2, 2, 2, 2, 2, 2, 2] }, tb := { src := [0, 0, 0, 0, 0, 1, 0, 0, 0, 0, 0, 0, 0], keeper := .unqualified }, fy := { address := 3 }, lane := { st := .fl0 }, dict := { sesCan := { isOpen := true } }, frm := {  }, arr := {  }, saf := {  }, quay := { loading := true, win := [], south := { nextComp := 1024, nextCorr := 1023, nextSend := 1023, lines := [(1023, [7, 9])] } }, comp := { job := some { desc := { raw := rawDesc 9, seq := 9, pins := [] }, layers := [], regions := [], useRegions := false, useLevel := false, level := 0, soft := none, prot := [], protPoison := [], dim := [], degrade := [], maskable := [], map := [], runLen := 0, run := none, useCache := false, fill := false, fits := false, complete := true, counted := false, isRepeat := false } }, mask := {  } }, by decide +kernel⟩

theorem wit_RowsAreLoaded_2 : ∃ (south : Bool) (s : State),
    s.pw.dev ≠ .off ∧
    (loadsRun s = false ∨ s.quay.loading = false ∨ 2 ≤ (halfOf s south).outs.length ∨ (halfOf s south).lines = [] ∨ s.comp.job = none) :=
  ⟨true, { pw := { dev := .ready, doms := [2, 2, 2, 2, 2, 2, 2, 2, 2, 2, 2, 2, 2, 2, 2, 2] }, tb := { src := [0, 0, 0, 0, 0, 1, 0, 0, 0, 0, 0, 0, 0], keeper := .unqualified }, fy := { address := 3 }, lane := { st := .fl0 }, dict := { sesCan := { isOpen := true } }, frm := {  }, arr := {  }, saf := {  }, quay := {  }, comp := {  }, mask := {  } }, by decide +kernel⟩

theorem wit_RowsAreLoaded_3 : ∃ (y : Nat) (south : Bool) (codes : List Nat) (j : Job) (s : State),
    s.pw.dev ≠ .off ∧ (halfOf s south).lines = [(y, codes)] ∧ s.comp.job = some j ∧
    (y ≠ (halfOf s south).nextCorr ∨ (y + 1 < halfEnd south ∧ needsNext s.quay.smp j.map y = true)) :=
  ⟨1022, true, [7, 9], { desc := { raw := rawDesc 9, seq := 9, pins := [] }, layers := [], regions := [], useRegions := false, useLevel := false, level := 0, soft := none, prot := [], protPoison := [], dim := [], degrade := [], maskable := [], map := [], runLen := 0, run := none, useCache := false, fill := false, fits := false, complete := true, counted := false, isRepeat := false }, { pw := { dev := .ready, doms := [2, 2, 2, 2, 2, 2, 2, 2, 2, 2, 2, 2, 2, 2, 2, 2] }, tb := { src := [0, 0, 0, 0, 0, 1, 0, 0, 0, 0, 0, 0, 0], keeper := .unqualified }, fy := { address := 3 }, lane := { st := .fl0 }, dict := { sesCan := { isOpen := true } }, frm := {  }, arr := {  }, saf := {  }, quay := { loading := true, win := [], south := { nextComp := 1024, nextCorr := 1023, nextSend := 1023, lines := [(1022, [7, 9])] } }, comp := { job := some { desc := { raw := rawDesc 9, seq := 9, pins := [] }, layers := [], regions := [], useRegions := false, useLevel := false, level := 0, soft := none, prot := [], protPoison := [], dim := [], degrade := [], maskable := [], map := [], runLen := 0, run := none, useCache := false, fill := false, fits := false, complete := true, counted := false, isRepeat := false } }, mask := {  } }, by decide +kernel⟩

theorem wit_RowsAreLoaded_4 : ∃ (t : Nat) (x : Nat) (y : Nat) (south : Bool) (j : Job) (s : State),
    s.pw.dev ≠ .off ∧ loadsRun s = true ∧ s.quay.loading = true ∧ (halfOf s south).outs.length < 2 ∧
    y = (halfOf s south).nextCorr ∧ y < halfEnd south ∧ 1 ≤ x ∧ x < 2048 ∧ s.comp.job = some j ∧
    codeMissing s j south x y = true ∧ rowTimedOut (s.advance t) south = true :=
  ⟨500000000, 2, 1023, true, { desc := { raw := rawDesc 9, seq := 9, pins := [] }, layers := [], regions := [], useRegions := false, useLevel := false, level := 0, soft := none, prot := [], protPoison := [], dim := [], degrade := [], maskable := [], map := [], runLen := 0, run := none, useCache := false, fill := false, fits := false, complete := true, counted := false, isRepeat := false }, { pw := { dev := .ready, doms := [2, 2, 2, 2, 2, 2, 2, 2, 2, 2, 2, 2, 2, 2, 2, 2] }, tb := { src := [0, 0, 0, 0, 0, 1, 0, 0, 0, 0, 0, 0, 0], keeper := .unqualified }, fy := { address := 3 }, lane := { st := .fl0 }, dict := { sesCan := { isOpen := true } }, frm := {  }, arr := {  }, saf := {  }, quay := { loading := true, win := [], south := { nextComp := 1023, nextCorr := 1023, nextSend := 1023 } }, comp := { job := some { desc := { raw := rawDesc 9, seq := 9, pins := [] }, layers := [], regions := [], useRegions := false, useLevel := false, level := 0, soft := none, prot := [], protPoison := [], dim := [], degrade := [], maskable := [], map := [], runLen := 0, run := none, useCache := false, fill := false, fits := false, complete := true, counted := false, isRepeat := false } }, mask := {  } }, by decide +kernel⟩

theorem wit_RowsAreLoaded_5 : ∃ (t : Nat) (x : Nat) (y : Nat) (south : Bool) (j : Job) (s : State),
    s.pw.dev ≠ .off ∧ loadsRun s = true ∧ hostBeam s = true ∧ classOf s 0x38 ≤ s.saf.state.code ∧
    targetClass s ≤ s.saf.state.code ∧ s.quay.loading = true ∧ (halfOf s south).outs.length < 2 ∧
    y = (halfOf s south).nextCorr ∧ y < halfEnd south ∧ 1 ≤ x ∧ x < 2048 ∧ s.comp.job = some j ∧
    codeMissing s j south x y = true ∧ rowTimedOut (s.advance t) south = true :=
  ⟨500000000, 2, 1023, true, { desc := { raw := rawDesc 9, seq := 9, pins := [] }, layers := [], regions := [], useRegions := false, useLevel := false, level := 0, soft := none, prot := [], protPoison := [], dim := [], degrade := [], maskable := [], map := [], runLen := 0, run := none, useCache := false, fill := false, fits := false, complete := true, counted := false, isRepeat := false }, { pw := { dev := .ready, doms := [2, 2, 2, 2, 2, 2, 2, 2, 2, 2, 2, 2, 2, 2, 2, 2] }, tb := { src := [0, 0, 0, 0, 0, 1, 0, 0, 0, 0, 0, 0, 0], keeper := .unqualified }, fy := { address := 3 }, lane := { st := .fl0 }, dict := { sesCan := { isOpen := true } }, frm := {  }, arr := {  }, saf := { state := .degraded }, quay := { loading := true, win := [], south := { nextComp := 1023, nextCorr := 1023, nextSend := 1023 } }, comp := { job := some { desc := { raw := rawDesc 9, seq := 9, pins := [] }, layers := [], regions := [], useRegions := false, useLevel := false, level := 0, soft := none, prot := [], protPoison := [], dim := [], degrade := [], maskable := [], map := [], runLen := 0, run := none, useCache := false, fill := false, fits := false, complete := true, counted := false, isRepeat := false } }, mask := {  }, objs := [(0x2D1003, List.replicate 256 0)] }, by decide +kernel⟩

theorem wit_RowsAreLoaded_6 : ∃ (t : Nat) (x : Nat) (south : Bool) (s : State),
    s.pw.dev ≠ .off ∧
    (loadsRun s = false ∨ s.quay.loading = false ∨ x = 0 ∨ 2048 ≤ x ∨ rowTimedOut (s.advance t) south = false ∨ s.comp.job.any (fun j => codeMissing s j south x (halfOf s south).nextCorr) = false) :=
  ⟨5, 2, true, { pw := { dev := .ready, doms := [2, 2, 2, 2, 2, 2, 2, 2, 2, 2, 2, 2, 2, 2, 2, 2] }, tb := { src := [0, 0, 0, 0, 0, 1, 0, 0, 0, 0, 0, 0, 0], keeper := .unqualified }, fy := { address := 3 }, lane := { st := .fl0 }, dict := { sesCan := { isOpen := true } }, frm := {  }, arr := {  }, saf := {  }, quay := {  }, comp := {  }, mask := {  } }, by decide +kernel⟩

theorem wit_RowsAreLoaded_7 : ∃ (y : Nat) (south : Bool) (words : List Nat) (rest : List (Nat × List Nat)) (j : Job) (s : State),
    s.pw.dev ≠ .off ∧ loadsRun s = true ∧ s.quay.loading = true ∧ s.quay.retryPend = false ∧ s.frm.held = false ∧
    limpHasBridge s = false ∧ (halfOf s south).outs = (y, words) :: rest ∧ s.comp.job = some j ∧
    (∀ w ∈ s.quay.win, w.valid = false) ∧ (s.quay.smp.lineMatch ≠ y) ∧
    (if south = true then s.quay.north.nextSend ≠ 512 ∨ y + 1 ≠ 1024 else s.quay.south.nextSend ≠ 1024 ∨ y + 1 ≠ 512) :=
  ⟨600, true, [7, 9], [], { desc := { raw := rawDesc 9, seq := 9, pins := [] }, layers := [], regions := [], useRegions := false, useLevel := false, level := 0, soft := none, prot := [], protPoison := [], dim := [], degrade := [], maskable := [], map := [], runLen := 0, run := none, useCache := false, fill := false, fits := false, complete := true, counted := false, isRepeat := false }, { pw := { dev := .ready, doms := [2, 2, 2, 2, 2, 2, 2, 2, 2, 2, 2, 2, 2, 2, 2, 2] }, tb := { src := [0, 0, 0, 0, 0, 1, 0, 0, 0, 0, 0, 0, 0], keeper := .unqualified }, fy := { address := 3 }, lane := { st := .fl0 }, dict := { sesCan := { isOpen := true } }, frm := {  }, arr := {  }, saf := {  }, quay := { loading := true, win := [], south := { nextComp := 601, nextCorr := 601, nextSend := 600, outs := [(600, [7, 9])] } }, comp := { job := some { desc := { raw := rawDesc 9, seq := 9, pins := [] }, layers := [], regions := [], useRegions := false, useLevel := false, level := 0, soft := none, prot := [], protPoison := [], dim := [], degrade := [], maskable := [], map := [], runLen := 0, run := none, useCache := false, fill := false, fits := false, complete := true, counted := false, isRepeat := false } }, mask := {  } }, by decide +kernel⟩

theorem wit_RowsAreLoaded_8 : ∃ (words : List Nat) (rest : List (Nat × List Nat)) (j : Job) (s : State),
    s.pw.dev ≠ .off ∧ loadsRun s = true ∧ s.quay.loading = true ∧ s.quay.retryPend = false ∧ s.frm.held = false ∧
    limpHasBridge s = false ∧ s.quay.south.outs = (1023, words) :: rest ∧ s.quay.north.nextSend = 512 ∧
    s.comp.job = some j ∧ (∀ w ∈ s.quay.win, w.valid = false) ∧ s.diag.gainWait = [] :=
  ⟨[7, 9], [], { desc := { raw := rawDesc 9, seq := 9, pins := [] }, layers := [], regions := [], useRegions := false, useLevel := false, level := 0, soft := none, prot := [], protPoison := [], dim := [], degrade := [], maskable := [], map := [], runLen := 0, run := none, useCache := false, fill := false, fits := false, complete := true, counted := false, isRepeat := false }, { pw := { dev := .ready, doms := [2, 2, 2, 2, 2, 2, 2, 2, 2, 2, 2, 2, 2, 2, 2, 2] }, tb := { src := [0, 0, 0, 0, 0, 1, 0, 0, 0, 0, 0, 0, 0], keeper := .unqualified }, fy := { address := 3 }, lane := { st := .fl0 }, dict := { sesCan := { isOpen := true } }, frm := {  }, arr := {  }, saf := {  }, quay := { loading := true, win := [], north := { nextComp := 512, nextCorr := 512, nextSend := 512 }, south := { nextComp := 1024, nextCorr := 1024, nextSend := 1023, outs := [(1023, [7, 9])] } }, comp := { job := some { desc := { raw := rawDesc 9, seq := 9, pins := [] }, layers := [], regions := [], useRegions := false, useLevel := false, level := 0, soft := none, prot := [], protPoison := [], dim := [], degrade := [], maskable := [], map := [], runLen := 0, run := none, useCache := false, fill := false, fits := false, complete := true, counted := false, isRepeat := false } }, mask := {  } }, by decide +kernel⟩

theorem wit_RowsAreLoaded_9 : ∃ (words : List Nat) (rest : List (Nat × List Nat)) (j : Job) (s : State),
    s.pw.dev ≠ .off ∧ loadsRun s = true ∧ s.quay.loading = true ∧ s.quay.retryPend = false ∧ s.frm.held = false ∧
    limpHasBridge s = false ∧ s.quay.south.outs = (1023, words) :: rest ∧ s.quay.north.nextSend = 512 ∧
    s.comp.job = some j ∧ (∀ w ∈ s.quay.win, w.valid = false) :=
  ⟨[7, 9], [], { desc := { raw := rawDesc 9, seq := 9, pins := [] }, layers := [], regions := [], useRegions := false, useLevel := false, level := 0, soft := none, prot := [], protPoison := [], dim := [], degrade := [], maskable := [], map := [], runLen := 0, run := none, useCache := false, fill := false, fits := false, complete := true, counted := false, isRepeat := false }, { pw := { dev := .ready, doms := [2, 2, 2, 2, 2, 2, 2, 2, 2, 2, 2, 2, 2, 2, 2, 2] }, tb := { src := [0, 0, 0, 0, 0, 1, 0, 0, 0, 0, 0, 0, 0], keeper := .unqualified }, fy := { address := 3 }, lane := { st := .fl0 }, dict := { sesCan := { isOpen := true } }, frm := {  }, arr := {  }, saf := {  }, quay := { loading := true, win := [], north := { nextComp := 512, nextCorr := 512, nextSend := 512 }, south := { nextComp := 1024, nextCorr := 1024, nextSend := 1023, outs := [(1023, [7, 9])] } }, comp := { job := some { desc := { raw := rawDesc 9, seq := 9, pins := [] }, layers := [], regions := [], useRegions := false, useLevel := false, level := 0, soft := none, prot := [], protPoison := [], dim := [], degrade := [], maskable := [], map := [], runLen := 0, run := none, useCache := false, fill := false, fits := false, complete := true, counted := false, isRepeat := false } }, mask := {  } }, by decide +kernel⟩

theorem wit_RowsAreLoaded_10 : ∃ (south : Bool) (s : State),
    s.pw.dev ≠ .off ∧
    (loadsRun s = false ∨ s.quay.loading = false ∨ s.frm.held = true ∨ limpHasBridge s = true ∨ (halfOf s south).outs = []) :=
  ⟨true, { pw := { dev := .ready, doms := [2, 2, 2, 2, 2, 2, 2, 2, 2, 2, 2, 2, 2, 2, 2, 2] }, tb := { src := [0, 0, 0, 0, 0, 1, 0, 0, 0, 0, 0, 0, 0], keeper := .unqualified }, fy := { address := 3 }, lane := { st := .fl0 }, dict := { sesCan := { isOpen := true } }, frm := {  }, arr := {  }, saf := {  }, quay := {  }, comp := {  }, mask := {  } }, by decide +kernel⟩

theorem wit_EnginesAreProgrammed_1 : ∃ (p : Path) (e : Fin 8) (data : List Byte) (s : State),
    s.pw.dev ≠ .off ∧ takes s p (0x2B10 + e.val) 1 data = true ∧ pgCheck e.val data = 0 ∧
    ((engOf s e.val).st = .idle ∨ (engOf s e.val).st = .stopped ∨ (engOf s e.val).st = .done) ∧
    e.val < s.pat.eng.length ∧ rising s.objs = true :=
  ⟨.can, 2, progOf 0, { pw := { dev := .ready, doms := [2, 2, 2, 2, 2, 2, 2, 2, 2, 2, 2, 2, 2, 2, 2, 2] }, dict := { sesCan := { isOpen := true } }, tb := { src := [0, 0, 0, 0, 0, 1, 0, 0, 0, 0, 0, 0, 0], keeper := .unqualified } }, by decide +kernel⟩

theorem wit_EnginesAreProgrammed_2 : ∃ (p : Path) (e : Fin 8) (data : List Byte) (s : State),
    s.pw.dev ≠ .off ∧ takes s p (0x2B10 + e.val) 1 data = true ∧ pgCheck e.val data = 0 ∧ (engOf s e.val).st ≠ .idle ∧
    (engOf s e.val).st ≠ .stopped ∧ (engOf s e.val).st ≠ .done :=
  ⟨.can, 0, progOf 0, { pw := { dev := .ready, doms := [2, 2, 2, 2, 2, 2, 2, 2, 2, 2, 2, 2, 2, 2, 2, 2] }, pat := { eng := [{ st := .running }] }, dict := { sesCan := { isOpen := true } }, tb := { src := [0, 0, 0, 0, 0, 1, 0, 0, 0, 0, 0, 0, 0], keeper := .unqualified } }, by decide +kernel⟩

theorem wit_EnginesAreProgrammed_3 : ∃ (p : Path) (e : Fin 8) (data : List Byte) (s : State),
    s.pw.dev ≠ .off ∧ takes s p (0x2B10 + e.val) 1 data = true ∧ pgCheck e.val data ≠ 0 :=
  ⟨.can, 2, progOf 9, { pw := { dev := .ready, doms := [2, 2, 2, 2, 2, 2, 2, 2, 2, 2, 2, 2, 2, 2, 2, 2] }, dict := { sesCan := { isOpen := true } }, tb := { src := [0, 0, 0, 0, 0, 1, 0, 0, 0, 0, 0, 0, 0], keeper := .unqualified } }, by decide +kernel⟩

theorem wit_EnginesAreProgrammed_4 : ∃ (t : Nat) (addr : Nat) (len : Nat) (e : Fin 8) (c : Bool) (data : List Byte) (s : State),
    s.pw.dev ≠ .off ∧ blockOn s 13 = true ∧ blockOn s 11 = true ∧ peBusy (s.advance t) e.val = false ∧
    sramOk c addr len = true ∧ len < 65536 ∧ pgCheck e.val (padTo len data) = 0 ∧
    ((engOf s e.val).st = .idle ∨ (engOf s e.val).st = .stopped ∨ (engOf s e.val).st = .done) ∧ e.val < s.pat.eng.length :=
  ⟨5, 0x20040000, 48, 2, true, progOf 0, { pw := { dev := .ready, doms := [2, 2, 2, 2, 2, 2, 2, 2, 2, 2, 2, 2, 2, 2, 2, 2] }, dict := { sesCan := { isOpen := true } }, tb := { src := [0, 0, 0, 0, 0, 1, 0, 0, 0, 0, 0, 0, 0], keeper := .unqualified } }, by decide +kernel⟩

theorem wit_EnginesAreProgrammed_5 : ∃ (t : Nat) (addr : Nat) (len : Nat) (e : Fin 8) (c : Bool) (data : List Byte) (s : State),
    s.pw.dev ≠ .off ∧ blockOn s 13 = true ∧ blockOn s 11 = true ∧ peBusy (s.advance t) e.val = false ∧
    sramOk c addr (len % 65536) = true ∧ pgCheck e.val (padTo (len % 65536) data) ≠ 0 :=
  ⟨5, 0x20040000, 48, 2, true, progOf 9, { pw := { dev := .ready, doms := [2, 2, 2, 2, 2, 2, 2, 2, 2, 2, 2, 2, 2, 2, 2, 2] }, dict := { sesCan := { isOpen := true } }, tb := { src := [0, 0, 0, 0, 0, 1, 0, 0, 0, 0, 0, 0, 0], keeper := .unqualified } }, by decide +kernel⟩

theorem wit_EnginesAreProgrammed_6 : ∃ (t : Nat) (addr : Nat) (len : Nat) (e : Fin 8) (c : Bool) (data : List Byte) (s : State),
    s.pw.dev ≠ .off ∧ blockOn s 13 = true ∧ blockOn s 11 = true ∧ peBusy (s.advance t) e.val = false ∧
    sramOk c addr (len % 65536) = true ∧ pgCheck e.val (padTo (len % 65536) data) = 0 ∧ (engOf s e.val).st ≠ .idle ∧
    (engOf s e.val).st ≠ .stopped ∧ (engOf s e.val).st ≠ .done :=
  ⟨5, 0x20040000, 48, 0, true, progOf 0, { pw := { dev := .ready, doms := [2, 2, 2, 2, 2, 2, 2, 2, 2, 2, 2, 2, 2, 2, 2, 2] }, pat := { eng := [{ st := .running }] }, dict := { sesCan := { isOpen := true } }, tb := { src := [0, 0, 0, 0, 0, 1, 0, 0, 0, 0, 0, 0, 0], keeper := .unqualified } }, by decide +kernel⟩

theorem wit_EnginesAreProgrammed_7 : ∃ (t : Nat) (addr : Nat) (len : Nat) (e : Fin 8) (c : Bool) (s : State),
    s.pw.dev ≠ .off ∧ blockOn s 13 = true ∧ blockOn s 11 = true ∧ peBusy (s.advance t) e.val = false ∧
    sramOk c addr (len % 65536) = false :=
  ⟨5, 0x20000000, 48, 2, true, { pw := { dev := .ready, doms := [2, 2, 2, 2, 2, 2, 2, 2, 2, 2, 2, 2, 2, 2, 2, 2] }, dict := { sesCan := { isOpen := true } }, tb := { src := [0, 0, 0, 0, 0, 1, 0, 0, 0, 0, 0, 0, 0], keeper := .unqualified } }, by decide +kernel⟩

theorem wit_EnginesAreProgrammed_8 : ∃ (t : Nat) (e : Fin 8) (s : State),
    s.pw.dev ≠ .off ∧ blockOn s 13 = true ∧ blockOn s 11 = true ∧ peBusy (s.advance t) e.val = true :=
  ⟨5, 0, { pw := { dev := .ready, doms := [2, 2, 2, 2, 2, 2, 2, 2, 2, 2, 2, 2, 2, 2, 2, 2] }, mg := { peBusy := [9] }, dict := { sesCan := { isOpen := true } }, tb := { src := [0, 0, 0, 0, 0, 1, 0, 0, 0, 0, 0, 0, 0], keeper := .unqualified } }, by decide +kernel⟩

theorem wit_EnginesAreProgrammed_9 : ∃  (s : State),
    s.pw.dev ≠ .off ∧ blockOn s 11 = false :=
  ⟨{ pw := { dev := .standby } }, by decide +kernel⟩

theorem wit_EnginesAreProgrammed_10 : ∃  (s : State),
    s.pw.dev ≠ .off ∧ blockOn s 13 = false ∧ blockOn s 11 = true :=
  ⟨{ pw := { dev := .quiet, doms := [2, 2, 2, 2, 2, 2, 2, 2, 2, 2, 2, 2, 2, 2, 2, 2] }, dict := { sesCan := { isOpen := true } }, tb := { src := [0, 0, 0, 0, 0, 1, 0, 0, 0, 0, 0, 0, 0], keeper := .unqualified } }, by decide +kernel⟩

theorem wit_EnginesAreProgrammed_11 : ∃ (p : Path) (e : Fin 8) (s : State),
    s.pw.dev ≠ .off ∧ takes s p (0x2B10 + e.val) 2 [1] = true ∧
    ((engOf s e.val).st = .stopped ∨ (engOf s e.val).st = .done) ∧ (engOf s e.val).prog ≠ [] ∧ e.val < s.pat.eng.length :=
  ⟨.can, 0, { pw := { dev := .ready, doms := [2, 2, 2, 2, 2, 2, 2, 2, 2, 2, 2, 2, 2, 2, 2, 2] }, pat := { eng := [{ prog := [1], st := .done }] }, dict := { sesCan := { isOpen := true } }, tb := { src := [0, 0, 0, 0, 0, 1, 0, 0, 0, 0, 0, 0, 0], keeper := .unqualified } }, by decide +kernel⟩

theorem wit_EnginesAreProgrammed_12 : ∃ (p : Path) (e : Fin 8) (s : State),
    s.pw.dev ≠ .off ∧ takes s p (0x2B10 + e.val) 2 [1] = true ∧
    ((engOf s e.val).prog = [] ∨ ((engOf s e.val).st ≠ .stopped ∧ (engOf s e.val).st ≠ .done)) :=
  ⟨.can, 0, { pw := { dev := .ready, doms := [2, 2, 2, 2, 2, 2, 2, 2, 2, 2, 2, 2, 2, 2, 2, 2] }, dict := { sesCan := { isOpen := true } }, tb := { src := [0, 0, 0, 0, 0, 1, 0, 0, 0, 0, 0, 0, 0], keeper := .unqualified } }, by decide +kernel⟩

theorem wit_EnginesAreProgrammed_13 : ∃ (t : Nat) (e : Fin 8) (s : State),
    s.pw.dev ≠ .off ∧ blockOn s 13 = true ∧ blockOn s 11 = true ∧ peBusy (s.advance t) e.val = false ∧
    ((engOf s e.val).st = .stopped ∨ (engOf s e.val).st = .done) ∧ (engOf s e.val).prog ≠ [] ∧ e.val < s.pat.eng.length :=
  ⟨5, 0, { pw := { dev := .ready, doms := [2, 2, 2, 2, 2, 2, 2, 2, 2, 2, 2, 2, 2, 2, 2, 2] }, pat := { eng := [{ prog := [1], st := .done }] }, dict := { sesCan := { isOpen := true } }, tb := { src := [0, 0, 0, 0, 0, 1, 0, 0, 0, 0, 0, 0, 0], keeper := .unqualified } }, by decide +kernel⟩

theorem wit_EnginesAreProgrammed_14 : ∃ (t : Nat) (e : Fin 8) (s : State),
    s.pw.dev ≠ .off ∧ blockOn s 13 = true ∧ blockOn s 11 = true ∧ peBusy (s.advance t) e.val = false ∧
    ((engOf s e.val).prog = [] ∨ ((engOf s e.val).st ≠ .stopped ∧ (engOf s e.val).st ≠ .done)) :=
  ⟨5, 0, { pw := { dev := .ready, doms := [2, 2, 2, 2, 2, 2, 2, 2, 2, 2, 2, 2, 2, 2, 2, 2] }, dict := { sesCan := { isOpen := true } }, tb := { src := [0, 0, 0, 0, 0, 1, 0, 0, 0, 0, 0, 0, 0], keeper := .unqualified } }, by decide +kernel⟩

theorem wit_EnginesAreProgrammed_15 : ∃ (t : Nat) (e : Fin 8) (s : State),
    s.pw.dev ≠ .off ∧ blockOn s 13 = true ∧ blockOn s 11 = true ∧ peBusy (s.advance t) e.val = false ∧
    e.val < s.pat.eng.length :=
  ⟨5, 0, { pw := { dev := .ready, doms := [2, 2, 2, 2, 2, 2, 2, 2, 2, 2, 2, 2, 2, 2, 2, 2] }, pat := { eng := [{ prog := [1], st := .running, latched := true }] }, dict := { sesCan := { isOpen := true } }, tb := { src := [0, 0, 0, 0, 0, 1, 0, 0, 0, 0, 0, 0, 0], keeper := .unqualified } }, by decide +kernel⟩

theorem wit_EnginesAreProgrammed_16 : ∃ (p : Path) (e : Fin 8) (s : State),
    s.pw.dev ≠ .off ∧ takes s p (0x2B10 + e.val) 2 [2] = true ∧ e.val < s.pat.eng.length :=
  ⟨.can, 0, { pw := { dev := .ready, doms := [2, 2, 2, 2, 2, 2, 2, 2, 2, 2, 2, 2, 2, 2, 2, 2] }, pat := { eng := [{ prog := [1], st := .running, latched := true }] }, dict := { sesCan := { isOpen := true } }, tb := { src := [0, 0, 0, 0, 0, 1, 0, 0, 0, 0, 0, 0, 0], keeper := .unqualified } }, by decide +kernel⟩

theorem wit_EnginesAreProgrammed_17 : ∃ (p : Path) (e : Fin 8) (s : State),
    s.pw.dev ≠ .off ∧ takes s p (0x2B10 + e.val) 2 [3] = true ∧ pgTrig (engOf s e.val).prog = 0 ∧
    ((engOf s e.val).st = .armed ∨ (engOf s e.val).st = .waiting) ∧ (engOf s e.val).latched = false :=
  ⟨.can, 0, { pw := { dev := .ready, doms := [2, 2, 2, 2, 2, 2, 2, 2, 2, 2, 2, 2, 2, 2, 2, 2] }, pat := { eng := [{ prog := progOf 0, st := .armed }] }, dict := { sesCan := { isOpen := true } }, tb := { src := [0, 0, 0, 0, 0, 1, 0, 0, 0, 0, 0, 0, 0], keeper := .unqualified } }, by decide +kernel⟩

theorem wit_EnginesAreProgrammed_18 : ∃ (p : Path) (e : Fin 8) (s : State),
    s.pw.dev ≠ .off ∧ takes s p (0x2B10 + e.val) 2 [3] = true ∧ pgTrig (engOf s e.val).prog = 0 ∧
    (engTakes (engOf s e.val) = false ∨ (engOf s e.val).latched = true) :=
  ⟨.can, 0, { pw := { dev := .ready, doms := [2, 2, 2, 2, 2, 2, 2, 2, 2, 2, 2, 2, 2, 2, 2, 2] }, pat := { eng := [{ prog := progOf 0, st := .stopped }] }, dict := { sesCan := { isOpen := true } }, tb := { src := [0, 0, 0, 0, 0, 1, 0, 0, 0, 0, 0, 0, 0], keeper := .unqualified } }, by decide +kernel⟩

theorem wit_EnginesAreProgrammed_19 : ∃ (p : Path) (e : Fin 8) (s : State),
    s.pw.dev ≠ .off ∧ takes s p (0x2B10 + e.val) 2 [3] = true ∧ pgTrig (engOf s e.val).prog ≠ 0 :=
  ⟨.can, 0, { pw := { dev := .ready, doms := [2, 2, 2, 2, 2, 2, 2, 2, 2, 2, 2, 2, 2, 2, 2, 2] }, pat := { eng := [{ prog := progOf 1, st := .armed }] }, dict := { sesCan := { isOpen := true } }, tb := { src := [0, 0, 0, 0, 0, 1, 0, 0, 0, 0, 0, 0, 0], keeper := .unqualified } }, by decide +kernel⟩

theorem wit_EnginesAreProgrammed_20 : ∃ (t : Nat) (e : Fin 8) (s : State),
    s.pw.dev ≠ .off ∧ blockOn s 13 = true ∧ blockOn s 11 = true ∧ peBusy (s.advance t) e.val = false ∧
    pgTrig (engOf s e.val).prog = 0 ∧ engTakes (engOf s e.val) = true ∧ (engOf s e.val).latched = false :=
  ⟨5, 0, { pw := { dev := .ready, doms := [2, 2, 2, 2, 2, 2, 2, 2, 2, 2, 2, 2, 2, 2, 2, 2] }, pat := { eng := [{ prog := progOf 0, st := .armed }] }, dict := { sesCan := { isOpen := true } }, tb := { src := [0, 0, 0, 0, 0, 1, 0, 0, 0, 0, 0, 0, 0], keeper := .unqualified } }, by decide +kernel⟩

theorem wit_EnginesAreProgrammed_21 : ∃ (t : Nat) (e : Fin 8) (s : State),
    s.pw.dev ≠ .off ∧ blockOn s 13 = true ∧ blockOn s 11 = true ∧ peBusy (s.advance t) e.val = false ∧
    pgTrig (engOf s e.val).prog ≠ 0 :=
  ⟨5, 0, { pw := { dev := .ready, doms := [2, 2, 2, 2, 2, 2, 2, 2, 2, 2, 2, 2, 2, 2, 2, 2] }, pat := { eng := [{ prog := progOf 1, st := .armed }] }, dict := { sesCan := { isOpen := true } }, tb := { src := [0, 0, 0, 0, 0, 1, 0, 0, 0, 0, 0, 0, 0], keeper := .unqualified } }, by decide +kernel⟩

theorem wit_EnginesAreProgrammed_22 : ∃ (t : Nat) (e : Fin 8) (c : Instr) (s : State),
    s.pw.dev ≠ .off ∧ blockOn s 13 = true ∧ blockOn s 11 = true ∧ peBusy (s.advance t) e.val = true ∧
    (c = .arm t none e ∨ c = .stop t none e ∨ c = .trigger t none e) :=
  ⟨5, 0, .arm 5 none 0, { pw := { dev := .ready, doms := [2, 2, 2, 2, 2, 2, 2, 2, 2, 2, 2, 2, 2, 2, 2, 2] }, mg := { peBusy := [9] }, dict := { sesCan := { isOpen := true } }, tb := { src := [0, 0, 0, 0, 0, 1, 0, 0, 0, 0, 0, 0, 0], keeper := .unqualified } }, by decide +kernel⟩

theorem wit_EnginesAreProgrammed_23 : ∃ (t : Nat) (e : Fin 8) (c : Instr) (s : State),
    s.pw.dev ≠ .off ∧ blockOn s 11 = false ∧ (c = .arm t none e ∨ c = .stop t none e ∨ c = .trigger t none e) :=
  ⟨5, 0, .arm 5 none 0, { pw := { dev := .standby } }, by decide +kernel⟩

theorem wit_EnginesAreProgrammed_24 : ∃ (t : Nat) (e : Fin 8) (c : Instr) (s : State),
    s.pw.dev ≠ .off ∧ blockOn s 13 = false ∧ blockOn s 11 = true ∧
    (c = .arm t none e ∨ c = .stop t none e ∨ c = .trigger t none e) :=
  ⟨5, 0, .arm 5 none 0, { pw := { dev := .quiet, doms := [2, 2, 2, 2, 2, 2, 2, 2, 2, 2, 2, 2, 2, 2, 2, 2] }, dict := { sesCan := { isOpen := true } }, tb := { src := [0, 0, 0, 0, 0, 1, 0, 0, 0, 0, 0, 0, 0], keeper := .unqualified } }, by decide +kernel⟩

theorem wit_EnginesAreProgrammed_25 : ∃ (v : Nat) (s : State),
    s.pw.dev ≠ .off ∧ blockOn s 13 = true ∧ blockOn s 11 = true ∧ v < 256 :=
  ⟨5, { pw := { dev := .ready, doms := [2, 2, 2, 2, 2, 2, 2, 2, 2, 2, 2, 2, 2, 2, 2, 2] }, pat := { eng := [{ prog := progOf 0, st := .armed }, { prog := progOf 0, st := .armed }, { prog := progOf 1, st := .armed }, {}, {}, {}, {}, {}] }, dict := { sesCan := { isOpen := true } }, tb := { src := [0, 0, 0, 0, 0, 1, 0, 0, 0, 0, 0, 0, 0], keeper := .unqualified } }, by decide +kernel⟩

theorem wit_EnginesAreProgrammed_26 : ∃ (v : Nat) (p : Path) (s : State),
    s.pw.dev ≠ .off ∧ takes s p 0x2B00 1 (leBytes 1 v) = true ∧ v < 256 :=
  ⟨5, .can, { pw := { dev := .ready, doms := [2, 2, 2, 2, 2, 2, 2, 2, 2, 2, 2, 2, 2, 2, 2, 2] }, pat := { eng := [{ prog := progOf 0, st := .armed }, { prog := progOf 0, st := .armed }, { prog := progOf 1, st := .armed }, {}, {}, {}, {}, {}] }, dict := { sesCan := { isOpen := true } }, tb := { src := [0, 0, 0, 0, 0, 1, 0, 0, 0, 0, 0, 0, 0], keeper := .unqualified } }, by decide +kernel⟩

theorem wit_EnginesAreProgrammed_27 : ∃  (s : State),
    s.pw.dev ≠ .off ∧ blockOn s 11 = false :=
  ⟨{ pw := { dev := .standby } }, by decide +kernel⟩

theorem wit_EnginesAreProgrammed_28 : ∃  (s : State),
    s.pw.dev ≠ .off ∧ blockOn s 13 = false ∧ blockOn s 11 = true :=
  ⟨{ pw := { dev := .quiet, doms := [2, 2, 2, 2, 2, 2, 2, 2, 2, 2, 2, 2, 2, 2, 2, 2] }, dict := { sesCan := { isOpen := true } }, tb := { src := [0, 0, 0, 0, 0, 1, 0, 0, 0, 0, 0, 0, 0], keeper := .unqualified } }, by decide +kernel⟩

theorem wit_EnginesAreProgrammed_29 : ∃ (t : Nat) (e : Fin 8) (s : State),
    s.pw.dev ≠ .off ∧ active s = true ∧ timeDue (s.advance t) (engOf s e.val) = true ∧ e.val < s.pat.eng.length :=
  ⟨5, 0, { pw := { dev := .ready, doms := [2, 2, 2, 2, 2, 2, 2, 2, 2, 2, 2, 2, 2, 2, 2, 2] }, pat := { eng := [{ prog := progOf 1, st := .armed }] }, clk := { valid := true, sec := 1 }, dict := { sesCan := { isOpen := true } }, tb := { src := [0, 0, 0, 0, 0, 1, 0, 0, 0, 0, 0, 0, 0], keeper := .unqualified } }, by decide +kernel⟩

theorem wit_EnginesAreProgrammed_30 : ∃ (t : Nat) (e : Fin 8) (s : State),
    s.pw.dev ≠ .off ∧ (active s = false ∨ timeDue (s.advance t) (engOf s e.val) = false) :=
  ⟨5, 0, { pw := { dev := .ready, doms := [2, 2, 2, 2, 2, 2, 2, 2, 2, 2, 2, 2, 2, 2, 2, 2] }, pat := { eng := [{ prog := progOf 1, st := .armed, fired := true }] }, clk := { valid := true, sec := 1 }, dict := { sesCan := { isOpen := true } }, tb := { src := [0, 0, 0, 0, 0, 1, 0, 0, 0, 0, 0, 0, 0], keeper := .unqualified } }, by decide +kernel⟩

theorem wit_WindowsAreJudged_1 : ∃ (t : Nat) (px : Nat) (py : Nat) (s : State),
    s.pw.dev ≠ .off ∧ active s = true ∧ ticks s 8 8 = true ∧ diagRuns (s.advance t) true = true ∧ px < 2048 ∧
    py < 1024 ∧ dueAt s (2048 * py + px) ≤ (s.advance t).now ∧
    convFree (s.advance t) (keyD (2048 * py + px)) true = true ∧
    s.diag.retry.any (fun r => r == ((2048 * py + px), 4)) = false :=
  ⟨5, 3, 4, { pw := { dev := .ready, doms := [2, 2, 2, 2, 2, 2, 2, 2, 2, 2, 2, 2, 2, 2, 2, 2] }, dict := { sesCan := { isOpen := true } }, tb := { src := [0, 0, 0, 0, 0, 1, 0, 0, 0, 0, 0, 0, 0], keeper := .unqualified } }, by decide +kernel⟩

theorem wit_WindowsAreJudged_2 : ∃ (t : Nat) (px : Nat) (py : Nat) (rail : Nat) (vf : Nat) (s : State),
    s.pw.dev ≠ .off ∧ active s = true ∧ ticks s 8 8 = true ∧ diagRuns (s.advance t) false = true ∧ px < 2048 ∧
    py < 1024 ∧ dueAt s (2048 * py + px) ≤ (s.advance t).now ∧
    convFree (s.advance t) (keyD (2048 * py + px)) false = true ∧
    s.diag.retry.any (fun r => r == ((2048 * py + px), 4)) = false ∧
    dueAt s (2048 * py + px) + 2000000 ≤ (s.advance t).now ∧
    (s.arr.ramp = .force ∨ qualifies (s.advance t) (2048 * py + px) = true) ∧
    firstLive (s.advance t) (2048 * py + px) = true ∧
    (emitsHi (s.advance t) px py = false ∨ rail < (senseVf s (keyD (2048 * py + px)) vf) + 300) :=
  ⟨3000000, 0, 0, 3299, 3000, { pw := { dev := .ready, doms := [2, 2, 2, 2, 2, 2, 2, 2, 2, 2, 2, 2, 2, 2, 2, 2] }, arr := { gate := .probe [1], ramp := .force, litSince := true }, saf := { discEn := true }, diag := { due := [], readyAt := 0, senseDone := [0], baseBad := [0] }, dict := { sesCan := { isOpen := true } }, tb := { src := [0, 0, 0, 0, 0, 1, 0, 0, 0, 0, 0, 0, 0], keeper := .unqualified } }, by decide +kernel, by decide +kernel, by decide +kernel, by decide +kernel, by decide +kernel, by decide +kernel, by decide +kernel, by decide +kernel, by decide +kernel, by decide +kernel, by decide +kernel, firstLive_zero _ (by decide +kernel), by decide +kernel⟩

theorem wit_WindowsAreJudged_3 : ∃ (t : Nat) (px : Nat) (py : Nat) (rail : Nat) (vf : Nat) (i : Nat) (s : State),
    s.pw.dev ≠ .off ∧ active s = true ∧ ticks s 8 8 = true ∧ diagRuns (s.advance t) false = true ∧ px < 2048 ∧
    py < 1024 ∧ dueAt s (2048 * py + px) ≤ (s.advance t).now ∧
    convFree (s.advance t) (keyD (2048 * py + px)) false = true ∧
    s.diag.retry.any (fun r => r.1 == (2048 * py + px)) = false ∧
    dueAt s (2048 * py + px) + 2000000 ≤ (s.advance t).now ∧
    (s.arr.ramp = .force ∨ qualifies (s.advance t) (2048 * py + px) = true) ∧
    firstLive (s.advance t) (2048 * py + px) = true ∧ emitsHi (s.advance t) px py = true ∧
    (senseVf s (keyD (2048 * py + px)) vf) + 300 ≤ rail ∧
    classifyHi (s.advance t) (2048 * py + px) (senseVf s (keyD (2048 * py + px)) vf) (senseI s (keyD (2048 * py + px)) i) = 0 ∧
    keyD (2048 * py + px) ∈ s.diag.senseDone :=
  ⟨3000000, 0, 0, 3300, 3000, 40000, { pw := { dev := .ready, doms := [2, 2, 2, 2, 2, 2, 2, 2, 2, 2, 2, 2, 2, 2, 2, 2] }, arr := { gate := .probe [1], ramp := .force, litSince := true }, saf := { discEn := true }, diag := { due := [], readyAt := 0, senseDone := [0], baseBad := [0] }, dict := { sesCan := { isOpen := true } }, tb := { src := [0, 0, 0, 0, 0, 1, 0, 0, 0, 0, 0, 0, 0], keeper := .unqualified } }, by decide +kernel, by decide +kernel, by decide +kernel, by decide +kernel, by decide +kernel, by decide +kernel, by decide +kernel, by decide +kernel, by decide +kernel, by decide +kernel, by decide +kernel, firstLive_zero _ (by decide +kernel), by decide +kernel, by decide +kernel, by decide +kernel, by decide +kernel⟩

theorem wit_WindowsAreJudged_4 : ∃ (t : Nat) (px : Nat) (py : Nat) (rail : Nat) (vf : Nat) (i : Nat) (c : Nat) (s : State),
    s.pw.dev ≠ .off ∧ active s = true ∧ ticks s 8 8 = true ∧ diagRuns (s.advance t) false = true ∧ px < 2048 ∧
    py < 1024 ∧ dueAt s (2048 * py + px) ≤ (s.advance t).now ∧
    convFree (s.advance t) (keyD (2048 * py + px)) false = true ∧
    s.diag.retry.any (fun r => r.1 == (2048 * py + px)) = false ∧
    dueAt s (2048 * py + px) + 2000000 ≤ (s.advance t).now ∧
    (s.arr.ramp = .force ∨ qualifies (s.advance t) (2048 * py + px) = true) ∧
    firstLive (s.advance t) (2048 * py + px) = true ∧ emitsHi (s.advance t) px py = true ∧
    (senseVf s (keyD (2048 * py + px)) vf) + 300 ≤ rail ∧
    classifyHi (s.advance t) (2048 * py + px) (senseVf s (keyD (2048 * py + px)) vf) (senseI s (keyD (2048 * py + px)) i) = c ∧
    c ≠ 0 ∧ tableClass s (2048 * py + px) ≠ 4 ∧ c ≠ tableClass s (2048 * py + px) ∧
    keyD (2048 * py + px) ∈ s.diag.senseDone ∧
    (s.diag.retry.filter (fun r => keyD r.1 == keyD (2048 * py + px))).length < 64 :=
  ⟨3000000, 0, 0, 3300, 3000, 0, 1, { pw := { dev := .ready, doms := [2, 2, 2, 2, 2, 2, 2, 2, 2, 2, 2, 2, 2, 2, 2, 2] }, arr := { gate := .probe [1], ramp := .force, litSince := true }, saf := { discEn := true }, diag := { due := [], senseDone := [0] }, dict := { sesCan := { isOpen := true } }, tb := { src := [0, 0, 0, 0, 0, 1, 0, 0, 0, 0, 0, 0, 0], keeper := .unqualified } }, by decide +kernel, by decide +kernel, by decide +kernel, by decide +kernel, by decide +kernel, by decide +kernel, by decide +kernel, by decide +kernel, by decide +kernel, by decide +kernel, by decide +kernel, firstLive_zero _ (by decide +kernel), by decide +kernel, by decide +kernel, by decide +kernel, by decide +kernel, by decide +kernel, by decide +kernel, by decide +kernel, by decide +kernel⟩

theorem wit_WindowsAreJudged_5 : ∃ (t : Nat) (px : Nat) (py : Nat) (rail : Nat) (vf : Nat) (i : Nat) (c : Nat) (s : State),
    s.pw.dev ≠ .off ∧ active s = true ∧ ticks s 8 8 = true ∧ diagRuns (s.advance t) false = true ∧ px < 2048 ∧
    py < 1024 ∧ dueAt s (2048 * py + px) ≤ (s.advance t).now ∧
    convFree (s.advance t) (keyD (2048 * py + px)) false = true ∧
    s.diag.retry.any (fun r => r.1 == (2048 * py + px)) = false ∧
    dueAt s (2048 * py + px) + 2000000 ≤ (s.advance t).now ∧
    (s.arr.ramp = .force ∨ qualifies (s.advance t) (2048 * py + px) = true) ∧
    firstLive (s.advance t) (2048 * py + px) = true ∧ emitsHi (s.advance t) px py = true ∧
    (senseVf s (keyD (2048 * py + px)) vf) + 300 ≤ rail ∧
    classifyHi (s.advance t) (2048 * py + px) (senseVf s (keyD (2048 * py + px)) vf) (senseI s (keyD (2048 * py + px)) i) = c ∧
    c ≠ 0 ∧ tableClass s (2048 * py + px) ≠ 4 ∧ c ≠ tableClass s (2048 * py + px) ∧
    keyD (2048 * py + px) ∈ s.diag.senseDone ∧
    64 ≤ (s.diag.retry.filter (fun r => keyD r.1 == keyD (2048 * py + px))).length :=
  ⟨3000000, 0, 0, 3300, 3000, 0, 1, { pw := { dev := .ready, doms := [2, 2, 2, 2, 2, 2, 2, 2, 2, 2, 2, 2, 2, 2, 2, 2] }, arr := { gate := .probe [1], ramp := .force, litSince := true }, saf := { discEn := true }, diag := { due := [], senseDone := [0], retry := List.replicate 64 (1, 1) }, dict := { sesCan := { isOpen := true } }, tb := { src := [0, 0, 0, 0, 0, 1, 0, 0, 0, 0, 0, 0, 0], keeper := .unqualified } }, by decide +kernel, by decide +kernel, by decide +kernel, by decide +kernel, by decide +kernel, by decide +kernel, by decide +kernel, by decide +kernel, by decide +kernel, by decide +kernel, by decide +kernel, firstLive_zero _ (by decide +kernel), by decide +kernel, by decide +kernel, by decide +kernel, by decide +kernel, by decide +kernel, by decide +kernel, by decide +kernel, by decide +kernel⟩

theorem wit_WindowsAreJudged_6 : ∃ (t : Nat) (px : Nat) (py : Nat) (rail : Nat) (vf : Nat) (s : State),
    s.pw.dev ≠ .off ∧ active s = true ∧ ticks s 8 8 = true ∧ diagRuns (s.advance t) false = true ∧ px < 2048 ∧
    py < 1024 ∧ dueAt s (2048 * py + px) ≤ (s.advance t).now ∧
    convFree (s.advance t) (keyD (2048 * py + px)) false = true ∧
    s.diag.retry.any (fun r => r.1 == (2048 * py + px)) = false ∧
    dueAt s (2048 * py + px) + 2000000 ≤ (s.advance t).now ∧
    (s.arr.ramp = .force ∨ qualifies (s.advance t) (2048 * py + px) = true) ∧
    firstLive (s.advance t) (2048 * py + px) = true ∧ emitsHi (s.advance t) px py = true ∧
    (senseVf s (keyD (2048 * py + px)) vf) + 300 ≤ rail ∧ tableClass s (2048 * py + px) = 4 ∧
    keyD (2048 * py + px) ∈ s.diag.senseDone :=
  ⟨3000000, 0, 0, 3300, 3000, { pw := { dev := .ready, doms := [2, 2, 2, 2, 2, 2, 2, 2, 2, 2, 2, 2, 2, 2, 2, 2] }, arr := { gate := .probe [1], ramp := .force, litSince := true }, saf := { discEn := true }, diag := { due := [], senseDone := [0] }, nv := { table := [⟨0, 0, 4, 0, 0⟩] }, dict := { sesCan := { isOpen := true } }, tb := { src := [0, 0, 0, 0, 0, 1, 0, 0, 0, 0, 0, 0, 0], keeper := .unqualified } }, by decide +kernel, by decide +kernel, by decide +kernel, by decide +kernel, by decide +kernel, by decide +kernel, by decide +kernel, by decide +kernel, by decide +kernel, by decide +kernel, by decide +kernel, firstLive_zero _ (by decide +kernel), by decide +kernel, by decide +kernel, by decide +kernel, by decide +kernel⟩

theorem wit_WindowsAreJudged_7 : ∃ (t : Nat) (px : Nat) (py : Nat) (rail : Nat) (vf : Nat) (s : State),
    s.pw.dev ≠ .off ∧ active s = true ∧ ticks s 8 8 = true ∧ diagRuns (s.advance t) false = true ∧ px < 2048 ∧
    py < 1024 ∧ dueAt s (2048 * py + px) ≤ (s.advance t).now ∧
    convFree (s.advance t) (keyD (2048 * py + px)) false = true ∧
    s.diag.retry.any (fun r => r == ((2048 * py + px), 4)) = false ∧
    dueAt s (2048 * py + px) + 2000000 ≤ (s.advance t).now ∧
    (s.arr.ramp = .force ∨ qualifies (s.advance t) (2048 * py + px) = true) ∧
    firstLive (s.advance t) (2048 * py + px) = true ∧ emitsHi (s.advance t) px py = true ∧
    (senseVf s (keyD (2048 * py + px)) vf) + 300 ≤ rail ∧ keyD (2048 * py + px) ∉ s.diag.senseDone :=
  ⟨3000000, 0, 0, 3300, 3000, { pw := { dev := .ready, doms := [2, 2, 2, 2, 2, 2, 2, 2, 2, 2, 2, 2, 2, 2, 2, 2] }, arr := { gate := .probe [1], ramp := .force, litSince := true }, saf := { discEn := true }, diag := { due := [] }, dict := { sesCan := { isOpen := true } }, tb := { src := [0, 0, 0, 0, 0, 1, 0, 0, 0, 0, 0, 0, 0], keeper := .unqualified } }, by decide +kernel, by decide +kernel, by decide +kernel, by decide +kernel, by decide +kernel, by decide +kernel, by decide +kernel, by decide +kernel, by decide +kernel, by decide +kernel, by decide +kernel, firstLive_zero _ (by decide +kernel), by decide +kernel, by decide +kernel, by decide +kernel⟩

theorem wit_WindowsAreJudged_8 : ∃ (t : Nat) (px : Nat) (py : Nat) (rail : Nat) (vf : Nat) (i : Nat) (c : Nat) (s : State),
    s.pw.dev ≠ .off ∧ active s = true ∧ ticks s 8 8 = true ∧ diagRuns (s.advance t) false = true ∧ px < 2048 ∧
    py < 1024 ∧ dueAt s (2048 * py + px) ≤ (s.advance t).now ∧
    convFree (s.advance t) (keyD (2048 * py + px)) false = true ∧
    s.diag.retry.any (fun r => r == ((2048 * py + px), 4)) = false ∧
    s.diag.retry.any (fun r => r.1 == (2048 * py + px)) = true ∧
    dueAt s (2048 * py + px) + 2000000 ≤ (s.advance t).now ∧
    (s.arr.ramp = .force ∨ qualifies (s.advance t) (2048 * py + px) = true) ∧
    firstLive (s.advance t) (2048 * py + px) = true ∧ emitsHi (s.advance t) px py = true ∧
    (senseVf s (keyD (2048 * py + px)) vf) + 300 ≤ rail ∧
    classifyHi (s.advance t) (2048 * py + px) (senseVf s (keyD (2048 * py + px)) vf) (senseI s (keyD (2048 * py + px)) i) = c ∧
    c ≠ 0 ∧ keyD (2048 * py + px) ∈ s.diag.senseDone :=
  ⟨3000000, 0, 0, 3300, 3000, 0, 1, { pw := { dev := .ready, doms := [2, 2, 2, 2, 2, 2, 2, 2, 2, 2, 2, 2, 2, 2, 2, 2] }, arr := { gate := .probe [1], ramp := .force, litSince := true }, saf := { discEn := true }, diag := { due := [], senseDone := [0], retry := [(0, 1)] }, dict := { sesCan := { isOpen := true } }, tb := { src := [0, 0, 0, 0, 0, 1, 0, 0, 0, 0, 0, 0, 0], keeper := .unqualified } }, by decide +kernel, by decide +kernel, by decide +kernel, by decide +kernel, by decide +kernel, by decide +kernel, by decide +kernel, by decide +kernel, by decide +kernel, by decide +kernel, by decide +kernel, by decide +kernel, firstLive_zero _ (by decide +kernel), by decide +kernel, by decide +kernel, by decide +kernel, by decide +kernel, by decide +kernel⟩

theorem wit_WindowsAreJudged_9 : ∃ (t : Nat) (px : Nat) (py : Nat) (rail : Nat) (vf : Nat) (i : Nat) (s : State),
    s.pw.dev ≠ .off ∧ active s = true ∧ ticks s 8 8 = true ∧ diagRuns (s.advance t) false = true ∧ px < 2048 ∧
    py < 1024 ∧ dueAt s (2048 * py + px) ≤ (s.advance t).now ∧
    convFree (s.advance t) (keyD (2048 * py + px)) false = true ∧
    s.diag.retry.any (fun r => r == ((2048 * py + px), 4)) = false ∧
    s.diag.retry.any (fun r => r.1 == (2048 * py + px)) = true ∧
    dueAt s (2048 * py + px) + 2000000 ≤ (s.advance t).now ∧
    (s.arr.ramp = .force ∨ qualifies (s.advance t) (2048 * py + px) = true) ∧
    firstLive (s.advance t) (2048 * py + px) = true ∧ emitsHi (s.advance t) px py = true ∧
    (senseVf s (keyD (2048 * py + px)) vf) + 300 ≤ rail ∧
    classifyHi (s.advance t) (2048 * py + px) (senseVf s (keyD (2048 * py + px)) vf) (senseI s (keyD (2048 * py + px)) i) = 0 ∧
    keyD (2048 * py + px) ∈ s.diag.senseDone :=
  ⟨3000000, 0, 0, 3300, 3000, 40000, { pw := { dev := .ready, doms := [2, 2, 2, 2, 2, 2, 2, 2, 2, 2, 2, 2, 2, 2, 2, 2] }, arr := { gate := .probe [1], ramp := .force, litSince := true }, saf := { discEn := true }, diag := { due := [], readyAt := 0, senseDone := [0], baseBad := [0], retry := [(0, 1)] }, dict := { sesCan := { isOpen := true } }, tb := { src := [0, 0, 0, 0, 0, 1, 0, 0, 0, 0, 0, 0, 0], keeper := .unqualified } }, by decide +kernel, by decide +kernel, by decide +kernel, by decide +kernel, by decide +kernel, by decide +kernel, by decide +kernel, by decide +kernel, by decide +kernel, by decide +kernel, by decide +kernel, by decide +kernel, firstLive_zero _ (by decide +kernel), by decide +kernel, by decide +kernel, by decide +kernel, by decide +kernel⟩

theorem wit_WindowsAreJudged_10 : ∃ (t : Nat) (px : Nat) (py : Nat) (rail : Nat) (vf : Nat) (i : Nat) (s : State),
    s.pw.dev ≠ .off ∧ active s = true ∧ ticks s 8 8 = true ∧ diagRuns (s.advance t) false = true ∧ px < 2048 ∧
    py < 1024 ∧ dueAt s (2048 * py + px) ≤ (s.advance t).now ∧
    convFree (s.advance t) (keyD (2048 * py + px)) false = true ∧
    s.diag.retry.any (fun r => r == ((2048 * py + px), 4)) = false ∧
    pulseEnds (s.advance t) (2048 * py + px) false = true ∧ darkRuns (s.advance t) false = true ∧
    (senseVf s (keyD (2048 * py + px)) vf) + 300 ≤ rail ∧
    classifyHi (s.advance t) (2048 * py + px) (senseVf s (keyD (2048 * py + px)) vf) (senseI s (keyD (2048 * py + px)) i) = 0 ∧
    s.diag.retry.any (fun r => r.1 == (2048 * py + px)) = false :=
  ⟨2000003, 0, 0, 3300, 3000, 40000, { pw := { dev := .ready, doms := [2, 2, 2, 2, 2, 2, 2, 2, 2, 2, 2, 2, 2, 2, 2, 2] }, diag := { due := [], readyAt := 0, senseDone := [0], baseBad := [0], pulsed := [(0, 0, 3)] }, dict := { sesCan := { isOpen := true } }, tb := { src := [0, 0, 0, 0, 0, 1, 0, 0, 0, 0, 0, 0, 0], keeper := .unqualified } }, by decide +kernel⟩

theorem wit_WindowsAreJudged_11 : ∃ (t : Nat) (px : Nat) (py : Nat) (s : State),
    s.pw.dev ≠ .off ∧ active s = true ∧ ticks s 8 8 = true ∧ diagRuns (s.advance t) true = true ∧ px < 2048 ∧
    py < 1024 ∧ dueAt s (2048 * py + px) ≤ (s.advance t).now ∧
    convFree (s.advance t) (keyD (2048 * py + px)) true = true ∧
    s.diag.retry.any (fun r => r == ((2048 * py + px), 4)) = false ∧
    pulseEnds (s.advance t) (2048 * py + px) true = true ∧ darkRuns (s.advance t) true = true :=
  ⟨5, 0, 0, { pw := { dev := .ready, doms := [2, 2, 2, 2, 2, 2, 2, 2, 2, 2, 2, 2, 2, 2, 2, 2] }, diag := { pulsed := [(0, 0, 3)] }, dict := { sesCan := { isOpen := true } }, tb := { src := [0, 0, 0, 0, 0, 1, 0, 0, 0, 0, 0, 0, 0], keeper := .unqualified } }, by decide +kernel⟩

theorem wit_WindowsAreJudged_12 : ∃ (t : Nat) (px : Nat) (py : Nat) (cut : Bool) (s : State),
    s.pw.dev ≠ .off ∧
    (pulseEnds (s.advance t) (2048 * py + px) cut = false ∨ darkRuns (s.advance t) cut = false ∨ s.diag.retry.any (fun r => r == ((2048 * py + px), 4)) = true) :=
  ⟨5, 0, 0, false, { pw := { dev := .ready, doms := [2, 2, 2, 2, 2, 2, 2, 2, 2, 2, 2, 2, 2, 2, 2, 2] }, dict := { sesCan := { isOpen := true } }, tb := { src := [0, 0, 0, 0, 0, 1, 0, 0, 0, 0, 0, 0, 0], keeper := .unqualified } }, by decide +kernel⟩

theorem wit_WindowsAreJudged_13 : ∃ (t : Nat) (px : Nat) (py : Nat) (i : Nat) (s : State),
    s.pw.dev ≠ .off ∧ active s = true ∧ ticks s 8 8 = true ∧ diagRuns (s.advance t) false = true ∧ px < 2048 ∧
    py < 1024 ∧ dueAt s (2048 * py + px) ≤ (s.advance t).now ∧
    convFree (s.advance t) (keyD (2048 * py + px)) false = true ∧ hostBeam s = true ∧ sumDark s = true ∧
    s.diag.retry.any (fun r => r == ((2048 * py + px), 4)) = true ∧ firstDark (s.advance t) (2048 * py + px) = true ∧
    keyD (2048 * py + px) ∈ s.diag.senseDone ∧
    stuckLim (s.advance t) 1 (keyD (2048 * py + px)) < (senseI s (keyD (2048 * py + px)) i) :=
  ⟨1000000000000, 0, 0, 17179869184, { pw := { dev := .ready, doms := [2, 2, 2, 2, 2, 2, 2, 2, 2, 2, 2, 2, 2, 2, 2, 2] }, arr := { ramp := .tail }, diag := { due := [], senseDone := [0], retry := [(0, 4)], screenAt := [1000000000000] }, dict := { sesCan := { isOpen := true } }, tb := { src := [0, 0, 0, 0, 0, 1, 0, 0, 0, 0, 0, 0, 0], keeper := .unqualified } }, by decide +kernel, by decide +kernel, by decide +kernel, by decide +kernel, by decide +kernel, by decide +kernel, by decide +kernel, by decide +kernel, by decide +kernel, by decide +kernel, by decide +kernel, by decide +kernel, by decide +kernel, stuck_lt _ _ _ _ (by decide +kernel)⟩

theorem wit_WindowsAreJudged_14 : ∃ (t : Nat) (px : Nat) (py : Nat) (s : State),
    s.pw.dev ≠ .off ∧ active s = true ∧ ticks s 8 8 = true ∧ diagRuns (s.advance t) false = true ∧ px < 2048 ∧
    py < 1024 ∧ dueAt s (2048 * py + px) ≤ (s.advance t).now ∧
    convFree (s.advance t) (keyD (2048 * py + px)) false = true ∧ hostBeam s = true ∧ sumDark s = true ∧
    s.diag.retry.any (fun r => r == ((2048 * py + px), 4)) = true ∧ firstDark (s.advance t) (2048 * py + px) = true ∧
    keyD (2048 * py + px) ∉ s.diag.senseDone :=
  ⟨1000000000000, 0, 0, { pw := { dev := .ready, doms := [2, 2, 2, 2, 2, 2, 2, 2, 2, 2, 2, 2, 2, 2, 2, 2] }, arr := { ramp := .tail }, diag := { due := [], retry := [(0, 4)], screenAt := [1000000000000] }, dict := { sesCan := { isOpen := true } }, tb := { src := [0, 0, 0, 0, 0, 1, 0, 0, 0, 0, 0, 0, 0], keeper := .unqualified } }, by decide +kernel⟩

theorem wit_WindowsAreJudged_15 : ∃ (t : Nat) (px : Nat) (py : Nat) (s : State),
    s.pw.dev ≠ .off ∧ active s = true ∧ ticks s 8 8 = true ∧ diagRuns (s.advance t) true = true ∧ px < 2048 ∧
    py < 1024 ∧ dueAt s (2048 * py + px) ≤ (s.advance t).now ∧
    convFree (s.advance t) (keyD (2048 * py + px)) true = true ∧
    s.diag.retry.any (fun r => r == ((2048 * py + px), 4)) = true ∧ darkRuns (s.advance t) true = true :=
  ⟨5, 0, 0, { pw := { dev := .ready, doms := [2, 2, 2, 2, 2, 2, 2, 2, 2, 2, 2, 2, 2, 2, 2, 2] }, arr := { ramp := .tail }, diag := { due := [], retry := [(0, 4)] }, dict := { sesCan := { isOpen := true } }, tb := { src := [0, 0, 0, 0, 0, 1, 0, 0, 0, 0, 0, 0, 0], keeper := .unqualified } }, by decide +kernel⟩

theorem wit_WindowsAreJudged_16 : ∃ (t : Nat) (px : Nat) (py : Nat) (cut : Bool) (s : State),
    s.pw.dev ≠ .off ∧
    (s.diag.retry.any (fun r => r == ((2048 * py + px), 4)) = false ∨ darkRuns (s.advance t) cut = false ∨ (cut = false ∧
    (sumDark s = false ∨ firstDark (s.advance t) (2048 * py + px) = false))) :=
  ⟨5, 0, 0, false, { pw := { dev := .ready, doms := [2, 2, 2, 2, 2, 2, 2, 2, 2, 2, 2, 2, 2, 2, 2, 2] }, dict := { sesCan := { isOpen := true } }, tb := { src := [0, 0, 0, 0, 0, 1, 0, 0, 0, 0, 0, 0, 0], keeper := .unqualified } }, by decide +kernel⟩

theorem wit_WindowsAreJudged_17 : ∃  (s : State),
    s.pw.dev ≠ .off :=
  ⟨{ pw := { dev := .ready, doms := [2, 2, 2, 2, 2, 2, 2, 2, 2, 2, 2, 2, 2, 2, 2, 2] }, dict := { sesCan := { isOpen := true } }, tb := { src := [0, 0, 0, 0, 0, 1, 0, 0, 0, 0, 0, 0, 0], keeper := .unqualified } }, by decide +kernel⟩

theorem wit_WindowsAreJudged_18 : ∃ (t : Nat) (px : Nat) (py : Nat) (cut : Bool) (s : State),
    s.pw.dev ≠ .off ∧
    (active s = false ∨ ticks s 8 8 = false ∨ diagRuns (s.advance t) cut = false ∨ 2048 ≤ px ∨ 1024 ≤ py ∨ (s.advance t).now < dueAt s (2048 * py + px) ∨ convFree (s.advance t) (keyD (2048 * py + px)) cut = false) :=
  ⟨5, 0, 0, false, { pw := { dev := .ready, doms := [2, 2, 2, 2, 2, 2, 2, 2, 2, 2, 2, 2, 2, 2, 2, 2] }, diag := { readyAt := 6 }, dict := { sesCan := { isOpen := true } }, tb := { src := [0, 0, 0, 0, 0, 1, 0, 0, 0, 0, 0, 0, 0], keeper := .unqualified } }, by decide +kernel⟩

theorem wit_WindowsAreJudged_19 : ∃ (t : Nat) (px : Nat) (py : Nat) (s : State),
    s.pw.dev ≠ .off ∧
    (s.diag.retry.any (fun r => r == ((2048 * py + px), 4)) = true ∨ (s.advance t).now < dueAt s (2048 * py + px) + 2000000 ∨ (s.arr.ramp ≠ .force ∧
    qualifies (s.advance t) (2048 * py + px) = false) ∨ firstLive (s.advance t) (2048 * py + px) = false) :=
  ⟨5, 0, 0, { pw := { dev := .ready, doms := [2, 2, 2, 2, 2, 2, 2, 2, 2, 2, 2, 2, 2, 2, 2, 2] }, diag := { retry := [(0, 4)] }, dict := { sesCan := { isOpen := true } }, tb := { src := [0, 0, 0, 0, 0, 1, 0, 0, 0, 0, 0, 0, 0], keeper := .unqualified } }, by decide +kernel, Or.inl (by decide +kernel)⟩

theorem wit_WindowsAreJudged_20 : ∃ (t : Nat) (d : Fin 128) (p : Nat × Nat × Nat) (s : State),
    s.pw.dev ≠ .off ∧
    (s.diag.pulses.filter (fun q => decide ((s.advance t).now < q.2.2 + tickPs s))).find? (fun p => p.1 == d.val) = some p ∧
    probesRun s = true ∧ p.2.2 ≤ (s.advance t).now :=
  ⟨5, 0, (0, 7, 4), { pw := { dev := .lit, doms := [2, 2, 2, 2, 2, 2, 2, 2, 2, 2, 2, 2, 2, 2, 2, 2] }, saf := { permission := true }, diag := { pulses := [(0, 7, 4)] }, tb := { src := [0, 0, 0, 0, 0, 1, 0, 0, 0, 0, 0, 0, 0] }, dict := { sesCan := { isOpen := true } } }, by decide +kernel⟩

theorem wit_WindowsAreJudged_21 : ∃ (t : Nat) (d : Fin 128) (s : State),
    s.pw.dev ≠ .off ∧
    (probesRun s = false ∨ (∀ p ∈ (s.diag.pulses.filter (fun q => decide ((s.advance t).now < q.2.2 + tickPs s))).find? (fun p => p.1 == d.val), (s.advance t).now < p.2.2)) :=
  ⟨5, 0, { pw := { dev := .ready, doms := [2, 2, 2, 2, 2, 2, 2, 2, 2, 2, 2, 2, 2, 2, 2, 2] }, dict := { sesCan := { isOpen := true } }, tb := { src := [0, 0, 0, 0, 0, 1, 0, 0, 0, 0, 0, 0, 0], keeper := .unqualified } }, by decide +kernel, Or.inl (by decide +kernel)⟩

theorem wit_CalibrationsComplete_1 : ∃ (t : Nat) (sum : Nat) (d : Fin 128) (s : State),
    s.pw.dev ≠ .off ∧ active s = true ∧ hostBeam s = true ∧ tb8Ok s = true ∧ sumDark s = true ∧
    convFree (s.advance t) d.val false = true ∧ afind s.diag.search d.val = none ∧
    senseI s d.val sum - locatedIn s (128 * (d.val % 16)) (128 * (d.val / 16)) 128 128 ≤ stuckLim (s.advance t) 16384 d.val :=
  ⟨5, 0, 3, { pw := { dev := .ready, doms := [2, 2, 2, 2, 2, 2, 2, 2, 2, 2, 2, 2, 2, 2, 2, 2] }, arr := { ramp := .tail }, tb := { src := [0, 0, 0, 0, 0, 1, 0, 0, 0, 0, 0, 0, 0] }, dict := { sesCan := { isOpen := true } } }, by decide +kernel, by decide +kernel, by decide +kernel, by decide +kernel, by decide +kernel, by decide +kernel, by decide +kernel, Nat.le_trans (by decide +kernel : _ ≤ 0) (Nat.zero_le _)⟩

theorem wit_CalibrationsComplete_2 : ∃ (t : Nat) (sum : Nat) (d : Fin 128) (s : State),
    s.pw.dev ≠ .off ∧ active s = true ∧ hostBeam s = true ∧ tb8Ok s = true ∧ sumDark s = true ∧
    convFree (s.advance t) d.val false = true ∧ afind s.diag.search d.val = none ∧
    stuckLim (s.advance t) 16384 d.val < senseI s d.val sum - locatedIn s (128 * (d.val % 16)) (128 * (d.val / 16)) 128 128 :=
  ⟨5, 17179869184, 3, { pw := { dev := .ready, doms := [2, 2, 2, 2, 2, 2, 2, 2, 2, 2, 2, 2, 2, 2, 2, 2] }, arr := { ramp := .tail }, tb := { src := [0, 0, 0, 0, 0, 1, 0, 0, 0, 0, 0, 0, 0] }, dict := { sesCan := { isOpen := true } } }, by decide +kernel, by decide +kernel, by decide +kernel, by decide +kernel, by decide +kernel, by decide +kernel, by decide +kernel, stuck_lt _ _ _ _ (by decide +kernel)⟩

theorem wit_CalibrationsComplete_3 : ∃ (t : Nat) (d : Fin 128) (q : StuckRect) (s : State),
    s.pw.dev ≠ .off ∧ active s = true ∧ hostBeam s = true ∧ tb8Ok s = true ∧ sumDark s = true ∧
    convFree (s.advance t) d.val false = true ∧ afind s.diag.search d.val = some q ∧ 1 < q.h ∧ q.w * (q.h / 2) ≠ 1 :=
  ⟨5, 3, ⟨384, 0, 128, 128, 9⟩, { pw := { dev := .ready, doms := [2, 2, 2, 2, 2, 2, 2, 2, 2, 2, 2, 2, 2, 2, 2, 2] }, arr := { ramp := .tail }, tb := { src := [0, 0, 0, 0, 0, 1, 0, 0, 0, 0, 0, 0, 0] }, diag := { search := [(3, ⟨384, 0, 128, 128, 9⟩)] }, dict := { sesCan := { isOpen := true } } }, by decide +kernel⟩

theorem wit_CalibrationsComplete_4 : ∃ (t : Nat) (d : Fin 128) (q : StuckRect) (s : State),
    s.pw.dev ≠ .off ∧ active s = true ∧ hostBeam s = true ∧ tb8Ok s = true ∧ sumDark s = true ∧
    convFree (s.advance t) d.val false = true ∧ afind s.diag.search d.val = some q ∧ q.h = 1 ∧ 1 < q.w ∧ q.w / 2 ≠ 1 :=
  ⟨5, 3, ⟨384, 0, 128, 1, 9⟩, { pw := { dev := .ready, doms := [2, 2, 2, 2, 2, 2, 2, 2, 2, 2, 2, 2, 2, 2, 2, 2] }, arr := { ramp := .tail }, tb := { src := [0, 0, 0, 0, 0, 1, 0, 0, 0, 0, 0, 0, 0] }, diag := { search := [(3, ⟨384, 0, 128, 1, 9⟩)] }, dict := { sesCan := { isOpen := true } } }, by decide +kernel⟩

theorem wit_CalibrationsComplete_5 : ∃ (t : Nat) (r : Nat) (k : Nat) (d : Fin 128) (q : StuckRect) (s : State),
    s.pw.dev ≠ .off ∧ active s = true ∧ hostBeam s = true ∧ tb8Ok s = true ∧ sumDark s = true ∧
    convFree (s.advance t) d.val false = true ∧ afind s.diag.search d.val = some q ∧ q.h = 1 ∧ q.w = 2 ∧
    k = 2048 * q.y0 + (if stuckLim (s.advance t) 1 d.val < senseI s d.val r - locatedIn s q.x0 q.y0 1 1 then q.x0 else q.x0 + 1) ∧
    tableClass s k ≠ 4 ∧ s.diag.retry.any (fun r => r.1 == k) = false ∧ s.diag.located.any (fun l => l.1 == k) = false ∧
    keyD k = d.val ∧ (s.diag.retry.filter (fun r => keyD r.1 == d.val)).length < 64 :=
  ⟨5, 17179869184, 384, 3, ⟨384, 0, 2, 1, 9⟩, { pw := { dev := .ready, doms := [2, 2, 2, 2, 2, 2, 2, 2, 2, 2, 2, 2, 2, 2, 2, 2] }, arr := { ramp := .tail }, tb := { src := [0, 0, 0, 0, 0, 1, 0, 0, 0, 0, 0, 0, 0] }, diag := { search := [(3, ⟨384, 0, 2, 1, 9⟩)] }, dict := { sesCan := { isOpen := true } } }, by decide +kernel, by decide +kernel, by decide +kernel, by decide +kernel, by decide +kernel, by decide +kernel, by decide +kernel, by decide +kernel, by decide +kernel, (by rw [if_pos (stuck_lt _ _ _ _ (by decide +kernel))]; rfl), by decide +kernel, by decide +kernel, by decide +kernel, by decide +kernel, by decide +kernel⟩

theorem wit_CalibrationsComplete_6 : ∃ (t : Nat) (r : Nat) (k : Nat) (d : Fin 128) (q : StuckRect) (s : State),
    s.pw.dev ≠ .off ∧ active s = true ∧ hostBeam s = true ∧ tb8Ok s = true ∧ sumDark s = true ∧
    convFree (s.advance t) d.val false = true ∧ afind s.diag.search d.val = some q ∧ q.h = 1 ∧ q.w = 2 ∧
    k = 2048 * q.y0 + (if stuckLim (s.advance t) 1 d.val < senseI s d.val r - locatedIn s q.x0 q.y0 1 1 then q.x0 else q.x0 + 1) ∧
    tableClass s k ≠ 4 ∧ s.diag.retry.any (fun r => r.1 == k) = false ∧ s.diag.located.any (fun l => l.1 == k) = false ∧
    keyD k = d.val ∧ 64 ≤ (s.diag.retry.filter (fun r => keyD r.1 == d.val)).length :=
  ⟨5, 17179869184, 384, 3, ⟨384, 0, 2, 1, 9⟩, { pw := { dev := .ready, doms := [2, 2, 2, 2, 2, 2, 2, 2, 2, 2, 2, 2, 2, 2, 2, 2] }, arr := { ramp := .tail }, tb := { src := [0, 0, 0, 0, 0, 1, 0, 0, 0, 0, 0, 0, 0] }, diag := { search := [(3, ⟨384, 0, 2, 1, 9⟩)], retry := List.replicate 64 (385, 1) }, dict := { sesCan := { isOpen := true } } }, by decide +kernel, by decide +kernel, by decide +kernel, by decide +kernel, by decide +kernel, by decide +kernel, by decide +kernel, by decide +kernel, by decide +kernel, (by rw [if_pos (stuck_lt _ _ _ _ (by decide +kernel))]; rfl), by decide +kernel, by decide +kernel, by decide +kernel, by decide +kernel, by decide +kernel⟩

theorem wit_CalibrationsComplete_7 : ∃ (t : Nat) (d : Fin 128) (s : State),
    s.pw.dev ≠ .off ∧
    (active s = false ∨ hostBeam s = false ∨ tb8Ok s = false ∨ sumDark s = false ∨ convFree (s.advance t) d.val false = false) :=
  ⟨5, 3, { pw := { dev := .ready, doms := [2, 2, 2, 2, 2, 2, 2, 2, 2, 2, 2, 2, 2, 2, 2, 2] }, arr := { ramp := .run }, dict := { sesCan := { isOpen := true } }, tb := { src := [0, 0, 0, 0, 0, 1, 0, 0, 0, 0, 0, 0, 0], keeper := .unqualified } }, by decide +kernel⟩

theorem wit_CalibrationsComplete_8 : ∃ (t : Nat) (s : State),
    s.pw.dev ≠ .off ∧ active s = true ∧ spanOver (s.advance t) s.diag.sweepAt (sweepPs s) = true :=
  ⟨1000000000000, { pw := { dev := .ready, doms := [2, 2, 2, 2, 2, 2, 2, 2, 2, 2, 2, 2, 2, 2, 2, 2] }, dict := { sesCan := { isOpen := true } }, tb := { src := [0, 0, 0, 0, 0, 1, 0, 0, 0, 0, 0, 0, 0], keeper := .unqualified } }, by decide +kernel⟩

theorem wit_CalibrationsComplete_9 : ∃ (t : Nat) (s : State),
    s.pw.dev ≠ .off ∧ (active s = false ∨ spanOver (s.advance t) s.diag.sweepAt (sweepPs s) = false) :=
  ⟨5, { pw := { dev := .ready, doms := [2, 2, 2, 2, 2, 2, 2, 2, 2, 2, 2, 2, 2, 2, 2, 2] }, dict := { sesCan := { isOpen := true } }, tb := { src := [0, 0, 0, 0, 0, 1, 0, 0, 0, 0, 0, 0, 0], keeper := .unqualified } }, by decide +kernel⟩

theorem wit_CalibrationsComplete_10 : ∃ (v : Nat) (p : Path) (s : State),
    s.pw.dev ≠ .off ∧ takes s p 0x2800 8 (leBytes 1 v) = true :=
  ⟨1, .can, { pw := { dev := .ready, doms := [2, 2, 2, 2, 2, 2, 2, 2, 2, 2, 2, 2, 2, 2, 2, 2] }, diag := { tableOvf := true }, saf := { causes := bmSet 0 0x51 }, dict := { sesCan := { isOpen := true } }, tb := { src := [0, 0, 0, 0, 0, 1, 0, 0, 0, 0, 0, 0, 0], keeper := .unqualified } }, by decide +kernel⟩

theorem wit_CalibrationsComplete_11 : ∃ (p : Path) (data : List Byte) (s : State),
    s.pw.dev ≠ .off ∧ takes s p 0x2850 1 data = true ∧ leField data 0 1 ≤ 127 ∧ leField data 1 3 = 0 ∧
    (∀ i < 16384, leField data (4 + 2 * i) 2 ≤ 1023) ∧ leField data 0 1 < s.diag.bank.length ∧ s.diag.cal.length = 8 ∧
    gainBusy s (leField data 0 1) = false :=
  ⟨.can, List.replicate 32772 0, { pw := { dev := .ready, doms := [2, 2, 2, 2, 2, 2, 2, 2, 2, 2, 2, 2, 2, 2, 2, 2] }, dict := { sesCan := { isOpen := true } }, tb := { src := [0, 0, 0, 0, 0, 1, 0, 0, 0, 0, 0, 0, 0], keeper := .unqualified } }, by decide +kernel, by decide +kernel, by decide +kernel, by decide +kernel, small_zeros, by decide +kernel, by decide +kernel, by decide +kernel⟩

theorem wit_CalibrationsComplete_12 : ∃ (p : Path) (data : List Byte) (s : State),
    s.pw.dev ≠ .off ∧ takes s p 0x2850 1 data = true ∧ leField data 0 1 ≤ 127 ∧ leField data 1 3 = 0 ∧
    (∀ i < 16384, leField data (4 + 2 * i) 2 ≤ 1023) ∧ gainBusy s (leField data 0 1) = true :=
  ⟨.can, List.replicate 32772 0, { pw := { dev := .ready, doms := [2, 2, 2, 2, 2, 2, 2, 2, 2, 2, 2, 2, 2, 2, 2, 2] }, quay := { loading := true, smp := { bank := [true] } }, dict := { sesCan := { isOpen := true } }, tb := { src := [0, 0, 0, 0, 0, 1, 0, 0, 0, 0, 0, 0, 0], keeper := .unqualified } }, by decide +kernel, by decide +kernel, by decide +kernel, by decide +kernel, small_zeros, by decide +kernel⟩

theorem wit_CalibrationsComplete_13 : ∃ (p : Path) (data : List Byte) (s : State),
    s.pw.dev ≠ .off ∧ takes s p 0x2850 1 data = true ∧
    (127 < leField data 0 1 ∨ leField data 1 3 ≠ 0 ∨ ∃ i < 16384, 1023 < leField data (4 + 2 * i) 2) :=
  ⟨.can, 128 :: List.replicate 32771 0, { pw := { dev := .ready, doms := [2, 2, 2, 2, 2, 2, 2, 2, 2, 2, 2, 2, 2, 2, 2, 2] }, dict := { sesCan := { isOpen := true } }, tb := { src := [0, 0, 0, 0, 0, 1, 0, 0, 0, 0, 0, 0, 0], keeper := .unqualified } }, by decide +kernel, by decide +kernel, Or.inl (by decide +kernel)⟩

theorem wit_CalibrationsComplete_14 : ∃ (t : Nat) (d : Fin 128) (s : State),
    s.pw.dev ≠ .off ∧ active s = true ∧ ticks s 8 8 = true ∧ converterBusy (s.advance t) d.val = false ∧
    s.saf.holdN = false ∧ s.diag.rextBad = false ∧ d.val < s.diag.iHi.length ∧ s.diag.cal.length = 8 :=
  ⟨5, 3, { pw := { dev := .ready, doms := [2, 2, 2, 2, 2, 2, 2, 2, 2, 2, 2, 2, 2, 2, 2, 2] }, arr := { ramp := .run }, dict := { sesCan := { isOpen := true } }, tb := { src := [0, 0, 0, 0, 0, 1, 0, 0, 0, 0, 0, 0, 0], keeper := .unqualified } }, by decide +kernel, by decide +kernel, by decide +kernel, converter_free _ _ (by decide +kernel) (by decide +kernel) (by decide +kernel) (by decide +kernel), by decide +kernel, by decide +kernel, by decide +kernel, by decide +kernel⟩

theorem wit_CalibrationsComplete_15 : ∃ (t : Nat) (d : Fin 128) (s : State),
    s.pw.dev ≠ .off ∧ active s = true ∧ ticks s 8 8 = true ∧ converterBusy (s.advance t) d.val = false ∧
    s.saf.holdN = false ∧ s.diag.rextBad = true ∧ s.diag.cal.length = 8 :=
  ⟨5, 3, { pw := { dev := .ready, doms := [2, 2, 2, 2, 2, 2, 2, 2, 2, 2, 2, 2, 2, 2, 2, 2] }, arr := { ramp := .run }, diag := { rextBad := true }, dict := { sesCan := { isOpen := true } }, tb := { src := [0, 0, 0, 0, 0, 1, 0, 0, 0, 0, 0, 0, 0], keeper := .unqualified } }, by decide +kernel, by decide +kernel, by decide +kernel, converter_free _ _ (by decide +kernel) (by decide +kernel) (by decide +kernel) (by decide +kernel), by decide +kernel, by decide +kernel, by decide +kernel⟩

theorem wit_CalibrationsComplete_16 : ∃ (t : Nat) (d : Fin 128) (s : State),
    s.pw.dev ≠ .off ∧ active s = true ∧ ticks s 8 8 = true ∧
    (converterBusy (s.advance t) d.val = true ∨ s.saf.holdN = true) :=
  ⟨5, 3, { pw := { dev := .ready, doms := [2, 2, 2, 2, 2, 2, 2, 2, 2, 2, 2, 2, 2, 2, 2, 2] }, diag := { pulsed := [(3, 7, 4)] }, dict := { sesCan := { isOpen := true } }, tb := { src := [0, 0, 0, 0, 0, 1, 0, 0, 0, 0, 0, 0, 0], keeper := .unqualified } }, by decide +kernel, by decide +kernel, by decide +kernel, Or.inl (by decide +kernel)⟩

theorem wit_CalibrationsComplete_17 : ∃  (s : State),
    s.pw.dev ≠ .off ∧ (active s = false ∨ ticks s 8 8 = false) :=
  ⟨{ pw := { dev := .quiet, doms := [2, 2, 2, 2, 2, 2, 2, 2, 2, 2, 2, 2, 2, 2, 2, 2] }, dict := { sesCan := { isOpen := true } }, tb := { src := [0, 0, 0, 0, 0, 1, 0, 0, 0, 0, 0, 0, 0], keeper := .unqualified } }, by decide +kernel⟩

theorem wit_CalibrationsComplete_18 : ∃ (t : Nat) (d : Fin 128) (s : State),
    s.pw.dev ≠ .off ∧ anaOn s = true ∧ ticks s 8 8 = true ∧ converterBusy (s.advance t) d.val = false ∧
    s.diag.rextBad = false ∧ d.val < s.diag.senseOff.length ∧ d.val < s.diag.senseGain.length ∧ s.diag.cal.length = 8 :=
  ⟨5, 3, { pw := { dev := .ready, doms := [2, 2, 2, 2, 2, 2, 2, 2, 2, 2, 2, 2, 2, 2, 2, 2] }, arr := { ramp := .run }, dict := { sesCan := { isOpen := true } }, tb := { src := [0, 0, 0, 0, 0, 1, 0, 0, 0, 0, 0, 0, 0], keeper := .unqualified } }, by decide +kernel, by decide +kernel, by decide +kernel, converter_free _ _ (by decide +kernel) (by decide +kernel) (by decide +kernel) (by decide +kernel), by decide +kernel, by decide +kernel, by decide +kernel, by decide +kernel⟩

theorem wit_CalibrationsComplete_19 : ∃ (t : Nat) (d : Fin 128) (r : Bool) (s : State),
    s.pw.dev ≠ .off ∧ anaOn s = true ∧ ticks s 8 8 = true ∧ converterBusy (s.advance t) d.val = false ∧
    (s.diag.rextBad = true ∨ r = false) ∧ s.diag.cal.length = 8 :=
  ⟨5, 3, false, { pw := { dev := .ready, doms := [2, 2, 2, 2, 2, 2, 2, 2, 2, 2, 2, 2, 2, 2, 2, 2] }, arr := { ramp := .run }, dict := { sesCan := { isOpen := true } }, tb := { src := [0, 0, 0, 0, 0, 1, 0, 0, 0, 0, 0, 0, 0], keeper := .unqualified } }, by decide +kernel, by decide +kernel, by decide +kernel, converter_free _ _ (by decide +kernel) (by decide +kernel) (by decide +kernel) (by decide +kernel), by decide +kernel, by decide +kernel⟩

theorem wit_CalibrationsComplete_20 : ∃ (t : Nat) (d : Fin 128) (s : State),
    s.pw.dev ≠ .off ∧ anaOn s = true ∧ ticks s 8 8 = true ∧ converterBusy (s.advance t) d.val = true :=
  ⟨5, 3, { pw := { dev := .ready, doms := [2, 2, 2, 2, 2, 2, 2, 2, 2, 2, 2, 2, 2, 2, 2, 2] }, diag := { pulsed := [(3, 7, 4)] }, dict := { sesCan := { isOpen := true } }, tb := { src := [0, 0, 0, 0, 0, 1, 0, 0, 0, 0, 0, 0, 0], keeper := .unqualified } }, by decide +kernel⟩

theorem wit_CalibrationsComplete_21 : ∃  (s : State),
    s.pw.dev ≠ .off ∧ (anaOn s = false ∨ ticks s 8 8 = false) :=
  ⟨{ pw := { dev := .quiet, doms := [2, 2, 2, 2, 2, 2, 2, 2, 2, 2, 2, 2, 2, 2, 0, 2] }, dict := { sesCan := { isOpen := true } }, tb := { src := [0, 0, 0, 0, 0, 1, 0, 0, 0, 0, 0, 0, 0], keeper := .unqualified } }, by decide +kernel⟩

theorem wit_CalibrationsComplete_22 : ∃  (s : State),
    s.pw.dev ≠ .off ∧ active s = true ∧ s.diag.cal.length = 8 :=
  ⟨{ pw := { dev := .ready, doms := [2, 2, 2, 2, 2, 2, 2, 2, 2, 2, 2, 2, 2, 2, 2, 2] }, diag := { vbWrong := [(3, 1)] }, dict := { sesCan := { isOpen := true } }, tb := { src := [0, 0, 0, 0, 0, 1, 0, 0, 0, 0, 0, 0, 0], keeper := .unqualified } }, by decide +kernel⟩

theorem wit_CalibrationsComplete_23 : ∃ (ohms : Nat) (s : State),
    s.pw.dev ≠ .off ∧ anaOn s = true ∧ (ohms < 9000 ∨ 11000 < ohms) :=
  ⟨8999, { pw := { dev := .ready, doms := [2, 2, 2, 2, 2, 2, 2, 2, 2, 2, 2, 2, 2, 2, 2, 2] }, dict := { sesCan := { isOpen := true } }, tb := { src := [0, 0, 0, 0, 0, 1, 0, 0, 0, 0, 0, 0, 0], keeper := .unqualified } }, by decide +kernel⟩

theorem wit_CalibrationsComplete_24 : ∃ (ohms : Nat) (s : State),
    s.pw.dev ≠ .off ∧ anaOn s = true ∧ 9000 ≤ ohms ∧ ohms ≤ 11000 :=
  ⟨11000, { pw := { dev := .ready, doms := [2, 2, 2, 2, 2, 2, 2, 2, 2, 2, 2, 2, 2, 2, 2, 2] }, diag := { rextBad := true }, dict := { sesCan := { isOpen := true } }, tb := { src := [0, 0, 0, 0, 0, 1, 0, 0, 0, 0, 0, 0, 0], keeper := .unqualified } }, by decide +kernel⟩

theorem wit_CalibrationsComplete_25 : ∃  (s : State),
    s.pw.dev ≠ .off ∧ anaOn s = false :=
  ⟨{ pw := { dev := .quiet, doms := [2, 2, 2, 2, 2, 2, 2, 2, 2, 2, 2, 2, 2, 2, 0, 2] }, dict := { sesCan := { isOpen := true } }, tb := { src := [0, 0, 0, 0, 0, 1, 0, 0, 0, 0, 0, 0, 0], keeper := .unqualified } }, by decide +kernel⟩

theorem wit_CalibrationsComplete_26 : ∃  (s : State),
    s.pw.dev ≠ .off ∧ active s = false :=
  ⟨{ pw := { dev := .quiet, doms := [2, 2, 2, 2, 2, 2, 2, 2, 2, 2, 2, 2, 2, 2, 2, 2] }, dict := { sesCan := { isOpen := true } }, tb := { src := [0, 0, 0, 0, 0, 1, 0, 0, 0, 0, 0, 0, 0], keeper := .unqualified } }, by decide +kernel⟩

theorem wit_CalibrationsComplete_27 : ∃ (k : Fin 8) (s : State),
    s.pw.dev ≠ .off ∧ k.val < s.diag.cal.length :=
  ⟨7, { pw := { dev := .ready, doms := [2, 2, 2, 2, 2, 2, 2, 2, 2, 2, 2, 2, 2, 2, 2, 2] }, dict := { sesCan := { isOpen := true } }, tb := { src := [0, 0, 0, 0, 0, 1, 0, 0, 0, 0, 0, 0, 0], keeper := .unqualified } }, by decide +kernel⟩

theorem wit_CalibrationsComplete_28 : ∃ (t : Nat) (offs : List Int) (s : State),
    s.pw.dev ≠ .off ∧ anaOn s = true ∧ (active s = false ∨ ((s.arr.ramp = .tail ∨ (s.arr.ramp = .pause ∧
    wholeOff s = true)) ∧ s.arr.rampAt + 20000000 ≤ (s.advance t).now)) ∧ offs.length = 8 ∧ s.diag.cal.length = 8 :=
  ⟨5, [1, 2, 3, 4, 5, 6, 7, 8], { pw := { dev := .quiet, doms := [2, 2, 2, 2, 2, 2, 2, 2, 2, 2, 2, 2, 2, 2, 2, 2] }, dict := { sesCan := { isOpen := true } }, tb := { src := [0, 0, 0, 0, 0, 1, 0, 0, 0, 0, 0, 0, 0], keeper := .unqualified } }, by decide +kernel⟩

theorem wit_CalibrationsComplete_29 : ∃ (t : Nat) (s : State),
    s.pw.dev ≠ .off ∧ anaOn s = true ∧ active s = true ∧ (s.arr.ramp = .tail ∨ (s.arr.ramp = .pause ∧
    wholeOff s = true)) ∧ (s.advance t).now < s.arr.rampAt + 20000000 :=
  ⟨5, { pw := { dev := .ready, doms := [2, 2, 2, 2, 2, 2, 2, 2, 2, 2, 2, 2, 2, 2, 2, 2] }, arr := { ramp := .tail }, dict := { sesCan := { isOpen := true } }, tb := { src := [0, 0, 0, 0, 0, 1, 0, 0, 0, 0, 0, 0, 0], keeper := .unqualified } }, by decide +kernel⟩

theorem wit_CalibrationsComplete_30 : ∃  (s : State),
    s.pw.dev ≠ .off ∧ (anaOn s = false ∨ (active s = true ∧ s.arr.ramp ≠ .tail ∧
    (s.arr.ramp ≠ .pause ∨ wholeOff s = false))) :=
  ⟨{ pw := { dev := .ready, doms := [2, 2, 2, 2, 2, 2, 2, 2, 2, 2, 2, 2, 2, 2, 2, 2] }, arr := { ramp := .run }, dict := { sesCan := { isOpen := true } }, tb := { src := [0, 0, 0, 0, 0, 1, 0, 0, 0, 0, 0, 0, 0], keeper := .unqualified } }, by decide +kernel⟩

theorem wit_CalibrationsComplete_31 : ∃  (s : State),
    s.pw.dev ≠ .off ∧ anaOn s = true ∧ s.diag.cal.length = 8 :=
  ⟨{ pw := { dev := .ready, doms := [2, 2, 2, 2, 2, 2, 2, 2, 2, 2, 2, 2, 2, 2, 2, 2] }, dict := { sesCan := { isOpen := true } }, tb := { src := [0, 0, 0, 0, 0, 1, 0, 0, 0, 0, 0, 0, 0], keeper := .unqualified } }, by decide +kernel⟩

theorem wit_CalibrationsComplete_32 : ∃  (s : State),
    s.pw.dev ≠ .off ∧ anaOn s = false :=
  ⟨{ pw := { dev := .quiet, doms := [2, 2, 2, 2, 2, 2, 2, 2, 2, 2, 2, 2, 2, 2, 0, 2] }, dict := { sesCan := { isOpen := true } }, tb := { src := [0, 0, 0, 0, 0, 1, 0, 0, 0, 0, 0, 0, 0], keeper := .unqualified } }, by decide +kernel⟩

theorem wit_TheControlEngineSamples_1 : ∃  (s : State),
    s.pw.dev ≠ .off ∧ maySwitch s = true ∧ nth s.tb.src 7 2 ≠ 2 ∧ s.sup.clearPend = false ∧ s.sup.ovTrip = false ∧
    s.sup.mode = .sampled :=
  ⟨{ pw := { dev := .lit, doms := [2, 2, 2, 2, 2, 2, 2, 2, 2, 2, 2, 2, 2, 2, 2, 2] }, saf := { discEn := true, discFb := true, closeOk := true }, sup := { mode := .sampled, p := 12884901888000, acc := 7 }, tb := { src := [0, 0, 0, 0, 0, 1, 0, 1, 0, 0, 0, 0, 0] }, dict := { sesCan := { isOpen := true } } }, by decide +kernel⟩

theorem wit_TheControlEngineSamples_2 : ∃  (s : State),
    s.pw.dev ≠ .off ∧ maySwitch s = true ∧ nth s.tb.src 7 2 ≠ 2 ∧ s.sup.clearPend = false ∧ s.sup.ovTrip = false ∧
    s.sup.mode ≠ .sampled :=
  ⟨{ pw := { dev := .lit, doms := [2, 2, 2, 2, 2, 2, 2, 2, 2, 2, 2, 2, 2, 2, 2, 2] }, saf := { discEn := true, discFb := true, closeOk := true, causes := bmSet 0 0x8E }, sup := { mode := .freeRunning }, tb := { src := [0, 0, 0, 0, 0, 1, 0, 1, 0, 0, 0, 0, 0] }, dict := { sesCan := { isOpen := true } } }, by decide +kernel⟩

theorem wit_TheControlEngineSamples_3 : ∃  (s : State),
    s.pw.dev ≠ .off ∧ active s = true ∧ blockOn s 6 = true ∧ nth s.tb.src 7 2 ≠ 2 ∧ maySwitch s = false :=
  ⟨{ pw := { dev := .lit, doms := [2, 2, 2, 2, 2, 2, 2, 2, 2, 2, 2, 2, 2, 2, 2, 2] }, saf := { discFb := true, closeOk := true, discEn := false }, sup := { mode := .sampled, clearPend := true, prof := [(3, 4)], w := 5, rep := .learning }, tb := { src := [0, 0, 0, 0, 0, 1, 0, 1, 0, 0, 0, 0, 0] }, dict := { sesCan := { isOpen := true } } }, by decide +kernel⟩

theorem wit_TheControlEngineSamples_4 : ∃  (s : State),
    s.pw.dev ≠ .off ∧ active s = true ∧ blockOn s 6 = true ∧ nth s.tb.src 7 2 ≠ 2 ∧ maySwitch s = true ∧
    s.sup.ovTrip = true :=
  ⟨{ pw := { dev := .lit, doms := [2, 2, 2, 2, 2, 2, 2, 2, 2, 2, 2, 2, 2, 2, 2, 2] }, saf := { discEn := true, discFb := true, closeOk := true }, sup := { mode := .sampled, ovTrip := true, acc := 3 }, tb := { src := [0, 0, 0, 0, 0, 1, 0, 1, 0, 0, 0, 0, 0] }, dict := { sesCan := { isOpen := true } } }, by decide +kernel⟩

theorem wit_TheControlEngineSamples_5 : ∃  (s : State),
    s.pw.dev ≠ .off ∧ (active s = false ∨ blockOn s 6 = false ∨ nth s.tb.src 7 2 = 2) :=
  ⟨{ pw := { dev := .quiet, doms := [2, 2, 2, 2, 2, 2, 2, 2, 2, 2, 2, 2, 2, 2, 2, 2] }, dict := { sesCan := { isOpen := true } }, tb := { src := [0, 0, 0, 0, 0, 1, 0, 0, 0, 0, 0, 0, 0], keeper := .unqualified } }, by decide +kernel⟩

theorem wit_TheControlEngineSamples_6 : ∃  (s : State),
    s.pw.dev ≠ .off ∧ active s = true ∧ blockOn s 6 = true ∧ s.sup.mode ≠ .freeRunning ∧ 1000 ≤ s.sup.levelCnt :=
  ⟨{ pw := { dev := .ready, doms := [2, 2, 2, 2, 2, 2, 2, 2, 2, 2, 2, 2, 2, 2, 2, 2] }, sup := { lp := 99, levelCnt := 1000 }, dict := { sesCan := { isOpen := true } }, tb := { src := [0, 0, 0, 0, 0, 1, 0, 0, 0, 0, 0, 0, 0], keeper := .unqualified } }, by decide +kernel⟩

theorem wit_TheControlEngineSamples_7 : ∃  (s : State),
    s.pw.dev ≠ .off ∧ (active s = false ∨ blockOn s 6 = false ∨ s.sup.mode = .freeRunning ∨ s.sup.levelCnt < 1000) :=
  ⟨{ pw := { dev := .ready, doms := [2, 2, 2, 2, 2, 2, 2, 2, 2, 2, 2, 2, 2, 2, 2, 2] }, sup := { lp := 99, levelCnt := 999 }, dict := { sesCan := { isOpen := true } }, tb := { src := [0, 0, 0, 0, 0, 1, 0, 0, 0, 0, 0, 0, 0], keeper := .unqualified } }, by decide +kernel⟩

theorem wit_TheControlEngineSamples_8 : ∃ (v : Nat) (p : Path) (s : State),
    s.pw.dev ≠ .off ∧ takes s p 0x2903 5 (leBytes 1 v) = true :=
  ⟨1, .can, { pw := { dev := .ready, doms := [2, 2, 2, 2, 2, 2, 2, 2, 2, 2, 2, 2, 2, 2, 2, 2] }, dict := { sesCan := { isOpen := true } }, tb := { src := [0, 0, 0, 0, 0, 1, 0, 0, 0, 0, 0, 0, 0], keeper := .unqualified } }, by decide +kernel⟩

theorem wit_PhasesSwitch_1 : ∃ (ph : Fin 4) (s : State),
    s.pw.dev ≠ .off ∧ phaseRuns s ph.val = false ∧ s.sup.phg.length = 4 :=
  ⟨2, { pw := { dev := .lit, doms := [2, 2, 2, 2, 2, 2, 2, 2, 2, 2, 2, 2, 2, 2, 2, 2] }, saf := { discEn := true, discFb := true, closeOk := true }, sup := { phg := [true, true, true, true], senseHeld := [0, 0, 1, 0], mode := .sampled }, tb := { src := [0, 0, 0, 0, 0, 1, 0, 1, 0, 0, 0, 0, 0] }, dict := { sesCan := { isOpen := true } } }, by decide +kernel⟩

theorem wit_PhasesSwitch_2 : ∃ (ph : Fin 4) (i : Int) (s : State),
    s.pw.dev ≠ .off ∧ phaseRuns s ph.val = true ∧ (s.sup.phaseLimit : Int) < i ∧ s.sup.phg.length = 4 ∧
    s.sup.limitHit.length = 4 :=
  ⟨2, 8001, { pw := { dev := .lit, doms := [2, 2, 2, 2, 2, 2, 2, 2, 2, 2, 2, 2, 2, 2, 2, 2] }, saf := { discEn := true, discFb := true, closeOk := true }, sup := { phg := [true, true, true, true], mode := .sampled }, tb := { src := [0, 0, 0, 0, 0, 1, 0, 1, 0, 0, 0, 0, 0] }, dict := { sesCan := { isOpen := true } } }, by decide +kernel⟩

theorem wit_PhasesSwitch_3 : ∃ (ph : Fin 4) (i : Int) (s : State),
    s.pw.dev ≠ .off ∧ phaseRuns s ph.val = true ∧ i ≤ (s.sup.phaseLimit : Int) ∧ s.sup.mode = .sampled ∧
    nth s.sup.phg ph.val false = false ∧ s.sup.phg.length = 4 :=
  ⟨2, -5, { pw := { dev := .lit, doms := [2, 2, 2, 2, 2, 2, 2, 2, 2, 2, 2, 2, 2, 2, 2, 2] }, saf := { discEn := true, discFb := true, closeOk := true }, sup := { mode := .sampled, bandStage := { e := 32, m := [0, 0, 5, 0, 0, 0, 1, 0] } }, tb := { src := [0, 0, 0, 0, 0, 1, 0, 1, 0, 0, 0, 0, 0] }, dict := { sesCan := { isOpen := true } } }, by decide +kernel⟩

theorem wit_PhasesSwitch_4 : ∃ (ph : Fin 4) (i : Int) (s : State),
    s.pw.dev ≠ .off ∧ phaseRuns s ph.val = true ∧ i ≤ (s.sup.phaseLimit : Int) ∧ s.sup.mode = .sampled ∧
    nth s.sup.phg ph.val false = true ∧ s.sup.phg.length = 4 :=
  ⟨2, 7, { pw := { dev := .lit, doms := [2, 2, 2, 2, 2, 2, 2, 2, 2, 2, 2, 2, 2, 2, 2, 2] }, saf := { discEn := true, discFb := true, closeOk := true }, sup := { mode := .sampled, phg := [true, true, true, true], bandStage := { e := 32, m := [0, 0, 5, 0, 0, 0, 1, 0] } }, tb := { src := [0, 0, 0, 0, 0, 1, 0, 1, 0, 0, 0, 0, 0] }, dict := { sesCan := { isOpen := true } } }, by decide +kernel⟩

theorem wit_PhasesSwitch_5 : ∃ (ph : Fin 4) (i : Int) (s : State),
    s.pw.dev ≠ .off ∧ phaseRuns s ph.val = true ∧ i ≤ (s.sup.phaseLimit : Int) ∧ s.sup.mode ≠ .sampled :=
  ⟨2, 9, { pw := { dev := .lit, doms := [2, 2, 2, 2, 2, 2, 2, 2, 2, 2, 2, 2, 2, 2, 2, 2] }, saf := { discEn := true, discFb := true, closeOk := true }, sup := { mode := .freeRunning }, tb := { src := [0, 0, 0, 0, 0, 1, 0, 1, 0, 0, 0, 0, 0] }, dict := { sesCan := { isOpen := true } } }, by decide +kernel⟩

theorem wit_PhasesSwitch_6 : ∃ (t : Nat) (s : State),
    s.pw.dev ≠ .off ∧ maySwitch s = true ∧ s.sup.mode ≠ .freeRunning ∧ s.sup.sampleAt + 5000000 ≤ (s.advance t).now ∧
    bmGet s.saf.causes 0x8E = false :=
  ⟨5000000, { pw := { dev := .lit, doms := [2, 2, 2, 2, 2, 2, 2, 2, 2, 2, 2, 2, 2, 2, 2, 2] }, saf := { discEn := true, discFb := true, closeOk := true }, sup := {  }, tb := { src := [0, 0, 0, 0, 0, 1, 0, 1, 0, 0, 0, 0, 0] }, dict := { sesCan := { isOpen := true } } }, by decide +kernel⟩

theorem wit_PhasesSwitch_7 : ∃ (t : Nat) (s : State),
    s.pw.dev ≠ .off ∧ (maySwitch s = false ∨ s.sup.mode = .freeRunning ∨ (s.advance t).now < s.sup.sampleAt + 5000000) :=
  ⟨4999999, { pw := { dev := .lit, doms := [2, 2, 2, 2, 2, 2, 2, 2, 2, 2, 2, 2, 2, 2, 2, 2] }, saf := { discEn := true, discFb := true, closeOk := true }, sup := {  }, tb := { src := [0, 0, 0, 0, 0, 1, 0, 1, 0, 0, 0, 0, 0] }, dict := { sesCan := { isOpen := true } } }, by decide +kernel⟩

theorem wit_PhasesSwitch_8 : ∃ (v : Nat) (s : State),
    s.pw.dev ≠ .off ∧ s.sup.mode = .freeRunning ∧ maySwitch s = true ∧ v + 50 < s.sup.vHold ∧ s.sup.phg.length = 4 :=
  ⟨2700, { pw := { dev := .lit, doms := [2, 2, 2, 2, 2, 2, 2, 2, 2, 2, 2, 2, 2, 2, 2, 2] }, saf := { discEn := true, discFb := true, closeOk := true }, sup := { mode := .freeRunning }, tb := { src := [0, 0, 0, 0, 0, 1, 0, 1, 0, 0, 0, 0, 0] }, dict := { sesCan := { isOpen := true } } }, by decide +kernel⟩

theorem wit_PhasesSwitch_9 : ∃ (v : Nat) (s : State),
    s.pw.dev ≠ .off ∧ s.sup.mode = .freeRunning ∧ maySwitch s = true ∧ s.sup.vHold + 50 < v ∧ s.sup.phg.length = 4 :=
  ⟨2900, { pw := { dev := .lit, doms := [2, 2, 2, 2, 2, 2, 2, 2, 2, 2, 2, 2, 2, 2, 2, 2] }, saf := { discEn := true, discFb := true, closeOk := true }, sup := { mode := .freeRunning, phg := [true, true, true, true] }, tb := { src := [0, 0, 0, 0, 0, 1, 0, 1, 0, 0, 0, 0, 0] }, dict := { sesCan := { isOpen := true } } }, by decide +kernel⟩

theorem wit_PhasesSwitch_10 : ∃ (v : Nat) (s : State),
    s.pw.dev ≠ .off ∧ s.sup.mode = .freeRunning ∧ maySwitch s = true ∧ s.sup.vHold ≤ v + 50 ∧ v ≤ s.sup.vHold + 50 :=
  ⟨2800, { pw := { dev := .lit, doms := [2, 2, 2, 2, 2, 2, 2, 2, 2, 2, 2, 2, 2, 2, 2, 2] }, saf := { discEn := true, discFb := true, closeOk := true }, sup := { mode := .freeRunning }, tb := { src := [0, 0, 0, 0, 0, 1, 0, 1, 0, 0, 0, 0, 0] }, dict := { sesCan := { isOpen := true } } }, by decide +kernel⟩

theorem wit_PhasesSwitch_11 : ∃  (s : State),
    s.pw.dev ≠ .off ∧ maySwitch s = true ∧ s.sup.mode ≠ .freeRunning :=
  ⟨{ pw := { dev := .lit, doms := [2, 2, 2, 2, 2, 2, 2, 2, 2, 2, 2, 2, 2, 2, 2, 2] }, saf := { discEn := true, discFb := true, closeOk := true }, sup := { mode := .sampled }, tb := { src := [0, 0, 0, 0, 0, 1, 0, 1, 0, 0, 0, 0, 0] }, dict := { sesCan := { isOpen := true } } }, by decide +kernel⟩

theorem wit_PhasesSwitch_12 : ∃  (s : State),
    s.pw.dev ≠ .off ∧ maySwitch s = false :=
  ⟨{ pw := { dev := .ready, doms := [2, 2, 2, 2, 2, 2, 2, 2, 2, 2, 2, 2, 2, 2, 2, 2] }, sup := { phg := [true, true, true, true], mode := .freeRunning }, dict := { sesCan := { isOpen := true } }, tb := { src := [0, 0, 0, 0, 0, 1, 0, 0, 0, 0, 0, 0, 0], keeper := .unqualified } }, by decide +kernel⟩

theorem wit_StageFaultsAreTaken_1 : ∃ (t : Nat) (v : Nat) (s : State),
    s.pw.dev ≠ .off ∧ active s = true ∧ blockOn s 6 = true ∧ s.sup.ovTrip = false ∧ s.sup.ovLimit < v ∧
    recent (s.advance t) s.sup.ovRestartAt = false ∧ 0x80 < s.saf.transients.length :=
  ⟨5, 4801, { pw := { dev := .lit, doms := [2, 2, 2, 2, 2, 2, 2, 2, 2, 2, 2, 2, 2, 2, 2, 2] }, saf := { discEn := true, discFb := true, closeOk := true }, sup := { phg := [true, true, true, true] }, tb := { src := [0, 0, 0, 0, 0, 1, 0, 1, 0, 0, 0, 0, 0] }, dict := { sesCan := { isOpen := true } } }, by decide +kernel⟩

theorem wit_StageFaultsAreTaken_2 : ∃ (t : Nat) (v : Nat) (s : State),
    s.pw.dev ≠ .off ∧ active s = true ∧ blockOn s 6 = true ∧ s.sup.ovTrip = false ∧ s.sup.ovLimit < v ∧
    recent (s.advance t) s.sup.ovRestartAt = true :=
  ⟨5, 4801, { pw := { dev := .lit, doms := [2, 2, 2, 2, 2, 2, 2, 2, 2, 2, 2, 2, 2, 2, 2, 2] }, saf := { discEn := true, discFb := true, closeOk := true }, sup := { phg := [true, true, true, true], ovRestartAt := some 3 }, tb := { src := [0, 0, 0, 0, 0, 1, 0, 1, 0, 0, 0, 0, 0] }, dict := { sesCan := { isOpen := true } } }, by decide +kernel⟩

theorem wit_StageFaultsAreTaken_3 : ∃ (v : Nat) (s : State),
    s.pw.dev ≠ .off ∧ (active s = false ∨ blockOn s 6 = false ∨ s.sup.ovTrip = true ∨ v ≤ s.sup.ovLimit) :=
  ⟨4800, { pw := { dev := .lit, doms := [2, 2, 2, 2, 2, 2, 2, 2, 2, 2, 2, 2, 2, 2, 2, 2] }, saf := { discEn := true, discFb := true, closeOk := true }, sup := {  }, tb := { src := [0, 0, 0, 0, 0, 1, 0, 1, 0, 0, 0, 0, 0] }, dict := { sesCan := { isOpen := true } } }, by decide +kernel⟩

theorem wit_StageFaultsAreTaken_4 : ∃ (v : Nat) (s : State),
    s.pw.dev ≠ .off ∧ s.sup.ovTrip = true ∧ v + 200 < s.sup.ovLimit :=
  ⟨4599, { pw := { dev := .lit, doms := [2, 2, 2, 2, 2, 2, 2, 2, 2, 2, 2, 2, 2, 2, 2, 2] }, saf := { discEn := true, discFb := true, closeOk := true }, sup := { ovTrip := true, mode := .sampled, acc := 4 }, tb := { src := [0, 0, 0, 0, 0, 1, 0, 1, 0, 0, 0, 0, 0] }, dict := { sesCan := { isOpen := true } } }, by decide +kernel⟩

theorem wit_StageFaultsAreTaken_5 : ∃ (v : Nat) (s : State),
    s.pw.dev ≠ .off ∧ (s.sup.ovTrip = false ∨ s.sup.ovLimit ≤ v + 200) :=
  ⟨4600, { pw := { dev := .lit, doms := [2, 2, 2, 2, 2, 2, 2, 2, 2, 2, 2, 2, 2, 2, 2, 2] }, saf := { discEn := true, discFb := true, closeOk := true }, sup := { ovTrip := true }, tb := { src := [0, 0, 0, 0, 0, 1, 0, 1, 0, 0, 0, 0, 0] }, dict := { sesCan := { isOpen := true } } }, by decide +kernel⟩

theorem wit_StageFaultsAreTaken_6 : ∃ (t : Nat) (v : Nat) (s : State),
    s.pw.dev ≠ .off ∧ s.sup.mode ≠ .off ∧ maySwitch s = true ∧ s.sup.ovTrip = false ∧ (v : Int) < vSet s - 400 ∧
    recent (s.advance t) s.sup.uvAt = false :=
  ⟨5, 2599, { pw := { dev := .lit, doms := [2, 2, 2, 2, 2, 2, 2, 2, 2, 2, 2, 2, 2, 2, 2, 2] }, saf := { discEn := true, discFb := true, closeOk := true }, sup := { mode := .sampled, p := 12884901888000 }, tb := { src := [0, 0, 0, 0, 0, 1, 0, 1, 0, 0, 0, 0, 0] }, dict := { sesCan := { isOpen := true } } }, by decide +kernel⟩

theorem wit_StageFaultsAreTaken_7 : ∃ (t : Nat) (v : Nat) (s : State),
    s.pw.dev ≠ .off ∧ s.sup.mode ≠ .off ∧ maySwitch s = true ∧ s.sup.ovTrip = false ∧ (v : Int) < vSet s - 400 ∧
    recent (s.advance t) s.sup.uvAt = true :=
  ⟨5, 2599, { pw := { dev := .lit, doms := [2, 2, 2, 2, 2, 2, 2, 2, 2, 2, 2, 2, 2, 2, 2, 2] }, saf := { discEn := true, discFb := true, closeOk := true }, sup := { mode := .sampled, p := 12884901888000, uvAt := some 2 }, tb := { src := [0, 0, 0, 0, 0, 1, 0, 1, 0, 0, 0, 0, 0] }, dict := { sesCan := { isOpen := true } } }, by decide +kernel⟩

theorem wit_StageFaultsAreTaken_8 : ∃ (v : Nat) (s : State),
    s.pw.dev ≠ .off ∧ (s.sup.mode = .off ∨ maySwitch s = false ∨ s.sup.ovTrip = true ∨ vSet s - 400 ≤ v) :=
  ⟨2600, { pw := { dev := .lit, doms := [2, 2, 2, 2, 2, 2, 2, 2, 2, 2, 2, 2, 2, 2, 2, 2] }, saf := { discEn := true, discFb := true, closeOk := true }, sup := { mode := .sampled, p := 12884901888000 }, tb := { src := [0, 0, 0, 0, 0, 1, 0, 1, 0, 0, 0, 0, 0] }, dict := { sesCan := { isOpen := true } } }, by decide +kernel⟩

theorem wit_StageFaultsAreTaken_9 : ∃ (ph : Fin 4) (s : State),
    s.pw.dev ≠ .off ∧ active s = true ∧ blockOn s 6 = true ∧ ph.val < s.sup.phases ∧ nth s.sup.senseHeld ph.val 0 = 0 ∧
    nth s.sup.senseTried ph.val false = false ∧ s.sup.phg.length = 4 ∧ s.sup.senseHeld.length = 4 ∧
    s.sup.senseAt.length = 4 :=
  ⟨2, { pw := { dev := .lit, doms := [2, 2, 2, 2, 2, 2, 2, 2, 2, 2, 2, 2, 2, 2, 2, 2] }, saf := { discEn := true, discFb := true, closeOk := true }, sup := { phg := [true, true, true, true] }, tb := { src := [0, 0, 0, 0, 0, 1, 0, 1, 0, 0, 0, 0, 0] }, dict := { sesCan := { isOpen := true } } }, by decide +kernel⟩

theorem wit_StageFaultsAreTaken_10 : ∃ (ph : Fin 4) (s : State),
    s.pw.dev ≠ .off ∧ active s = true ∧ blockOn s 6 = true ∧ ph.val < s.sup.phases ∧ nth s.sup.senseHeld ph.val 0 = 0 ∧
    nth s.sup.senseTried ph.val false = true ∧ bmGet s.saf.causes (0x86 + ph.val) = false ∧ s.sup.phg.length = 4 ∧
    s.sup.senseHeld.length = 4 :=
  ⟨2, { pw := { dev := .lit, doms := [2, 2, 2, 2, 2, 2, 2, 2, 2, 2, 2, 2, 2, 2, 2, 2] }, saf := { discEn := true, discFb := true, closeOk := true }, sup := { senseTried := [true, true, true, true] }, tb := { src := [0, 0, 0, 0, 0, 1, 0, 1, 0, 0, 0, 0, 0] }, dict := { sesCan := { isOpen := true } } }, by decide +kernel⟩

theorem wit_StageFaultsAreTaken_11 : ∃ (ph : Fin 4) (s : State),
    s.pw.dev ≠ .off ∧
    (active s = false ∨ blockOn s 6 = false ∨ s.sup.phases ≤ ph.val ∨ nth s.sup.senseHeld ph.val 0 ≠ 0) :=
  ⟨2, { pw := { dev := .lit, doms := [2, 2, 2, 2, 2, 2, 2, 2, 2, 2, 2, 2, 2, 2, 2, 2] }, saf := { discEn := true, discFb := true, closeOk := true }, sup := { senseHeld := [0, 0, 1, 0] }, tb := { src := [0, 0, 0, 0, 0, 1, 0, 1, 0, 0, 0, 0, 0] }, dict := { sesCan := { isOpen := true } } }, by decide +kernel⟩

theorem wit_StageFaultsAreTaken_12 : ∃ (t : Nat) (ph : Fin 4) (s : State),
    s.pw.dev ≠ .off ∧ nth s.sup.senseHeld ph.val 0 = 1 ∧ nth s.sup.senseAt ph.val 0 + 1000000000 ≤ (s.advance t).now ∧
    s.sup.senseTried.length = 4 :=
  ⟨1000000000, 2, { pw := { dev := .lit, doms := [2, 2, 2, 2, 2, 2, 2, 2, 2, 2, 2, 2, 2, 2, 2, 2] }, saf := { discEn := true, discFb := true, closeOk := true }, sup := { senseHeld := [1, 1, 1, 1] }, tb := { src := [0, 0, 0, 0, 0, 1, 0, 1, 0, 0, 0, 0, 0] }, dict := { sesCan := { isOpen := true } } }, by decide +kernel⟩

theorem wit_StageFaultsAreTaken_13 : ∃ (t : Nat) (ph : Fin 4) (s : State),
    s.pw.dev ≠ .off ∧ (nth s.sup.senseHeld ph.val 0 ≠ 1 ∨ (s.advance t).now < nth s.sup.senseAt ph.val 0 + 1000000000) :=
  ⟨5, 2, { pw := { dev := .lit, doms := [2, 2, 2, 2, 2, 2, 2, 2, 2, 2, 2, 2, 2, 2, 2, 2] }, saf := { discEn := true, discFb := true, closeOk := true }, sup := { senseHeld := [1, 1, 1, 1] }, tb := { src := [0, 0, 0, 0, 0, 1, 0, 1, 0, 0, 0, 0, 0] }, dict := { sesCan := { isOpen := true } } }, by decide +kernel⟩

theorem wit_StageFaultsAreTaken_14 : ∃ (ph : Fin 4) (s : State),
    s.pw.dev ≠ .off ∧ active s = true ∧ blockOn s 6 = true ∧ ph.val < s.sup.phases ∧ imbalanced s ph.val = true ∧
    bmGet s.saf.causes 0x8A = false :=
  ⟨2, { pw := { dev := .lit, doms := [2, 2, 2, 2, 2, 2, 2, 2, 2, 2, 2, 2, 2, 2, 2, 2] }, saf := { discEn := true, discFb := true, closeOk := true }, sup := { lastI := [5000, 5000, 0, 5000] }, tb := { src := [0, 0, 0, 0, 0, 1, 0, 1, 0, 0, 0, 0, 0] }, dict := { sesCan := { isOpen := true } } }, by decide +kernel⟩

theorem wit_StageFaultsAreTaken_15 : ∃ (ph : Fin 4) (s : State),
    s.pw.dev ≠ .off ∧ (active s = false ∨ blockOn s 6 = false ∨ s.sup.phases ≤ ph.val ∨ imbalanced s ph.val = false) :=
  ⟨2, { pw := { dev := .lit, doms := [2, 2, 2, 2, 2, 2, 2, 2, 2, 2, 2, 2, 2, 2, 2, 2] }, saf := { discEn := true, discFb := true, closeOk := true }, sup := {  }, tb := { src := [0, 0, 0, 0, 0, 1, 0, 1, 0, 0, 0, 0, 0] }, dict := { sesCan := { isOpen := true } } }, by decide +kernel⟩

theorem wit_SourcesAreSampled_1 : ∃ (c : Nat) (s : State),
    s.pw.dev ≠ .off ∧ helmRuns s = true ∧ nth s.th.subst 2 false = false ∧ c ≤ 2560 :=
  ⟨2500, { pw := { dev := .ready, doms := [2, 2, 2, 2, 2, 2, 2, 2, 2, 2, 2, 2, 2, 2, 2, 2] }, th := { arrHist := [(0, 100)], ctl := [2500, 2500] }, dict := { sesCan := { isOpen := true } }, tb := { src := [0, 0, 0, 0, 0, 1, 0, 0, 0, 0, 0, 0, 0], keeper := .unqualified } }, by decide +kernel⟩

theorem wit_SourcesAreSampled_2 : ∃  (s : State),
    s.pw.dev ≠ .off ∧ helmRuns s = true ∧ s.th.subst.length = 3 ∧ s.th.broken.length = 3 :=
  ⟨{ pw := { dev := .ready, doms := [2, 2, 2, 2, 2, 2, 2, 2, 2, 2, 2, 2, 2, 2, 2, 2] }, dict := { sesCan := { isOpen := true } }, tb := { src := [0, 0, 0, 0, 0, 1, 0, 0, 0, 0, 0, 0, 0], keeper := .unqualified } }, by decide +kernel⟩

theorem wit_SourcesAreSampled_3 : ∃  (s : State),
    s.pw.dev ≠ .off ∧ helmRuns s = true ∧ s.th.subst.length = 3 ∧ s.th.broken.length = 3 :=
  ⟨{ pw := { dev := .ready, doms := [2, 2, 2, 2, 2, 2, 2, 2, 2, 2, 2, 2, 2, 2, 2, 2] }, dict := { sesCan := { isOpen := true } }, tb := { src := [0, 0, 0, 0, 0, 1, 0, 0, 0, 0, 0, 0, 0], keeper := .unqualified } }, by decide +kernel⟩

theorem wit_SourcesAreSampled_4 : ∃  (s : State),
    s.pw.dev ≠ .off ∧ helmRuns s = true ∧ s.objB 0x2A00 5 = false :=
  ⟨{ pw := { dev := .ready, doms := [2, 2, 2, 2, 2, 2, 2, 2, 2, 2, 2, 2, 2, 2, 2, 2] }, objs := [(0x2A0005, [0])], dict := { sesCan := { isOpen := true } }, tb := { src := [0, 0, 0, 0, 0, 1, 0, 0, 0, 0, 0, 0, 0], keeper := .unqualified } }, by decide +kernel⟩

theorem wit_SourcesAreSampled_5 : ∃ (uv : List Nat) (s : State),
    s.pw.dev ≠ .off ∧ helmRuns s = true ∧ s.th.subst.length = 3 ∧ s.th.broken.length = 3 ∧ s.objB 0x2A00 5 = true ∧
    (1150000 < nth uv 2 0 ∨ nth uv 0 0 < 2000) :=
  ⟨[1500000, 1500000, 1500000], { pw := { dev := .ready, doms := [2, 2, 2, 2, 2, 2, 2, 2, 2, 2, 2, 2, 2, 2, 2, 2] }, objs := [(0x2A0005, [1])], dict := { sesCan := { isOpen := true } }, tb := { src := [0, 0, 0, 0, 0, 1, 0, 0, 0, 0, 0, 0, 0], keeper := .unqualified } }, by decide +kernel⟩

theorem wit_SourcesAreSampled_6 : ∃  (s : State),
    s.pw.dev ≠ .off ∧ s.mg.haltMgmt = false ∧ helmRuns s = false :=
  ⟨{ pw := { dev := .standby } }, by decide +kernel⟩

theorem wit_SourcesAreSampled_7 : ∃  (s : State),
    s.pw.dev ≠ .off ∧ s.mg.haltMgmt = true :=
  ⟨{ pw := { dev := .ready, doms := [2, 2, 2, 2, 2, 2, 2, 2, 2, 2, 2, 2, 2, 2, 2, 2] }, mg := { haltMgmt := true }, dict := { sesCan := { isOpen := true } }, tb := { src := [0, 0, 0, 0, 0, 1, 0, 0, 0, 0, 0, 0, 0], keeper := .unqualified } }, by decide +kernel⟩

theorem wit_SourcesAreSampled_8 : ∃ (t : Nat) (s : State),
    s.pw.dev ≠ .off ∧ s.mg.haltMgmt = true ∧ s.mg.restarting = false ∧
    heldFor (s.advance t) oneSec s.th.ctlCoolSince = true :=
  ⟨1000000000005, { pw := { dev := .ready, doms := [2, 2, 2, 2, 2, 2, 2, 2, 2, 2, 2, 2, 2, 2, 2, 2] }, mg := { haltMgmt := true }, th := { ctlCoolSince := some 5 }, dict := { sesCan := { isOpen := true } }, tb := { src := [0, 0, 0, 0, 0, 1, 0, 0, 0, 0, 0, 0, 0], keeper := .unqualified } }, by decide +kernel⟩

theorem wit_SourcesAreSampled_9 : ∃ (t : Nat) (s : State),
    s.pw.dev ≠ .off ∧
    (s.mg.haltMgmt = false ∨ s.mg.restarting = true ∨ heldFor (s.advance t) oneSec s.th.ctlCoolSince = false) :=
  ⟨5, { pw := { dev := .ready, doms := [2, 2, 2, 2, 2, 2, 2, 2, 2, 2, 2, 2, 2, 2, 2, 2] }, mg := { haltMgmt := true }, th := { ctlCoolSince := some 5 }, dict := { sesCan := { isOpen := true } }, tb := { src := [0, 0, 0, 0, 0, 1, 0, 0, 0, 0, 0, 0, 0], keeper := .unqualified } }, by decide +kernel⟩

theorem wit_SourcesAreSampled_10 : ∃ (t : Nat) (ntc : Bool) (s : State),
    s.pw.dev ≠ .off ∧ heldFor (s.advance t) oneSec (nth s.th.validAt (if ntc then 1 else 0) none) = true :=
  ⟨1000000000005, true, { pw := { dev := .ready, doms := [2, 2, 2, 2, 2, 2, 2, 2, 2, 2, 2, 2, 2, 2, 2, 2] }, th := { validAt := [some 5, some 5] }, dict := { sesCan := { isOpen := true } }, tb := { src := [0, 0, 0, 0, 0, 1, 0, 0, 0, 0, 0, 0, 0], keeper := .unqualified } }, by decide +kernel⟩

theorem wit_SourcesAreSampled_11 : ∃ (t : Nat) (ntc : Bool) (s : State),
    s.pw.dev ≠ .off ∧ heldFor (s.advance t) oneSec (nth s.th.validAt (if ntc then 1 else 0) none) = false :=
  ⟨5, true, { pw := { dev := .ready, doms := [2, 2, 2, 2, 2, 2, 2, 2, 2, 2, 2, 2, 2, 2, 2, 2] }, th := { validAt := [some 5, some 5] }, dict := { sesCan := { isOpen := true } }, tb := { src := [0, 0, 0, 0, 0, 1, 0, 0, 0, 0, 0, 0, 0], keeper := .unqualified } }, by decide +kernel⟩

theorem wit_ThermalLevelsAndLight_1 : ∃ (t : Nat) (l : Nat) (s : State),
    s.pw.dev ≠ .off ∧ helmRuns s = true ∧ (s.th.levelAt = none ∨ heldFor (s.advance t) dwell s.th.levelAt = true) ∧
    s.th.level < l ∧ l ≤ 4 ∧ heldFor (s.advance t) dwell (nth s.th.upSince (l - 1) none) = true ∧ (∀ k < 4, l ≤ k →
    heldFor (s.advance t) dwell (nth s.th.upSince k none) = false) :=
  ⟨250000000007, 3, { pw := { dev := .ready, doms := [2, 2, 2, 2, 2, 2, 2, 2, 2, 2, 2, 2, 2, 2, 2, 2] }, th := { level := 1, upSince := [some 5, some 6, some 7, none] }, dict := { sesCan := { isOpen := true } }, tb := { src := [0, 0, 0, 0, 0, 1, 0, 0, 0, 0, 0, 0, 0], keeper := .unqualified } }, by decide +kernel⟩

theorem wit_ThermalLevelsAndLight_2 : ∃ (t : Nat) (s : State),
    s.pw.dev ≠ .off ∧ helmRuns s = true ∧ (s.th.levelAt = none ∨ heldFor (s.advance t) dwell s.th.levelAt = true) ∧
    (∀ k < 4, s.th.level ≤ k → heldFor (s.advance t) dwell (nth s.th.upSince k none) = false) ∧ 0 < s.th.level ∧
    heldFor (s.advance t) dwell (nth s.th.fallSince (s.th.level - 1) none) = true :=
  ⟨250000000007, { pw := { dev := .ready, doms := [2, 2, 2, 2, 2, 2, 2, 2, 2, 2, 2, 2, 2, 2, 2, 2] }, th := { level := 2, fallSince := [some 5, some 6, some 7, some 8] }, dict := { sesCan := { isOpen := true } }, tb := { src := [0, 0, 0, 0, 0, 1, 0, 0, 0, 0, 0, 0, 0], keeper := .unqualified } }, by decide +kernel⟩

theorem wit_ThermalLevelsAndLight_3 : ∃ (t : Nat) (s : State),
    s.pw.dev ≠ .off ∧ (helmRuns s = false ∨ (s.th.levelAt.isSome = true ∧
    heldFor (s.advance t) dwell s.th.levelAt = false) ∨ ((∀ k < 4, heldFor (s.advance t) dwell (nth s.th.upSince k none) = false) ∧
    (s.th.level = 0 ∨ heldFor (s.advance t) dwell (nth s.th.fallSince (s.th.level - 1) none) = false))) :=
  ⟨250000000004, { pw := { dev := .ready, doms := [2, 2, 2, 2, 2, 2, 2, 2, 2, 2, 2, 2, 2, 2, 2, 2] }, th := { level := 2, fallSince := [some 5, some 6, some 7, some 8] }, dict := { sesCan := { isOpen := true } }, tb := { src := [0, 0, 0, 0, 0, 1, 0, 0, 0, 0, 0, 0, 0], keeper := .unqualified } }, by decide +kernel⟩

theorem wit_ThermalLevelsAndLight_4 : ∃ (t : Nat) (s : State),
    s.pw.dev ≠ .off ∧ helmRuns s = true ∧ s.th.hotSrc.any (heldFor (s.advance t) dwell) = true ∧ 4 < s.th.n :=
  ⟨250000000007, { pw := { dev := .ready, doms := [2, 2, 2, 2, 2, 2, 2, 2, 2, 2, 2, 2, 2, 2, 2, 2] }, th := { hotSrc := [none, some 6, some 8], n := 5 }, dict := { sesCan := { isOpen := true } }, tb := { src := [0, 0, 0, 0, 0, 1, 0, 0, 0, 0, 0, 0, 0], keeper := .unqualified } }, by decide +kernel⟩

theorem wit_ThermalLevelsAndLight_5 : ∃  (s : State),
    s.pw.dev ≠ .off ∧ s.th.n ≤ 4 :=
  ⟨{ pw := { dev := .ready, doms := [2, 2, 2, 2, 2, 2, 2, 2, 2, 2, 2, 2, 2, 2, 2, 2] }, th := { hotSrc := [none, some 6, some 8], n := 4 }, dict := { sesCan := { isOpen := true } }, tb := { src := [0, 0, 0, 0, 0, 1, 0, 0, 0, 0, 0, 0, 0], keeper := .unqualified } }, by decide +kernel⟩

theorem wit_ThermalLevelsAndLight_6 : ∃ (t : Nat) (s : State),
    s.pw.dev ≠ .off ∧ (helmRuns s = false ∨ s.th.hotSrc.any (heldFor (s.advance t) dwell) = false) :=
  ⟨250000000005, { pw := { dev := .ready, doms := [2, 2, 2, 2, 2, 2, 2, 2, 2, 2, 2, 2, 2, 2, 2, 2] }, th := { hotSrc := [none, some 6, some 8], n := 5 }, dict := { sesCan := { isOpen := true } }, tb := { src := [0, 0, 0, 0, 0, 1, 0, 0, 0, 0, 0, 0, 0], keeper := .unqualified } }, by decide +kernel⟩

theorem wit_ThermalLevelsAndLight_7 : ∃ (t : Nat) (s : State),
    s.pw.dev ≠ .off ∧ helmRuns s = true ∧ heldFor (s.advance t) oneSec s.th.coolSince = true ∧ s.th.n < 16 :=
  ⟨1000000000007, { pw := { dev := .ready, doms := [2, 2, 2, 2, 2, 2, 2, 2, 2, 2, 2, 2, 2, 2, 2, 2] }, th := { coolSince := some 7, n := 15 }, dict := { sesCan := { isOpen := true } }, tb := { src := [0, 0, 0, 0, 0, 1, 0, 0, 0, 0, 0, 0, 0], keeper := .unqualified } }, by decide +kernel⟩

theorem wit_ThermalLevelsAndLight_8 : ∃  (s : State),
    s.pw.dev ≠ .off ∧ 16 ≤ s.th.n :=
  ⟨{ pw := { dev := .ready, doms := [2, 2, 2, 2, 2, 2, 2, 2, 2, 2, 2, 2, 2, 2, 2, 2] }, th := { coolSince := some 7 }, dict := { sesCan := { isOpen := true } }, tb := { src := [0, 0, 0, 0, 0, 1, 0, 0, 0, 0, 0, 0, 0], keeper := .unqualified } }, by decide +kernel⟩

theorem wit_ThermalLevelsAndLight_9 : ∃ (t : Nat) (s : State),
    s.pw.dev ≠ .off ∧ (helmRuns s = false ∨ heldFor (s.advance t) oneSec s.th.coolSince = false) :=
  ⟨1000000000006, { pw := { dev := .ready, doms := [2, 2, 2, 2, 2, 2, 2, 2, 2, 2, 2, 2, 2, 2, 2, 2] }, th := { coolSince := some 7, n := 15 }, dict := { sesCan := { isOpen := true } }, tb := { src := [0, 0, 0, 0, 0, 1, 0, 0, 0, 0, 0, 0, 0], keeper := .unqualified } }, by decide +kernel⟩

theorem wit_ThermalLevelsAndLight_10 : ∃  (s : State),
    s.pw.dev ≠ .off ∧ active s = true ∧ helmRuns s = true ∧ s.objB 0x2A10 1 = false :=
  ⟨{ pw := { dev := .ready, doms := [2, 2, 2, 2, 2, 2, 2, 2, 2, 2, 2, 2, 2, 2, 2, 2] }, objs := [(0x2A1001, [0])], th := { kCool := 30000 }, dict := { sesCan := { isOpen := true } }, tb := { src := [0, 0, 0, 0, 0, 1, 0, 0, 0, 0, 0, 0, 0], keeper := .unqualified } }, by decide +kernel⟩

theorem wit_ThermalLevelsAndLight_11 : ∃  (s : State),
    s.pw.dev ≠ .off ∧ active s = true ∧ helmRuns s = true ∧ s.objB 0x2A10 1 = true ∧
    (hostBeam s = false ∨ s.th.litSec = false) :=
  ⟨{ pw := { dev := .ready, doms := [2, 2, 2, 2, 2, 2, 2, 2, 2, 2, 2, 2, 2, 2, 2, 2] }, objs := [(0x2A1001, [1])], th := { kCool := 30000 }, dict := { sesCan := { isOpen := true } }, tb := { src := [0, 0, 0, 0, 0, 1, 0, 0, 0, 0, 0, 0, 0], keeper := .unqualified } }, by decide +kernel⟩

theorem wit_ThermalLevelsAndLight_12 : ∃  (s : State),
    s.pw.dev ≠ .off ∧ active s = true ∧ helmRuns s = true ∧ s.objB 0x2A10 1 = true ∧ hostBeam s = true ∧
    s.th.litSec = true :=
  ⟨{ pw := { dev := .ready, doms := [2, 2, 2, 2, 2, 2, 2, 2, 2, 2, 2, 2, 2, 2, 2, 2] }, objs := [(0x2A1001, [1])], th := { litSec := true, demand := 999 }, dict := { sesCan := { isOpen := true } }, tb := { src := [0, 0, 0, 0, 0, 1, 0, 0, 0, 0, 0, 0, 0], keeper := .unqualified } }, by decide +kernel⟩

theorem wit_ThermalLevelsAndLight_13 : ∃  (s : State),
    s.pw.dev ≠ .off ∧ (active s = false ∨ helmRuns s = false) :=
  ⟨{ pw := { dev := .quiet, doms := [2, 2, 2, 2, 2, 2, 2, 2, 2, 2, 2, 2, 2, 2, 2, 2] }, dict := { sesCan := { isOpen := true } }, tb := { src := [0, 0, 0, 0, 0, 1, 0, 0, 0, 0, 0, 0, 0], keeper := .unqualified } }, by decide +kernel⟩

theorem wit_ThermalLevelsAndLight_14 : ∃  (s : State),
    s.pw.dev ≠ .off ∧ 10 ≤ s.th.fluxLow ∧ bmGet s.saf.causes 0xA9 = false :=
  ⟨{ pw := { dev := .ready, doms := [2, 2, 2, 2, 2, 2, 2, 2, 2, 2, 2, 2, 2, 2, 2, 2] }, th := { fluxLow := 10 }, dict := { sesCan := { isOpen := true } }, tb := { src := [0, 0, 0, 0, 0, 1, 0, 0, 0, 0, 0, 0, 0], keeper := .unqualified } }, by decide +kernel⟩

theorem wit_ThermalLevelsAndLight_15 : ∃  (s : State),
    s.pw.dev ≠ .off ∧ 10 ≤ s.th.cctOut ∧ bmGet s.saf.causes 0xAA = false :=
  ⟨{ pw := { dev := .ready, doms := [2, 2, 2, 2, 2, 2, 2, 2, 2, 2, 2, 2, 2, 2, 2, 2] }, th := { cctOut := 10 }, dict := { sesCan := { isOpen := true } }, tb := { src := [0, 0, 0, 0, 0, 1, 0, 0, 0, 0, 0, 0, 0], keeper := .unqualified } }, by decide +kernel⟩

theorem wit_ThermalLevelsAndLight_16 : ∃  (s : State),
    s.pw.dev ≠ .off ∧ (s.th.fluxLow < 10 ∨ bmGet s.saf.causes 0xA9 = true) :=
  ⟨{ pw := { dev := .ready, doms := [2, 2, 2, 2, 2, 2, 2, 2, 2, 2, 2, 2, 2, 2, 2, 2] }, th := { fluxLow := 9 }, dict := { sesCan := { isOpen := true } }, tb := { src := [0, 0, 0, 0, 0, 1, 0, 0, 0, 0, 0, 0, 0], keeper := .unqualified } }, by decide +kernel⟩

theorem wit_ThermalLevelsAndLight_17 : ∃  (s : State),
    s.pw.dev ≠ .off ∧ (s.th.cctOut < 10 ∨ bmGet s.saf.causes 0xAA = true) :=
  ⟨{ pw := { dev := .ready, doms := [2, 2, 2, 2, 2, 2, 2, 2, 2, 2, 2, 2, 2, 2, 2, 2] }, th := { cctOut := 9 }, dict := { sesCan := { isOpen := true } }, tb := { src := [0, 0, 0, 0, 0, 1, 0, 0, 0, 0, 0, 0, 0], keeper := .unqualified } }, by decide +kernel⟩

theorem wit_AStepRunsTheFrontCommand_1 : ∃ s : State, s.pending = [] :=
  ⟨State.reset, by decide +kernel⟩

theorem wit_EveryCommandCompletes_1 : ∃ s : State, s.pw.dev = .off :=
  ⟨State.reset, by decide +kernel⟩

theorem wit_EveryCommandCompletes_2 : ∃ (c : Instr) (w : ObjWrite) (s : State), objWriteOf c = some w ∧ s.pw.dev ≠ .off ∧ servedAt s w.path w.idx w.sub = false :=
  ⟨.repClear 5 .can 1, ⟨5, .can, 0x2903, 5, [1]⟩, { pw := { dev := .standby } }, by decide +kernel, by decide +kernel, by decide +kernel⟩

theorem wit_EveryCommandCompletes_3 : ∃ (c : Instr) (w : ObjWrite) (s : State), objWriteOf c = some w ∧ s.pw.dev ≠ .off ∧ servedAt s w.path w.idx w.sub = true ∧
    wrCheck s w.path w.idx w.sub = some abSession :=
  ⟨.gainUpdate 5 .ferry [], ⟨5, .ferry, 0x2850, 1, []⟩, { pw := { dev := .ready, doms := [2, 2, 2, 2, 2, 2, 2, 2, 2, 2, 2, 2, 2, 2, 2, 2] }, dict := {  }, tb := { src := [0, 0, 0, 0, 0, 1, 0, 0, 0, 0, 0, 0, 0], keeper := .unqualified } }, by decide +kernel, by decide +kernel, by decide +kernel, by decide +kernel⟩

theorem wit_EveryCommandCompletes_4 : ∃ (c : Instr) (w : ObjWrite) (s : State) (r : ObjRow), objWriteOf c = some w ∧ s.pw.dev ≠ .off ∧ servedAt s w.path w.idx w.sub = true ∧
    wrCheck s w.path w.idx w.sub = none ∧ objFind w.idx w.sub = some r ∧ lenOk r.ty w.data.length = false :=
  ⟨.gainUpdate 5 .can [], ⟨5, .can, 0x2850, 1, []⟩, { pw := { dev := .ready, doms := [2, 2, 2, 2, 2, 2, 2, 2, 2, 2, 2, 2, 2, 2, 2, 2] }, dict := { sesCan := { isOpen := true } }, tb := { src := [0, 0, 0, 0, 0, 1, 0, 0, 0, 0, 0, 0, 0], keeper := .unqualified } }, _, by decide +kernel, by decide +kernel, by decide +kernel, by decide +kernel, rfl, by decide +kernel⟩

theorem wit_EveryCommandCompletes_5 : ∃ (c : Instr) (w : ObjWrite) (s : State) (r : ObjRow), objWriteOf c = some w ∧ s.pw.dev ≠ .off ∧ servedAt s w.path w.idx w.sub = true ∧
    wrCheck s w.path w.idx w.sub = none ∧ objFind w.idx w.sub = some r ∧ lenOk r.ty w.data.length = true ∧ valueOk r w.data = false :=
  ⟨.repClear 5 .can 0, ⟨5, .can, 0x2903, 5, [0]⟩, { pw := { dev := .ready, doms := [2, 2, 2, 2, 2, 2, 2, 2, 2, 2, 2, 2, 2, 2, 2, 2] }, dict := { sesCan := { isOpen := true } }, tb := { src := [0, 0, 0, 0, 0, 1, 0, 0, 0, 0, 0, 0, 0], keeper := .unqualified } }, _, by decide +kernel, by decide +kernel, by decide +kernel, by decide +kernel, rfl, by decide +kernel, by decide +kernel⟩

theorem wit_EveryStepKeepsMemoryCanonical_1 : ∃ s s' : State, memOk s ∧ step s = .next s' :=
  ⟨State.reset, State.reset, by decide +kernel, rfl⟩

theorem wit_EveryStepKeepsTheLightTests_1 : ∃ s s' : State, lightTests s ∧ step s = .next s' :=
  ⟨State.reset, State.reset, by intro h; exact absurd h (by decide +kernel), rfl⟩

theorem wit_DriveWordsCarryLight_1 : ∃ w : Nat, w < 16384 ∧ 8191 < wLight w :=
  ⟨16383, by decide +kernel, by decide +kernel⟩

theorem wit_DriveWordsCarryLight_2 : ∃ w : Nat, w < 16384 ∧ wDuty w = 0 :=
  ⟨8192, by decide +kernel, by decide +kernel⟩

theorem wit_DriveWordsCarryLight_3 : ∃ m : Nat, 16 * m ≤ 131056 :=
  ⟨8191, by decide +kernel⟩

theorem wit_DriveWordsCarryLight_4 : ∃ c gp kt d : Nat, wRange (correct c gp kt d).word = 1 :=
  ⟨65535, 1024, 32768, 0, by decide +kernel⟩

theorem wit_PhaseLimitsAreCounted_1 : ∃ (i : List Int) (s : State), s.pw.dev ≠ .off ∧ active s = true ∧ blockOn s 6 = true ∧ nth s.tb.src 7 2 ≠ 2 ∧
    hitsLimit s i 1 = true ∧ nth s.sup.limitRun 1 0 = 1000 :=
  ⟨[0, 8001], { pw := { dev := .lit, doms := [2, 2, 2, 2, 2, 2, 2, 2, 2, 2, 2, 2, 2, 2, 2, 2] }, saf := { discEn := true, discFb := true, closeOk := true }, sup := { limitRun := [0, 1000, 0, 0] }, tb := { src := [0, 0, 0, 0, 0, 1, 0, 1, 0, 0, 0, 0, 0] }, dict := { sesCan := { isOpen := true } } }, by decide +kernel, by decide +kernel, by decide +kernel, by decide +kernel, by decide +kernel, by decide +kernel⟩


end Sys2Proof.Tests
end

section
/-!
PROOFS. Every command completes (EveryCommandCompletes): a frame that no operation of the model leaves, carried from the
shared operations through the chapters up to the commands, and what a refused write of an object does.
-/

namespace Sys2Proof

set_option Elab.async false

open Sys2Proof.Machine

/-! ## The part of the state that no effect of a command changes -/

/-- Identity, the waiting commands and the instant: what only the arrival of a command changes. -/
def fixed (s : State) : Nat × Nat × Nat × List Instr × Nat := (s.grade, s.uid, s.hwRev, s.pending, s.now)

/-- An update of any other fields leaves the fixed part; every record update of the model is of this form. The proof is in
parentheses so that `simp` takes the equation as a rewrite under binders too. -/
@[simp] theorem fixed_with (s : State) (objs measSeq measVal statusDue serving srSeq free out clk tim saf pw tb arr frm mg nv dict
    can lane phy fy surf comp mask quay diag sup th pat) :
    fixed ⟨s.now, s.grade, s.uid, s.hwRev, objs, measSeq, measVal, statusDue, serving, srSeq, free, out, s.pending, clk, tim,
      saf, pw, tb, arr, frm, mg, nv, dict, can, lane, phy, fy, surf, comp, mask, quay, diag, sup, th, pat⟩ = fixed s := (rfl)

@[simp] theorem fixed_ite (c : Prop) [Decidable c] (a b : State) :
    fixed (if c then a else b) = if c then fixed a else fixed b := apply_ite fixed c a b

@[simp] theorem fixed_ite_snd {α : Type} (c : Prop) [Decidable c] (a b : α × State) :
    fixed (if c then a else b).2 = if c then fixed a.2 else fixed b.2 := apply_ite (fun x => fixed x.2) c a b

@[simp] theorem fixed_ite_snd_snd {α β : Type} (c : Prop) [Decidable c] (a b : α × β × State) :
    fixed (if c then a else b).2.2 = if c then fixed a.2.2 else fixed b.2.2 := apply_ite (fun x => fixed x.2.2) c a b

/-- A choice between two handlers of an object. -/
@[simp] theorem fixed_ite_handler (c : Prop) [Decidable c] (h k : List Byte → State → Nat × State) (d : List Byte) (s : State) :
    fixed ((if c then h else k) d s).2 = if c then fixed (h d s).2 else fixed (k d s).2 :=
  apply_ite (fun x => fixed (x d s).2) c h k

/-- A fold that carries a result beside the state leaves the fixed part if each of its steps does. -/
theorem fixed_foldl_snd {α β : Type} {f : β × State → α → β × State} (hf : ∀ x a, fixed (f x a).2 = fixed x.2)
    (l : List α) (x : β × State) : fixed (l.foldl f x).2 = fixed x.2 := by
  induction l generalizing x with
  | nil => rfl
  | cons a l ih => exact (ih _).trans (hf _ _)

/-- A fold leaves the fixed part if each of its steps does. -/
@[simp] theorem fixed_foldl {α : Type} {f : State → α → State} (hf : ∀ s a, fixed (f s a) = fixed s)
    (l : List α) (s : State) : fixed (l.foldl f s) = fixed s := by
  induction l generalizing s with
  | nil => rfl
  | cons a l ih => exact (ih _).trans (hf _ _)

/-- A frame that lists neither identity nor queue nor instant holds the fixed part. -/
theorem fixed_of_keeps {bs : List Blk} {s s' : State} (h : keepsBut bs s s')
    (hn : Blk.ident ∉ bs ∧ Blk.queue ∉ bs ∧ Blk.now ∉ bs := by decide) : fixed s' = fixed s := by
  obtain ⟨hi, hq, ht⟩ := hn
  obtain ⟨hg, hu, hr⟩ := h .ident hi
  have hp : s'.pending = s.pending := h .queue hq
  have hw : s'.now = s.now := h .now ht
  simp only [fixed, hg, hu, hr, hp, hw]

/-! ## Commands and writes of objects in general -/

/-- An outcome of a command in a state: a next state that agrees in the fixed part with the state at the command's instant, and
in everything where the engine is OFF. -/
def Completes (s : State) (o : Host.Outcome State Fault Refusal) : Prop :=
  ∃ t s', o = .next s' ∧ fixed s' = fixed (s.advance t) ∧ (s.pw.dev = .off → keepsBut [] (s.advance t) s')

/-- The end of a command without an effect changes nothing. -/
theorem keeps_end_advance (t : Nat) (s : State) : keepsBut [] (s.advance t) (settle s (renode s (s.advance t))) :=
  keeps_end_same (keeps_refl [] _) (by simp) s (by simp [sameBlk])

/-- A command completes if its effect leaves the fixed part; in OFF it has no effect. -/
theorem act_completes {t : Nat} {f : State → State} {s : State} (hf : ∀ s, fixed (f s) = fixed s) :
    Completes s (act t f s) := by
  by_cases hd : s.pw.dev = .off
  · have hk := keeps_end_advance t s
    exact ⟨t, _, by simp [act, hd], fixed_of_keeps hk, fun _ => hk⟩
  · exact ⟨t, _, act_on t f hd, hf _, fun h => absurd h hd⟩

@[simp] theorem fixed_busError (a w s) : fixed (busError a w s) = fixed s := fixed_of_keeps (keeps_busError _ _ _)

@[simp] theorem fixed_touchSess (p s) : fixed (touchSess p s) = fixed s := fixed_of_keeps (keeps_touchSess _ _)

@[simp] theorem fixed_answered (x) : fixed (answered x) = fixed x.2 := by simp [answered]

/-- A write of an object leaves the fixed part if its handler does. -/
@[simp] theorem fixed_wr {h : List Byte → State → Nat × State} (hh : ∀ d s, fixed (h d s).2 = fixed s) (p idx sub data s) :
    fixed (wr p idx sub data h s).2 = fixed s := by
  unfold wr
  split
  · simp
  · split <;> simp [hh]

/-- A command that is a write of an object completes if the object's handler leaves the fixed part. -/
theorem objWrite_completes {t : Nat} {p : Path} {idx sub : Nat} {data : List Byte} {h : List Byte → State → Nat × State}
    {s : State} (hh : ∀ d s, fixed (h d s).2 = fixed s) : Completes s (objWrite t p idx sub data h s) :=
  act_completes fun s => by simp [hh]

/-! ## The operations and commands of each chapter

One equation for each operation, in the order of the model: it leaves the fixed part. An operation with a frame under
Sys2Proof/Laws has it from that frame; the others have it from `fixed_with` and the equations of the operations they call, by
the branches of their definitions. -/

/-! ### Shared operations: events, the Tollgate and what a safety state does (Machine/Ops) -/

@[simp] theorem fixed_setObj (s idx sub v) : fixed (State.setObj s idx sub v) = fixed s :=
  fixed_of_keeps (keeps_setObj _ _ _ _)

@[simp] theorem fixed_foldPred (s) : fixed (foldPred s) = fixed s := fixed_of_keeps (keeps_foldPred _)

@[simp] theorem fixed_logAdd (src cls transient ctx s) : fixed (logAdd src cls transient ctx s) = fixed s :=
  fixed_of_keeps (keeps_logAdd _ _ _ _ _)

@[simp] theorem fixed_irqHelm (id s) : fixed (irqHelm id s) = fixed s := fixed_of_keeps (keeps_irqHelm _ _)
@[simp] theorem fixed_irqPurser (id s) : fixed (irqPurser id s) = fixed s := fixed_of_keeps (keeps_irqPurser _ _)
@[simp] theorem fixed_lineHelm (id on s) : fixed (lineHelm id on s) = fixed s := fixed_of_keeps (keeps_lineHelm _ _ _)
@[simp] theorem fixed_linePurser (id on s) : fixed (linePurser id on s) = fixed s := fixed_of_keeps (keeps_linePurser _ _ _)
@[simp] theorem fixed_send (o s) : fixed (send o s) = fixed s := fixed_of_keeps (keeps_send _ _)

@[simp] theorem fixed_canSend (id fd data s) : fixed (canSend id fd data s) = fixed s :=
  fixed_of_keeps (keeps_canSend _ _ _ _)

@[simp] theorem fixed_putOwn (prec ptype seq payload s) : fixed (putOwn prec ptype seq payload s) = fixed s :=
  fixed_of_keeps (keeps_putOwn _ _ _ _ _)

@[simp] theorem fixed_ownPacket (prec ptype seq payload s) : fixed (ownPacket prec ptype seq payload s) = fixed s :=
  fixed_of_keeps (keeps_ownPacket _ _ _ _ _)

@[simp] theorem fixed_answerPacket (prec ptype seq payload s) : fixed (answerPacket prec ptype seq payload s) = fixed s := by
  simp [answerPacket]

@[simp] theorem fixed_serving {f : State → State} (hf : ∀ s, fixed (f s) = fixed s) (ask s) :
    fixed (serving ask f s) = fixed s := by
  simp [serving, hf]

@[simp] theorem fixed_setEvPath (p e s) : fixed (setEvPath p e s) = fixed s := fixed_of_keeps (keeps_setEvPath _ _ _)
@[simp] theorem fixed_holdEvent (p acc s) : fixed (holdEvent p acc s) = fixed s := by simp [holdEvent]
@[simp] theorem fixed_sendEvent (p acc s) : fixed (sendEvent p acc s) = fixed s := fixed_of_keeps (keeps_sendEvent _ _ _)
@[simp] theorem fixed_event (code cls ctx s) : fixed (event code cls ctx s) = fixed s := fixed_of_keeps (keeps_event _ _ _ _)

@[simp] theorem fixed_noteEvent (code ctx s) : fixed (noteEvent code ctx s) = fixed s :=
  fixed_of_keeps (keeps_noteEvent _ _ _)

@[simp] theorem fixed_blank (s) : fixed (blank s) = fixed s := fixed_of_keeps (keeps_blank _)
@[simp] theorem fixed_setHold (on s) : fixed (setHold on s) = fixed s := fixed_of_keeps (keeps_setHold _ _)
@[simp] theorem fixed_supplyRest (s) : fixed (supplyRest s) = fixed s := fixed_of_keeps (keeps_supplyRest _)
@[simp] theorem fixed_supplyStop (s) : fixed (supplyStop s) = fixed s := by simp [supplyStop]
@[simp] theorem fixed_dropDisc (s) : fixed (dropDisc s) = fixed s := fixed_of_keeps (keeps_dropDisc _)
@[simp] theorem fixed_modQuay (f s) : fixed (modQuay f s) = fixed s := fixed_of_keeps (keeps_modQuay _ _)
@[simp] theorem fixed_modHalf (south f s) : fixed (modHalf south f s) = fixed s := fixed_of_keeps (keeps_modHalf _ _ _)
@[simp] theorem fixed_urgency (south s) : fixed (urgency south s) = fixed s := fixed_of_keeps (keeps_urgency _ _)
@[simp] theorem fixed_emptyHalves (s) : fixed (emptyHalves s) = fixed s := fixed_of_keeps (keeps_emptyHalves _)
@[simp] theorem fixed_gainWrite (d data s) : fixed (gainWrite d data s) = fixed s := fixed_of_keeps (keeps_gainWrite _ _ _)
@[simp] theorem fixed_gainDrain (s) : fixed (gainDrain s) = fixed s := fixed_of_keeps (keeps_gainDrain _)
@[simp] theorem fixed_abandonLoad (s) : fixed (abandonLoad s) = fixed s := fixed_of_keeps (keeps_abandonLoad _)
@[simp] theorem fixed_needPulsed (d s) : fixed (needPulsed d s) = fixed s := by simp [needPulsed]
@[simp] theorem fixed_reloadJob (j rep s) : fixed (reloadJob j rep s) = fixed s := fixed_of_keeps (keeps_reloadJob _ _ _)
@[simp] theorem fixed_startReload (s) : fixed (startReload s) = fixed s := fixed_of_keeps (keeps_startReload _)
@[simp] theorem fixed_modFrm (f s) : fixed (modFrm f s) = fixed s := by simp [modFrm]
@[simp] theorem fixed_modArr (f s) : fixed (modArr f s) = fixed s := by simp [modArr]
@[simp] theorem fixed_setRamp (r s) : fixed (setRamp r s) = fixed s := fixed_of_keeps (keeps_setRamp _ _)
@[simp] theorem fixed_resumeRamp (s) : fixed (resumeRamp s) = fixed s := by simp [resumeRamp]
@[simp] theorem fixed_setSafety (x s) : fixed (setSafety x s) = fixed s := fixed_of_keeps (keeps_setSafety _ _)
@[simp] theorem fixed_updPermission (s) : fixed (updPermission s) = fixed s := fixed_of_keeps (keeps_updPermission _)
@[simp] theorem fixed_discRun (s) : fixed (discRun s) = fixed s := fixed_of_keeps (keeps_discRun _)
@[simp] theorem fixed_closeDisc (s) : fixed (closeDisc s) = fixed s := fixed_of_keeps (keeps_closeDisc _)
@[simp] theorem fixed_ignoreReset (s) : fixed (ignoreReset s) = fixed s := by simp [ignoreReset]
@[simp] theorem fixed_acceptReset (s) : fixed (acceptReset s) = fixed s := by simp [acceptReset]
@[simp] theorem fixed_resetLow (tgt s) : fixed (resetLow tgt s) = fixed s := fixed_of_keeps (keeps_resetLow _ _)
@[simp] theorem fixed_retarget (id s) : fixed (retarget id s) = fixed s := fixed_of_keeps (keeps_retarget _ _)
@[simp] theorem fixed_keepDisc (s) : fixed (keepDisc s) = fixed s := by simp [keepDisc]
@[simp] theorem fixed_raiseSrc (id ctx s) : fixed (raiseSrc id ctx s) = fixed s := fixed_of_keeps (keeps_raiseSrc _ _ _)

@[simp] theorem fixed_transientSrc (id ctx s) : fixed (transientSrc id ctx s) = fixed s :=
  fixed_of_keeps (keeps_transientSrc _ _ _)

@[simp] theorem fixed_setCause (id on ctx s) : fixed (setCause id on ctx s) = fixed s :=
  fixed_of_keeps (keeps_setCause _ _ _ _)

@[simp] theorem fixed_tickFree (s) : fixed (State.tickFree s) = fixed s := by simp [State.tickFree]

/-! ### Measurements and the end of BOOT (Machine/Flags) -/

@[simp] theorem fixed_publishFrom (idx first vals s) : fixed (publishFrom idx first vals s) = fixed s := by
  simp [publishFrom]

@[simp] theorem fixed_publish (idx vals s) : fixed (publish idx vals s) = fixed s := fixed_of_keeps (keeps_publish _ _ _)
@[simp] theorem fixed_measFirst (s) : fixed (measFirst s) = fixed s := by simp [measFirst]

/-! ### Sessions, CRC units and core exceptions (Machine/Operands) -/

@[simp] theorem fixed_setSess (p x s) : fixed (setSess p x s) = fixed s := fixed_of_keeps (keeps_setSess _ _ _)
@[simp] theorem fixed_closeSess (p s) : fixed (closeSess p s) = fixed s := fixed_of_keeps (keeps_closeSess _ _)
@[simp] theorem fixed_modUnit (u f s) : fixed (modUnit u f s) = fixed s := by simp [modUnit]
@[simp] theorem fixed_unitFinish (u s) : fixed (unitFinish u s) = fixed s := by simp [unitFinish]
@[simp] theorem fixed_unitFeed (u bs s) : fixed (unitFeed u bs s) = fixed s := by simp [unitFeed]
@[simp] theorem fixed_snoop (src sel bs s) : fixed (snoop src sel bs s) = fixed s := by simp [snoop]
@[simp] theorem fixed_snoopEnd (src sel s) : fixed (snoopEnd src sel s) = fixed s := by simp [snoopEnd]

@[simp] theorem fixed_fedH {h : List Byte → State → Nat × State} (hh : ∀ d s, fixed (h d s).2 = fixed s) (d s) :
    fixed (fedH h d s).2 = fixed s := by
  simp [fedH, hh]

@[simp] theorem fixed_coreException (e c addr isWrite s) : fixed (coreException e c addr isWrite s) = fixed s := by
  simp [coreException]

@[simp] theorem fixed_accessFault (c addr isWrite s) : fixed (accessFault c addr isWrite s) = fixed s := by
  simp [accessFault]

@[simp] theorem fixed_readZero (c isWrite s) : fixed (readZero c isWrite s) = fixed s := by simp [readZero]

@[simp] theorem fixed_coreBusError (c addr isWrite s) : fixed (coreBusError c addr isWrite s) = fixed s := by
  simp [coreBusError]

@[simp] theorem fixed_storeH (idx sub data s) : fixed (storeH idx sub data s).2 = fixed s := by simp [storeH]
@[simp] theorem fixed_rxCount (s) : fixed (rxCount s) = fixed s := by simp [rxCount]

/-! ### Network time (chapter 14) -/

@[simp] theorem fixed_modDom (d f s) : fixed (modDom d f s) = fixed s := by simp [modDom]
@[simp] theorem fixed_relock (d s) : fixed (relock d s) = fixed s := by simp [relock]
@[simp] theorem fixed_setRate (f sT s) : fixed (setRate f sT s) = fixed s := fixed_of_keeps (keeps_setRate _ _ _)
@[simp] theorem fixed_servo (th s) : fixed (servo th s) = fixed s := by simp [servo]
@[simp] theorem fixed_servoSwitch (th s) : fixed (servoSwitch th s) = fixed s := by simp [servoSwitch]
@[simp] theorem fixed_updAligned (th s) : fixed (updAligned th s) = fixed s := by simp [updAligned]
@[simp] theorem fixed_updHoldover (s) : fixed (updHoldover s) = fixed s := by simp [updHoldover]
@[simp] theorem fixed_modTp (n f s) : fixed (modTp n f s) = fixed s := by simp [modTp]
@[simp] theorem fixed_tpAfterStep (s) : fixed (tpAfterStep s) = fixed s := by simp [tpAfterStep]
@[simp] theorem fixed_timersStep (s) : fixed (timersStep s) = fixed s := by simp [timersStep]
@[simp] theorem fixed_clockStep (th s) : fixed (clockStep th s) = fixed s := by simp [clockStep]
@[simp] theorem fixed_switchDom (d s) : fixed (switchDom d s) = fixed s := by simp [switchDom]
@[simp] theorem fixed_reselect (changed s) : fixed (reselect changed s) = fixed s := by unfold reselect; split <;> simp

@[simp] theorem fixed_acceptDom (d th master interval cap fresh s) :
    fixed (acceptDom d th master interval cap fresh s) = fixed s := by simp [acceptDom]

@[simp] theorem fixed_firstStep (d th s) : fixed (firstStep d th s) = fixed s := by simp [firstStep]
@[simp] theorem fixed_firstAgain (d th s) : fixed (firstAgain d th s) = fixed s := by simp [firstAgain]
@[simp] theorem fixed_selSample (th s) : fixed (selSample th s) = fixed s := by simp [selSample]

@[simp] theorem fixed_sample (d th master interval cap s) : fixed (sample d th master interval cap s) = fixed s := by
  simp [sample]

theorem execCanSync_completes (t f s) : Completes s (execCanSync t f s) := act_completes (by simp)

theorem execCanFollow_completes (t f s) : Completes s (execCanFollow t f s) := act_completes fun s => by
  split
  · extract_lets s1 ok
    have h1 : fixed s1 = fixed s := by simp [s1]
    clear_value s1
    split <;> simp [h1]
  · rfl

@[simp] theorem fixed_loseDom (d s) : fixed (loseDom d s) = fixed s := by simp [loseDom]
theorem execDomainLoss_completes (t d s) : Completes s (execDomainLoss t d s) := act_completes (by simp)
theorem execDomainReturn_completes (t s) : Completes s (execDomainReturn t s) := act_completes (by simp)
@[simp] theorem fixed_timeStepH (x s) : fixed (timeStepH x s).2 = fixed s := by simp [timeStepH]
theorem execTimeStepWrite_completes (t p v s) : Completes s (execTimeStepWrite t p v s) := objWrite_completes (by simp)
@[simp] theorem fixed_bEnableH (data s) : fixed (bEnableH data s).2 = fixed s := by simp [bEnableH]
@[simp] theorem fixed_tpModeH (n data s) : fixed (tpModeH n data s).2 = fixed s := by simp [tpModeH]
theorem execTpModeWrite_completes (t p n v s) : Completes s (execTpModeWrite t p n v s) := objWrite_completes (by simp)
@[simp] theorem fixed_tpStart (n s) : fixed (tpStart n s) = fixed s := by simp [tpStart]
theorem execTpPulseStart_completes (t n s) : Completes s (execTpPulseStart t n s) := act_completes (by simp)
theorem execTpPulseEnd_completes (t n s) : Completes s (execTpPulseEnd t n s) := act_completes (by simp)
@[simp] theorem fixed_pinTrigger (n falling s) : fixed (pinTrigger n falling s) = fixed s := by simp [pinTrigger]

theorem execTcCapture_completes (t n falling width s) : Completes s (execTcCapture t n falling width s) :=
  act_completes (by simp)

@[simp] theorem fixed_tcAckH (n data s) : fixed (tcAckH n data s).2 = fixed s := by unfold tcAckH; split <;> simp
theorem execTcAck_completes (t p n v s) : Completes s (execTcAck t p n v s) := objWrite_completes (by simp)

/-! ### Timebases and the keeper (chapter 16) -/

@[simp] theorem fixed_calDone (k value status s) : fixed (calDone k value status s) = fixed s :=
  fixed_of_keeps (keeps_calDone _ _ _ _)

@[simp] theorem fixed_forceTb (src s n) : fixed (forceTb src s n) = fixed s := fixed_of_keeps (keeps_forceTb _ _ _)

@[simp] theorem fixed_allToKeeper (noEdge s) : fixed (allToKeeper noEdge s) = fixed s :=
  fixed_of_keeps (keeps_allToKeeper _ _)

@[simp] theorem fixed_qualifyTb0 (s) : fixed (qualifyTb0 s) = fixed s := fixed_of_keeps (keeps_qualifyTb0 _)
@[simp] theorem fixed_returnLate (s) : fixed (returnLate s) = fixed s := fixed_of_keeps (keeps_returnLate _)
@[simp] theorem fixed_stopTb (n s) : fixed (stopTb n s) = fixed s := fixed_of_keeps (keeps_stopTb _ _)

theorem execForcedSwitch_completes (t tb toKeeper s) : Completes s (execForcedSwitch t tb toKeeper s) :=
  act_completes (by simp)

theorem execTimebaseStopped_completes (t tb s) : Completes s (execTimebaseStopped t tb s) := act_completes (by simp)
@[simp] theorem fixed_endNoSource (s) : fixed (endNoSource s) = fixed s := fixed_of_keeps (keeps_endNoSource _)
@[simp] theorem fixed_keeperQualify (s) : fixed (keeperQualify s) = fixed s := fixed_of_keeps (keeps_keeperQualify _)
@[simp] theorem fixed_keeperUnqualify (s) : fixed (keeperUnqualify s) = fixed s := fixed_of_keeps (keeps_keeperUnqualify _)

@[simp] theorem fixed_keeperMeasure (tm c ref s) : fixed (keeperMeasure tm c ref s) = fixed s :=
  fixed_of_keeps (keeps_keeperMeasure _ _ _ _)

theorem execKeeperStarted_completes (t s) : Completes s (execKeeperStarted t s) := act_completes (by simp)
theorem execKeeperPeriodFault_completes (t s) : Completes s (execKeeperPeriodFault t s) := act_completes (by simp)
theorem execKeeperTimeout_completes (t s) : Completes s (execKeeperTimeout t s) := act_completes (by simp)
theorem execCanStartOfFrame_completes (t bits c s) : Completes s (execCanStartOfFrame t bits c s) := act_completes (by simp)
theorem execMonitorWindow_completes (t n noEdge s) : Completes s (execMonitorWindow t n noEdge s) := act_completes (by simp)
theorem execVccLow_completes (t s) : Completes s (execVccLow t s) := act_completes (by simp)
theorem execVccMonitorClear_completes (t s) : Completes s (execVccMonitorClear t s) := act_completes (by simp)
@[simp] theorem fixed_setRail (r out s) : fixed (setRail r out s) = fixed s := by simp [setRail]
theorem execRailTrip_completes (t r s) : Completes s (execRailTrip t r s) := act_completes (by simp)
theorem execRailRecover_completes (t r s) : Completes s (execRailRecover t r s) := act_completes (by simp)

/-! ### Ferry lanes (chapter 4) -/

@[simp] theorem fixed_modLane (f s) : fixed (modLane f s) = fixed s := fixed_of_keeps (keeps_modLane _ _)
@[simp] theorem fixed_sendPlain (ty n j s) : fixed (sendPlain ty n j s) = fixed s := fixed_of_keeps (keeps_sendPlain _ _ _ _)
@[simp] theorem fixed_sendTs (ty n j s) : fixed (sendTs ty n j s) = fixed s := fixed_of_keeps (keeps_sendTs _ _ _ _)
@[simp] theorem fixed_sendAlign (count s) : fixed (sendAlign count s) = fixed s := by simp [sendAlign]
@[simp] theorem fixed_sendStream (bs s) : fixed (sendStream bs s) = fixed s := by simp [sendStream]
@[simp] theorem fixed_hearStream (bs s) : fixed (hearStream bs s) = fixed s := by simp [hearStream]
@[simp] theorem fixed_sendPacket (h payload s) : fixed (sendPacket h payload s) = fixed s := by simp [sendPacket]
@[simp] theorem fixed_sendOn (k payload trailer s) : fixed (sendOn k payload trailer s) = fixed s := by simp [sendOn]
@[simp] theorem fixed_flushIdle (s) : fixed (flushIdle s) = fixed s := by unfold flushIdle; split <;> simp

@[simp] theorem fixed_takeSlots (slow blks n s) : fixed (takeSlots slow blks n s) = fixed s :=
  fixed_of_keeps (keeps_takeSlots _ _ _ _)

@[simp] theorem fixed_trainFail (code s) : fixed (trainFail code s) = fixed s := fixed_of_keeps (keeps_trainFail _ _)
@[simp] theorem fixed_toDetect (s) : fixed (toDetect s) = fixed s := fixed_of_keeps (keeps_toDetect _)
@[simp] theorem fixed_linkDown (s) : fixed (linkDown s) = fixed s := fixed_of_keeps (keeps_linkDown _)

@[simp] theorem fixed_startTs1 (n lanes rate refuse up rHop rReason s) :
    fixed (startTs1 n lanes rate refuse up rHop rReason s) = fixed s := by simp [startTs1]

@[simp] theorem fixed_startTs3 (s) : fixed (startTs3 s) = fixed s := by simp [startTs3]
@[simp] theorem fixed_startRetrain (s) : fixed (startRetrain s) = fixed s := by simp [startRetrain]
@[simp] theorem fixed_enterFl0 (delay s) : fixed (enterFl0 delay s) = fixed s := fixed_of_keeps (keeps_enterFl0 _ _)
theorem execSignalDetect_completes (t s) : Completes s (execSignalDetect t s) := act_completes (by simp)
theorem execBlockLock_completes (t lane s) : Completes s (execBlockLock t lane s) := act_completes (by simp)
@[simp] theorem fixed_lockLoss (l s) : fixed (lockLoss l s) = fixed s := fixed_of_keeps (keeps_lockLoss _ _)
theorem execBlockLockLoss_completes (t lane bad s) : Completes s (execBlockLockLoss t lane bad s) := act_completes (by simp)
@[simp] theorem fixed_takeTs1 (blk s) : fixed (takeTs1 blk s) = fixed s := by simp [takeTs1]
theorem execTs1_completes (t blks skew n s) : Completes s (execTs1 t blks skew n s) := act_completes (by simp)
theorem execTs2_completes (t blks n s) : Completes s (execTs2 t blks n s) := act_completes (by simp)
theorem execTs3_completes (t blks s) : Completes s (execTs3 t blks s) := act_completes (by simp)
@[simp] theorem fixed_tryTs4 (s) : fixed (tryTs4 s) = fixed s := fixed_of_keeps (keeps_tryTs4 _)
theorem execTs4_completes (t blks n s) : Completes s (execTs4 t blks n s) := act_completes (by simp)
@[simp] theorem fixed_adaptLanes (ctle dfe eye s) : fixed (adaptLanes ctle dfe eye s) = fixed s := by simp [adaptLanes]

theorem execAdaptationComplete_completes (t ctle dfe eye skew s) :
    Completes s (execAdaptationComplete t ctle dfe eye skew s) := act_completes (by simp)

theorem execTrainingTimeout_completes (t s) : Completes s (execTrainingTimeout t s) := act_completes fun s => by
  split
  · rfl
  · split <;> simp

theorem execElectricalIdleEnd_completes (t s) : Completes s (execElectricalIdleEnd t s) := act_completes (by simp)
@[simp] theorem fixed_leaveIdle (s) : fixed (leaveIdle s) = fixed s := by simp [leaveIdle]

theorem execSync_completes (t blks n s) : Completes s (execSync t blks n s) := act_completes fun s => by
  extract_lets +onlyGivenNames blk whole s1
  have h1 : fixed s1 = fixed s := by simp [s1]
  clear_value s1
  split <;> simp [h1]

theorem execFl0Entry_completes (t delay s) : Completes s (execFl0Entry t delay s) := act_completes (by simp)

theorem execFastRetrainComplete_completes (t delay s) : Completes s (execFastRetrainComplete t delay s) :=
  act_completes (by simp)

theorem execFastRetrainFailed_completes (t s) : Completes s (execFastRetrainFailed t s) := act_completes (by simp)
theorem execLinkDown_completes (t s) : Completes s (execLinkDown t s) := act_completes (by simp)
theorem execNoSignalTimeout_completes (t s) : Completes s (execNoSignalTimeout t s) := act_completes (by simp)
theorem execEi1_completes (t blks n s) : Completes s (execEi1 t blks n s) := act_completes (by simp)
@[simp] theorem fixed_enterFl2 (s) : fixed (enterFl2 s) = fixed s := fixed_of_keeps (keeps_enterFl2 _)
@[simp] theorem fixed_goodMarker (blk skew c s) : fixed (goodMarker blk skew c s) = fixed s := by simp [goodMarker]
theorem execAlign_completes (t blks skew c s) : Completes s (execAlign t blks skew c s) := act_completes (by simp)

theorem execFerryRx_completes (t ctle dfe eye change s) : Completes s (execFerryRx t ctle dfe eye change s) :=
  act_completes (by simp)

/-! ### The journal of MRAM (chapter 17) -/

@[simp] theorem fixed_limpCauses (s) : fixed (limpCauses s) = fixed s := by simp [limpCauses]
@[simp] theorem fixed_copySl (s) : fixed (copySl s) = fixed s := by simp [copySl]
@[simp] theorem fixed_protLoad (s) : fixed (protLoad s) = fixed s := by simp [protLoad]
@[simp] theorem fixed_protReadBad (s) : fixed (protReadBad s) = fixed s := by simp [protReadBad]
@[simp] theorem fixed_jrnlApply (readOk j s) : fixed (jrnlApply readOk j s) = fixed s := by unfold jrnlApply; split <;> simp

@[simp] theorem fixed_jrnlKick (s) : fixed (jrnlKick s) = fixed s := by
  unfold jrnlKick
  split
  · rfl
  · split <;> simp

@[simp] theorem fixed_jrnlAsk (j s) : fixed (jrnlAsk j s) = fixed s := by simp [jrnlAsk]
@[simp] theorem fixed_jrnlHeader (s) : fixed (jrnlHeader s) = fixed s := by simp [jrnlHeader]
@[simp] theorem fixed_jrnlUnit (readOk s) : fixed (jrnlUnit readOk s) = fixed s := by unfold jrnlUnit; split <;> simp
theorem execMramProgramDone_completes (t readOk s) : Completes s (execMramProgramDone t readOk s) := act_completes (by simp)
@[simp] theorem fixed_jrnlResolve (s) : fixed (jrnlResolve s) = fixed s := by unfold jrnlResolve; split <;> simp

/-! ### Policies (Machine/Policy) -/

@[simp] theorem fixed_polCauses (s) : fixed (polCauses s) = fixed s := by simp [polCauses]

/-! ### Power states (chapter 16) -/

@[simp] theorem fixed_setDom (v s i) : fixed (setDom v s i) = fixed s := by simp [setDom]
@[simp] theorem fixed_setDoms (l v s) : fixed (setDoms l v s) = fixed s := by simp [setDoms]
theorem execDomainBoundMiss_completes (t i s) : Completes s (execDomainBoundMiss t i s) := act_completes (by simp)
@[simp] theorem fixed_coldState (s) : fixed (coldState s) = fixed s := by simp [coldState]
theorem execRstnLow_completes (t s) : Completes s (execRstnLow t s) := act_completes (by simp)
theorem execVaonLoss_completes (t s) : Completes s (execVaonLoss t s) := act_completes (by simp)

@[simp] theorem fixed_startBoot (testen lenA lenB fbClosed s) : fixed (startBoot testen lenA lenB fbClosed s) = fixed s := by
  simp [startBoot]

@[simp] theorem fixed_beginReady (s) : fixed (beginReady s) = fixed s := by simp [beginReady]

@[simp] theorem fixed_beginExit (s) : fixed (beginExit s) = fixed s := by
  unfold beginExit
  extract_lets _ s1
  have h1 : fixed s1 = fixed s := by simp [s1]
  clear_value s1
  split <;> simp [h1]

@[simp] theorem fixed_noteVcc (ok s) : fixed (noteVcc ok s) = fixed s := by simp [noteVcc]
theorem execVccRecovered_completes (t s) : Completes s (execVccRecovered t s) := act_completes (by simp)
@[simp] theorem fixed_keepWake (w s) : fixed (keepWake w s) = fixed s := by simp [keepWake]

theorem execWakeEvent_completes (t w vccOk s) : Completes s (execWakeEvent t w vccOk s) := act_completes fun s => by
  extract_lets s1
  have h1 : fixed s1 = fixed s := by simp [s1]
  clear_value s1
  split
  · exact h1
  · split <;> simp [h1]

@[simp] theorem fixed_release (s) : fixed (release s) = fixed s := by simp [release]
@[simp] theorem fixed_entryFailed (s) : fixed (entryFailed s) = fixed s := by simp [entryFailed]
@[simp] theorem fixed_refuse (b code s) : fixed (refuse b code s) = fixed s := by simp [refuse]
@[simp] theorem fixed_holdAcc (p s) : fixed (holdAcc p s) = fixed s := by simp [holdAcc]
@[simp] theorem fixed_standbyLoss (s) : fixed (standbyLoss s) = fixed s := by simp [standbyLoss]
@[simp] theorem fixed_passEi2 (s) : fixed (passEi2 s) = fixed s := by simp [passEi2]
@[simp] theorem fixed_dropTx (s) : fixed (dropTx s) = fixed s := by simp [dropTx]
@[simp] theorem fixed_enterLow (s) : fixed (enterLow s) = fixed s := by simp [enterLow]
@[simp] theorem fixed_commitEntry (s) : fixed (commitEntry s) = fixed s := by simp [commitEntry]
theorem execPrepareAnswer_completes (t b s) : Completes s (execPrepareAnswer t b s) := act_completes (by simp)
theorem execPrepareRetry_completes (t s) : Completes s (execPrepareRetry t s) := act_completes (by simp)
theorem execEi2WaitTimeout_completes (t s) : Completes s (execEi2WaitTimeout t s) := act_completes (by simp)

theorem execEi2_completes (t blks n s) : Completes s (execEi2 t blks n s) := act_completes fun s => by
  extract_lets whole s1 run s2
  have h1 : fixed s1 = fixed s := by simp [s1]
  have h2 : fixed s2 = fixed s := by simp [s2, h1]
  clear_value s1 s2
  split
  · split
    · split <;> simp [h2]
    · exact h2
  · exact h1

@[simp] theorem fixed_startEntry (target s) : fixed (startEntry target s) = fixed s := by simp [startEntry]
@[simp] theorem fixed_litToReady (s) : fixed (litToReady s) = fixed s := by simp [litToReady]
@[simp] theorem fixed_powerCmd (v s) : fixed (powerCmd v s).2 = fixed s := by unfold powerCmd; split <;> simp
@[simp] theorem fixed_powerH (data s) : fixed (powerH data s).2 = fixed s := by simp [powerH]
theorem execCommandStandby_completes (t p s) : Completes s (execCommandStandby t p s) := objWrite_completes (by simp)
theorem execCommandQuiet_completes (t p s) : Completes s (execCommandQuiet t p s) := objWrite_completes (by simp)
theorem execCommandReady_completes (t p vccOk s) : Completes s (execCommandReady t p vccOk s) := objWrite_completes (by simp)
theorem execCommandLit_completes (t p vccOk s) : Completes s (execCommandLit t p vccOk s) := objWrite_completes (by simp)
theorem execTapResetExit_completes (t cells s) : Completes s (execTapResetExit t cells s) := act_completes (by simp)

/-! ### The management subsystem (chapter 17) -/

@[simp] theorem fixed_setIrq (c q s) : fixed (setIrq c q s) = fixed s := by unfold setIrq; split <;> simp
@[simp] theorem fixed_coreRan (c s) : fixed (coreRan c s) = fixed s := by simp [coreRan]

theorem execClaim_completes (t c cfg s) : Completes s (execClaim t c cfg s) := act_completes fun s => by
  extract_lets s1 q hold win q1
  have h1 : fixed s1 = fixed s := by simp [s1]
  clear_value s1 win
  cases win <;> simp [h1]

@[simp] theorem fixed_yieldBack (s) : fixed (yieldBack s) = fixed s := by simp [yieldBack]
@[simp] theorem fixed_intoWfi (c s) : fixed (intoWfi c s) = fixed s := by simp [intoWfi]
theorem execComplete_completes (t c id s) : Completes s (execComplete t c id s) := act_completes (by simp)
theorem execModerationHoldoff_completes (t c id s) : Completes s (execModerationHoldoff t c id s) := act_completes (by simp)
@[simp] theorem fixed_irqEdge (c id s) : fixed (irqEdge c id s) = fixed s := by unfold irqEdge; split <;> simp
@[simp] theorem fixed_setTmr (c k f s) : fixed (setTmr c k f s) = fixed s := by unfold setTmr; split <;> simp
theorem execTimerFire_completes (t c k s) : Completes s (execTimerFire t c k s) := act_completes (by simp)

theorem execTmrCtrlWrite_completes (t c k ctrl sec ns period s) :
    Completes s (execTmrCtrlWrite t c k ctrl sec ns period s) := act_completes (by simp)

theorem execTnowRead_completes (t s) : Completes s (execTnowRead t s) := act_completes (by simp)
theorem execLogAppend_completes (t code ctx s) : Completes s (execLogAppend t code ctx s) := act_completes (by simp)
theorem execLogWrite_completes (t s) : Completes s (execLogWrite t s) := act_completes fun s => by split <;> simp
@[simp] theorem fixed_pinClearH (x s) : fixed (pinClearH x s).2 = fixed s := by simp [pinClearH]
theorem execPinClear_completes (t p v s) : Completes s (execPinClear t p v s) := objWrite_completes (by simp)
theorem execPurserWatchdogService_completes (t s) : Completes s (execPurserWatchdogService t s) := act_completes (by simp)
theorem execWatchdogWarning_completes (t c s) : Completes s (execWatchdogWarning t c s) := act_completes (by simp)
@[simp] theorem fixed_stopCustomer (s) : fixed (stopCustomer s) = fixed s := by simp [stopCustomer]
@[simp] theorem fixed_updFail (reason s) : fixed (updFail reason s) = fixed s := by simp [updFail]
theorem execPurserWatchdogExpiry_completes (t s) : Completes s (execPurserWatchdogExpiry t s) := act_completes (by simp)
@[simp] theorem fixed_customerTrap (addr isWrite s) : fixed (customerTrap addr isWrite s) = fixed s := by simp [customerTrap]
theorem execCustomerTrap_completes (t addr s) : Completes s (execCustomerTrap t addr s) := act_completes (by simp)

@[simp] theorem fixed_service {f : State → Nat × State} (hf : ∀ s, fixed (f s).2 = fixed s) (s) :
    fixed (service f s) = fixed s := by
  simp [service, hf]

theorem execVersion_completes (t s) : Completes s (execVersion t s) := act_completes (by simp)
theorem execAttach_completes (t src addr s) : Completes s (execAttach t src addr s) := act_completes (by simp)
theorem execYield_completes (t s) : Completes s (execYield t s) := act_completes (by simp)
theorem execSave_completes (t data s) : Completes s (execSave t data s) := act_completes (by simp)
theorem execSrSnap_completes (t s) : Completes s (execSrSnap t s) := act_completes (by simp)
@[simp] theorem fixed_unitFault (u off s) : fixed (unitFault u off s) = fixed s := by simp [unitFault]
@[simp] theorem fixed_unitPreset (u n s) : fixed (unitPreset u n s) = fixed s := by unfold unitPreset; split <;> simp

theorem execCrcStart_completes (t u ctrl poly init xorout s) : Completes s (execCrcStart t u ctrl poly init xorout s) :=
  act_completes (by simp)

theorem execCrcFinish_completes (t u s) : Completes s (execCrcFinish t u s) := act_completes (by simp)
theorem execCrcPreset_completes (t u n s) : Completes s (execCrcPreset t u n s) := act_completes (by simp)

theorem execCrcData_completes (t u value data s) : Completes s (execCrcData t u value data s) := act_completes fun s => by
  split
  · rfl
  · extract_lets s1
    have h1 : fixed s1 = fixed s := by cases value <;> simp [s1]
    simp [h1]

theorem execRinfoRead_completes (t u s) : Completes s (execRinfoRead t u s) := act_completes (by simp)

@[simp] theorem fixed_accessDenied (customer addr isWrite s) : fixed (accessDenied customer addr isWrite s) = fixed s := by
  simp [accessDenied]

@[simp] theorem fixed_autoarmWrite (c e on s) : fixed (autoarmWrite c e on s) = fixed s := by simp [autoarmWrite]

theorem execCoreAccessFault_completes (t c target addr isWrite s) : Completes s (execCoreAccessFault t c target addr isWrite s) :=
  act_completes fun s => by split <;> simp

@[simp] theorem fixed_updOpen (cust s) : fixed (updOpen cust s).2 = fixed s := by simp [updOpen]
@[simp] theorem fixed_updVerify (s) : fixed (updVerify s).2 = fixed s := by simp [updVerify]
@[simp] theorem fixed_updActivate (s) : fixed (updActivate s).2 = fixed s := by simp [updActivate]
@[simp] theorem fixed_updAbort (s) : fixed (updAbort s).2 = fixed s := by simp [updAbort]
@[simp] theorem fixed_updReboot (s) : fixed (updReboot s).2 = fixed s := by simp [updReboot]
@[simp] theorem fixed_updateH (data s) : fixed (updateH data s).2 = fixed s := by unfold updateH; split <;> simp
theorem execOpenFw_completes (t p s) : Completes s (execOpenFw t p s) := objWrite_completes (by simp)
theorem execOpenCustomer_completes (t p s) : Completes s (execOpenCustomer t p s) := objWrite_completes (by simp)
theorem execVerify_completes (t p s) : Completes s (execVerify t p s) := objWrite_completes (by simp)
theorem execActivate_completes (t p s) : Completes s (execActivate t p s) := objWrite_completes (by simp)
theorem execAbortUpdate_completes (t p s) : Completes s (execAbortUpdate t p s) := objWrite_completes (by simp)
theorem execReboot_completes (t p s) : Completes s (execReboot t p s) := objWrite_completes (by simp)
@[simp] theorem fixed_imageH (data s) : fixed (imageH data s).2 = fixed s := by simp [imageH]

theorem execUpdateImageWrite_completes (t p data s) : Completes s (execUpdateImageWrite t p data s) :=
  objWrite_completes (by simp)

@[simp] theorem fixed_keyH (n data s) : fixed (keyH n data s).2 = fixed s := by simp [keyH]
theorem execKeyWrite_completes (t p slot data s) : Completes s (execKeyWrite t p slot data s) := objWrite_completes (by simp)
@[simp] theorem fixed_pstoreCommitH (x s) : fixed (pstoreCommitH x s).2 = fixed s := by simp [pstoreCommitH]
theorem execPstoreCommit_completes (t p v s) : Completes s (execPstoreCommit t p v s) := objWrite_completes (by simp)
@[simp] theorem fixed_pstoreFail (result s) : fixed (pstoreFail result s) = fixed s := by simp [pstoreFail]

theorem execPstoreVerifyDone_completes (t s) : Completes s (execPstoreVerifyDone t s) := act_completes fun s => by
  split
  · rfl
  · split <;> simp

@[simp] theorem fixed_loadObjs (s) : fixed (loadObjs s) = fixed s := by simp [loadObjs]
@[simp] theorem fixed_canRates (s) : fixed (canRates s) = fixed s := by simp [canRates]
theorem execBootStart_completes (t s) : Completes s (execBootStart t s) := act_completes (by simp)
@[simp] theorem fixed_loadProt (s) : fixed (loadProt s) = fixed s := by simp [loadProt]
@[simp] theorem fixed_startCustomer (s) : fixed (startCustomer s) = fixed s := by simp [startCustomer]
@[simp] theorem fixed_sensorValid (ntc s) : fixed (sensorValid ntc s) = fixed s := by simp [sensorValid]
@[simp] theorem fixed_sensorsValid (s) : fixed (sensorsValid s) = fixed s := by simp [sensorsValid]
@[simp] theorem fixed_coresStart (version chk s) : fixed (coresStart version chk s) = fixed s := by simp [coresStart]
@[simp] theorem fixed_bootDone (version chk s) : fixed (bootDone version chk s) = fixed s := by simp [bootDone]
@[simp] theorem fixed_otherBank (s) : fixed (otherBank s) = fixed s := by simp [otherBank]
@[simp] theorem fixed_romStays (s) : fixed (romStays s) = fixed s := by simp [romStays]

theorem execImageVerifyDone_completes (t ok version vccOk chk s) :
    Completes s (execImageVerifyDone t ok version vccOk chk s) := act_completes (by simp)

/-! ### CAN and sessions (chapter 18) -/

@[simp] theorem fixed_sendIdent (s) : fixed (sendIdent s) = fixed s := by simp [sendIdent]
theorem execIdentifyRange_completes (t f s) : Completes s (execIdentifyRange t f s) := act_completes (by simp)
theorem execAssign_completes (t f s) : Completes s (execAssign t f s) := act_completes (by simp)
theorem execQuery_completes (t f s) : Completes s (execQuery t f s) := act_completes (by simp)
theorem execNodeCollision_completes (t s) : Completes s (execNodeCollision t s) := act_completes (by simp)
theorem execCollisionClear_completes (t s) : Completes s (execCollisionClear t s) := act_completes (by simp)
theorem execBusOff_completes (t s) : Completes s (execBusOff t s) := act_completes (by simp)
theorem execBusOffRecovery_completes (t s) : Completes s (execBusOffRecovery t s) := act_completes (by simp)
theorem execCanJoin_completes (t s) : Completes s (execCanJoin t s) := act_completes (by simp)
theorem execHeartbeatMessage_completes (t s) : Completes s (execHeartbeatMessage t s) := act_completes (by simp)

theorem execEventModeration_completes (t p code s) : Completes s (execEventModeration t p code s) := act_completes fun s => by
  extract_lets e
  split <;> simp

theorem execSummary_completes (t p s) : Completes s (execSummary t p s) := act_completes (by simp)
@[simp] theorem fixed_saveH (x s) : fixed (saveH x s).2 = fixed s := by simp [saveH]
theorem execCommSave_completes (t p v s) : Completes s (execCommSave t p v s) := objWrite_completes (by simp)
@[simp] theorem fixed_restoreH (x s) : fixed (restoreH x s).2 = fixed s := by simp [restoreH]
theorem execCommRestore_completes (t p v s) : Completes s (execCommRestore t p v s) := objWrite_completes (by simp)
@[simp] theorem fixed_challengeRead (p s) : fixed (challengeRead p s).2 = fixed s := by simp [challengeRead]
theorem execSessionChallenge_completes (t p s) : Completes s (execSessionChallenge t p s) := act_completes (by simp)
@[simp] theorem fixed_respFailed (p s) : fixed (respFailed p s) = fixed s := by simp [respFailed]

@[simp] theorem fixed_responseH (p data s) : fixed (responseH p data s).2 = fixed s := by
  unfold responseH
  split
  · rfl
  · split <;> simp

theorem execSessionResponse_completes (t p data s) : Completes s (execSessionResponse t p data s) :=
  objWrite_completes (by simp)

@[simp] theorem fixed_sessionCloseH (p x s) : fixed (sessionCloseH p x s).2 = fixed s := by simp [sessionCloseH]
theorem execSessionClose_completes (t p v s) : Completes s (execSessionClose t p v s) := objWrite_completes (by simp)
@[simp] theorem fixed_sessionKeyH (data s) : fixed (sessionKeyH data s).2 = fixed s := by simp [sessionKeyH]
theorem execSessionKey_completes (t p data s) : Completes s (execSessionKey t p data s) := objWrite_completes (by simp)
theorem execSessionTimeout_completes (t p s) : Completes s (execSessionTimeout t p s) := act_completes (by simp)
theorem execLockoutEnd_completes (t p s) : Completes s (execLockoutEnd t p s) := act_completes (by simp)
theorem execStateCommand_completes (t f vccOk s) : Completes s (execStateCommand t f vccOk s) := act_completes (by simp)

/-! ### Ferry packets and the ring (chapter 5) -/

@[simp] theorem fixed_countFail (k s) : fixed (countFail k s) = fixed s := by simp [countFail]
@[simp] theorem fixed_forwardK (k s) : fixed (forwardK k s) = fixed s := by simp [forwardK]
@[simp] theorem fixed_openIdle (n raw s) : fixed (openIdle n raw s) = fixed s := by simp [openIdle]
@[simp] theorem fixed_nack (ty seq cause s) : fixed (nack ty seq cause s) = fixed s := by simp [nack]

@[simp] theorem fixed_rememberDone (ty seq payload s) : fixed (rememberDone ty seq payload s) = fixed s := by
  simp [rememberDone]

@[simp] theorem fixed_frameAck (seq status fseq s) : fixed (frameAck seq status fseq s) = fixed s := by simp [frameAck]

@[simp] theorem fixed_rowError (slot row whole probe s) : fixed (rowError slot row whole probe s) = fixed s := by
  simp [rowError]

@[simp] theorem fixed_failedPacket (k s) : fixed (failedPacket k s) = fixed s := by unfold failedPacket; split <;> simp

theorem fixed_retryAnswer {k : Packet} {s s' : State} (h : retryAnswer k s = some s') : fixed s' = fixed s := by
  unfold retryAnswer at h
  split at h
  · cases h
  · split at h
    · cases h; rfl
    · split at h
      · cases h; simp
      · cases h

@[simp] theorem fixed_retryTransient (k s) : fixed (retryTransient k s) = fixed s := by simp [retryTransient]
@[simp] theorem fixed_took (s) : fixed (took s) = fixed s := by simp [took]

@[simp] theorem fixed_consume {f : State → State} (hf : ∀ s, fixed (f s) = fixed s) (k bad silent full s) :
    fixed (consume k bad silent full f s) = fixed s := by
  unfold consume
  extract_lets ask rsv good busy s1 _ s2
  have hb (s) : fixed (busy s) = fixed s := by simp [busy]
  have h1 : fixed s1 = fixed s := by simp [s1]
  have h2 : fixed s2 = fixed s := by simp [s2, h1]
  clear_value s1 s2 busy
  split
  · rfl
  split
  · simp [h1]
  split
  · simp [hb, h1]
  split
  · simp [h1]
  split
  next h =>
    split at h
    · exact (fixed_retryAnswer h).trans h2
    · cases h
  next => simp [hb, hf, h2]

@[simp] theorem fixed_badHeads (l s) : fixed (badHeads l s) = fixed s := by simp [badHeads]

@[simp] theorem fixed_takeHeader (k s) : fixed (takeHeader k s) = fixed s := by
  unfold takeHeader
  extract_lets _ s1 s2
  have h1 : fixed s1 = fixed s := by simp [s1]
  have h2 : fixed s2 = fixed s := by simp [s2, h1]
  simp [h1, h2]

theorem execPacketHeader_completes (t k badBlock bad s) : Completes s (execPacketHeader t k badBlock bad s) :=
  act_completes (by simp)

theorem execHuntConfirm_completes (t hdr s) : Completes s (execHuntConfirm t hdr s) := act_completes (by simp)

theorem execTimePacket_completes (t k s) : Completes s (execTimePacket t k s) := act_completes fun s => by
  split
  · rfl
  · refine fixed_consume (fun s => ?_) ..
    split
    · simp
    · split <;> simp

@[simp] theorem fixed_newAddress (addr s) : fixed (newAddress addr s) = fixed s := by simp [newAddress]
theorem execEnum_completes (t k s) : Completes s (execEnum t k s) := act_completes (by simp)
theorem execEcho_completes (t k s) : Completes s (execEcho t k s) := act_completes (by simp)
theorem execStatusReq_completes (t k s) : Completes s (execStatusReq t k s) := act_completes (by simp)
theorem execStatusPeriod_completes (t s) : Completes s (execStatusPeriod t s) := act_completes (by simp)
@[simp] theorem fixed_sendOwn (o s) : fixed (sendOwn o s) = fixed s := by simp [sendOwn]
@[simp] theorem fixed_sendStatus (s) : fixed (sendStatus s) = fixed s := by simp [sendStatus]
@[simp] theorem fixed_atIdle (n s) : fixed (atIdle n s) = fixed s := by simp [atIdle]

theorem execOwnPacketInsert_completes (t units s) : Completes s (execOwnPacketInsert t units s) := act_completes fun s => by
  split
  · rfl
  · extract_lets s1
    have h1 : fixed s1 = fixed s := by simp [s1]
    clear_value s1
    split <;> simp [h1]

/-! ### Surface memory (chapter 6) -/

@[simp] theorem fixed_modSurf (f s) : fixed (modSurf f s) = fixed s := by simp [modSurf]
@[simp] theorem fixed_modSlot (n f s) : fixed (modSlot n f s) = fixed s := by simp [modSlot]
@[simp] theorem fixed_recount (n y s0 s) : fixed (recount n y s0 s) = fixed s := by simp [recount]
@[simp] theorem fixed_poisonWord (w s) : fixed (poisonWord w s) = fixed s := by simp [poisonWord]
@[simp] theorem fixed_eccRead (w errors s) : fixed (eccRead w errors s) = fixed s := by simp [eccRead]
@[simp] theorem fixed_eccReads (p ecc s) : fixed (eccReads p ecc s) = fixed s := by simp [eccReads]
theorem execScrub_completes (t word errors s) : Completes s (execScrub t word errors s) := act_completes (by simp)
@[simp] theorem fixed_cacheEmpty (s) : fixed (cacheEmpty s) = fixed s := by simp [cacheEmpty]
@[simp] theorem fixed_cacheTouch (p s) : fixed (cacheTouch p s) = fixed s := by simp [cacheTouch]
@[simp] theorem fixed_surfWrite (addr bs s) : fixed (surfWrite addr bs s) = fixed s := by simp [surfWrite]
@[simp] theorem fixed_writeState (n s) : fixed (writeState n s) = fixed s := by simp [writeState]

@[simp] theorem fixed_surfPacket (probe k ecc s) : fixed (surfPacket probe k ecc s) = fixed s := by
  unfold surfPacket
  extract_lets +onlyGivenNames n mode nb x row col off
  split <;> simp

theorem execSurf_completes (t k ecc s) : Completes s (execSurf t k ecc s) := act_completes (by simp)
theorem execProbePacket_completes (t k ecc s) : Completes s (execProbePacket t k ecc s) := act_completes (by simp)
@[simp] theorem fixed_slotResult (code s) : fixed (slotResult code s) = fixed s := by simp [slotResult]
@[simp] theorem fixed_configure (d s) : fixed (configure d s) = fixed s := by simp [configure]
@[simp] theorem fixed_configureH (d s) : fixed (configureH d s).2 = fixed s := by unfold configureH; split <;> simp
theorem execSlotConfigure_completes (t p data s) : Completes s (execSlotConfigure t p data s) := objWrite_completes (by simp)
@[simp] theorem fixed_slotReady (n s) : fixed (slotReady n s).2 = fixed s := by simp [slotReady]
@[simp] theorem fixed_slotRelease (n s) : fixed (slotRelease n s).2 = fixed s := by simp [slotRelease]

@[simp] theorem fixed_slotCommandH (d s) : fixed (slotCommandH d s).2 = fixed s := by
  unfold slotCommandH
  extract_lets v
  split
  · simp
  · split <;> simp

theorem execSlotReady_completes (t p v s) : Completes s (execSlotReady t p v s) := objWrite_completes (by simp)
theorem execSlotRelease_completes (t p v s) : Completes s (execSlotRelease t p v s) := objWrite_completes (by simp)
theorem execSlotCheckEnd_completes (t n ecc s) : Completes s (execSlotCheckEnd t n ecc s) := act_completes (by simp)
@[simp] theorem fixed_takePin (n s) : fixed (takePin n s) = fixed s := by simp [takePin]
@[simp] theorem fixed_releasePin (seq n s) : fixed (releasePin seq n s) = fixed s := by simp [releasePin]
@[simp] theorem fixed_releasePins (d s) : fixed (releasePins d s) = fixed s := by simp [releasePins]
@[simp] theorem fixed_surfLost (s) : fixed (surfLost s) = fixed s := by simp [surfLost]
@[simp] theorem fixed_cacheSizeH (d s) : fixed (cacheSizeH d s).2 = fixed s := by simp [cacheSizeH]
theorem execCacheSizeWrite_completes (t p v s) : Completes s (execCacheSizeWrite t p v s) := objWrite_completes (by simp)
@[simp] theorem fixed_paletteH (n d s) : fixed (paletteH n d s).2 = fixed s := by simp [paletteH]

theorem execPaletteWrite_completes (t p n data s) : Completes s (execPaletteWrite t p n data s) :=
  objWrite_completes (by simp)

/-! ### The Tollgate (chapter 15) -/

@[simp] theorem fixed_endSubst (i s) : fixed (endSubst i s) = fixed s := by simp [endSubst]
@[simp] theorem fixed_endSubsts (s) : fixed (endSubsts s) = fixed s := by simp [endSubsts]
@[simp] theorem fixed_unlatch (id s) : fixed (unlatch id s) = fixed s := by simp [unlatch]
@[simp] theorem fixed_refuseClear (code s) : fixed (refuseClear code s).2 = fixed s := by simp [refuseClear]
@[simp] theorem fixed_clearH (p data s) : fixed (clearH p data s).2 = fixed s := by simp [clearH]
theorem execTollgateClear_completes (t p v s) : Completes s (execTollgateClear t p v s) := objWrite_completes (by simp)
@[simp] theorem fixed_clearAllH (p x s) : fixed (clearAllH p x s).2 = fixed s := by simp [clearAllH]
theorem execClearAll_completes (t p v s) : Completes s (execClearAll t p v s) := objWrite_completes (by simp)
@[simp] theorem fixed_moveDown (s) : fixed (moveDown s) = fixed s := by simp [moveDown]
@[simp] theorem fixed_resetRequest (src s) : fixed (resetRequest src s) = fixed s := by simp [resetRequest]
@[simp] theorem fixed_tollgateResetH (data s) : fixed (tollgateResetH data s).2 = fixed s := by simp [tollgateResetH]
theorem execResetArm_completes (t p s) : Completes s (execResetArm t p s) := objWrite_completes (by simp)
theorem execResetConfirm_completes (t p s) : Completes s (execResetConfirm t p s) := objWrite_completes (by simp)
theorem execSresetRise_completes (t s) : Completes s (execSresetRise t s) := act_completes (by simp)
theorem execSresetRequest_completes (t s) : Completes s (execSresetRequest t s) := act_completes (by simp)
theorem execSresetJam_completes (t s) : Completes s (execSresetJam t s) := act_completes (by simp)
theorem execSresetArm_completes (t s) : Completes s (execSresetArm t s) := act_completes (by simp)
theorem execLenChange_completes (t channelB on s) : Completes s (execLenChange t channelB on s) := act_completes (by simp)
theorem execDiscrepancyTimeout_completes (t s) : Completes s (execDiscrepancyTimeout t s) := act_completes (by simp)
theorem execDiscFbChange_completes (t closed s) : Completes s (execDiscFbChange t closed s) := act_completes (by simp)
theorem execDiscFbTimeout_completes (t s) : Completes s (execDiscFbTimeout t s) := act_completes (by simp)
theorem execBlankingTimeout_completes (t s) : Completes s (execBlankingTimeout t s) := act_completes (by simp)
theorem execHelmWatchdog_completes (t s) : Completes s (execHelmWatchdog t s) := act_completes (by simp)
theorem execLinkLossTimeout_completes (t s) : Completes s (execLinkLossTimeout t s) := act_completes (by simp)
@[simp] theorem fixed_selfFault (s) : fixed (selfFault s) = fixed s := by simp [selfFault]
theorem execSelfFault_completes (t s) : Completes s (execSelfFault t s) := act_completes (by simp)

theorem execHoldLineReadback_completes (t south asserted s) : Completes s (execHoldLineReadback t south asserted s) :=
  act_completes (by simp)

@[simp] theorem fixed_classH (data s) : fixed (classH data s).2 = fixed s := by simp [classH]
theorem execClassWrite_completes (t p data s) : Completes s (execClassWrite t p data s) := objWrite_completes (by simp)
@[simp] theorem fixed_stage (c s) : fixed (stage c s).2 = fixed s := by simp [stage]
@[simp] theorem fixed_limpH (n data s) : fixed (limpH n data s).2 = fixed s := by simp [limpH]

theorem execLimpPatternWrite_completes (t p n data s) : Completes s (execLimpPatternWrite t p n data s) :=
  objWrite_completes (by simp)

@[simp] theorem fixed_mapH (data s) : fixed (mapH data s).2 = fixed s := by simp [mapH]

theorem execFunctionMapWrite_completes (t p data s) : Completes s (execFunctionMapWrite t p data s) :=
  objWrite_completes (by simp)

theorem execLimpLoadDone_completes (t s) : Completes s (execLimpLoadDone t s) := act_completes (by simp)
@[simp] theorem fixed_factoryEnd (s) : fixed (factoryEnd s) = fixed s := by simp [factoryEnd]
@[simp] theorem fixed_unlockH (data s) : fixed (unlockH data s).2 = fixed s := by simp [unlockH]
theorem execFactoryUnlock_completes (t p v s) : Completes s (execFactoryUnlock t p v s) := objWrite_completes (by simp)
theorem execFactoryExit_completes (t p s) : Completes s (execFactoryExit t p s) := objWrite_completes (by simp)

@[simp] theorem fixed_inject (id form s) : fixed (inject id form s) = fixed s := by
  unfold inject
  extract_lets +onlyGivenNames had raised
  have hr (s) : fixed (raised s) = fixed s := by simp [raised]
  clear_value raised
  split <;> simp [hr]

@[simp] theorem fixed_injectH (data s) : fixed (injectH data s).2 = fixed s := by simp [injectH]
theorem execFactoryInject_completes (t p v s) : Completes s (execFactoryInject t p v s) := objWrite_completes (by simp)
@[simp] theorem fixed_injectClearH (x s) : fixed (injectClearH x s).2 = fixed s := by simp [injectClearH]

theorem execFactoryInjectClear_completes (t p v s) : Completes s (execFactoryInjectClear t p v s) :=
  objWrite_completes (by simp)

/-! ### Glare masks (chapter 8) -/

@[simp] theorem fixed_modMask (f s) : fixed (modMask f s) = fixed s := by simp [modMask]
@[simp] theorem fixed_maskReject (reason mseq s) : fixed (maskReject reason mseq s) = fixed s := by simp [maskReject]
@[simp] theorem fixed_maskCause (s) : fixed (maskCause s) = fixed s := by simp [maskCause]
@[simp] theorem fixed_unexpire (u s) : fixed (unexpire u s) = fixed s := by simp [unexpire]
@[simp] theorem fixed_maskLives (s) : fixed (maskLives s) = fixed s := by unfold maskLives; split <;> simp

theorem execMaskSet_completes (t k s) : Completes s (execMaskSet t k s) := act_completes fun s => by
  split
  · rfl
  · refine fixed_consume (fun s => ?_) ..
    split <;> simp

theorem execMaskRenew_completes (t k s) : Completes s (execMaskRenew t k s) := act_completes (by simp)
theorem execMaskExpiry_completes (t s) : Completes s (execMaskExpiry t s) := act_completes (by simp)

@[simp] theorem fixed_maskTake (l s) : fixed (maskTake l s) = fixed s := by
  unfold maskTake
  extract_lets known
  split <;> simp

@[simp] theorem fixed_maskLaunch (p s) : fixed (maskLaunch p s) = fixed s := by simp [maskLaunch]
@[simp] theorem fixed_maskNone (s) : fixed (maskNone s) = fixed s := by simp [maskNone]

/-! ### Composition (chapter 7) -/

@[simp] theorem fixed_squareRefused (code item raw s) : fixed (squareRefused code item raw s) = fixed s := by
  simp [squareRefused]

@[simp] theorem fixed_cacheFill (j y s) : fixed (cacheFill j y s) = fixed s := by unfold cacheFill; split <;> simp
@[simp] theorem fixed_cacheRepair (j y s) : fixed (cacheRepair j y s) = fixed s := by unfold cacheRepair; split <;> simp
@[simp] theorem fixed_layerH (data s) : fixed (layerH data s).2 = fixed s := by simp [layerH]

theorem execProtectedLayerWrite_completes (t p data s) : Completes s (execProtectedLayerWrite t p data s) :=
  objWrite_completes (by simp)

/-! ### The Quay (chapter 9) -/

@[simp] theorem fixed_quayEvent (bit ctx s) : fixed (quayEvent bit ctx s) = fixed s := by simp [quayEvent]
@[simp] theorem fixed_takeUnits (s) : fixed (takeUnits s) = fixed s := by simp [takeUnits]
@[simp] theorem fixed_winPublish (n s) : fixed (winPublish n s) = fixed s := by simp [winPublish]
@[simp] theorem fixed_modWin (n f s) : fixed (modWin n f s) = fixed s := by simp [modWin]
@[simp] theorem fixed_winMismatch (n j s) : fixed (winMismatch n j s) = fixed s := by simp [winMismatch]
@[simp] theorem fixed_unitTakes (u r s) : fixed (unitTakes u r s) = fixed s := by simp [unitTakes]

@[simp] theorem fixed_winDone (n j s) : fixed (winDone n j s) = fixed s := by
  unfold winDone
  extract_lets w r s1 s2 good pass
  have h2 : fixed s2 = fixed s := by simp [s2, s1]
  have hp (s) : fixed (pass s) = fixed s := by simp [pass]
  clear_value s2 pass
  rw [fixed_winPublish]
  split
  · simp [h2]
  · split <;> simp [h2, hp]
  · simp [h2, hp]

@[simp] theorem fixed_winTap (tap y vals j s) : fixed (winTap tap y vals j s) = fixed s := by simp [winTap]
@[simp] theorem fixed_winRetry (s) : fixed (winRetry s) = fixed s := by unfold winRetry; split <;> simp
@[simp] theorem fixed_startLoad (seq s) : fixed (startLoad seq s) = fixed s := by simp [startLoad]
@[simp] theorem fixed_switchBank (s) : fixed (switchBank s) = fixed s := by unfold switchBank; split <;> simp
@[simp] theorem fixed_recordUse (seq s p) : fixed (recordUse seq s p) = fixed s := by unfold recordUse; split <;> simp

theorem execCompositionStart_completes (t s) : Completes s (execCompositionStart t s) := act_completes fun s => by
  split <;> simp

@[simp] theorem fixed_composed (j s) : fixed (composed j s) = fixed s := by simp [composed]
@[simp] theorem fixed_bankErrors (ws s) : fixed (bankErrors ws s) = fixed s := by simp [bankErrors]

theorem execComposeRow_completes (t south ecc bankErr s) :
    Completes s (execComposeRow t south ecc bankErr s) := act_completes fun s => by
  extract_lets +onlyGivenNames y s1
  have h1 : fixed s1 = fixed s := by simp [s1]
  clear_value s1
  split
  · rfl
  split
  · exact h1
  split <;> simp [h1]

@[simp] theorem fixed_countRow (ws s) : fixed (countRow ws s) = fixed s := by simp [countRow]
@[simp] theorem fixed_rowDone (south y words kept s) : fixed (rowDone south y words kept s) = fixed s := by simp [rowDone]

theorem execQuayRowCorrect_completes (t south s) : Completes s (execQuayRowCorrect t south s) := act_completes fun s => by
  extract_lets h
  split
  · rfl
  · split <;> simp

theorem execRowUnderrun_completes (t south x s) : Completes s (execRowUnderrun t south x s) := act_completes fun s => by
  split <;> simp

@[simp] theorem fixed_writeShadow (y words s) : fixed (writeShadow y words s) = fixed s := by simp [writeShadow]
@[simp] theorem fixed_needRow (y words s) : fixed (needRow y words s) = fixed s := by simp [needRow]
@[simp] theorem fixed_loadDone (s) : fixed (loadDone s) = fixed s := by simp [loadDone]

theorem execRowSend_completes (t south s) : Completes s (execRowSend t south s) := act_completes fun s => by
  split
  · rfl
  · split <;> simp

/-! ### Pattern engines (chapter 13) -/

@[simp] theorem fixed_modPat (f s) : fixed (modPat f s) = fixed s := by simp [modPat]
@[simp] theorem fixed_modEng (e f s) : fixed (modEng e f s) = fixed s := by simp [modEng]
@[simp] theorem fixed_pgInstall (e p s) : fixed (pgInstall e p s) = fixed s := by unfold pgInstall; split <;> simp
@[simp] theorem fixed_programH (e data s) : fixed (programH e data s).2 = fixed s := by simp [programH]

theorem execProgramWrite_completes (t p e data s) : Completes s (execProgramWrite t p e data s) :=
  objWrite_completes (by simp)

@[simp] theorem fixed_peWrite {f : State → State} (hf : ∀ s, fixed (f s) = fixed s) (off s) :
    fixed (peWrite off f s) = fixed s := by
  simp [peWrite, hf]

theorem execPeLoad_completes (t e addr len customer data s) : Completes s (execPeLoad t e addr len customer data s) :=
  act_completes (by simp)

@[simp] theorem fixed_latch (e s) : fixed (latch e s) = fixed s := by simp [latch]
@[simp] theorem fixed_timeFire (e s) : fixed (timeFire e s) = fixed s := by simp [timeFire]
theorem execTimeTrigger_completes (t e s) : Completes s (execTimeTrigger t e s) := act_completes (by simp)
@[simp] theorem fixed_engCommand (e cmd s) : fixed (engCommand e cmd s).2 = fixed s := by unfold engCommand; split <;> simp
@[simp] theorem fixed_engCommandH (e data s) : fixed (engCommandH e data s).2 = fixed s := by simp [engCommandH]

theorem engWrite_completes (t p e cmd s) : Completes s (engWrite t p e cmd s) := by
  cases p with
  | some p => exact objWrite_completes (by simp)
  | none => exact act_completes (by simp)

theorem execArm_completes (t p e s) : Completes s (execArm t p e s) := engWrite_completes ..
theorem execStop_completes (t p e s) : Completes s (execStop t p e s) := engWrite_completes ..
theorem execTrigger_completes (t p e s) : Completes s (execTrigger t p e s) := engWrite_completes ..
@[simp] theorem fixed_triggerSet (v s) : fixed (triggerSet v s) = fixed s := by simp [triggerSet]
@[simp] theorem fixed_triggerSetH (data s) : fixed (triggerSetH data s).2 = fixed s := by simp [triggerSetH]

theorem execTriggerSet_completes (t p v s) : Completes s (execTriggerSet t p v s) := by
  cases p with
  | some p => exact objWrite_completes (by simp)
  | none => exact act_completes (by simp)

@[simp] theorem fixed_emitMarker (e s) : fixed (emitMarker e s) = fixed s := by simp [emitMarker]
@[simp] theorem fixed_engPublish (e s) : fixed (engPublish e s) = fixed s := by simp [engPublish]
@[simp] theorem fixed_patTick (next s) : fixed (patTick next s) = fixed s := by simp [patTick]
@[simp] theorem fixed_patVisible (s) : fixed (patVisible s) = fixed s := by unfold patVisible; split <;> simp
@[simp] theorem fixed_patReady (s) : fixed (patReady s) = fixed s := by simp [patReady]

/-! ### The supply (chapter 11) -/

@[simp] theorem fixed_modSup (f s) : fixed (modSup f s) = fixed s := by simp [modSup]
@[simp] theorem fixed_bfSat (hit s) : fixed (bfSat hit s) = fixed s := by simp [bfSat]

@[simp] theorem fixed_headroom (s) : fixed (headroom s) = fixed s := by
  unfold headroom
  extract_lets s1 need
  have h1 : fixed s1 = fixed s := by simp [s1]
  clear_value s1 need
  split <;> simp [h1]

@[simp] theorem fixed_vledStep (s) : fixed (vledStep s) = fixed s := by simp [vledStep]
theorem execLevelStep_completes (t s) : Completes s (execLevelStep t s) := act_completes (by simp)
@[simp] theorem fixed_vledFrom (v s) : fixed (vledFrom v s) = fixed s := by simp [vledFrom]
@[simp] theorem fixed_repClear (s) : fixed (repClear s) = fixed s := by simp [repClear]

@[simp] theorem fixed_binEnd (s) : fixed (binEnd s) = fixed s := by
  unfold binEnd
  split
  · rfl
  · extract_lets u done
    have hd : fixed done = fixed s := by simp [done]
    split
    · exact hd
    · split <;> simp [hd]

@[simp] theorem fixed_profFall (s) : fixed (profFall s) = fixed s := by simp [profFall]
@[simp] theorem fixed_binMove (s) : fixed (binMove s) = fixed s := by simp [binMove]

@[simp] theorem fixed_repBoundary (qualifies modeTook s) : fixed (repBoundary qualifies modeTook s) = fixed s := by
  simp [repBoundary]

@[simp] theorem fixed_repClearH (x s) : fixed (repClearH x s).2 = fixed s := by simp [repClearH]
theorem execRepClear_completes (t p v s) : Completes s (execRepClear t p v s) := objWrite_completes (by simp)
@[simp] theorem fixed_repEnableH (data s) : fixed (repEnableH data s).2 = fixed s := by simp [repEnableH]
@[simp] theorem fixed_senseLimitH (sub data s) : fixed (senseLimitH sub data s).2 = fixed s := by simp [senseLimitH]
@[simp] theorem fixed_limitSample (s) : fixed (limitSample s) = fixed s := by simp [limitSample]
@[simp] theorem fixed_sampleLoop (v s) : fixed (sampleLoop v s) = fixed s := by simp [sampleLoop]
@[simp] theorem fixed_retriesPass (s) : fixed (retriesPass s) = fixed s := by simp [retriesPass]
theorem execControlSample_completes (t v i s) : Completes s (execControlSample t v i s) := act_completes (by simp)
@[simp] theorem fixed_setPhg (p on s) : fixed (setPhg p on s) = fixed s := by simp [setPhg]
@[simp] theorem fixed_phaseLaw (p i s) : fixed (phaseLaw p i s) = fixed s := by simp [phaseLaw]
theorem execPhaseSwitch_completes (t ph i s) : Completes s (execPhaseSwitch t ph i s) := act_completes (by simp)
theorem execFreeRunning_completes (t s) : Completes s (execFreeRunning t s) := act_completes (by simp)
theorem execFreeRunSwitch_completes (t v s) : Completes s (execFreeRunSwitch t v s) := act_completes (by simp)
theorem execVledOvervoltage_completes (t v s) : Completes s (execVledOvervoltage t v s) := act_completes (by simp)
theorem execOvervoltageRestart_completes (t v s) : Completes s (execOvervoltageRestart t v s) := act_completes (by simp)
theorem execVledUndervoltage_completes (t v s) : Completes s (execVledUndervoltage t v s) := act_completes (by simp)
theorem execSenseFault_completes (t ph s) : Completes s (execSenseFault t ph s) := act_completes (by simp)
theorem execSenseRetry_completes (t ph s) : Completes s (execSenseRetry t ph s) := act_completes (by simp)
theorem execPhaseImbalance_completes (t ph s) : Completes s (execPhaseImbalance t ph s) := act_completes (by simp)
@[simp] theorem fixed_supPublish (s) : fixed (supPublish s) = fixed s := by simp [supPublish]

@[simp] theorem fixed_supBoundary (newFrame qualifies modeTook s) :
    fixed (supBoundary newFrame qualifies modeTook s) = fixed s := by simp [supBoundary]

@[simp] theorem fixed_supReady (s) : fixed (supReady s) = fixed s := by simp [supReady]

/-! ### Temperature and light (chapter 12) -/

@[simp] theorem fixed_modTh (f s) : fixed (modTh f s) = fixed s := by simp [modTh]
@[simp] theorem fixed_formTd (d s) : fixed (formTd d s) = fixed s := by unfold formTd; split <;> simp
@[simp] theorem fixed_formAllTd (s) : fixed (formAllTd s) = fixed s := by simp [formAllTd]
@[simp] theorem fixed_judge (i b s) : fixed (judge i b s) = fixed s := by simp [judge]
@[simp] theorem fixed_sampleArr (v s) : fixed (sampleArr v s) = fixed s := by simp [sampleArr]
@[simp] theorem fixed_sampleNtc (uv s) : fixed (sampleNtc uv s) = fixed s := by simp [sampleNtc]
@[simp] theorem fixed_sampleCtl (v s) : fixed (sampleCtl v s) = fixed s := by simp [sampleCtl]
@[simp] theorem fixed_levelCauses (s) : fixed (levelCauses s) = fixed s := by simp [levelCauses]
@[simp] theorem fixed_toLevel (l s) : fixed (toLevel l s) = fixed s := by simp [toLevel]
@[simp] theorem fixed_levelTimers (s) : fixed (levelTimers s) = fixed s := by simp [levelTimers]
@[simp] theorem fixed_levelAtOnce (s) : fixed (levelAtOnce s) = fixed s := by simp [levelAtOnce]
theorem execThermalLevelChange_completes (t s) : Completes s (execThermalLevelChange t s) := act_completes (by simp)
@[simp] theorem fixed_timersRestart (s) : fixed (timersRestart s) = fixed s := by simp [timersRestart]
@[simp] theorem fixed_throttleTimers (s) : fixed (throttleTimers s) = fixed s := by simp [throttleTimers]
@[simp] theorem fixed_rateStep (s) : fixed (rateStep s) = fixed s := by simp [rateStep]
theorem execThrottleStepDown_completes (t s) : Completes s (execThrottleStepDown t s) := act_completes (by simp)
theorem execThrottleStepUp_completes (t s) : Completes s (execThrottleStepUp t s) := act_completes (by simp)
@[simp] theorem fixed_rateTake (s) : fixed (rateTake s) = fixed s := by simp [rateTake]
@[simp] theorem fixed_ctlJudge (s) : fixed (ctlJudge s) = fixed s := by simp [ctlJudge]
@[simp] theorem fixed_thPublish (s) : fixed (thPublish s) = fixed s := by simp [thPublish]

theorem execThermalSample_completes (t diode ntcUv ctl s) : Completes s (execThermalSample t diode ntcUv ctl s) :=
  act_completes (by simp)

theorem execColdStartEnd_completes (t ntc s) : Completes s (execColdStartEnd t ntc s) := act_completes (by simp)
@[simp] theorem fixed_mgmtBoot (s) : fixed (mgmtBoot s) = fixed s := by simp [mgmtBoot]
@[simp] theorem fixed_objsHold (rep s) : fixed (objsHold rep s) = fixed s := by simp [objsHold]
theorem execManagementRestart_completes (t s) : Completes s (execManagementRestart t s) := act_completes (by simp)
@[simp] theorem fixed_thReady (s) : fixed (thReady s) = fixed s := by simp [thReady]
@[simp] theorem fixed_lightUpdate (l s) : fixed (lightUpdate l s) = fixed s := by simp [lightUpdate]
@[simp] theorem fixed_lightForm (l s) : fixed (lightForm l s) = fixed s := by simp [lightForm]
theorem execColourLoop_completes (t blue broad s) : Completes s (execColourLoop t blue broad s) := act_completes (by simp)
@[simp] theorem fixed_lightFrame (lo k s) : fixed (lightFrame lo k s) = fixed s := by simp [lightFrame]
theorem execFluxFault_completes (t s) : Completes s (execFluxFault t s) := act_completes (by simp)
theorem execColourFault_completes (t s) : Completes s (execColourFault t s) := act_completes (by simp)
@[simp] theorem fixed_loopEnableH (data s) : fixed (loopEnableH data s).2 = fixed s := by simp [loopEnableH]

/-! ### The schedule and its modes (chapter 3) -/

@[simp] theorem fixed_modeCommitH (x s) : fixed (modeCommitH x s).2 = fixed s := by
  unfold modeCommitH
  extract_lets +onlyGivenNames m
  split <;> simp

theorem execModeCommit_completes (t p v s) : Completes s (execModeCommit t p v s) := objWrite_completes (by simp)
theorem execRetimingEnd_completes (t s) : Completes s (execRetimingEnd t s) := act_completes (by simp)

@[simp] theorem fixed_placeAbs (x base acc i) : fixed (placeAbs x base acc i).2 = fixed acc.2 := by
  unfold placeAbs
  extract_lets s c b0 ts
  split
  · rfl
  · refine fixed_foldl_snd (fun acc t => ?_) ..
    extract_lets pos s1
    have h1 : fixed s1 = fixed acc.2 := by simp [s1]
    split
    · rfl
    · split <;> simp [h1]

@[simp] theorem fixed_placeItems (x base enabled s) : fixed (placeItems x base enabled s).2 = fixed s := by
  unfold placeItems
  exact fixed_foldl_snd (fixed_placeAbs x base) _ _

theorem execRampTail_completes (t s) : Completes s (execRampTail t s) := act_completes (by simp)

/-! ### Diagnosis and calibrations (chapter 10) -/

@[simp] theorem fixed_modDiag (f s) : fixed (modDiag f s) = fixed s := by simp [modDiag]
@[simp] theorem fixed_vfMap (s) : fixed (vfMap s) = fixed s := by simp [vfMap]
@[simp] theorem fixed_tablePut (k cls s) : fixed (tablePut k cls s) = fixed s := by simp [tablePut]
@[simp] theorem fixed_lastingFail (k cls s) : fixed (lastingFail k cls s) = fixed s := by simp [lastingFail]
@[simp] theorem fixed_firstFail (k cls s) : fixed (firstFail k cls s) = fixed s := by simp [firstFail]
@[simp] theorem fixed_confirm (k cls s) : fixed (confirm k cls s) = fixed s := by simp [confirm]
@[simp] theorem fixed_outcome (k cls s) : fixed (outcome k cls s) = fixed s := by simp [outcome]
@[simp] theorem fixed_measured (k vf live s) : fixed (measured k vf live s) = fixed s := by simp [measured]
@[simp] theorem fixed_discard (s) : fixed (Machine.discard s) = fixed s := by simp [Machine.discard]
@[simp] theorem fixed_convUsed (d s) : fixed (convUsed d s) = fixed s := by simp [convUsed]

@[simp] theorem fixed_litWindow (x y forced cut rail vf i s) : fixed (litWindow x y forced cut rail vf i s) = fixed s := by
  simp [litWindow]

theorem execSenseWindowDone_completes (t px py kind cut rail vf i s) :
    Completes s (execSenseWindowDone t px py kind cut rail vf i s) := act_completes fun s => by split <;> simp

@[simp] theorem fixed_offerWindow (d s at_) : fixed (offerWindow d s at_) = fixed s := by
  unfold offerWindow
  extract_lets mine
  split
  · rfl
  · split <;> simp

@[simp] theorem fixed_pulseTrim (s) : fixed (pulseTrim s) = fixed s := by simp [pulseTrim]
@[simp] theorem fixed_pulseFill (s) : fixed (pulseFill s) = fixed s := by simp [pulseFill]

theorem execForcedPulse_completes (t d s) : Completes s (execForcedPulse t d s) := act_completes fun s => by
  extract_lets s1
  have h1 : fixed s1 = fixed s := by simp [s1]
  clear_value s1
  split <;> simp [h1]

@[simp] theorem fixed_claimRequest (s) : fixed (claimRequest s) = fixed s := by simp [claimRequest]
@[simp] theorem fixed_stuckFound (k cur s) : fixed (stuckFound k cur s) = fixed s := by simp [stuckFound]
@[simp] theorem fixed_setSearch (d q s) : fixed (setSearch d q s) = fixed s := by simp [setSearch]

@[simp] theorem fixed_searchRead (d s reading) : fixed (searchRead d s reading) = fixed s := by
  unfold searchRead; split <;> simp

theorem execStuckScreen_completes (t d sum windows s) : Completes s (execStuckScreen t d sum windows s) :=
  act_completes (by simp)

@[simp] theorem fixed_distPublish (overdue s d) : fixed (distPublish overdue s d) = fixed s := by simp [distPublish]
theorem execSweepEnd_completes (t s) : Completes s (execSweepEnd t s) := act_completes (by simp)
@[simp] theorem fixed_tableClearH (x s) : fixed (tableClearH x s).2 = fixed s := by simp [tableClearH]
theorem execDiagTableClear_completes (t p v s) : Completes s (execDiagTableClear t p v s) := objWrite_completes (by simp)
@[simp] theorem fixed_gainUpdateH (data s) : fixed (gainUpdateH data s).2 = fixed s := by simp [gainUpdateH]
theorem execGainUpdate_completes (t p data s) : Completes s (execGainUpdate t p data s) := objWrite_completes (by simp)
@[simp] theorem fixed_calAbort (k s) : fixed (calAbort k s) = fixed s := by simp [calAbort]
theorem execRefCurrent_completes (t d iHi s) : Completes s (execRefCurrent t d iHi s) := act_completes (by simp)

theorem execSenseCalibration_completes (t d offset gain inRange s) :
    Completes s (execSenseCalibration t d offset gain inRange s) := act_completes (by simp)

theorem execStoreCheck_completes (t s) : Completes s (execStoreCheck t s) := act_completes (by simp)
theorem execRextMonitor_completes (t ohms s) : Completes s (execRextMonitor t ohms s) := act_completes (by simp)
theorem execCalibrationNoGap_completes (t k s) : Completes s (execCalibrationNoGap t k s) := act_completes (by simp)
theorem execLightDark_completes (t offsets s) : Completes s (execLightDark t offsets s) := act_completes (by simp)
theorem execTempMap_completes (t s) : Completes s (execTempMap t s) := act_completes (by simp)
@[simp] theorem fixed_diagReady (s) : fixed (diagReady s) = fixed s := by simp [diagReady]

/-! ### Frames, gate windows and launches (chapters 2 and 3) -/

@[simp] theorem fixed_frameRefused (code seq s) : fixed (frameRefused code seq s) = fixed s := by simp [frameRefused]
@[simp] theorem fixed_frameAccept (raw s) : fixed (frameAccept raw s) = fixed s := by simp [frameAccept]

@[simp] theorem fixed_frameCommit (raw s) : fixed (frameCommit raw s).2 = fixed s := by
  unfold frameCommit
  split
  · split <;> simp
  · simp

@[simp] theorem fixed_setShadow (raw s) : fixed (setShadow raw s) = fixed s := by simp [setShadow]
theorem execFrameWrite_completes (t k s) : Completes s (execFrameWrite t k s) := act_completes (by simp)

theorem execFrameCommit_completes (t k s) : Completes s (execFrameCommit t k s) := act_completes fun s => by
  split
  · rfl
  · refine fixed_consume (fun s => ?_) ..
    extract_lets s1
    have h1 : fixed s1 = fixed s := by simp [s1]
    split <;> simp [h1]

theorem execFrameWriteCommit_completes (t k s) : Completes s (execFrameWriteCommit t k s) := act_completes (by simp)
theorem execFrameDiscard_completes (t k s) : Completes s (execFrameDiscard t k s) := act_completes (by simp)
@[simp] theorem fixed_missHead (s) : fixed (missHead s) = fixed s := by simp [missHead]
@[simp] theorem fixed_lateCount (s) : fixed (lateCount s) = fixed s := by simp [lateCount]

@[simp] theorem fixed_decideLaunch (p p2 s) : fixed (decideLaunch p p2 s).2 = fixed s := by
  unfold decideLaunch
  extract_lets rep ret
  split
  · simp
  split
  · rfl
  split
  · split <;> rfl
  extract_lets untimed
  have hu (s m) : fixed (untimed s m).2 = fixed s := by simp [untimed]
  clear_value untimed
  split <;> simp [hu]

@[simp] theorem fixed_openBoundary (at_ short dec s) : fixed (openBoundary at_ short dec s) = fixed s := by
  simp [openBoundary]

@[simp] theorem fixed_openInner (k at_ plane s) : fixed (openInner k at_ plane s) = fixed s := by simp [openInner]

theorem execGateWindowOpen_completes (t k at_ ecc s) :
    Completes s (execGateWindowOpen t k at_ ecc s) := act_completes fun s => by
  split
  · rfl
  · cases k <;> simp

theorem execGateWindowClose_completes (t s) : Completes s (execGateWindowClose t s) := act_completes fun s => by
  split <;> simp

@[simp] theorem fixed_gateCopy (s) : fixed (gateCopy s) = fixed s := by simp [gateCopy]
@[simp] theorem fixed_windowDone (s) : fixed (windowDone s) = fixed s := by simp [windowDone]
@[simp] theorem fixed_truncation (s) : fixed (truncation s) = fixed s := by simp [truncation]
@[simp] theorem fixed_rampStart (k u order s) : fixed (rampStart k u order s) = fixed s := by simp [rampStart]
@[simp] theorem fixed_endPause (s) : fixed (endPause s) = fixed s := by simp [endPause]
@[simp] theorem fixed_innerEffect (x s) : fixed (innerEffect x s) = fixed s := by unfold innerEffect; split <;> simp
@[simp] theorem fixed_gateLaunch (s) : fixed (gateLaunch s) = fixed s := by unfold gateLaunch; split <;> simp
theorem execGateLaunch_completes (t s) : Completes s (execGateLaunch t s) := act_completes (by simp)
@[simp] theorem fixed_itemLaunch (k s) : fixed (itemLaunch k s) = fixed s := by simp [itemLaunch]
theorem execOffwinStart_completes (t w s) : Completes s (execOffwinStart t w s) := act_completes (by simp)
theorem execOffwinEnd_completes (t w s) : Completes s (execOffwinEnd t w s) := act_completes (by simp)
theorem execProbeSlotStart_completes (t q s) : Completes s (execProbeSlotStart t q s) := act_completes (by simp)
theorem execProbeSlotEnd_completes (t q s) : Completes s (execProbeSlotEnd t q s) := act_completes (by simp)
theorem execProbePause_completes (t q s) : Completes s (execProbePause t q s) := act_completes (by simp)
theorem execCalibrationClaim_completes (t s) : Completes s (execCalibrationClaim t s) := act_completes (by simp)
@[simp] theorem fixed_launchCodes (s) : fixed (launchCodes s) = fixed s := by simp [launchCodes]
@[simp] theorem fixed_launchSafety (ret s) : fixed (launchSafety ret s) = fixed s := by simp [launchSafety]
@[simp] theorem fixed_limpLaunch (x s) : fixed (limpLaunch x s) = fixed s := by simp [limpLaunch]

@[simp] theorem fixed_newFrame (x s) : fixed (newFrame x s) = fixed s := by
  unfold newFrame
  extract_lets _ _ _ _ s1 old
  have h1 : fixed s1 = fixed s := by simp [s1]
  clear_value s1 old
  split
  · exact h1
  · cases old <;> simp [h1]

@[simp] theorem fixed_frameBegins (x s) : fixed (frameBegins x s) = fixed s := by simp [frameBegins]
@[simp] theorem fixed_frameReports (x s) : fixed (frameReports x s) = fixed s := by simp [frameReports]
@[simp] theorem fixed_launchFrame (x s) : fixed (launchFrame x s) = fixed s := by simp [launchFrame]
theorem execFrameLaunch_completes (t s) : Completes s (execFrameLaunch t s) := act_completes fun s => by split <;> simp

/-! ### Entry to READY (chapter 16) -/

@[simp] theorem fixed_frameReady (s) : fixed (frameReady s) = fixed s := by simp [frameReady]
@[simp] theorem fixed_arrReady (s) : fixed (arrReady s) = fixed s := by simp [arrReady]
@[simp] theorem fixed_composeReady (s) : fixed (composeReady s) = fixed s := by simp [composeReady]
@[simp] theorem fixed_discReady (s) : fixed (discReady s) = fixed s := by simp [discReady]
@[simp] theorem fixed_enterReady (s) : fixed (enterReady s) = fixed s := by simp [enterReady]
theorem execExitComplete_completes (t s) : Completes s (execExitComplete t s) := act_completes (by simp)

/-! ### Objects and their handlers (chapter 18) -/

@[simp] theorem fixed_setFrozen (p l s) : fixed (setFrozen p l s) = fixed s := by unfold setFrozen; split <;> simp
@[simp] theorem fixed_freeze (p idx s) : fixed (freeze p idx s) = fixed s := by simp [freeze]

@[simp] theorem fixed_measRead (p idx sub s) : fixed (measRead p idx sub s).2.2 = fixed s := by
  unfold measRead
  split
  · simp
  · split
    · rfl
    · extract_lets s1
      have h1 : fixed s1 = fixed s := by simp [s1]
      split <;> exact h1

@[simp] theorem fixed_snapshotH (p x s) : fixed (snapshotH p x s).2 = fixed s := by simp [snapshotH]

@[simp] theorem fixed_readObj (p idx sub s) : fixed (readObj p idx sub s).2.2 = fixed s := by
  unfold readObj
  split <;> simp

@[simp] theorem fixed_tbSetH (b sub data s) : fixed (tbSetH b sub data s).2 = fixed s := by simp [tbSetH]
@[simp] theorem fixed_canModeH (data s) : fixed (canModeH data s).2 = fixed s := by simp [canModeH]
@[simp] theorem fixed_signatureH (data s) : fixed (signatureH data s).2 = fixed s := by simp [signatureH]
@[simp] theorem fixed_funcH (idx sub data s) : fixed (funcH idx sub data s).2 = fixed s := by simp [funcH]

@[simp] theorem fixed_handlerOf (p idx sub data s) : fixed (handlerOf p idx sub data s).2 = fixed s := by
  unfold handlerOf
  split
  case h_38 => simp
  all_goals simp

theorem execCommSnapshot_completes (t p v s) : Completes s (execCommSnapshot t p v s) := objWrite_completes (by simp)
theorem execMeasurementRead_completes (t p idx s) : Completes s (execMeasurementRead t p idx s) := act_completes (by simp)

/-! ### The dictionary server (chapter 18) -/

@[simp] theorem fixed_canAnswerSend (m s) : fixed (canAnswerSend m s) = fixed s := by simp [canAnswerSend]
@[simp] theorem fixed_tell (p m s) : fixed (Machine.tell p m s) = fixed s := by cases p <;> simp [Machine.tell]
@[simp] theorem fixed_reply (q m s) : fixed (reply q m s) = fixed s := by unfold reply; split <;> simp
@[simp] theorem fixed_replyCode (q ok code s) : fixed (replyCode q ok code s) = fixed s := by simp [replyCode]
@[simp] theorem fixed_refuseReq (q code s) : fixed (refuseReq q code s) = fixed s := by simp [refuseReq]
@[simp] theorem fixed_setXfer (p x s) : fixed (setXfer p x s) = fixed s := by unfold setXfer; split <;> simp
@[simp] theorem fixed_setLast (p x s) : fixed (setLast p x s) = fixed s := by unfold setLast; split <;> simp
@[simp] theorem fixed_touchXfer (p s) : fixed (touchXfer p s) = fixed s := by simp [touchXfer]
@[simp] theorem fixed_openXfer (p x s) : fixed (openXfer p x s) = fixed s := by unfold openXfer; split <;> simp

@[simp] theorem fixed_domainDone (idx sub data s) : fixed (domainDone idx sub data s) = fixed s := by
  unfold domainDone
  split
  · split <;> simp
  · rfl

@[simp] theorem fixed_writeNow (p idx sub data s) : fixed (writeNow p idx sub data s).2 = fixed s := by simp [writeNow]

@[simp] theorem fixed_segReply (q cmd flags data final s) : fixed (segReply q cmd flags data final s) = fixed s := by
  simp [segReply]

@[simp] theorem fixed_custRequest (q write data ans s) : fixed (custRequest q write data ans s) = fixed s := by
  simp [custRequest]

@[simp] theorem fixed_answerRead (q v s) : fixed (answerRead q v s) = fixed s := by simp [answerRead]
@[simp] theorem fixed_doRead (q s) : fixed (doRead q s) = fixed s := by simp [doRead]
@[simp] theorem fixed_doWrite (q s) : fixed (doWrite q s) = fixed s := by simp [doWrite]
@[simp] theorem fixed_doInit (q s) : fixed (doInit q s) = fixed s := by simp [doInit]
@[simp] theorem fixed_segDown (q x s) : fixed (segDown q x s) = fixed s := by simp [segDown]
@[simp] theorem fixed_segUp (q x s) : fixed (segUp q x s) = fixed s := by simp [segUp]

@[simp] theorem fixed_doSegment (q s) : fixed (doSegment q s) = fixed s := by
  unfold doSegment
  extract_lets again
  split
  · simp
  · split <;> simp

@[simp] theorem fixed_doAbort (q s) : fixed (doAbort q s) = fixed s := by simp [doAbort]
@[simp] theorem fixed_bulkSend (x base n s) : fixed (bulkSend x base n s) = fixed s := by simp [bulkSend]

@[simp] theorem fixed_doBulkAck (q s) : fixed (doBulkAck q s) = fixed s := by
  unfold doBulkAck
  extract_lets d n
  split
  · simp
  · split <;> simp

@[simp] theorem fixed_bulkBlock (x s) : fixed (bulkBlock x s) = fixed s := by simp [bulkBlock]

theorem execBulkSegment_completes (t f s) : Completes s (execBulkSegment t f s) := act_completes fun s => by
  split
  · extract_lets s1
    have h1 : fixed s1 = fixed s := by simp [s1]
    clear_value s1
    split <;> simp [h1]
  · rfl

theorem execBulkAckTimeout_completes (t s) : Completes s (execBulkAckTimeout t s) := act_completes fun s => by split <;> simp

theorem execTransferTimeout_completes (t p s) : Completes s (execTransferTimeout t p s) := act_completes fun s => by
  split <;> simp

@[simp] theorem fixed_handle (q s) : fixed (handle q s) = fixed s := by
  unfold handle
  split
  · simp
  · split <;> simp

@[simp] theorem fixed_ferryRequest (bcast m s) : fixed (ferryRequest bcast m s) = fixed s := by
  unfold ferryRequest
  split
  · simp
  · rfl

@[simp] theorem fixed_drainFerry (n s) : fixed (drainFerry n s) = fixed s := by
  induction n generalizing s with
  | zero => rfl
  | succ n ih =>
    unfold drainFerry
    split
    · simp [ih]
    · rfl

@[simp] theorem fixed_canRequest (bcast m s) : fixed (canRequest bcast m s) = fixed s := by simp [canRequest]
@[simp] theorem fixed_slotInOrder (k msg s) : fixed (slotInOrder k msg s) = fixed s := by simp [slotInOrder]
theorem execDictRequest_completes (t k s) : Completes s (execDictRequest t k s) := act_completes (by simp)

@[simp] theorem fixed_request (mine p bcast m s) : fixed (request mine p bcast m s) = fixed s := by
  cases p <;> simp [request]

theorem execRead_completes (t p bcast m s) : Completes s (execRead t p bcast m s) := act_completes (by simp)
theorem execWrite_completes (t p bcast m s) : Completes s (execWrite t p bcast m s) := act_completes (by simp)
theorem execDownInit_completes (t p bcast m s) : Completes s (execDownInit t p bcast m s) := act_completes (by simp)
theorem execSegment_completes (t p bcast m s) : Completes s (execSegment t p bcast m s) := act_completes (by simp)
theorem execAbort_completes (t p bcast m s) : Completes s (execAbort t p bcast m s) := act_completes (by simp)
theorem execBulkAck_completes (t p bcast m s) : Completes s (execBulkAck t p bcast m s) := act_completes (by simp)

@[simp] theorem fixed_drain (n s) : fixed (drain n s) = fixed s := by
  induction n generalizing s with
  | zero => rfl
  | succ n ih =>
    unfold drain
    split
    · split
      · rfl
      · split <;> simp [ih]
    · rfl

@[simp] theorem fixed_mbxEnd (m code data s) : fixed (mbxEnd m code data s) = fixed s := by
  unfold mbxEnd
  extract_lets _ s1 q _ s2
  have h1 : fixed s1 = fixed s := by simp [s1]
  clear_value s1
  have h2 : fixed s2 = fixed s := by simp only [s2]; split <;> simp [h1]
  clear_value s2
  simp [h2]

theorem execMailboxTimeout_completes (t s) : Completes s (execMailboxTimeout t s) := act_completes fun s => by split <;> simp
@[simp] theorem fixed_mbxFill (data s) : fixed (mbxFill data s) = fixed s := by simp [mbxFill]

theorem execObjectDone_completes (t tag code data s) : Completes s (execObjectDone t tag code data s) :=
  act_completes fun s => by split <;> simp

theorem execObjectWrite_completes (t p idx sub data s) : Completes s (execObjectWrite t p idx sub data s) :=
  act_completes (by simp)

/-! ## Every command -/

/-- Every command but POWER_UP completes, and has no effect in OFF. -/
theorem exec_completes : ∀ (c : Instr) (s : State), (∀ t a b d e, c ≠ .powerUp t a b d e) → Completes s (exec c s)
  | .signalDetect .., _, _ => execSignalDetect_completes ..
  | .blockLock .., _, _ => execBlockLock_completes ..
  | .blockLockLoss .., _, _ => execBlockLockLoss_completes ..
  | .ts1 .., _, _ => execTs1_completes ..
  | .ts2 .., _, _ => execTs2_completes ..
  | .ts3 .., _, _ => execTs3_completes ..
  | .ts4 .., _, _ => execTs4_completes ..
  | .adaptationComplete .., _, _ => execAdaptationComplete_completes ..
  | .trainingTimeout .., _, _ => execTrainingTimeout_completes ..
  | .electricalIdleEnd .., _, _ => execElectricalIdleEnd_completes ..
  | .syncSlots .., _, _ => execSync_completes ..
  | .fl0Entry .., _, _ => execFl0Entry_completes ..
  | .align .., _, _ => execAlign_completes ..
  | .ei1 .., _, _ => execEi1_completes ..
  | .ei2 .., _, _ => execEi2_completes ..
  | .linkDown .., _, _ => execLinkDown_completes ..
  | .noSignalTimeout .., _, _ => execNoSignalTimeout_completes ..
  | .fastRetrainComplete .., _, _ => execFastRetrainComplete_completes ..
  | .fastRetrainFailed .., _, _ => execFastRetrainFailed_completes ..
  | .packetHeader .., _, _ => execPacketHeader_completes ..
  | .huntConfirm .., _, _ => execHuntConfirm_completes ..
  | .surf .., _, _ => execSurf_completes ..
  | .probePacket .., _, _ => execProbePacket_completes ..
  | .frameWrite .., _, _ => execFrameWrite_completes ..
  | .frameCommit .., _, _ => execFrameCommit_completes ..
  | .frameWriteCommit .., _, _ => execFrameWriteCommit_completes ..
  | .frameDiscard .., _, _ => execFrameDiscard_completes ..
  | .dictRequest .., _, _ => execDictRequest_completes ..
  | .timePacket .., _, _ => execTimePacket_completes ..
  | .enum .., _, _ => execEnum_completes ..
  | .echo .., _, _ => execEcho_completes ..
  | .statusReq .., _, _ => execStatusReq_completes ..
  | .ownPacketInsert .., _, _ => execOwnPacketInsert_completes ..
  | .statusPeriod .., _, _ => execStatusPeriod_completes ..
  | .slotConfigure .., _, _ => execSlotConfigure_completes ..
  | .slotReady .., _, _ => execSlotReady_completes ..
  | .slotRelease .., _, _ => execSlotRelease_completes ..
  | .slotCheckEnd .., _, _ => execSlotCheckEnd_completes ..
  | .scrub .., _, _ => execScrub_completes ..
  | .cacheSizeWrite .., _, _ => execCacheSizeWrite_completes ..
  | .paletteWrite .., _, _ => execPaletteWrite_completes ..
  | .modeCommit .., _, _ => execModeCommit_completes ..
  | .retimingEnd .., _, _ => execRetimingEnd_completes ..
  | .gateWindowOpen .., _, _ => execGateWindowOpen_completes ..
  | .gateWindowClose .., _, _ => execGateWindowClose_completes ..
  | .frameLaunch .., _, _ => execFrameLaunch_completes ..
  | .gateLaunch .., _, _ => execGateLaunch_completes ..
  | .rampTail .., _, _ => execRampTail_completes ..
  | .offwinStart .., _, _ => execOffwinStart_completes ..
  | .offwinEnd .., _, _ => execOffwinEnd_completes ..
  | .probeSlotStart .., _, _ => execProbeSlotStart_completes ..
  | .probeSlotEnd .., _, _ => execProbeSlotEnd_completes ..
  | .probePause .., _, _ => execProbePause_completes ..
  | .calibrationClaim .., _, _ => execCalibrationClaim_completes ..
  | .compositionStart .., _, _ => execCompositionStart_completes ..
  | .composeRow .., _, _ => execComposeRow_completes ..
  | .protectedLayerWrite .., _, _ => execProtectedLayerWrite_completes ..
  | .maskSet .., _, _ => execMaskSet_completes ..
  | .maskRenew .., _, _ => execMaskRenew_completes ..
  | .maskExpiry .., _, _ => execMaskExpiry_completes ..
  | .quayRowCorrect .., _, _ => execQuayRowCorrect_completes ..
  | .rowUnderrun .., _, _ => execRowUnderrun_completes ..
  | .rowSend .., _, _ => execRowSend_completes ..
  | .senseWindowDone .., _, _ => execSenseWindowDone_completes ..
  | .forcedPulse .., _, _ => execForcedPulse_completes ..
  | .stuckScreen .., _, _ => execStuckScreen_completes ..
  | .sweepEnd .., _, _ => execSweepEnd_completes ..
  | .diagTableClear .., _, _ => execDiagTableClear_completes ..
  | .gainUpdate .., _, _ => execGainUpdate_completes ..
  | .refCurrent .., _, _ => execRefCurrent_completes ..
  | .senseCalibration .., _, _ => execSenseCalibration_completes ..
  | .storeCheck .., _, _ => execStoreCheck_completes ..
  | .rextMonitor .., _, _ => execRextMonitor_completes ..
  | .calibrationNoGap .., _, _ => execCalibrationNoGap_completes ..
  | .lightDark .., _, _ => execLightDark_completes ..
  | .tempMap .., _, _ => execTempMap_completes ..
  | .controlSample .., _, _ => execControlSample_completes ..
  | .levelStep .., _, _ => execLevelStep_completes ..
  | .phaseSwitch .., _, _ => execPhaseSwitch_completes ..
  | .freeRunning .., _, _ => execFreeRunning_completes ..
  | .freeRunSwitch .., _, _ => execFreeRunSwitch_completes ..
  | .vledOvervoltage .., _, _ => execVledOvervoltage_completes ..
  | .overvoltageRestart .., _, _ => execOvervoltageRestart_completes ..
  | .vledUndervoltage .., _, _ => execVledUndervoltage_completes ..
  | .senseFault .., _, _ => execSenseFault_completes ..
  | .senseRetry .., _, _ => execSenseRetry_completes ..
  | .phaseImbalance .., _, _ => execPhaseImbalance_completes ..
  | .repClear .., _, _ => execRepClear_completes ..
  | .thermalSample .., _, _ => execThermalSample_completes ..
  | .thermalLevelChange .., _, _ => execThermalLevelChange_completes ..
  | .throttleStepDown .., _, _ => execThrottleStepDown_completes ..
  | .throttleStepUp .., _, _ => execThrottleStepUp_completes ..
  | .coldStartEnd .., _, _ => execColdStartEnd_completes ..
  | .managementRestart .., _, _ => execManagementRestart_completes ..
  | .colourLoop .., _, _ => execColourLoop_completes ..
  | .fluxFault .., _, _ => execFluxFault_completes ..
  | .colourFault .., _, _ => execColourFault_completes ..
  | .programWrite .., _, _ => execProgramWrite_completes ..
  | .arm .., _, _ => execArm_completes ..
  | .stop .., _, _ => execStop_completes ..
  | .trigger .., _, _ => execTrigger_completes ..
  | .triggerSet .., _, _ => execTriggerSet_completes ..
  | .timeTrigger .., _, _ => execTimeTrigger_completes ..
  | .peLoad .., _, _ => execPeLoad_completes ..
  | .canSync .., _, _ => execCanSync_completes ..
  | .canFollow .., _, _ => execCanFollow_completes ..
  | .domainLoss .., _, _ => execDomainLoss_completes ..
  | .domainReturn .., _, _ => execDomainReturn_completes ..
  | .timeStepWrite .., _, _ => execTimeStepWrite_completes ..
  | .tpModeWrite .., _, _ => execTpModeWrite_completes ..
  | .tpPulseStart .., _, _ => execTpPulseStart_completes ..
  | .tpPulseEnd .., _, _ => execTpPulseEnd_completes ..
  | .tcCapture .., _, _ => execTcCapture_completes ..
  | .tcAck .., _, _ => execTcAck_completes ..
  | .blankingTimeout .., _, _ => execBlankingTimeout_completes ..
  | .limpLoadDone .., _, _ => execLimpLoadDone_completes ..
  | .tollgateClear .., _, _ => execTollgateClear_completes ..
  | .clearAll .., _, _ => execClearAll_completes ..
  | .resetArm .., _, _ => execResetArm_completes ..
  | .resetConfirm .., _, _ => execResetConfirm_completes ..
  | .sresetRise .., _, _ => execSresetRise_completes ..
  | .sresetRequest .., _, _ => execSresetRequest_completes ..
  | .sresetJam .., _, _ => execSresetJam_completes ..
  | .sresetArm .., _, _ => execSresetArm_completes ..
  | .lenChange .., _, _ => execLenChange_completes ..
  | .discrepancyTimeout .., _, _ => execDiscrepancyTimeout_completes ..
  | .discFbChange .., _, _ => execDiscFbChange_completes ..
  | .discFbTimeout .., _, _ => execDiscFbTimeout_completes ..
  | .helmWatchdog .., _, _ => execHelmWatchdog_completes ..
  | .linkLossTimeout .., _, _ => execLinkLossTimeout_completes ..
  | .selfFault .., _, _ => execSelfFault_completes ..
  | .classWrite .., _, _ => execClassWrite_completes ..
  | .limpPatternWrite .., _, _ => execLimpPatternWrite_completes ..
  | .functionMapWrite .., _, _ => execFunctionMapWrite_completes ..
  | .factoryUnlock .., _, _ => execFactoryUnlock_completes ..
  | .factoryExit .., _, _ => execFactoryExit_completes ..
  | .factoryInject .., _, _ => execFactoryInject_completes ..
  | .factoryInjectClear .., _, _ => execFactoryInjectClear_completes ..
  | .powerUp .., _, hc => (hc _ _ _ _ _ rfl).elim
  | .rstnLow .., _, _ => execRstnLow_completes ..
  | .vaonLoss .., _, _ => execVaonLoss_completes ..
  | .bootStart .., _, _ => execBootStart_completes ..
  | .imageVerifyDone .., _, _ => execImageVerifyDone_completes ..
  | .commandStandby .., _, _ => execCommandStandby_completes ..
  | .commandQuiet .., _, _ => execCommandQuiet_completes ..
  | .commandReady .., _, _ => execCommandReady_completes ..
  | .commandLit .., _, _ => execCommandLit_completes ..
  | .prepareAnswer .., _, _ => execPrepareAnswer_completes ..
  | .prepareRetry .., _, _ => execPrepareRetry_completes ..
  | .ei2WaitTimeout .., _, _ => execEi2WaitTimeout_completes ..
  | .domainBoundMiss .., _, _ => execDomainBoundMiss_completes ..
  | .wakeEvent .., _, _ => execWakeEvent_completes ..
  | .exitComplete .., _, _ => execExitComplete_completes ..
  | .vccRecovered .., _, _ => execVccRecovered_completes ..
  | .vccLow .., _, _ => execVccLow_completes ..
  | .vccMonitorClear .., _, _ => execVccMonitorClear_completes ..
  | .railTrip .., _, _ => execRailTrip_completes ..
  | .railRecover .., _, _ => execRailRecover_completes ..
  | .keeperStarted .., _, _ => execKeeperStarted_completes ..
  | .keeperPeriodFault .., _, _ => execKeeperPeriodFault_completes ..
  | .keeperTimeout .., _, _ => execKeeperTimeout_completes ..
  | .monitorWindow .., _, _ => execMonitorWindow_completes ..
  | .forcedSwitch .., _, _ => execForcedSwitch_completes ..
  | .timebaseStopped .., _, _ => execTimebaseStopped_completes ..
  | .tapResetExit .., _, _ => execTapResetExit_completes ..
  | .claim .., _, _ => execClaim_completes ..
  | .complete .., _, _ => execComplete_completes ..
  | .moderationHoldoff .., _, _ => execModerationHoldoff_completes ..
  | .timerFire .., _, _ => execTimerFire_completes ..
  | .tnowRead .., _, _ => execTnowRead_completes ..
  | .mailboxTimeout .., _, _ => execMailboxTimeout_completes ..
  | .logAppend .., _, _ => execLogAppend_completes ..
  | .logWrite .., _, _ => execLogWrite_completes ..
  | .pinClear .., _, _ => execPinClear_completes ..
  | .purserWatchdogService .., _, _ => execPurserWatchdogService_completes ..
  | .purserWatchdogExpiry .., _, _ => execPurserWatchdogExpiry_completes ..
  | .customerTrap .., _, _ => execCustomerTrap_completes ..
  | .coreAccessFault .., _, _ => execCoreAccessFault_completes ..
  | .version .., _, _ => execVersion_completes ..
  | .attach .., _, _ => execAttach_completes ..
  | .yield .., _, _ => execYield_completes ..
  | .objectDone .., _, _ => execObjectDone_completes ..
  | .save .., _, _ => execSave_completes ..
  | .srSnap .., _, _ => execSrSnap_completes ..
  | .crcStart .., _, _ => execCrcStart_completes ..
  | .crcFinish .., _, _ => execCrcFinish_completes ..
  | .crcPreset .., _, _ => execCrcPreset_completes ..
  | .crcData .., _, _ => execCrcData_completes ..
  | .rinfoRead .., _, _ => execRinfoRead_completes ..
  | .mramProgramDone .., _, _ => execMramProgramDone_completes ..
  | .pstoreCommit .., _, _ => execPstoreCommit_completes ..
  | .pstoreVerifyDone .., _, _ => execPstoreVerifyDone_completes ..
  | .openFw .., _, _ => execOpenFw_completes ..
  | .openCustomer .., _, _ => execOpenCustomer_completes ..
  | .verify .., _, _ => execVerify_completes ..
  | .activate .., _, _ => execActivate_completes ..
  | .abortUpdate .., _, _ => execAbortUpdate_completes ..
  | .reboot .., _, _ => execReboot_completes ..
  | .updateImageWrite .., _, _ => execUpdateImageWrite_completes ..
  | .keyWrite .., _, _ => execKeyWrite_completes ..
  | .stateCommand .., _, _ => execStateCommand_completes ..
  | .read .., _, _ => execRead_completes ..
  | .write .., _, _ => execWrite_completes ..
  | .downInit .., _, _ => execDownInit_completes ..
  | .segment .., _, _ => execSegment_completes ..
  | .abortTransfer .., _, _ => execAbort_completes ..
  | .bulkAck .., _, _ => execBulkAck_completes ..
  | .bulkSegment .., _, _ => execBulkSegment_completes ..
  | .bulkAckTimeout .., _, _ => execBulkAckTimeout_completes ..
  | .transferTimeout .., _, _ => execTransferTimeout_completes ..
  | .identifyRange .., _, _ => execIdentifyRange_completes ..
  | .assign .., _, _ => execAssign_completes ..
  | .query .., _, _ => execQuery_completes ..
  | .nodeCollision .., _, _ => execNodeCollision_completes ..
  | .collisionClear .., _, _ => execCollisionClear_completes ..
  | .busOff .., _, _ => execBusOff_completes ..
  | .busOffRecovery .., _, _ => execBusOffRecovery_completes ..
  | .canJoin .., _, _ => execCanJoin_completes ..
  | .heartbeatMessage .., _, _ => execHeartbeatMessage_completes ..
  | .eventModeration .., _, _ => execEventModeration_completes ..
  | .summary .., _, _ => execSummary_completes ..
  | .commSave .., _, _ => execCommSave_completes ..
  | .commRestore .., _, _ => execCommRestore_completes ..
  | .commSnapshot .., _, _ => execCommSnapshot_completes ..
  | .measurementRead .., _, _ => execMeasurementRead_completes ..
  | .sessionChallenge .., _, _ => execSessionChallenge_completes ..
  | .sessionResponse .., _, _ => execSessionResponse_completes ..
  | .sessionClose .., _, _ => execSessionClose_completes ..
  | .sessionKey .., _, _ => execSessionKey_completes ..
  | .sessionTimeout .., _, _ => execSessionTimeout_completes ..
  | .lockoutEnd .., _, _ => execLockoutEnd_completes ..
  | .objectWrite .., _, _ => execObjectWrite_completes ..
  | .canStartOfFrame .., _, _ => execCanStartOfFrame_completes ..
  | .ferryRx .., _, _ => execFerryRx_completes ..
  | .holdLineReadback .., _, _ => execHoldLineReadback_completes ..
  | .watchdogWarning .., _, _ => execWatchdogWarning_completes ..
  | .tmrCtrlWrite .., _, _ => execTmrCtrlWrite_completes ..

/-- POWER_UP leaves the fixed part: BOOT begins, or nothing is done. -/
theorem execPowerUp_next (t testen lenA lenB fbClosed s) :
    ∃ s', execPowerUp t testen lenA lenB fbClosed s = .next s' ∧ fixed s' = fixed (s.advance t) :=
  ⟨_, rfl, by simp⟩

/-- Time does not go back. -/
theorem now_le_advance (s : State) (t : Nat) : s.now ≤ (s.advance t).now := by
  unfold State.advance
  split
  · exact Nat.le_refl _
  · simp only; omega

/-- The fixed part at an instant, taken apart. -/
theorem kept_of_fixed {s s' : State} {t : Nat} (h : fixed s' = fixed (s.advance t)) :
    s'.pending = s.pending ∧ sameBlk s s' .ident ∧ s.now ≤ s'.now := by
  simp only [fixed, Prod.mk.injEq, advance_grade, advance_uid, advance_hwRev, advance_pending] at h
  obtain ⟨hg, hu, hr, hp, hn⟩ := h
  exact ⟨hp, ⟨hg, hu, hr⟩, hn ▸ now_le_advance s t⟩

/-- Every command answers a next state with the queue, the identity and past instants as they were; in OFF only POWER_UP does
more than let time pass. -/
theorem exec_next (c : Instr) (s : State) :
    ∃ s', exec c s = .next s' ∧ s'.pending = s.pending ∧ sameBlk s s' .ident ∧ s.now ≤ s'.now ∧
      (s.pw.dev = .off → (∀ t a b d e, c ≠ .powerUp t a b d e) → ∃ t, keepsBut [] (s.advance t) s') := by
  by_cases hc : ∃ t a b d e, c = .powerUp t a b d e
  · obtain ⟨t, a, b, d, e, rfl⟩ := hc
    obtain ⟨s', he, hf⟩ := execPowerUp_next t a b d e s
    obtain ⟨hp, hi, hn⟩ := kept_of_fixed hf
    exact ⟨s', he, hp, hi, hn, fun _ h => absurd rfl (h t a b d e)⟩
  · obtain ⟨t, s', he, hf, hoff⟩ := exec_completes c s fun t a b d e h => hc ⟨t, a, b, d, e, h⟩
    obtain ⟨hp, hi, hn⟩ := kept_of_fixed hf
    exact ⟨s', he, hp, hi, hn, fun hd _ => ⟨t, hoff hd⟩⟩

/-! ## Refused writes (R489, R491) -/

/-- A command that is the write of one object runs the object's handler through the checks of a write. -/
theorem exec_of_objWriteOf {c : Instr} {w : ObjWrite} (hw : objWriteOf c = some w) :
    ∃ h, ∀ s, exec c s = objWrite w.at_ w.path w.idx w.sub w.data h s := by
  unfold objWriteOf at hw
  split at hw
  all_goals cases hw
  all_goals exact ⟨_, fun _ => rfl⟩

/-- A write that ends before the handler, with a code other than that of a block without power, answers the code and changes
nothing else. -/
theorem objWrite_refused {s : State} {p : Path} {idx sub k : Nat} {data : List Byte} {h : List Byte → State → Nat × State}
    (t : Nat) (hd : s.pw.dev ≠ .off) (hs : servedAt s p idx sub = true) (hk : k ≠ abPower)
    (hw : wr p idx sub data h (s.advance t) = (k, s.advance t)) :
    ∃ s', objWrite t p idx sub data h s = .next s' ∧ s'.dict.answer = k ∧ keepsBut [.dict] (s.advance t) s' := by
  simpa only [if_neg hk] using objWrite_stopped (k := k) t hd hs (by rw [if_neg hk]; exact hw)

theorem lenAbort_ne_abPower (idx : Nat) : lenAbort idx ≠ abPower := by
  unfold lenAbort
  split <;> decide

section
variable {s : State} {p : Path} {idx sub : Nat} {data : List Byte} {h : List Byte → State → Nat × State}

theorem wr_of_wrCheck {k : Nat} (hw : wrCheck s p idx sub = some k) :
    wr p idx sub data h s = (k, if k = abPower then busError (okey idx sub) true s else s) := by
  simp only [wr, hw]

theorem wr_of_wrongLength {r : ObjRow} (hw : wrCheck s p idx sub = none) (hr : objFind idx sub = some r)
    (hl : lenOk r.ty data.length = false) : wr p idx sub data h s = (lenAbort idx, s) := by
  simp [wr, hw, hr, hl]

theorem wr_of_outOfRange {r : ObjRow} (hw : wrCheck s p idx sub = none) (hr : objFind idx sub = some r)
    (hl : lenOk r.ty data.length = true) (hv : valueOk r data = false) : wr p idx sub data h s = (abRange, s) := by
  simp [wr, hw, hr, hl, hv]
end

/-- A write of one object does nothing where the object is not served; a check that fails before the object's own handler
answers its abort code, and changes nothing else but for the bus error of a block without power. -/
theorem exec_refusedWrite {c : Instr} {w : ObjWrite} {s : State} (hw : objWriteOf c = some w) (hd : s.pw.dev ≠ .off) :
    (servedAt s w.path w.idx w.sub = false → ∃ s', exec c s = .next s' ∧ keepsBut [] (s.advance w.at_) s') ∧
    (servedAt s w.path w.idx w.sub = true → ∀ k, wrCheck s w.path w.idx w.sub = some k → ∃ s', exec c s = .next s' ∧
      s'.dict.answer = k ∧ keepsBut (if k = abPower then .pw :: raiseBlks else [.dict]) (s.advance w.at_) s') ∧
    (servedAt s w.path w.idx w.sub = true → wrCheck s w.path w.idx w.sub = none → ∀ r, objFind w.idx w.sub = some r →
      (lenOk r.ty w.data.length = false → ∃ s', exec c s = .next s' ∧ s'.dict.answer = lenAbort w.idx ∧
        keepsBut [.dict] (s.advance w.at_) s') ∧
      (lenOk r.ty w.data.length = true → valueOk r w.data = false → ∃ s', exec c s = .next s' ∧
        s'.dict.answer = abRange ∧ keepsBut [.dict] (s.advance w.at_) s')) := by
  obtain ⟨h, he⟩ := exec_of_objWriteOf hw
  simp only [he]
  refine ⟨objWrite_unserved _ _ _ _ _ hd, fun hs k hk => ?_, fun hs hk r hr => ⟨fun hl => ?_, fun hl hv => ?_⟩⟩
  · exact objWrite_stopped _ hd hs (wr_of_wrCheck (by rwa [wrCheck_advance]))
  · exact objWrite_refused _ hd hs (lenAbort_ne_abPower _) (wr_of_wrongLength (by rwa [wrCheck_advance]) hr hl)
  · exact objWrite_refused _ hd hs (by decide) (wr_of_outOfRange (by rwa [wrCheck_advance]) hr hl hv)

/-- Settles O55: every command is an effect at its instant that leaves the fixed part, and the writes of objects share the
checks of `wr`. -/
theorem everyCommandCompletes : Obligations.EveryCommandCompletes :=
  ⟨exec_next, fun _ _ _ => exec_refusedWrite⟩

end Sys2Proof
end

section
/-!
PROOFS. The drive word and the ramp orderings (DriveWordsCarryLight, RampOrderings), and the records of the protected store
and the class table (ProtectedRecordsAreStaged).
-/

namespace Sys2Proof

open Sys2Proof.Machine

/-! ## Drive words (R40) -/

theorem wRange_lt_two (w : Nat) : wRange w < 2 := Nat.mod_lt _ (by decide)

theorem wDuty_lt (w : Nat) : wDuty w < 8192 := Nat.mod_lt _ (by decide)

theorem wRange_eq_bitsOf (w : Nat) : wRange w = bitsOf w 13 13 := rfl

theorem wDuty_eq_bitsOf (w : Nat) : wDuty w = bitsOf w 12 0 := by simp [wDuty, bitsOf]

/-- The fields of a word of the LO range. -/
theorem wRange_lo {d : Nat} (h : d ≤ 8191) : wRange d = 0 := by unfold wRange; omega

theorem wDuty_lo {d : Nat} (h : d ≤ 8191) : wDuty d = d := Nat.mod_eq_of_lt (by omega)

/-- The fields of a word of the HI range. -/
theorem wRange_hi {d : Nat} (h : d ≤ 8191) : wRange (8192 + d) = 1 := by unfold wRange; omega

theorem wDuty_hi {d : Nat} (h : d ≤ 8191) : wDuty (8192 + d) = d := by unfold wDuty; omega

/-- Light of a word by its range: DUTY in LO, 16 DUTY in HI. -/
theorem wLight_of_lo {w : Nat} (h : wRange w = 0) : wLight w = wDuty w := by simp [wLight, h]

theorem wLight_of_hi {w : Nat} (h : wRange w = 1) : wLight w = 16 * wDuty w := by simp [wLight, h]

theorem wLight_lo {d : Nat} (h : d ≤ 8191) : wLight d = d := by rw [wLight_of_lo (wRange_lo h), wDuty_lo h]

theorem wLight_hi {d : Nat} (h : d ≤ 8191) : wLight (8192 + d) = 16 * d := by rw [wLight_of_hi (wRange_hi h), wDuty_hi h]

/-- The light of a word by its range: at most 131,056, none for a DUTY of 0, above 8,191 a multiple of 16. -/
theorem wLight_props (w : Nat) :
    wLight w = (if wRange w = 0 then wDuty w else 16 * wDuty w) ∧ wLight w ≤ 131056 ∧ (wDuty w = 0 → wLight w = 0) ∧
    (8191 < wLight w → 16 ∣ wLight w) := by
  have hd := wDuty_lt w
  obtain hr | hr : wRange w = 0 ∨ wRange w = 1 := by have := wRange_lt_two w; omega
  · rw [wLight_of_lo hr, if_pos hr]; omega
  · rw [wLight_of_hi hr, if_neg (by omega)]; omega

/-- The corrected light of a pixel, clamped to full light (step 4 of R238), as a word of the range it falls in. -/
theorem correct_word (c gp kt d : Nat) :
    ∃ u ≤ 131056, (correct c gp kt d).word = if u ≤ 8191 then u else 8192 + (u + 8) / 16 :=
  ⟨_, Nat.min_le_right _ _, rfl⟩

/-- A corrected word is a drive word, and one in HI is brighter than every word in LO. -/
theorem correct_word_hi (c gp kt d : Nat) : (correct c gp kt d).word < 16384 ∧
    (wRange (correct c gp kt d).word = 1 → 8191 < wLight (correct c gp kt d).word) := by
  obtain ⟨u, hu, he⟩ := correct_word c gp kt d
  rw [he]
  split
  next hlo => exact ⟨by omega, fun h => absurd h (by simp [wRange_lo hlo])⟩
  next hhi => rw [wLight_hi (by omega)]; omega

/-! ## Ramp orderings (R48) -/

@[simp] theorem rampValue_single (n : Nat) : rampValue 0 n = n := rfl

@[simp] theorem rampValue_spread (n : Nat) : rampValue 1 n = 16 * (n % 512) + n / 512 := rfl

@[simp] theorem segSteps_spread (duty j : Nat) : segSteps 1 duty j = (duty + 15 - j) / 16 := rfl

/-- The ramp step whose ramp value is `v`. -/
def rampStepOf (order v : Nat) : Nat := if order = 0 then v else 512 * (v % 16) + v / 16

theorem rampValue_lt (o : Nat) {n : Nat} (h : n < 8192) : rampValue o n < 8192 := by unfold rampValue; split <;> omega

theorem rampStepOf_lt (o : Nat) {v : Nat} (h : v < 8192) : rampStepOf o v < 8192 := by unfold rampStepOf; split <;> omega

theorem rampStepOf_rampValue (o : Nat) {n : Nat} (h : n < 8192) : rampStepOf o (rampValue o n) = n := by
  unfold rampStepOf rampValue; split <;> omega

theorem rampValue_rampStepOf (o : Nat) {v : Nat} (h : v < 8192) : rampValue o (rampStepOf o v) = v := by
  unfold rampStepOf rampValue; split <;> omega

/-- The last ramp step has the highest ramp value, so no duty lights it. -/
theorem rampValue_last {o : Nat} (h : o < 2) : rampValue o 8191 = 8191 := by
  obtain rfl | rfl : o = 0 ∨ o = 1 := by omega
  · rfl
  · rfl

/-- The steps of the ramp values below a duty are all different. -/
theorem nodup_rampStepOf (o : Nat) {duty : Nat} (h : duty ≤ 8191) : ((List.range duty).map (rampStepOf o)).Nodup := by
  refine List.pairwise_map.2 (List.nodup_range.imp_of_mem fun {v w} hv hw hne he => hne ?_)
  rw [List.mem_range] at hv hw
  rw [← rampValue_rampStepOf o (show v < 8192 by omega), he, rampValue_rampStepOf o (show w < 8192 by omega)]

/-- A step is lit by a duty where it is the step of a ramp value below the duty. -/
theorem mem_litSteps_iff (o : Nat) {duty : Nat} (h : duty ≤ 8191) (n : Nat) :
    n ∈ (upTo 8192).filter (fun n => decide (rampValue o n < duty)) ↔ n ∈ (List.range duty).map (rampStepOf o) := by
  simp only [upTo, List.mem_filter, List.mem_range, decide_eq_true_eq, List.mem_map]
  constructor
  · rintro ⟨hn, hlit⟩
    exact ⟨rampValue o n, hlit, rampStepOf_rampValue o hn⟩
  · rintro ⟨v, hv, rfl⟩
    have hmax : v < 8192 := by omega
    exact ⟨rampStepOf_lt o hmax, (rampValue_rampStepOf o hmax).symm ▸ hv⟩

/-- An ordering is one to one, so a duty lights as many steps as there are ramp values below it. -/
theorem litSteps_length (o : Nat) {duty : Nat} (h : duty ≤ 8191) :
    ((upTo 8192).filter (fun n => decide (rampValue o n < duty))).length = duty := by
  have hperm := (List.perm_ext_iff_of_nodup (List.nodup_range.filter _) (nodup_rampStepOf o h)).2 (mem_litSteps_iff o h)
  exact hperm.length_eq.trans (by rw [List.length_map, List.length_range])

/-- A ramp value in range belongs to exactly one ramp step. -/
theorem rampValue_hits_once (o v : Nat) (hv : v < 8192) :
    ∃ n < 8192, rampValue o n = v ∧ ∀ m < 8192, rampValue o m = v → m = n :=
  ⟨rampStepOf o v, rampStepOf_lt o hv, rampValue_rampStepOf o hv, fun _ hm he => he ▸ (rampStepOf_rampValue o hm).symm⟩

/-- Under SPREAD16 a duty lights the first steps of each segment, as many as `segSteps` says. -/
theorem rampValue_spread_lt_iff (duty j p : Nat) (hp : p < 512) :
    rampValue 1 (512 * j + p) < duty ↔ p < segSteps 1 duty j := by
  rw [rampValue_spread, segSteps_spread]; omega

/-- The length of a segment's pulse is the duty's share of it, rounded up. -/
theorem segSteps_spread_eq_ceil (duty j : Nat) :
    (segSteps 1 duty j : Int) = max 0 (-((j - duty : Int) / 16)) := by
  rw [segSteps_spread]; omega

/-- Settles O58: a word is of the LO or the HI range, and each light named has its word. -/
theorem driveWordsCarryLight : Obligations.DriveWordsCarryLight := by
  refine ⟨fun w _ => ?_, fun l hl => ⟨l, by omega, wLight_lo hl⟩,
    fun m hm => ⟨8192 + m, by omega, wLight_hi (by omega)⟩, correct_word_hi⟩
  obtain ⟨hlight, hmax, hdark, hdvd⟩ := wLight_props w
  refine ⟨wRange_eq_bitsOf w, wDuty_eq_bitsOf w, hlight, hmax, hdark, hdvd, fun o ho => ?_⟩
  have := wDuty_lt w
  rw [rampValue_last ho]; omega

/-- Settles O59: the orderings have an inverse, and under SPREAD16 the segment and the place in it are quotient and rest. -/
theorem rampOrderings : Obligations.RampOrderings := by
  refine ⟨fun n _ => ⟨rampValue_single n, rampValue_spread n⟩,
    fun o _ => ⟨fun n hn => rampValue_lt o hn, rampValue_hits_once o⟩, fun o _ duty hd => litSteps_length o hd,
    fun duty hd j hj => ⟨fun p hp => rampValue_spread_lt_iff duty j p hp, segSteps_spread_eq_ceil duty j, ?_⟩,
    rfl, rfl, fun n _ => ?_⟩
  · simp only [segSteps_spread]
    exact ⟨by omega, fun i hi => by omega, fun _ => by omega⟩
  · rw [rampValue_single]; omega

/-! ## A stored object reads back as written (R494) -/

/-- Rising keys: the first below every later one, and the rest rising. -/
theorem rising_cons {β : Type} (c : Nat × β) (l : List (Nat × β)) :
    rising (c :: l) = true ↔ (∀ x ∈ l, c.1 < x.1) ∧ rising l = true := by
  induction l generalizing c <;> grind [rising]

theorem afind_none_of_below {β : Type} {l : List (Nat × β)} {k : Nat} (h : ∀ x ∈ l, k < x.1) : afind l k = none := by
  induction l <;> grind [afind]

/-- The entry set in a list of rising keys is there, unless it is the default. -/
theorem afind_aset_of_rising {β : Type} [DecidableEq β] (l : List (Nat × β)) (k : Nat) (v d : β) :
    rising l = true → afind (aset l k v d) k = if v = d then none else some v := by
  fun_induction aset l k v d <;> grind [afind, rising_cons, afind_none_of_below]

/-- A read of an object after its write. -/
theorem obj_setObj_self {s : State} (h : rising s.objs = true) (idx sub : Nat) (v : List Byte) :
    (s.setObj idx sub v).obj idx sub = v := by
  have hf := afind_aset_of_rising s.objs (okey idx sub) v (objDflt s.grade idx sub) h
  unfold State.obj
  rw [show afind (s.setObj idx sub v).objs (okey idx sub) = _ from hf]
  by_cases hv : v = objDflt s.grade idx sub
  · rw [if_pos hv]; exact hv.symm
  · rw [if_neg hv]

/-- A read of an object passes a frame that names neither objects nor identity. -/
theorem kept_obj {bs : List Blk} {s s' : State} (h : keepsBut bs s s') (i k : Nat)
    (hn : Blk.objs ∉ bs ∧ Blk.ident ∉ bs := by decide) : s'.obj i k = s.obj i k := by
  have hg : s'.grade = s.grade := (h .ident hn.2).1
  simp [State.obj, hg, kept_objs h hn.1]

/-! ## What the CRC units take of a complete transfer (R459) -/

/-- Two states that differ in the CRC units and in Purser's interrupts alone. -/
def unitsOnly (s s' : State) : Prop := ∃ crc irq, s' = { s with mg := { s.mg with crc := crc, irqP := irq } }

theorem unitsOnly_refl (s : State) : unitsOnly s s := ⟨s.mg.crc, s.mg.irqP, rfl⟩

theorem unitsOnly_trans {s s' s'' : State} (h : unitsOnly s s') (h' : unitsOnly s' s'') : unitsOnly s s'' := by
  obtain ⟨_, _, rfl⟩ := h; obtain ⟨c, q, rfl⟩ := h'; exact ⟨c, q, rfl⟩

theorem unitsOnly_ite {s a : State} {c : Prop} [Decidable c] (h : unitsOnly s a) : unitsOnly s (if c then a else s) := by
  split
  · exact h
  · exact unitsOnly_refl s

theorem unitsOnly_foldl {α : Type} {f : State → α → State} (hf : ∀ s a, unitsOnly s (f s a)) (l : List α) (s : State) :
    unitsOnly s (l.foldl f s) := by
  induction l generalizing s with
  | nil => exact unitsOnly_refl s
  | cons a l ih => exact unitsOnly_trans (hf s a) (ih _)

theorem unitsOnly_unitFeed (u : Nat) (bs : List Byte) (s : State) : unitsOnly s (unitFeed u bs s) := ⟨_, s.mg.irqP, rfl⟩

theorem unitsOnly_unitFinish (u : Nat) (s : State) : unitsOnly s (unitFinish u s) := ⟨_, _, rfl⟩

theorem unitsOnly_snoop (src : Nat) (sel : Option Nat) (bs : List Byte) (s : State) : unitsOnly s (snoop src sel bs s) :=
  unitsOnly_foldl (fun s u => unitsOnly_ite (unitsOnly_unitFeed u bs s)) _ s

theorem unitsOnly_snoopEnd (src : Nat) (sel : Option Nat) (s : State) : unitsOnly s (snoopEnd src sel s) :=
  unitsOnly_foldl (fun s u => unitsOnly_ite (unitsOnly_unitFinish u s)) _ s

theorem keeps_of_unitsOnly {s s' : State} (h : unitsOnly s s') : keepsBut [.mg] s s' := by
  obtain ⟨_, _, rfl⟩ := h; exact keeps_mg _ _

theorem psStaged_of_unitsOnly {s s' : State} (h : unitsOnly s s') : s'.mg.psStaged = s.mg.psStaged := by
  obtain ⟨_, _, rfl⟩ := h; rfl

/-- A transfer that its handler takes feeds the CRC units and does nothing else. -/
theorem fedH_taken {h : List Byte → State → Nat × State} {data : List Byte} {s y : State} (he : h data s = (0, y)) :
    (fedH h data s).1 = 0 ∧ unitsOnly y (fedH h data s).2 := by
  simp only [fedH, he, if_true, true_and]
  exact unitsOnly_trans (unitsOnly_snoop _ _ _ _) (unitsOnly_snoopEnd _ _ _)

/-- A transfer that its handler refuses feeds no unit. -/
theorem fedH_refused {h : List Byte → State → Nat × State} {data : List Byte} {s y : State} {k : Nat}
    (he : h data s = (k, y)) (hk : k ≠ 0) : fedH h data s = (k, y) := by
  simp [fedH, he, hk]

/-! ## Writes that reach their object's handler -/

section
variable {s : State} {t : Nat} {p : Path} {idx sub : Nat} {data : List Byte} {h : List Byte → State → Nat × State}

/-- The state a handler runs in: that at the command's instant but for the session timer. The command's next state is what
the handler leaves, but for the dictionary server, and holds the code the handler answers. -/
theorem objWrite_handled (hd : s.pw.dev ≠ .off) (ht : takes s p idx sub data = true) :
    ∃ x s', keepsBut [.dict] (s.advance t) x ∧ objWrite t p idx sub data h s = .next s' ∧
      s'.dict.answer = (h data x).1 ∧ keepsBut [.dict] (h data x).2 s' := by
  obtain ⟨touch, he⟩ := objWrite_takes (t := t) (h := h) hd ht
  refine ⟨_, _, ?_, he, answer_end _ _, keeps_trans (keeps_dict _ _) (keeps_end _ _)⟩
  exact keeps_ite (keeps_touchSess _ _) (keeps_refl _ _)

/-- A write that its handler takes, of an object whose transfer the CRC units snoop. -/
theorem objWrite_fed_taken (hd : s.pw.dev ≠ .off) (ht : takes s p idx sub data = true) (f : State → State)
    (hh : ∀ x, keepsBut [.dict] (s.advance t) x → h data x = (0, f x)) :
    ∃ x y s', keepsBut [.dict] (s.advance t) x ∧ unitsOnly (f x) y ∧ objWrite t p idx sub data (fedH h) s = .next s' ∧
      s'.dict.answer = 0 ∧ keepsBut [.dict] y s' := by
  obtain ⟨x, s', hx, he, ha, hk⟩ := objWrite_handled (t := t) (h := fedH h) hd ht
  obtain ⟨hz, hu⟩ := fedH_taken (hh x hx)
  exact ⟨x, _, s', hx, hu, he, ha.trans hz, hk⟩

/-- A write that its handler refuses without an effect changes the answer alone. -/
theorem objWrite_fed_refused {k : Nat} (hd : s.pw.dev ≠ .off) (ht : takes s p idx sub data = true) (hk : k ≠ 0)
    (hh : ∀ x, keepsBut [.dict] (s.advance t) x → h data x = (k, x)) :
    ∃ s', objWrite t p idx sub data (fedH h) s = .next s' ∧ keepsBut [.dict] (s.advance t) s' ∧ s'.dict.answer = k := by
  obtain ⟨x, s', hx, he, ha, hs⟩ := objWrite_handled (t := t) (h := fedH h) hd ht
  rw [fedH_refused (hh x hx) hk] at ha hs
  exact ⟨s', he, keeps_trans hx hs, ha⟩
end

/-! ## The class table (R386) -/

/-- The floors of a class table rest on the check windows and the load alone. -/
theorem classesOk_congr {s s' : State} (hq : s'.quay = s.quay) (hc : s'.comp = s.comp) (data : List Byte) :
    classesOk s' data = classesOk s data := by
  simp [classesOk, floorNow, hq, hc]

theorem classesOk_of_kept {s x : State} {t : Nat} (hx : keepsBut [.dict] (s.advance t) x) (data : List Byte) :
    classesOk x data = classesOk s data :=
  classesOk_congr ((kept_quay hx).trans (advance_quay s t)) ((kept_comp hx).trans (advance_comp s t)) data

/-- The effect of a class table that is taken: it is stored, and a class raised for a latched source acts at once (R391). -/
def classPut (data : List Byte) (s : State) : State :=
  retarget (firstLatched (s.setObj 0x2D10 3 data) (targetClass (s.setObj 0x2D10 3 data))) (s.setObj 0x2D10 3 data)

theorem classH_taken {data : List Byte} {s : State} (h : classesOk s data = true) : classH data s = (0, classPut data s) := by
  simp [classH, classPut, h]

theorem classH_refused {data : List Byte} {s : State} (h : classesOk s data = false) : classH data s = (abRange, s) := by
  simp [classH, h]

theorem keeps_classPut (data : List Byte) (s : State) : keepsBut raiseBlks (s.setObj 0x2D10 3 data) (classPut data s) :=
  keeps_retarget _ _

/-- A class table that keeps every floor is stored (R386). -/
theorem classWrite_taken (t : Nat) {p : Path} {data : List Byte} {s : State} (hd : s.pw.dev ≠ .off)
    (ht : takes s p 0x2D10 3 data = true) (hc : classesOk s data = true) (hr : rising s.objs = true) :
    ∃ s', exec (.classWrite t p data) s = .next s' ∧ keepsBut (.objs :: raiseBlks) (s.advance t) s' ∧
      s'.dict.answer = 0 ∧ s'.obj 0x2D10 3 = data := by
  obtain ⟨x, y, s', hx, hy, he, ha, hs⟩ := objWrite_fed_taken (t := t) hd ht (classPut data)
    (fun x hx => classH_taken ((classesOk_of_kept hx data).trans hc))
  have hput : keepsBut raiseBlks (x.setObj 0x2D10 3 data) s' :=
    keeps_step (keeps_step (keeps_classPut data x) (keeps_of_unitsOnly hy)) hs
  refine ⟨s', he, ?_, ha, ?_⟩
  · exact keeps_step (keeps_step (keeps_mono hx (by decide)) (keeps_setObj _ _ _ _)) hput
  · have hx' : x.objs = s.objs := (kept_objs hx).trans (advance_objs s t)
    rw [kept_obj hput, obj_setObj_self (hx' ▸ hr)]

/-- A class table below a floor is refused (R386). -/
theorem classWrite_refused (t : Nat) {p : Path} {data : List Byte} {s : State} (hd : s.pw.dev ≠ .off)
    (ht : takes s p 0x2D10 3 data = true) (hc : classesOk s data = false) :
    ∃ s', exec (.classWrite t p data) s = .next s' ∧ keepsBut [.dict] (s.advance t) s' ∧ s'.dict.answer = abRange :=
  objWrite_fed_refused hd ht (by decide) fun _ hx => classH_refused ((classesOk_of_kept hx data).trans hc)

/-! ## The staging copy (R464) -/

/-- The update path lets no record into the staging copy: it is PREPARED (R472), or a commit has no result yet (R465). -/
def stagingShut (s : State) : Bool := prepared s .updatePath || s.mg.psVerifying || copying s

/-- A record write into the staging copy, with room for it. -/
def stagePut (c : Prot) (s : State) : State :=
  { s with nv := { s.nv with copies := s.nv.copies.modify (1 - s.nv.copy) (fun _ => c) }, mg := { s.mg with psStaged := true } }

theorem stage_taken {c : Prot} {s : State} (ho : stagingShut s = false) (hc : protCoded c ≤ 524288) :
    stage c s = (0, stagePut c s) := by
  unfold stagingShut at ho
  simp [stage, ho, Nat.not_lt.2 hc, stagePut, modNth]

theorem stage_shut {c : Prot} {s : State} (ho : stagingShut s = true) : stage c s = (abState, s) := by
  unfold stagingShut at ho
  simp [stage, ho]

theorem keeps_stagePut (c : Prot) (s : State) : keepsBut [.nv, .mg] s (stagePut c s) := by
  intro b hb; cases b <;> simp_all [sameBlk, stagePut]

section
variable {s x : State} {t : Nat} (hx : keepsBut [.dict] (s.advance t) x)
include hx

theorem staging_of_kept : staging x = staging s := by
  simp [staging, protNow, kept_nv hx, kept_mg hx]

theorem stagingShut_of_kept : stagingShut x = stagingShut s := by
  simp [stagingShut, prepared, copying, jrnlHas, kept_nv hx, kept_mg hx, kept_pw hx]
end

/-- A write that its handler stages: the record goes into the staging copy, the copy in force stays (R464). -/
theorem objWrite_staged (t : Nat) {s : State} {p : Path} {idx sub : Nat} {data : List Byte}
    {h : List Byte → State → Nat × State} {c : Prot} (hd : s.pw.dev ≠ .off) (ht : takes s p idx sub data = true)
    (ho : stagingShut s = false) (hc : protCoded c ≤ 524288)
    (hh : ∀ x, keepsBut [.dict] (s.advance t) x → h data x = stage c x) :
    ∃ s', objWrite t p idx sub data (fedH h) s = .next s' ∧ keepsBut [.nv, .mg, .dict] (s.advance t) s' ∧
      s'.dict.answer = 0 ∧ s'.nv = { s.nv with copies := s.nv.copies.modify (1 - s.nv.copy) (fun _ => c) } ∧
      s'.mg.psStaged = true := by
  obtain ⟨x, y, s', hx, hy, he, ha, hs⟩ := objWrite_fed_taken (t := t) hd ht (stagePut c)
    (fun x hx => (hh x hx).trans (stage_taken ((stagingShut_of_kept hx).trans ho) hc))
  have hu := keeps_of_unitsOnly hy
  refine ⟨s', he, ?_, ha, ?_, ?_⟩
  · exact keeps_step (keeps_step (keeps_step (keeps_mono hx (by decide)) (keeps_stagePut c x)) hu) hs
  · rw [kept_nv hs, kept_nv hu]; simp [stagePut, kept_nv hx]
  · rw [kept_mg hs, psStaged_of_unitsOnly hy]; rfl

/-! ## Limp patterns and function maps (R65, R394, R396) -/

/-- A limp pattern of the layout of Table 15.4 within the light limit is staged (R396). -/
theorem limpH_allowed {n : Nat} {data : List Byte} {s : State} (hl : limpLayout data = true)
    (hi : limpLight data ≤ 15728640000) :
    limpH (n + 1) data s = stage { staging s with limp := (staging s).limp.modify n (fun _ => data) } s := by
  simp only [limpH, hl, decide_eq_true hi, Bool.and_self, if_true, modNth, Nat.add_sub_cancel]

theorem limpH_otherLayout {n : Nat} {data : List Byte} {s : State} (hl : limpLayout data = false) :
    limpH n data s = (abRange, s) := by
  simp only [limpH, hl, Bool.false_and, Bool.false_eq_true, if_false]

/-- The limp beam filled into the shadow words (R394). -/
def limpLoad (s : State) : State :=
  { s with saf := { s.saf with limpLoaded := true, limpSums := limpSums s s.saf.limpIn }
           arr := { s.arr with shadow := limpWords s.saf.limpIn } }

theorem exec_limpLoadDone (t : Nat) (s : State) : exec (.limpLoadDone t) s =
    act t (fun s => if s.saf.state = .limp && !s.saf.limpLoaded && s.saf.limpPattern ≠ 0 then limpLoad s else s) s := rfl

theorem keeps_limpLoad (s : State) : keepsBut [.saf, .arr] s (limpLoad s) := by
  intro b hb; cases b <;> simp_all [sameBlk, limpLoad]

/-- The limp loader in LIMP (R394). -/
theorem limpLoadDone_loads (t : Nat) {s : State} (hd : s.pw.dev ≠ .off) (hs : s.saf.state = .limp)
    (hl : s.saf.limpLoaded = false) (hp : s.saf.limpPattern ≠ 0) :
    ∃ s', exec (.limpLoadDone t) s = .next s' ∧ keepsBut [.saf, .arr] (s.advance t) s' ∧
      s'.saf = { s.saf with limpLoaded := true, limpSums := limpSums (s.advance t) s.saf.limpIn } ∧
      s'.arr.shadow = limpWords s.saf.limpIn ∧ s'.arr.active = s.arr.active := by
  rw [exec_limpLoadDone]
  refine act_does t _ hd ?_ ?_
  · simpa [hs, hl, hp] using keeps_limpLoad (s.advance t)
  · intro s' hk
    simp only [advance_saf, hs, hl, hp, decide_true, Bool.not_false, Bool.and_self, ne_eq, not_false_eq_true, if_true] at hk
    rw [kept_saf hk, kept_arr hk]
    simp [limpLoad]

/-- Outside LIMP, or a second time, the limp loader does nothing (R394). -/
theorem limpLoadDone_idle (t : Nat) {s : State} (hd : s.pw.dev ≠ .off) (hs : s.saf.state ≠ .limp ∨ s.saf.limpLoaded = true) :
    ∃ s', exec (.limpLoadDone t) s = .next s' ∧ keepsBut [] (s.advance t) s' ∧ s'.arr = s.arr := by
  have hi : (decide (s.saf.state = .limp) && !s.saf.limpLoaded) = false := by
    obtain h | h := hs <;> simp [h]
  rw [exec_limpLoadDone]
  refine act_does t _ hd ?_ ?_
  · simpa [hi] using keeps_refl [] (s.advance t)
  · intro s' hk
    simp only [advance_saf, hi, Bool.false_and, Bool.false_eq_true, if_false] at hk
    rw [kept_arr hk, advance_arr]

/-- Settles O15: each write runs its object's handler in the state of its instant, where floors, staging copy and update path
are as before; the CRC units that snoop the transfer touch none of them. -/
theorem protectedRecordsAreStaged : Obligations.ProtectedRecordsAreStaged := by
  refine ⟨fun t p data s hd ht hc hr => classWrite_taken t hd ht hc hr, fun t p data s hd ht hc => classWrite_refused t hd ht hc,
    fun t p n data s hd ht hl hi hp hv hc hm => ?_, fun t p n data s hd ht hl => ?_,
    fun t p data s hd ht hp hv hc hm => ?_, fun t p data s hd ht ho => ?_,
    fun t s hd hs hl hp => limpLoadDone_loads t hd hs hl hp, fun t s hd hs => limpLoadDone_idle t hd hs⟩
  · exact objWrite_staged t hd ht (by simp [stagingShut, hp, hv, hc]) hm fun x hx => by
      rw [limpH_allowed hl hi, staging_of_kept hx]
  · exact objWrite_fed_refused hd ht (by decide) fun x _ => limpH_otherLayout hl
  · exact objWrite_staged t hd ht (by simp [stagingShut, hp, hv, hc]) hm fun x hx => by
      rw [mapH, staging_of_kept hx]
  · have hshut : stagingShut s = true := by obtain h | h | h := ho <;> simp [stagingShut, h]
    exact objWrite_fed_refused hd ht (by decide) fun x hx => stage_shut ((stagingShut_of_kept hx).trans hshut)

end Sys2Proof
end

section
/-!
PROOFS. The FRAME packets (FramePacketsAct): what a packet that is consumed does up to its effect, its ACK and NACK, and
what the commit of a descriptor leaves.
-/

namespace Sys2Proof

open Sys2Proof.Machine

/-! ## Ends of commands that leave the address alone -/

/-- A command whose effect leaves objects, CAN and the address on the ring alone: its next state agrees with its effect. -/
theorem act_does_addressed {bs : List Blk} {s : State} {P : State → Prop} (t : Nat) (f : State → State)
    (hd : s.pw.dev ≠ .off) (hf : keepsBut bs (s.advance t) (f (s.advance t)))
    (ha : (f (s.advance t)).fy.address = s.fy.address) (hp : ∀ s', keepsBut [] (f (s.advance t)) s' → P s')
    (hn : Blk.objs ∉ bs ∧ Blk.ident ∉ bs ∧ Blk.can ∉ bs := by decide) :
    ∃ s', act t f s = .next s' ∧ keepsBut bs (s.advance t) s' ∧ P s' := by
  obtain ⟨ho, hi, hc⟩ := hn
  have hg : (f (s.advance t)).grade = s.grade := (hf .ident hi).1.trans (advance_grade s t)
  have hnode : nodeOf s = nodeOf (f (s.advance t)) := by
    simp [nodeOf, State.objN, State.obj, hg, kept_objs hf ho, kept_can hf hc, ha]
  have hend : keepsBut [] (f (s.advance t)) (settle s (renode s (f (s.advance t)))) := by
    intro b hb; cases b <;> simp [sameBlk, renode, ← hnode, ha]
  exact ⟨_, act_on t f hd, keeps_step hf hend (by simp), hp _ hend⟩

/-! ## A packet up to its effect (R134, R139, R155, R156) -/

/-- The CRC units have taken a consumed packet (R459). -/
def snooped (k : Packet) (s : State) : State := snoop 3 none (leBytes 8 k.hdr.toNat ++ k.payload) s

theorem unitsOnly_snooped (k : Packet) (s : State) : unitsOnly s (snooped k s) := unitsOnly_snoop _ _ _ _

theorem keeps_snooped (k : Packet) (s : State) : keepsBut [.mg] s (snooped k s) := keeps_of_unitsOnly (unitsOnly_snooped k s)

@[simp] theorem snooped_fy (k : Packet) (s : State) : (snooped k s).fy = s.fy := kept_fy (keeps_snooped k s)
@[simp] theorem snooped_pw (k : Packet) (s : State) : (snooped k s).pw = s.pw := kept_pw (keeps_snooped k s)

@[simp] theorem queueFree_snooped (k : Packet) (s : State) : queueFree (snooped k s) = queueFree s := by
  obtain ⟨_, _, h⟩ := unitsOnly_snooped k s
  rw [h]; rfl

@[simp] theorem queueFree_advance (s : State) (t : Nat) : queueFree (s.advance t) = queueFree s := by
  unfold State.advance; split <;> rfl

@[simp] theorem kHere_advance (s : State) (t : Nat) (k : Packet) : kHere (s.advance t) k = kHere s k := by simp [kHere]
@[simp] theorem consumes_advance (s : State) (t : Nat) (k : Packet) : consumes (s.advance t) k = consumes s k := by
  simp [consumes]

@[simp] theorem pktTakes_advance (s : State) (t : Nat) (k : Packet) : pktTakes (s.advance t) k = pktTakes s k := by
  simp [pktTakes]

/-- The engine receives a packet for it, outside the exit to READY and with a place for its answer (R139, R143, R438). -/
structure Reaches (s : State) (k : Packet) : Prop where
  here : kHere s k = true
  own : consumes s k = true
  stays : s.pw.exiting = false
  room : queueFree s = true

theorem Reaches.advance {s : State} {k : Packet} (h : Reaches s k) (t : Nat) : Reaches (s.advance t) k := by
  obtain ⟨hh, hc, he, hq⟩ := h
  exact ⟨by rw [kHere_advance, hh], by rw [consumes_advance, hc], by rw [advance_pw, he], by rw [queueFree_advance, hq]⟩

theorem pktTakes_iff (s : State) (k : Packet) : pktTakes s k = true ↔
    Reaches s k ∧ kPass k = true ∧ hdrBits k.hdr 47 38 = 0 ∧ kRetry k = false := by
  constructor
  · intro h
    simp only [pktTakes, Bool.and_eq_true, beq_iff_eq, Bool.not_eq_true'] at h
    obtain ⟨⟨⟨⟨⟨⟨hh, hc⟩, hp⟩, hv⟩, hr⟩, he⟩, hq⟩ := h
    exact ⟨⟨hh, hc, he, hq⟩, hp, hv, hr⟩
  · rintro ⟨⟨hh, hc, he, hq⟩, hp, hv, hr⟩
    simp [pktTakes, hh, hc, he, hq, hp, hv, hr]

section
variable {s : State} {k : Packet} {bad : Bool} {body : State → State}

theorem consume_elsewhere {silent full : Bool} (h : kHere s k = false ∨ consumes s k = false) :
    consume k bad silent full body s = s := by
  obtain h | h := h <;> simp [consume, h]

/-- A FRAME packet that fails its trailer. -/
theorem consume_failed (h : Reaches s k) (hty : kTy k = 3) (hp : kPass k = false) :
    consume k bad false false body s = nack 3 (kSeq k) 1 (countFail k (snooped k s)) := by
  obtain ⟨hh, hc, he, hq⟩ := h
  have he' : (snooped k s).pw.exiting = false := by rw [snooped_pw, he]
  have hq' : queueFree (snooped k s) = true := by rw [queueFree_snooped, hq]
  unfold snooped at he' hq' ⊢
  simp [consume, failedPacket, hh, hc, he', hq', hty, hp]

/-- A RETRY of an executed FRAME packet that had an answer. -/
theorem consume_repeat {p : List Byte} (h : Reaches s k) (hty : kTy k = 3) (hp : kPass k = true) (hr : kRetry k = true)
    (hn : afind s.fy.nackFrame (kSeq k) = none) (hf : afind s.fy.doneFrame (kSeq k) = some p) (hne : p ≠ []) :
    consume k bad false false body s = answerPacket 1 3 (kSeq k) p
      { snooped k s with fy := { s.fy with duplicates := s.fy.duplicates + 1 } } := by
  obtain ⟨hh, hc, he, hq⟩ := h
  have he' : (snooped k s).pw.exiting = false := by rw [snooped_pw, he]
  have hq' : queueFree (snooped k s) = true := by rw [queueFree_snooped, hq]
  have hy : (snooped k s).fy = s.fy := snooped_fy k s
  unfold snooped at he' hq' hy ⊢
  simp [consume, retryTransient, retryAnswer, hh, hc, he', hq', hy, hty, hp, hr, hn, hf, hne]

/-- A malformed FRAME packet. -/
theorem consume_malformed (h : pktTakes s k = true) (hty : kTy k = 3) :
    consume k true false false body s = nack 3 (kSeq k) 2 (snooped k s) := by
  obtain ⟨⟨hh, hc, he, hq⟩, hp, hv, hr⟩ := (pktTakes_iff s k).1 h
  have he' : (snooped k s).pw.exiting = false := by rw [snooped_pw, he]
  have hq' : queueFree (snooped k s) = true := by rw [queueFree_snooped, hq]
  unfold snooped at he' hq' ⊢
  simp [consume, retryAnswer, hh, hc, he', hq', hty, hp, hr]

/-- A well-formed FRAME packet has its effect, with the place of its answer kept. -/
theorem consume_served (h : pktTakes s k = true) (hty : kTy k = 3) :
    consume k false false false body s = serving true body (snooped k s) := by
  obtain ⟨⟨hh, hc, he, hq⟩, hp, hv, hr⟩ := (pktTakes_iff s k).1 h
  have he' : (snooped k s).pw.exiting = false := by rw [snooped_pw, he]
  have hq' : queueFree (snooped k s) = true := by rw [queueFree_snooped, hq]
  unfold snooped at he' hq' ⊢
  simp [consume, retryTransient, retryAnswer, hh, hc, he', hq', hty, hp, hv, hr]
end

/-! ## Answers of FRAME packets (R148, R156) -/

/-- The insertion queue has a place left, and Ferry transmit is not PREPARED. -/
def answerRoom (s : State) : Bool := decide (s.fy.insert.length < 8) && !prepared s (.block 1)

theorem answerRoom_of_queueFree {s : State} (h : queueFree s = true) : answerRoom s = true := by
  simp only [queueFree, answerRoom, Bool.and_eq_true, decide_eq_true_eq] at h ⊢
  exact ⟨by omega, h.2⟩

/-- An answer as the insertion queue holds it, padded to whole units. -/
def answerOwn (s : State) (prec ty seq : Nat) (p : List Byte) : Own :=
  ⟨prec, ty, s.fy.address, seq, padTo (16 * ((p.length + 15) / 16)) p⟩

theorem answerPacket_fy {s : State} (prec ty seq : Nat) (p : List Byte) (h : answerRoom s = true) :
    (answerPacket prec ty seq p s).fy = { s.fy with insert := s.fy.insert ++ [answerOwn s prec ty seq p] } := by
  have h' : (decide (s.fy.insert.length < 8) && !prepared { s with serving := false } (.block 1)) = true := h
  simp only [answerPacket, h', if_true]
  rfl

@[simp] theorem length_leBytes (n v : Nat) : (leBytes n v).length = n := by
  induction n generalizing v with
  | zero => rfl
  | succ n ih => simp [leBytes, ih]

theorem keeps_serving (s : State) (v : Bool) : keepsBut [] s { s with serving := v } := by
  intro b _; cases b <;> simp [sameBlk]

theorem keeps_answerPacket (prec ty seq : Nat) (p : List Byte) (s : State) :
    keepsBut [.fy] s (answerPacket prec ty seq p s) := by
  unfold answerPacket
  have hs : keepsBut [.fy] s { s with serving := false } := keeps_mono (keeps_serving _ _) (by simp)
  exact keeps_ite (keeps_trans hs (keeps_putOwn _ _ _ _ _)) hs

/-- The NACK of a FRAME packet (Table 5.6). -/
def frameNackOf (s : State) (k : Packet) (cause : Nat) : Own :=
  ⟨1, 3, s.fy.address, kSeq k, padTo 16 ([0x82, BitVec.ofNat 8 cause] ++ leBytes 2 (kSeq k))⟩

/-- The list of NACKed SEQs after one more NACK. -/
def nackedMore (l : List (Nat × Nat)) (seq : Nat) : List (Nat × Nat) :=
  ((seq, min 3 (alook l seq 0 + 1)) :: l.filter (fun p => p.1 ≠ seq)).take 8

/-- A NACK other than the third of its SEQ is sent, counted and remembered, and is at most a transient (R156, R157). -/
theorem nack_frame {s : State} {k : Packet} {cause : Nat} (hroom : answerRoom s = true)
    (h : alook s.fy.nackFrame (kSeq k) 0 ≠ 2) :
    keepsBut [.fy, .mg, .saf] s (nack 3 (kSeq k) cause s) ∧
      (nack 3 (kSeq k) cause s).fy = { s.fy with
        nacksSent := s.fy.nacksSent + 1, nackFrame := nackedMore s.fy.nackFrame (kSeq k)
        insert := s.fy.insert ++ [frameNackOf s k cause] } := by
  unfold nack
  extract_lets l n l' fy s1 ctx
  have hn : ¬((n = 3 && decide (alook l (kSeq k) 0 < 3)) = true) := by
    simp only [n, l, if_true, Bool.and_eq_true, decide_eq_true_eq]
    omega
  have hk : keepsBut [.fy] s s1 := keeps_trans (keeps_fy _ _) (keeps_answerPacket _ _ _ _ _)
  have hfy : s1.fy = { s.fy with
      nacksSent := s.fy.nacksSent + 1, nackFrame := nackedMore s.fy.nackFrame (kSeq k)
      insert := s.fy.insert ++ [frameNackOf s k cause] } := by
    refine (answerPacket_fy _ _ _ _ ?_).trans ?_
    · exact hroom
    · simp [answerOwn, frameNackOf, nackedMore, fy, l', n, l]
  clear_value s1 n
  rw [if_neg hn]
  split
  · have ht := keeps_transientSrc 0x12 ctx s1
    exact ⟨keeps_step (keeps_mono hk (by decide)) ht, (kept_fy ht).trans hfy⟩
  · exact ⟨keeps_mono hk (by decide), hfy⟩

theorem keeps_rememberDone (ty seq : Nat) (p : List Byte) (s : State) : keepsBut [.fy] s (rememberDone ty seq p s) :=
  keeps_ite (keeps_fy _ _) (keeps_fy _ _)

theorem keeps_frameAck (seq status fseq : Nat) (s : State) : keepsBut [.fy] s (frameAck seq status fseq s) :=
  keeps_trans (keeps_rememberDone _ _ _ _) (keeps_answerPacket _ _ _ _ _)

/-- An ACK takes a place of the insertion queue. -/
theorem frameAck_fy {s : State} {k : Packet} {status fseq : Nat} (hroom : answerRoom s = true) :
    (frameAck (kSeq k) status fseq s).fy.insert = s.fy.insert ++ [ackOf s k status fseq] ∧
      (frameAck (kSeq k) status fseq s).fy.consumed = s.fy.consumed ∧
      (frameAck (kSeq k) status fseq s).fy.address = s.fy.address := by
  have hfy : (frameAck (kSeq k) status fseq s).fy = _ := answerPacket_fy _ _ _ _ hroom
  rw [hfy]
  simp [rememberDone, answerOwn, ackOf]

/-- A command that ends in a NACK other than the third of its SEQ. -/
theorem act_nacks {t cause : Nat} {k : Packet} {s y : State} {f : State → State} (hd : s.pw.dev ≠ .off)
    (hf : f (s.advance t) = nack 3 (kSeq k) cause y) (hy : keepsBut [.fy, .mg] (s.advance t) y)
    (hi : y.fy.insert = s.fy.insert) (ha : y.fy.address = s.fy.address) (hn : y.fy.nackFrame = s.fy.nackFrame)
    (hq : queueFree s = true) (h : alook s.fy.nackFrame (kSeq k) 0 ≠ 2) :
    ∃ s', act t f s = .next s' ∧ keepsBut [.fy, .mg, .saf] (s.advance t) s' ∧ s'.frm = s.frm ∧
      s'.fy = { y.fy with
        nacksSent := y.fy.nacksSent + 1, nackFrame := nackedMore s.fy.nackFrame (kSeq k)
        insert := s.fy.insert ++ [frameNackOf s k cause] } := by
  have hp : y.pw = s.pw := (kept_pw hy).trans (advance_pw s t)
  have hroom : answerRoom y = true := by
    have := answerRoom_of_queueFree hq
    simpa only [answerRoom, prepared, hi, hp] using this
  obtain ⟨hk, hfy⟩ := nack_frame (cause := cause) hroom (hn ▸ h)
  have hown : frameNackOf y k cause = frameNackOf s k cause := by simp only [frameNackOf, ha]
  rw [hi, hn, hown] at hfy
  have hall : keepsBut [.fy, .mg, .saf] (s.advance t) (f (s.advance t)) := by
    rw [hf]; exact keeps_step (keeps_mono hy (by decide)) hk
  refine act_does_addressed t f hd hall (by rw [hf, hfy, ha]) fun s' hs => ?_
  rw [kept_frm hs, kept_frm hall, kept_fy hs, hf]
  exact ⟨advance_frm s t, hfy⟩

/-- A packet that fails is counted as the engine's own or as passed on (R155). -/
theorem countFail_counts (k : Packet) (s : State) :
    keepsBut [.fy] s (countFail k s) ∧
      (countFail k s).fy.crcErrors + (countFail k s).fy.crcPassed = s.fy.crcErrors + s.fy.crcPassed + 1 ∧
      (countFail k s).fy.nacksSent = s.fy.nacksSent ∧ (countFail k s).fy.insert = s.fy.insert ∧
      (countFail k s).fy.nackFrame = s.fy.nackFrame ∧ (countFail k s).fy.address = s.fy.address := by
  unfold countFail
  split
  · exact ⟨keeps_fy _ _, (BitVec.add_assoc ..).symm, rfl, rfl, rfl, rfl⟩
  · have hcomm : s.fy.crcErrors + 1 + s.fy.crcPassed = s.fy.crcErrors + s.fy.crcPassed + 1 := by
      rw [BitVec.add_assoc, BitVec.add_comm 1, ← BitVec.add_assoc]
    exact ⟨keeps_fy _ _, hcomm, rfl, rfl, rfl, rfl⟩

/-! ## The four FRAME packets (R148) -/

/-- What a FRAME packet of one OP does: `body` is its effect once it is counted as consumed. -/
def framePacket (op : Nat) (k : Packet) (bad : Bool) (body : State → State) (s : State) : State :=
  if !(kTy k == 3 && kF k 0 1 == op) then s else consume k bad false false (fun s => body (took s)) s

/-- WRITE: the descriptor of the packet into the shadow. -/
def writeBody (k : Packet) (s : State) : State :=
  frameAck (kSeq k) 0 (dF (writeDesc k) 0 4) (setShadow (some (writeDesc k)) s)

/-- A descriptor into the shadow, and its commit: WRITE_COMMIT, with the descriptor of the packet. -/
def commitRaw (k : Packet) (raw : List Byte) (s : State) : State :=
  let r := frameCommit raw (setShadow (some raw) s)
  frameAck (kSeq k) r.1 (dF raw 0 4) r.2

/-- COMMIT: the commit of the shadow descriptor. -/
def commitBody (k : Packet) (s : State) : State :=
  match s.frm.shadowDesc with
  | none => frameAck (kSeq k) 0x0C 0 (frameRefused 0x0C 0 s)
  | some raw => let r := frameCommit raw s; frameAck (kSeq k) r.1 (dF raw 0 4) r.2

/-- FRAME_SEQ of the answer to DISCARD. -/
def shadowSeq (s : State) : Nat := match s.frm.shadowDesc with | some raw => dF raw 0 4 | none => 0

/-- DISCARD: the shadow empties. -/
def discardBody (k : Packet) (s : State) : State := frameAck (kSeq k) 0 (shadowSeq s) (setShadow none s)

theorem exec_frameWrite (t : Nat) (k : Packet) (s : State) :
    exec (.frameWrite t k) s = act t (framePacket 1 k (writeBad k) (writeBody k)) s := rfl

theorem exec_frameCommit (t : Nat) (k : Packet) (s : State) :
    exec (.frameCommit t k) s = act t (framePacket 2 k (!kZero k 1 k.payload.length) (commitBody k)) s := rfl

theorem exec_frameWriteCommit (t : Nat) (k : Packet) (s : State) :
    exec (.frameWriteCommit t k) s = act t (framePacket 3 k (writeBad k) (commitRaw k (writeDesc k))) s := rfl

theorem exec_frameDiscard (t : Nat) (k : Packet) (s : State) :
    exec (.frameDiscard t k) s = act t (framePacket 4 k (!kZero k 1 k.payload.length) (discardBody k)) s := rfl

section
variable {op t : Nat} {k : Packet} {bad : Bool} {body : State → State} {s : State}

theorem framePacket_own (hty : kTy k = 3) (hop : kF k 0 1 = op) :
    framePacket op k bad body s = consume k bad false false (fun s => body (took s)) s := by
  simp [framePacket, hty, hop]

/-- Another packet, or one not for the engine, does nothing (R143). -/
theorem framePacket_elsewhere (hd : s.pw.dev ≠ .off)
    (h : kTy k ≠ 3 ∨ kF k 0 1 ≠ op ∨ kHere s k = false ∨ consumes s k = false) :
    ∃ s', act t (framePacket op k bad body) s = .next s' ∧ keepsBut [] (s.advance t) s' ∧ s'.frm = s.frm ∧ s'.fy = s.fy := by
  have hf : framePacket op k bad body (s.advance t) = s.advance t := by
    unfold framePacket
    split
    · rfl
    · rename_i hown
      simp only [Bool.not_eq_true, Bool.not_eq_false', Bool.and_eq_true, beq_iff_eq] at hown
      refine consume_elsewhere ?_
      simpa [hown.1, hown.2] using h
  refine act_does_addressed t _ hd ?_ ?_ fun s' hk => ?_
  · rw [hf]; exact keeps_refl _ _
  · rw [hf, advance_fy]
  · rw [hf] at hk
    exact ⟨(kept_frm hk).trans (advance_frm s t), (kept_fy hk).trans (advance_fy s t)⟩

/-- A malformed packet, but the third of its SEQ, is NACKed with cause 2 (R134, R156). -/
theorem framePacket_nacked (hd : s.pw.dev ≠ .off) (ht : pktTakes s k = true) (hty : kTy k = 3) (hop : kF k 0 1 = op)
    (hbad : bad = true) (h : alook s.fy.nackFrame (kSeq k) 0 ≠ 2) :
    ∃ s', act t (framePacket op k bad body) s = .next s' ∧ keepsBut raiseBlks (s.advance t) s' ∧
      s'.fy.nacksSent = s.fy.nacksSent + 1 ∧ s'.fy.insert = s.fy.insert ++ [frameNackOf s k 2] ∧
      s'.frm.shadowDesc = s.frm.shadowDesc ∧ s'.frm.queue = s.frm.queue := by
  obtain ⟨hreach, -⟩ := (pktTakes_iff s k).1 ht
  have hf : framePacket op k bad body (s.advance t) = nack 3 (kSeq k) 2 (snooped k (s.advance t)) := by
    rw [framePacket_own hty hop, hbad, consume_malformed (by rw [pktTakes_advance, ht]) hty]
  have hy : (snooped k (s.advance t)).fy = s.fy := by rw [snooped_fy, advance_fy]
  obtain ⟨s', he, hk, hfrm, hfy⟩ := act_nacks hd hf (keeps_mono (keeps_snooped _ _) (by decide)) (by rw [hy]) (by rw [hy])
    (by rw [hy]) hreach.room h
  rw [hy] at hfy
  exact ⟨s', he, keeps_mono hk (by decide), by rw [hfy], by rw [hfy], by rw [hfrm], by rw [hfrm]⟩

/-- A packet that fails is counted once, and NACKed with cause 1 (R155, R156). -/
theorem framePacket_failed (hd : s.pw.dev ≠ .off) (hr : Reaches s k) (hty : kTy k = 3) (hp : kPass k = false)
    (hop : kF k 0 1 = op) (h : alook s.fy.nackFrame (kSeq k) 0 + 1 < 3) :
    ∃ s', act t (framePacket op k bad body) s = .next s' ∧ keepsBut [.fy, .mg, .saf] (s.advance t) s' ∧
      s'.fy.nacksSent = s.fy.nacksSent + 1 ∧
      s'.fy.crcErrors + s'.fy.crcPassed = s.fy.crcErrors + s.fy.crcPassed + 1 ∧ s'.frm = s.frm := by
  have hf : framePacket op k bad body (s.advance t) = nack 3 (kSeq k) 1 (countFail k (snooped k (s.advance t))) := by
    rw [framePacket_own hty hop, consume_failed (hr.advance t) hty hp]
  obtain ⟨hc, hcrc, hsent, hi, hn, ha⟩ := countFail_counts k (snooped k (s.advance t))
  simp only [snooped_fy, advance_fy] at hcrc hsent hi hn ha
  obtain ⟨s', he, hk, hfrm, hfy⟩ := act_nacks hd hf
    (keeps_trans (keeps_mono (keeps_snooped _ _) (by decide)) (keeps_mono hc (by decide))) hi ha hn hr.room (by omega)
  exact ⟨s', he, hk, by rw [hfy, hsent], by rw [hfy, hcrc], hfrm⟩

/-- A RETRY of an executed packet is answered again and counted, and executes nothing (R156). -/
theorem framePacket_repeat {p : List Byte} (hd : s.pw.dev ≠ .off) (hreach : Reaches s k) (hty : kTy k = 3)
    (hop : kF k 0 1 = op) (hp : kPass k = true) (hr : kRetry k = true) (hn : afind s.fy.nackFrame (kSeq k) = none)
    (hf : afind s.fy.doneFrame (kSeq k) = some p) (hne : p ≠ []) :
    ∃ s', act t (framePacket op k bad body) s = .next s' ∧ keepsBut [.fy, .mg] (s.advance t) s' ∧
      s'.fy = { s.fy with
        duplicates := s.fy.duplicates + 1, insert := s.fy.insert ++ [answerOwn s 1 3 (kSeq k) p] } := by
  obtain ⟨y, hy⟩ : ∃ y, y = { snooped k (s.advance t) with fy := { s.fy with duplicates := s.fy.duplicates + 1 } } := ⟨_, rfl⟩
  have hrun : framePacket op k bad body (s.advance t) = answerPacket 1 3 (kSeq k) p y := by
    rw [framePacket_own hty hop, consume_repeat (hreach.advance t) hty hp hr (by simpa using hn) (by simpa using hf) hne,
      advance_fy, hy]
  have hky : keepsBut [.fy, .mg] (s.advance t) y := by
    rw [hy]; exact keeps_step (keeps_mono (keeps_snooped _ _) (by decide)) (keeps_fy _ _)
  have hyfy : y.fy = { s.fy with duplicates := s.fy.duplicates + 1 } := by rw [hy]
  clear hy
  have hypw : y.pw = s.pw := (kept_pw hky).trans (advance_pw s t)
  have hroom : answerRoom y = true := by
    have := answerRoom_of_queueFree hreach.room
    simpa only [answerRoom, prepared, hyfy, hypw] using this
  have hfy := answerPacket_fy 1 3 (kSeq k) p hroom
  have hk := keeps_step hky (keeps_answerPacket 1 3 (kSeq k) p y)
  rw [← hrun] at hk hfy
  simp only [answerOwn, hyfy] at hfy
  refine act_does_addressed t _ hd hk (by rw [hfy]) fun s' hs => ?_
  rw [kept_fy hs, hfy, answerOwn]

/-- A packet whose effect ends in its ACK: the effect runs where the packet and the CRC units are counted, and the ACK joins
the insertion queue (R139, R148). -/
theorem framePacket_acked {g : State → State} {status fseq : Nat} {bs : List Blk} (hd : s.pw.dev ≠ .off)
    (ht : pktTakes s k = true) (hty : kTy k = 3) (hop : kF k 0 1 = op) (hbad : bad = false)
    (hb : ∀ x, keepsBut [.fy, .mg] (s.advance t) x → body x = frameAck (kSeq k) status fseq (g x))
    (hg : ∀ x, keepsBut bs x (g x)) (hbs : ∀ b ∈ bs, b = .frm ∨ b = .comp ∨ b = .surf := by decide) :
    ∃ x s', keepsBut [.fy, .mg] (s.advance t) x ∧ keepsBut [.fy] (g x) s' ∧
      act t (framePacket op k bad body) s = .next s' ∧ keepsBut (.fy :: .mg :: bs) (s.advance t) s' ∧
      s'.fy.insert = s.fy.insert ++ [ackOf s k status fseq] ∧ s'.fy.consumed = s.fy.consumed + 1 := by
  obtain ⟨hreach, -⟩ := (pktTakes_iff s k).1 ht
  obtain ⟨x, hx⟩ : ∃ x, x = took { snooped k (s.advance t) with serving := true } := ⟨_, rfl⟩
  have hrun : framePacket op k bad body (s.advance t) = { body x with serving := false } := by
    rw [framePacket_own hty hop, hbad, consume_served (by rw [pktTakes_advance, ht]) hty, serving, hx]
  have hkx : keepsBut [.fy, .mg] (s.advance t) x := by
    have h := keeps_step (keeps_snooped k (s.advance t)) (keeps_serving _ true) (by simp)
    rw [hx]; exact keeps_step (keeps_mono h (by decide)) (keeps_fy _ _)
  have hxfy : x.fy = { s.fy with consumed := s.fy.consumed + 1 } := by simp [hx, took]
  clear hx
  rw [hb x hkx] at hrun
  have hnot : ∀ b : Blk, b ≠ .frm → b ≠ .comp → b ≠ .surf → b ∉ bs := fun b h1 h2 h3 hm => by
    obtain h | h | h := hbs b hm <;> contradiction
  have hgfy : (g x).fy = x.fy := kept_fy (hg x) (hnot _ (by decide) (by decide) (by decide))
  have hgpw : (g x).pw = s.pw :=
    ((kept_pw (hg x) (hnot _ (by decide) (by decide) (by decide))).trans (kept_pw hkx)).trans (advance_pw s t)
  have hroom : answerRoom (g x) = true := by
    have := answerRoom_of_queueFree hreach.room
    simpa only [answerRoom, prepared, hgfy, hgpw, hxfy] using this
  obtain ⟨hi, hc, ha⟩ := frameAck_fy (k := k) (status := status) (fseq := fseq) hroom
  have hown : ackOf (g x) k status fseq = ackOf s k status fseq := by simp only [ackOf, hgfy, hxfy]
  simp only [hown, hgfy, hxfy] at hi hc ha
  have hend : keepsBut [.fy] (g x) (framePacket op k bad body (s.advance t)) := by
    rw [hrun]; exact keeps_step (keeps_frameAck _ _ _ _) (keeps_serving _ _) (by simp)
  have hall : keepsBut (.fy :: .mg :: bs) (s.advance t) (framePacket op k bad body (s.advance t)) :=
    keeps_step (keeps_step (keeps_mono hkx (by simp)) (hg x) (by simp +contextual)) hend (by simp)
  obtain ⟨s', he, hk, hs, hi', hc'⟩ := act_does_addressed (P := fun s' => keepsBut [.fy] (g x) s' ∧
      s'.fy.insert = s.fy.insert ++ [ackOf s k status fseq] ∧ s'.fy.consumed = s.fy.consumed + 1) t _ hd hall
    (by rw [hrun, ha]) (fun s' hs => ⟨keeps_step hend hs (by simp), by rw [kept_fy hs, hrun, hi], by rw [kept_fy hs, hrun, hc]⟩)
    (by simp [hnot])
  exact ⟨x, s', hkx, hs, he, hk, hi', hc'⟩
end

/-! ## The commit of a descriptor (R87, R88, R210) -/

theorem keeps_setShadow (raw : Option (List Byte)) (s : State) : keepsBut [.frm] s (setShadow raw s) := keeps_frm _ _

theorem keeps_frameRefused (code seq : Nat) (s : State) : keepsBut [.frm] s (frameRefused code seq s) := keeps_frm _ _

theorem keeps_squareRefused (code item : Nat) (raw : List Byte) (s : State) :
    keepsBut [.comp] s (squareRefused code item raw s) := keeps_comp _ _

theorem keeps_takePins (l : List Nat) (s : State) : keepsBut [.surf] s (l.foldl (fun s n => takePin n s) s) := by
  induction l generalizing s with
  | nil => exact keeps_refl _ _
  | cons n l ih => exact keeps_trans (keeps_surf _ _) (ih _)

/-- Pins rest on the slots alone. -/
theorem takePins_surf_congr (l : List Nat) {s s' : State} (h : s'.surf = s.surf) :
    (l.foldl (fun s n => takePin n s) s').surf = (l.foldl (fun s n => takePin n s) s).surf := by
  induction l generalizing s s' with
  | nil => exact h
  | cons n l ih => exact ih (by simp [takePin, modSlot, h])

/-- An accepted descriptor joins the tail of the queue (R88). -/
theorem frameAccept_frm (raw : List Byte) (s : State) : (frameAccept raw s).frm =
    { s.frm with queue := s.frm.queue ++ [acceptDesc raw s], lastSeq := some (dF raw 0 4) } := by
  have h := kept_frm (keeps_takePins (descSlots raw) s)
  simp [frameAccept, modFrm, acceptDesc, h]

theorem frameAccept_surf (raw : List Byte) (s : State) :
    (frameAccept raw s).surf = ((descSlots raw).foldl (fun s n => takePin n s) s).surf := by
  simp only [frameAccept, modFrm, acceptDesc]

theorem keeps_frameAccept (raw : List Byte) (s : State) : keepsBut [.frm, .comp, .surf] s (frameAccept raw s) :=
  keeps_step (keeps_step (keeps_mono (keeps_takePins (descSlots raw) s) (by decide)) (keeps_comp _ _)) (keeps_frm _ _)

section
variable {raw : List Byte} {s : State} {c item : Nat}

theorem frameCommit_checkFails (hc : frameCheck s raw = c) (h0 : c ≠ 0) :
    frameCommit raw s = (c, frameRefused c (dF raw 0 4) s) := by
  unfold frameCommit
  rw [hc]
  split
  · contradiction
  · rfl

theorem frameCommit_squareFails (hc : frameCheck s raw = 0) (hq : squareCheck s raw = some (c, item)) :
    frameCommit raw s = (c, squareRefused c item raw (frameRefused c (dF raw 0 4) s)) := by
  simp only [frameCommit, hc, hq]

theorem frameCommit_passes (hc : frameCheck s raw = 0) (hq : squareCheck s raw = none) :
    frameCommit raw s = (0, frameAccept raw s) := by
  simp only [frameCommit, hc, hq]
end

/-! ### What the checks rest on -/

/-- The checks of Table 3.4 rest on neither packets nor CRC units. -/
theorem frameCheck_of_kept {s x : State} (h : keepsBut [.fy, .mg] s x) (raw : List Byte) :
    frameCheck x raw = frameCheck s raw := by
  have hg : x.grade = s.grade := (h .ident (by decide)).1
  unfold frameCheck slotOf iMax State.time State.objN State.obj
  rw [kept_frm h, kept_surf h, kept_diag h, kept_arr h, kept_clk h, kept_objs h, hg]

/-- The check of a descriptor does not look at the shadow. -/
theorem frameCheck_setShadow (r : Option (List Byte)) (s : State) (raw : List Byte) :
    frameCheck (setShadow r s) raw = frameCheck s raw := rfl

/-- What the Square's checks and charges rest on: surface memory, the composition block, objects, and of the schedule the
queue, the frame in force and the modes (R205, R210, R211). -/
def squareView (s : State) : Surf × Comp × Nat × List (Nat × List Byte) × List Desc × Option Desc × Mode × Option Mode :=
  (s.surf, s.comp, s.grade, s.objs, s.frm.queue, s.frm.cur, s.frm.mode, s.frm.pend)

theorem squareView_kept {s x : State} {t : Nat} (h : keepsBut [.fy, .mg] (s.advance t) x) : squareView x = squareView s := by
  have hg : x.grade = s.grade := (h .ident (by decide)).1.trans (advance_grade s t)
  simp only [squareView, kept_surf h, kept_comp h, kept_objs h, kept_frm h, hg, advance_surf, advance_comp, advance_objs,
    advance_frm]

theorem squareView_setShadow (r : Option (List Byte)) (s : State) : squareView (setShadow r s) = squareView s := rfl

section
variable {s x : State} (h : squareView x = squareView s) (raw : List Byte)
include h

theorem acceptDesc_congr : acceptDesc raw x = acceptDesc raw s ∧ chargeSum x raw = chargeSum s raw := by
  simp only [squareView, Prod.mk.injEq] at h
  obtain ⟨hs, hc, hg, ho, hq, hu, hm, hp⟩ := h
  have hslot : slotOf x = slotOf s := by funext n; simp only [slotOf, hs]
  have hpred : predDesc x = predDesc s := by simp only [predDesc, hq, hu]
  have hlen : runLength x raw = runLength s raw := by simp only [runLength, hslot]
  have hrun : runOf x raw = runOf s raw := by simp only [runOf, hlen, hslot]
  have hfits : runFits x = runFits s := by funext r; unfold runFits State.objN State.obj; rw [hg, ho]
  have hcont : continuing x raw = continuing s raw := by unfold continuing; rw [hrun, hpred, hfits]
  have hch : chargeList x raw = chargeList s raw := by simp only [chargeList, recCharge, recWeight, hslot, hpred]
  exact ⟨by simp only [acceptDesc, hlen, hrun, hcont, hch], by simp only [chargeSum, hlen, hrun, hcont, hch, hc]⟩

theorem squareCheck_congr : squareCheck x raw = squareCheck s raw := by
  obtain ⟨-, hsum⟩ := acceptDesc_congr h raw
  simp only [squareView, Prod.mk.injEq] at h
  obtain ⟨hs, hc, hg, ho, hq, hu, hm, hp⟩ := h
  have hfail : recFails x = recFails s := by funext i b c; unfold recFails slotOf; rw [hs]
  have hrate : chargeRate x = chargeRate s := by simp only [chargeRate, hm, hp]
  unfold squareCheck; rw [hfail, hsum, hrate]
end

/-! ## Commits that are refused and accepted -/

theorem setShadow_self {s : State} {raw : List Byte} (h : s.frm.shadowDesc = some raw) : setShadow (some raw) s = s := by
  unfold setShadow modFrm
  rw [← h]

/-- A COMMIT of the shadow descriptor is the commit of a descriptor placed there. -/
theorem commitBody_some {s : State} {k : Packet} {raw : List Byte} (h : s.frm.shadowDesc = some raw) :
    commitBody k s = commitRaw k raw s := by
  simp only [commitBody, commitRaw, h, setShadow_self h]

theorem commitBody_none {s : State} {k : Packet} (h : s.frm.shadowDesc = none) :
    commitBody k s = frameAck (kSeq k) 0x0C 0 (frameRefused 0x0C 0 s) := by
  simp only [commitBody, h]

theorem discardBody_of_frm {s x : State} {k : Packet} (h : x.frm = s.frm) :
    discardBody k x = frameAck (kSeq k) 0 (shadowSeq s) (setShadow none x) := by
  simp only [discardBody, shadowSeq, h]

/-- The block of frames before a command is that at its instant in every later state that keeps it. -/
theorem frm_of_kept {s x : State} {t : Nat} (h : keepsBut [.fy, .mg] (s.advance t) x) : x.frm = s.frm :=
  (kept_frm h).trans (advance_frm s t)

section
variable {op t : Nat} {k : Packet} {bad : Bool} {body : State → State} {s : State} {raw : List Byte} {c item : Nat}
  (hd : s.pw.dev ≠ .off) (ht : pktTakes s k = true) (hty : kTy k = 3) (hop : kF k 0 1 = op) (hbad : bad = false)
  (hb : ∀ x, keepsBut [.fy, .mg] (s.advance t) x → body x = commitRaw k raw x)
include hd ht hty hop hbad hb

/-- A commit that fails a check of Table 3.4 (R87, R88). -/
theorem framePacket_commitRefused (hc : frameCheck (s.advance t) raw = c) (h0 : c ≠ 0) :
    ∃ s', act t (framePacket op k bad body) s = .next s' ∧ keepsBut [.fy, .mg, .frm] (s.advance t) s' ∧
      s'.frm = { s.frm with
        shadowDesc := some raw, rejectReason := c, rejectSeq := dF raw 0 4, refused := s.frm.refused + 1 } ∧
      s'.fy.insert = s.fy.insert ++ [ackOf s k c (dF raw 0 4)] ∧ s'.fy.consumed = s.fy.consumed + 1 := by
  have hrun : ∀ x, keepsBut [.fy, .mg] (s.advance t) x →
      body x = frameAck (kSeq k) c (dF raw 0 4) (frameRefused c (dF raw 0 4) (setShadow (some raw) x)) := fun x hx => by
    have hcx : frameCheck (setShadow (some raw) x) raw = c := by rw [frameCheck_setShadow, frameCheck_of_kept hx, hc]
    rw [hb x hx, commitRaw, frameCommit_checkFails hcx h0]
  obtain ⟨x, s', hx, hs, he, hk, hi, hn⟩ := framePacket_acked (bs := [.frm]) hd ht hty hop hbad hrun
    fun x => keeps_trans (keeps_setShadow _ _) (keeps_frameRefused _ _ _)
  refine ⟨s', he, hk, ?_, hi, hn⟩
  rw [kept_frm hs, ← frm_of_kept hx]
  rfl

/-- A commit that fails a check of the Square (R88, R210). -/
theorem framePacket_squareRefused (hc : frameCheck (s.advance t) raw = 0) (hq : squareCheck s raw = some (c, item)) :
    ∃ s', act t (framePacket op k bad body) s = .next s' ∧ keepsBut [.fy, .mg, .frm, .comp] (s.advance t) s' ∧
      s'.frm = { s.frm with
        shadowDesc := some raw, rejectReason := c, rejectSeq := dF raw 0 4, refused := s.frm.refused + 1 } ∧
      s'.comp.rejectLayer = item ∧
      s'.fy.insert = s.fy.insert ++ [ackOf s k c (dF raw 0 4)] ∧ s'.fy.consumed = s.fy.consumed + 1 := by
  have hrun : ∀ x, keepsBut [.fy, .mg] (s.advance t) x → body x = frameAck (kSeq k) c (dF raw 0 4)
      (squareRefused c item raw (frameRefused c (dF raw 0 4) (setShadow (some raw) x))) := fun x hx => by
    have hcx : frameCheck (setShadow (some raw) x) raw = 0 := by rw [frameCheck_setShadow, frameCheck_of_kept hx, hc]
    have hqx : squareCheck (setShadow (some raw) x) raw = some (c, item) := by
      rw [squareCheck_congr ((squareView_setShadow _ x).trans (squareView_kept hx)), hq]
    rw [hb x hx, commitRaw, frameCommit_squareFails hcx hqx]
  obtain ⟨x, s', hx, hs, he, hk, hi, hn⟩ := framePacket_acked (bs := [.frm, .comp]) hd ht hty hop hbad hrun fun x =>
    keeps_step (keeps_mono (keeps_trans (keeps_setShadow _ _) (keeps_frameRefused _ _ _)) (by decide))
      (keeps_squareRefused _ _ _ _)
  refine ⟨s', he, hk, ?_, ?_, hi, hn⟩
  · rw [kept_frm hs, ← frm_of_kept hx]
    rfl
  · rw [kept_comp hs]
    rfl

/-- A commit that passes joins the tail of the queue with its pins (R88, R180). -/
theorem framePacket_accepted (hc : frameCheck (s.advance t) raw = 0) (hq : squareCheck s raw = none) :
    ∃ s', act t (framePacket op k bad body) s = .next s' ∧ keepsBut [.fy, .mg, .frm, .comp, .surf] (s.advance t) s' ∧
      s'.frm = { s.frm with
        shadowDesc := some raw, queue := s.frm.queue ++ [acceptDesc raw s], lastSeq := some (dF raw 0 4) } ∧
      s'.surf = ((descSlots raw).foldl (fun s n => takePin n s) s).surf ∧
      s'.fy.insert = s.fy.insert ++ [ackOf s k 0 (dF raw 0 4)] ∧ s'.fy.consumed = s.fy.consumed + 1 := by
  have hrun : ∀ x, keepsBut [.fy, .mg] (s.advance t) x →
      body x = frameAck (kSeq k) 0 (dF raw 0 4) (frameAccept raw (setShadow (some raw) x)) := fun x hx => by
    have hcx : frameCheck (setShadow (some raw) x) raw = 0 := by rw [frameCheck_setShadow, frameCheck_of_kept hx, hc]
    have hqx : squareCheck (setShadow (some raw) x) raw = none := by
      rw [squareCheck_congr ((squareView_setShadow _ x).trans (squareView_kept hx)), hq]
    rw [hb x hx, commitRaw, frameCommit_passes hcx hqx]
  obtain ⟨x, s', hx, hs, he, hk, hi, hn⟩ := framePacket_acked (bs := [.frm, .comp, .surf]) hd ht hty hop hbad hrun fun x =>
    keeps_trans (keeps_mono (keeps_setShadow _ _) (by decide)) (keeps_frameAccept _ _)
  have hview : squareView (setShadow (some raw) x) = squareView s := (squareView_setShadow _ x).trans (squareView_kept hx)
  refine ⟨s', he, hk, ?_, ?_, hi, hn⟩
  · rw [kept_frm hs, frameAccept_frm, (acceptDesc_congr hview raw).1, ← frm_of_kept hx]
    rfl
  · rw [kept_surf hs, frameAccept_surf]
    exact takePins_surf_congr _ ((kept_surf hx).trans (advance_surf s t))
end

section
variable {t : Nat} {k : Packet} {s : State} (hd : s.pw.dev ≠ .off) (ht : pktTakes s k = true) (hty : kTy k = 3)

section
include hd ht hty

/-- WRITE places a descriptor in the shadow (R86). -/
theorem frameWrite_placed (hop : kF k 0 1 = 1) (hw : writeBad k = false) :
    ∃ s', act t (framePacket 1 k (writeBad k) (writeBody k)) s = .next s' ∧
      keepsBut [.fy, .mg, .frm] (s.advance t) s' ∧ s'.frm = { s.frm with shadowDesc := some (writeDesc k) } ∧
      s'.fy.insert = s.fy.insert ++ [ackOf s k 0 (dF (writeDesc k) 0 4)] ∧ s'.fy.consumed = s.fy.consumed + 1 := by
  obtain ⟨x, s', hx, hs, he, hk, hi, hn⟩ := framePacket_acked (bs := [.frm]) hd ht hty hop hw (fun _ _ => rfl)
    fun x => keeps_setShadow _ _
  refine ⟨s', he, hk, ?_, hi, hn⟩
  rw [kept_frm hs, ← frm_of_kept hx]
  rfl

/-- COMMIT without a shadow descriptor is refused (R88; logs 109 and 161). -/
theorem frameCommit_noShadow (hop : kF k 0 1 = 2) (hz : kZero k 1 k.payload.length = true) (hs : s.frm.shadowDesc = none) :
    ∃ s', act t (framePacket 2 k (!kZero k 1 k.payload.length) (commitBody k)) s = .next s' ∧
      keepsBut [.fy, .mg, .frm] (s.advance t) s' ∧
      s'.frm = { s.frm with rejectReason := 0x0C, rejectSeq := 0, refused := s.frm.refused + 1 } ∧
      s'.fy.insert = s.fy.insert ++ [ackOf s k 0x0C 0] ∧ s'.fy.consumed = s.fy.consumed + 1 := by
  obtain ⟨x, s', hx, hs, he, hk, hi, hn⟩ := framePacket_acked (bs := [.frm]) hd ht hty hop (congrArg (!·) hz)
    (fun x hx => commitBody_none (by rw [frm_of_kept hx, hs])) fun x => keeps_frameRefused _ _ _
  refine ⟨s', he, hk, ?_, hi, hn⟩
  rw [kept_frm hs, ← frm_of_kept hx]
  rfl

/-- DISCARD empties the shadow (R86, R148; log 161). -/
theorem frameDiscard_emptied (hop : kF k 0 1 = 4) (hz : kZero k 1 k.payload.length = true) :
    ∃ s', act t (framePacket 4 k (!kZero k 1 k.payload.length) (discardBody k)) s = .next s' ∧
      keepsBut [.fy, .mg, .frm] (s.advance t) s' ∧ s'.frm = { s.frm with shadowDesc := none } ∧
      s'.fy.insert = s.fy.insert ++ [ackOf s k 0 (shadowSeq s)] ∧ s'.fy.consumed = s.fy.consumed + 1 := by
  obtain ⟨x, s', hx, hs, he, hk, hi, hn⟩ := framePacket_acked (bs := [.frm]) hd ht hty hop (congrArg (!·) hz)
    (fun x hx => discardBody_of_frm (frm_of_kept hx)) fun x => keeps_setShadow none _
  refine ⟨s', he, hk, ?_, hi, hn⟩
  rw [kept_frm hs, ← frm_of_kept hx]
  rfl
end

/-- With a shadow descriptor a COMMIT commits it in every state that keeps the block of frames. -/
theorem commitBody_of_kept {raw : List Byte} (hs : s.frm.shadowDesc = some raw) (x : State)
    (hx : keepsBut [.fy, .mg] (s.advance t) x) : commitBody k x = commitRaw k raw x :=
  commitBody_some (by rw [frm_of_kept hx, hs])
end

/-- Settles O39: each FRAME packet is a case of what a consumed packet does, and of what the commit of its descriptor leaves
where the packet and the CRC units are counted already. -/
theorem framePacketsAct : Obligations.FramePacketsAct := by
  unfold Obligations.FramePacketsAct
  simp only [exec_frameWrite, exec_frameCommit, exec_frameWriteCommit, exec_frameDiscard]
  refine ⟨fun t k s hd ht hty hop hw => frameWrite_placed hd ht hty hop hw,
    fun t k s hd ht hty hop hw h3 => framePacket_nacked hd ht hty hop hw h3,
    fun t k s hd h => framePacket_elsewhere hd h,
    fun t k s hd ht hty hop hz hs => frameCommit_noShadow hd ht hty hop hz hs,
    fun t c k raw s hd ht hty hop hz hs hc h0 => ?_, fun t c item k raw s hd ht hty hop hz hs hc hq => ?_,
    fun t k raw s hd ht hty hop hz hs hc hq => ?_,
    fun t k p s hd hh hc he hq hty hop hp hr hn hf hne => framePacket_repeat hd ⟨hh, hc, he, hq⟩ hty hop hp hr hn hf hne,
    fun t k s hd ht hty hop hz h3 => framePacket_nacked hd ht hty hop (congrArg (!·) hz) h3,
    fun t k s hd h => framePacket_elsewhere hd h,
    fun t c item k s hd ht hty hop hw hc hq => framePacket_squareRefused hd ht hty hop hw (fun _ _ => rfl) hc hq,
    fun t c k s hd ht hty hop hw hc h0 => framePacket_commitRefused hd ht hty hop hw (fun _ _ => rfl) hc h0,
    fun t k s hd ht hty hop hw hc hq => ?_, fun t k s hd ht hty hop hw h3 => framePacket_nacked hd ht hty hop hw h3,
    fun t k s hd h => framePacket_elsewhere hd h,
    fun t k s hd hh hc he hq hty hp hop h3 => framePacket_failed hd ⟨hh, hc, he, hq⟩ hty hp hop h3,
    fun t k s hd ht hty hop hz => frameDiscard_emptied hd ht hty hop hz,
    fun t k s hd ht hty hop hz h3 => framePacket_nacked hd ht hty hop (congrArg (!·) hz) h3,
    fun t k s hd h => framePacket_elsewhere hd h⟩
  · obtain ⟨s', he, hk, hf, hrest⟩ := framePacket_commitRefused hd ht hty hop (congrArg (!·) hz)
      (commitBody_of_kept hs) hc h0
    exact ⟨s', he, hk, by rw [hf, ← hs], hrest⟩
  · obtain ⟨s', he, hk, hf, hrest⟩ := framePacket_squareRefused hd ht hty hop (congrArg (!·) hz)
      (commitBody_of_kept hs) hc hq
    exact ⟨s', he, hk, by rw [hf, ← hs], hrest⟩
  · obtain ⟨s', he, hk, hf, hrest⟩ := framePacket_accepted hd ht hty hop (congrArg (!·) hz)
      (commitBody_of_kept hs) hc hq
    exact ⟨s', he, hk, by rw [hf, ← hs], hrest⟩
  · obtain ⟨s', he, hk, hf, -, hrest⟩ := framePacket_accepted hd ht hty hop hw (fun _ _ => rfl) hc hq
    exact ⟨s', he, hk, hf, hrest⟩

end Sys2Proof
end

section
/-!
PROOFS. What the Ferry lanes rest on: the receiver and its slots as time passes, and what a command that ends on the lanes
leaves.
-/

namespace Sys2Proof

set_option Elab.async false

open Sys2Proof.Machine

/-! ## What the lanes rest on -/

@[simp] theorem rxOn_advance (s : State) (t : Nat) : rxOn (s.advance t) = rxOn s := by simp [rxOn]
@[simp] theorem rxLanes_advance (s : State) (t : Nat) : rxLanes (s.advance t) = rxLanes s := by simp [rxLanes]
@[simp] theorem receives_advance (s : State) (t : Nat) : receives (s.advance t) = receives s := by simp [receives]
@[simp] theorem mayRetrain_advance (s : State) (t : Nat) : mayRetrain (s.advance t) = mayRetrain s := by simp [mayRetrain]

@[simp] theorem slotLanes_advance (blks : List (List Byte)) (s : State) (t : Nat) :
    slotLanes blks (s.advance t) = slotLanes blks s := by simp [slotLanes]

@[simp] theorem readSlots_advance (blks : List (List Byte)) (n : Nat) (s : State) (t : Nat) :
    readSlots blks n (s.advance t) = readSlots blks n s := by simp [readSlots]

@[simp] theorem slotBlk_advance (blks : List (List Byte)) (s : State) (t : Nat) :
    slotBlk blks (s.advance t) = slotBlk blks s := by simp [slotBlk]

@[simp] theorem plainOk_advance (ty : Nat) (blks : List (List Byte)) (s : State) (t : Nat) :
    plainOk ty blks (s.advance t) = plainOk ty blks s := by simp [plainOk]

/-- Step 2 waits for the locks, of the lane block. -/
theorem step2Cause_congr {s s' : State} (h : s'.lane.lock = s.lane.lock) (lanes : Nat) (blks : List (List Byte))
    (skew : List Nat) : step2Cause s' lanes blks skew = step2Cause s lanes blks skew := by simp only [step2Cause, h]

/-! ## Commands that end on the lanes -/

section
variable {o : Host.Outcome State Fault Refusal} {t : Nat} {f : State → State} {s : State} (ho : o = act t f s)
  (hd : s.pw.dev ≠ .off)
include ho hd

/-- A command without an effect. -/
theorem act_idle (hf : f (s.advance t) = s.advance t) :
    ∃ s', o = .next s' ∧ keepsBut [] (s.advance t) s' ∧ s'.lane = s.lane := by
  subst ho
  refine act_does t f hd (by rw [hf]; exact keeps_refl _ _) fun s' hk => ?_
  rw [kept_lane hk, hf, advance_lane]

/-- A command whose effect leads to a state `y`, from which the end of the command differs in the dictionary server at most. -/
theorem act_leads {bs : List Blk} {y : State} (hf : f (s.advance t) = y) (hk : keepsBut bs (s.advance t) y)
    (hn : Blk.dict ∈ bs := by decide) :
    ∃ s', o = .next s' ∧ keepsBut bs (s.advance t) s' ∧ keepsBut [.dict] y s' := by
  subst ho hf
  exact act_does_dict t f hd hk (fun _ h => h) hn

/-- A command that changes the lane block alone. -/
theorem act_lane {l : Lane} (hf : f (s.advance t) = { s.advance t with lane := l }) :
    ∃ s', o = .next s' ∧ keepsBut [.lane] (s.advance t) s' ∧ s'.lane = l := by
  subst ho
  refine act_does t f hd (by rw [hf]; exact keeps_lane _ _) fun s' hk => ?_
  rw [kept_lane hk, hf]

/-- A command whose effect leads to a state `y` without a change of objects, CAN or packets: its next state agrees with `y`. -/
theorem act_reaches {bs : List Blk} {y : State} (hf : f (s.advance t) = y) (hk : keepsBut bs (s.advance t) y)
    (hn : Blk.objs ∉ bs ∧ Blk.ident ∉ bs ∧ Blk.can ∉ bs ∧ Blk.fy ∉ bs := by decide) :
    ∃ s', o = .next s' ∧ keepsBut bs (s.advance t) s' ∧ keepsBut [] y s' := by
  subst ho hf
  exact act_does t f hd hk (fun _ h => h) hn

/-- The same where packets change, but not the address. -/
theorem act_reaches_addressed {bs : List Blk} {y : State} (hf : f (s.advance t) = y) (hk : keepsBut bs (s.advance t) y)
    (ha : y.fy.address = s.fy.address) (hn : Blk.objs ∉ bs ∧ Blk.ident ∉ bs ∧ Blk.can ∉ bs := by decide) :
    ∃ s', o = .next s' ∧ keepsBut bs (s.advance t) s' ∧ keepsBut [] y s' := by
  subst ho hf
  exact act_does_addressed t f hd hk ha (fun _ h => h) hn

end

theorem kept_out {bs : List Blk} {s s' : State} (h : keepsBut bs s s') (hn : Blk.out ∉ bs := by decide) : s'.out = s.out :=
  h .out hn

/-! ## Slots that arrive -/

/-- What control slots leave: counters on the lane block, and what the receive lanes have heard. -/
theorem takeSlots_eq (slow : Bool) (blks : List (List Byte)) (n : Nat) (s : State) :
    ∃ b c p, takeSlots slow blks n s = { s with lane := { s.lane with badHeaders := b, ctlErrors := c }, phy := p } := by
  have hcount : ∀ (is : List Nat) (x : State) (b c : List Cnt), 
      x = { s with lane := { s.lane with badHeaders := b, ctlErrors := c } } → ∃ b c, is.foldl (fun s i =>
        if (nth blks i []).isEmpty then headError i s
        else if (nth s.phy.rx i {}).fresh || ctlGood (nth blks i []) then s else ctlError i s) x =
      { s with lane := { s.lane with badHeaders := b, ctlErrors := c } } := by
    intro is
    induction is with
    | nil => exact fun x b c hx => ⟨b, c, hx⟩
    | cons i is ih =>
      intro x b c hx
      rw [List.foldl_cons]
      split
      · exact ih _ (modNth b i (· + 1)) c (by rw [hx]; rfl)
      · split
        · exact ih _ b c hx
        · exact ih _ b (modNth c i (· + 1)) (by rw [hx]; rfl)
  unfold takeSlots
  split
  · obtain ⟨b, c, h⟩ := hcount (upTo (slotLanes blks s)) s s.lane.badHeaders s.lane.ctlErrors rfl
    refine ⟨b, c, (hearSlots slow blks n (ctlCount blks s)).phy, ?_⟩
    unfold hearSlots
    rw [show ctlCount blks s = _ from h]
  · exact ⟨s.lane.badHeaders, s.lane.ctlErrors, s.phy, rfl⟩

/-- A receiver that takes no blocks. -/
theorem takeSlots_deaf {slow : Bool} {blks : List (List Byte)} {n : Nat} {s : State} (h : receives s = false) :
    takeSlots slow blks n s = s := by simp [takeSlots, h]

/-- The state once the slots of a command are taken: the lane block but for the counters of its blocks, and what other parts
hold, are those before the command. -/
theorem takeSlots_at (slow : Bool) (blks : List (List Byte)) (n t : Nat) (s : State) :
    ∃ x, takeSlots slow blks n (s.advance t) = x ∧ keepsBut [.lane, .phy] (s.advance t) x ∧
    ∃ b c, x.lane = { s.lane with badHeaders := b, ctlErrors := c } := by
  obtain ⟨b, c, p, hx⟩ := takeSlots_eq slow blks n (s.advance t)
  exact ⟨_, rfl, keeps_takeSlots _ _ _ _, b, c, by rw [hx, advance_lane]⟩

section
variable {s x : State} {t : Nat} (h : keepsBut [.lane, .phy] (s.advance t) x)
include h

/-- Ferry receive is on by its domain, whatever happens on the lanes. -/
theorem rxOn_of_kept : rxOn x = rxOn s := by rw [rxOn, kept_pw h, advance_pw, rxOn]

/-- A training is refused by the objects alone. -/
theorem trainRefusal_of_kept (lanes rate : Nat) : trainRefusal x lanes rate = trainRefusal s lanes rate := by
  have hobj : ∀ i k, x.objN i k = s.objN i k := fun i k => by
    rw [State.objN, kept_obj h, ← State.objN, advance_objN]
  rw [trainRefusal, hobj, hobj, trainRefusal]

end

end Sys2Proof
end

section
/-!
PROOFS. A training that fails (TrainingFails): the bounds of its steps, the idle time, the time without signal.
-/

namespace Sys2Proof

set_option Elab.async false

open Sys2Proof.Machine

/-! ## Failures of a training (R122, R124) -/

theorem trainFail_lane (code : Nat) (s : State) : (trainFail code s).lane = { s.lane with
    st := .down, failReason := code, trainFailures := s.lane.trainFailures + 1, idleFrom := some s.now, step := 0
    txOn := 0, txMode := .idle, rxReady := false, ts1Run := 0, ts2Run := 0, ts4Run := 0, retrainFails := 0
    tsPar := none, lock := [false, false, false, false] } :=
  kept_lane (keeps_raiseSrc _ _ _)

/-- A command that ends in a failure of the training: its code, its count, the idle time begun, source 0x11 latched (R122). -/
theorem act_trainFail {o : Host.Outcome State Fault Refusal} {t code : Nat} {f : State → State} {s : State}
    (ho : o = act t f s) (hd : s.pw.dev ≠ .off) (hf : f (s.advance t) = trainFail code (s.advance t)) : ∃ s', o = .next s' ∧
    keepsBut (.lane :: raiseBlks) (s.advance t) s' ∧ s'.lane.st = .down ∧ s'.lane.failReason = code ∧
    s'.lane.trainFailures = s.lane.trainFailures + 1 ∧ s'.lane.idleFrom = some (s.advance t).now ∧
    bmGet s'.saf.latched 0x11 = true := by
  subst ho
  refine act_does_dict t f hd (by rw [hf]; exact keeps_trainFail _ _) fun s' hk => ?_
  rw [kept_lane hk, kept_saf hk, hf, trainFail_lane, advance_lane]
  exact ⟨rfl, rfl, rfl, rfl, latched_raiseSrc _ _ _ (by decide) (by decide)⟩

/-- The receiver in DETECT has lost its address and what the packet layer held of a hunt (R124, R143). -/
theorem toDetect_fy (s : State) : (toDetect s).fy = { s.fy with
    address := 63, overflow := false, hunt := false, cands := [], idle := none, head := none } := rfl

theorem toDetect_st (s : State) : (toDetect s).lane.st = .detect := rfl
theorem toDetect_idleFrom (s : State) : (toDetect s).lane.idleFrom = none := rfl

/-! ## The ends of the bounds (R119 to R125) -/

theorem exec_trainingTimeout (t : Nat) (s : State) : exec (.trainingTimeout t) s = execTrainingTimeout t s := rfl
theorem exec_fastRetrainFailed (t : Nat) (s : State) : exec (.fastRetrainFailed t) s = execFastRetrainFailed t s := rfl
theorem exec_electricalIdleEnd (t : Nat) (s : State) : exec (.electricalIdleEnd t) s = execElectricalIdleEnd t s := rfl
theorem exec_noSignalTimeout (t : Nat) (s : State) : exec (.noSignalTimeout t) s = execNoSignalTimeout t s := rfl

section
variable {t : Nat} {s : State} (hd : s.pw.dev ≠ .off)
include hd

/-- The bound of a step is over: the failure has the reason of the step (R119, R122). -/
theorem trainingTimeout_over {code : Nat}
    (ho : spanOver (s.advance t) s.lane.stepAt (stepBound s.lane.step * 1000000000) = true)
    (hc : (s.lane.st = .slow ∧ s.lane.step = 1 ∧ code = 1) ∨ (s.lane.st = .slow ∧ s.lane.step = 2 ∧ code = s.lane.cause2) ∨
      (s.lane.st = .slow ∧ s.lane.step = 4 ∧ code = 7) ∨ (s.lane.st = .atRate ∧ s.lane.step = 6 ∧ code = 8) ∨
      (s.lane.st = .atRate ∧ s.lane.step = 7 ∧ code = 9)) : ∃ s', execTrainingTimeout t s = .next s' ∧
    keepsBut (.lane :: raiseBlks) (s.advance t) s' ∧ s'.lane.st = .down ∧ s'.lane.failReason = code ∧
    s'.lane.trainFailures = s.lane.trainFailures + 1 ∧ s'.lane.idleFrom = some (s.advance t).now ∧
    bmGet s'.saf.latched 0x11 = true := by
  refine act_trainFail rfl hd ?_
  simp only [advance_lane, ho, Bool.not_true, Bool.false_eq_true, if_false]
  obtain ⟨hs, hk, rfl⟩ | ⟨hs, hk, rfl⟩ | ⟨hs, hk, rfl⟩ | ⟨hs, hk, rfl⟩ | ⟨hs, hk, rfl⟩ := hc <;> simp only [hs, hk]

/-- The third fast retrain in a row that is not complete in 1 ms is a failure of the training (R125). -/
theorem fastRetrainFailed_third (hst : s.lane.st = .retrain) (ho : spanOver (s.advance t) s.lane.stepAt 1000000000 = true)
    (h2 : s.lane.retrainFails = 2) : ∃ s', execFastRetrainFailed t s = .next s' ∧
    keepsBut (.lane :: raiseBlks) (s.advance t) s' ∧ s'.lane.st = .down ∧ s'.lane.failReason = 0x0A ∧
    bmGet s'.saf.latched 0x11 = true := by
  obtain ⟨s', he, hk, hdown, hcode, -, -, hlatch⟩ :=
    act_trainFail (o := execFastRetrainFailed t s) (code := 0x0A) rfl hd (by simp [hst, ho, h2])
  exact ⟨s', he, hk, hdown, hcode, hlatch⟩

/-- The 2 ms of idle are over: the receiver is in DETECT without an address (R122, R124, R143). -/
theorem electricalIdleEnd_over (ho : s.lane.idleFrom.any (fun a => spanOver (s.advance t) a 2000000000) = true) :
    ∃ s', execElectricalIdleEnd t s = .next s' ∧ keepsBut (.lane :: raiseBlks) (s.advance t) s' ∧
    s'.lane.st = .detect ∧ s'.lane.idleFrom = none ∧ s'.fy.address = 63 ∧ s'.fy.overflow = false ∧ s'.fy.hunt = false := by
  refine act_does_dict t _ hd ?_ fun s' hk => ?_
  · simp [ho, keeps_toDetect]
  · rw [kept_lane hk, kept_fy hk]
    simp [ho, toDetect_fy, toDetect_st, toDetect_idleFrom]

/-- 1 ms without signal, outside DETECT, FL2 and the 2 ms of idle, ends in DETECT without an address (R124, R143). -/
theorem noSignalTimeout_over (hr : rxOn s = true) (hi : s.lane.idleFrom = none) (hs : s.lane.st ≠ .detect)
    (h2 : s.lane.st ≠ .fl2) : ∃ s', execNoSignalTimeout t s = .next s' ∧ keepsBut linkBlks (s.advance t) s' ∧
    s'.lane.st = .detect ∧ s'.fy.address = 63 := by
  refine act_does_dict t _ hd ?_ fun s' hk => ?_
  · have hall := keeps_step (keeps_linkDown (s.advance t)) (keeps_toDetect _)
    simpa [hr, hi, hs, h2] using hall
  · rw [kept_lane hk, kept_fy hk]
    simp [hr, hi, hs, h2, toDetect_fy, toDetect_st]

/-- Elsewhere the end of that time changes nothing (R124). -/
theorem noSignalTimeout_idle
    (h : rxOn s = false ∨ s.lane.idleFrom.isSome = true ∨ s.lane.st = .detect ∨ s.lane.st = .fl2) :
    ∃ s', execNoSignalTimeout t s = .next s' ∧ keepsBut [] (s.advance t) s' ∧ s'.lane = s.lane ∧
    s'.fy.address = s.fy.address := by
  obtain ⟨s', he, hk, hl⟩ := act_idle (o := execNoSignalTimeout t s) rfl hd (by
    obtain h | h | h | h := h <;> simp [h, Option.isSome_iff_ne_none.1])
  exact ⟨s', he, hk, hl, by rw [kept_fy hk, advance_fy]⟩

end

/-- Settles O2: a bound that is over is a failure with its reason, 2 ms of idle or 1 ms without signal end in DETECT, and
before that nothing changes. -/
theorem trainingFails : Obligations.TrainingFails := by
  unfold Obligations.TrainingFails
  simp only [exec_trainingTimeout, exec_fastRetrainFailed, exec_electricalIdleEnd, exec_noSignalTimeout]
  exact ⟨fun t code s hd ho hc => trainingTimeout_over hd ho hc, fun t s hd ho => act_idle rfl hd (by simp [ho]),
    fun t s hd hst ho h2 => fastRetrainFailed_third hd hst ho h2,
    fun t s hd hst ho h2 => act_lane rfl hd (by simp [hst, ho, h2, modLane]),
    fun t s hd ho => electricalIdleEnd_over hd ho, fun t s hd ho => act_idle rfl hd (by simp [ho]),
    fun t s hd hr hi hs h2 => noSignalTimeout_over hd hr hi hs h2, fun t s hd h => noSignalTimeout_idle hd h⟩

end Sys2Proof
end

section
/-!
PROOFS. The link comes and goes (LinkComesAndGoes): FL0, its loss, FL1 and the fast retrain.
-/

namespace Sys2Proof

set_option Elab.async false

open Sys2Proof.Machine

/-! ## What the loss of TB0 leaves of a Ferry transfer

Events change the dictionary server, but never the transfer under way on the Ferry path. -/

/-- The transfer under way on the Ferry path (R490). -/
def ferryXfer (s : State) : Option Xfer := s.dict.xferFerry

theorem ferryXfer_of_framed {bs : List Blk} {s s' : State} (h : keepsBut bs s s') (hn : Blk.dict ∉ bs := by decide) :
    ferryXfer s' = ferryXfer s := by rw [ferryXfer, kept_dict h hn, ferryXfer]

theorem ferryXfer_ite {c : Prop} [Decidable c] {a b s : State} (h : ferryXfer a = ferryXfer s)
    (h' : ferryXfer b = ferryXfer s) : ferryXfer (if c then a else b) = ferryXfer s := by split <;> assumption

theorem ferryXfer_foldl {f : State → Nat → State} (hf : ∀ s n, ferryXfer (f s n) = ferryXfer s) (l : List Nat) (s : State) :
    ferryXfer (l.foldl f s) = ferryXfer s := by
  induction l generalizing s with
  | nil => rfl
  | cons a l ih => exact (ih _).trans (hf _ _)

theorem ferryXfer_setEvPath (p : Path) (e : EvPath) (s : State) : ferryXfer (setEvPath p e s) = ferryXfer s := by
  cases p <;> rfl

theorem ferryXfer_sendEvent (p : Path) (a : EvAcc) (s : State) : ferryXfer (sendEvent p a s) = ferryXfer s := by
  unfold sendEvent
  split
  · cases p
    · exact (ferryXfer_of_framed (keeps_canSend _ _ _ _)).trans rfl
    · exact (ferryXfer_of_framed (keeps_ownPacket _ _ _ _ _)).trans rfl
  · exact ferryXfer_setEvPath _ _ _

theorem ferryXfer_eventOn (p : Path) (a : EvAcc) (s : State) : ferryXfer (eventOn p a s) = ferryXfer s := by
  unfold eventOn; extract_lets w e b rest
  exact ferryXfer_ite (ferryXfer_sendEvent _ _ _) (ferryXfer_ite
    ((ferryXfer_sendEvent _ _ _).trans (ferryXfer_setEvPath _ _ _)) (ferryXfer_setEvPath _ _ _))

theorem ferryXfer_event (c k : Nat) (x : List Byte) (s : State) : ferryXfer (event c k x s) = ferryXfer s := by
  unfold event; extract_lets n a d s1 s2
  have h2 : ferryXfer s2 = ferryXfer s := ferryXfer_ite (ferryXfer_eventOn _ _ _) rfl
  exact ferryXfer_ite ((ferryXfer_eventOn _ _ _).trans h2) h2

/-- A move to a lower safety state, where there is one, leaves the dictionary server alone. -/
theorem dict_lowerTo {tgt : Nat} {s s' : State} (h : lowerTo tgt s = some s') : s'.dict = s.dict := by
  unfold lowerTo at h
  split at h
  · split at h
    · cases h
    · cases h
      exact (kept_dict (keeps_limpEntry _ _)).trans ((kept_dict (keeps_closeDisc _)).trans (kept_dict (keeps_setSafety _ _)))
  · cases h
    split
    · exact (kept_dict (keeps_setHold _ _)).trans (kept_dict (keeps_setSafety _ _))
    · exact kept_dict (keeps_setSafety _ _)

theorem dict_enterUp (c i : Nat) (s : State) : (enterUp c i s).dict = s.dict := by
  unfold enterUp; extract_lets pick lost x s1 z s2
  have h2 : s2.dict = s.dict := rfl
  have h3 : (abandonLoad s2).dict = s.dict := (kept_dict (keeps_abandonLoad _)).trans h2
  clear_value s2 x
  split
  · rfl
  · split
    · exact (kept_dict (keeps_limpEntry _ _)).trans h3
    · exact (kept_dict (keeps_holdEntry _)).trans h3
    · exact (kept_dict (keeps_darkEntry _)).trans h3
    · exact h2

theorem dict_turnReturn (tgt : Nat) (s : State) : (turnReturn tgt s).dict = s.dict := by
  unfold turnReturn; extract_lets z s1
  have h1 : s1.dict = s.dict := rfl
  clear_value s1
  split
  · exact h1
  · cases h : lowerTo tgt s1 with
    | none => exact h1
    | some x => exact (dict_lowerTo h).trans h1

theorem dict_resetLow (tgt : Nat) (s : State) : (resetLow tgt s).dict = s.dict := by
  unfold resetLow
  split
  · rfl
  · split
    next h => exact (dict_lowerTo h).trans rfl
    next => rfl

theorem dict_retarget (i : Nat) (s : State) : (retarget i s).dict = s.dict := by
  unfold retarget; extract_lets tgt c
  split
  · exact dict_enterUp _ _ _
  · split
    · exact dict_turnReturn _ _
    · split
      · rfl
      · split <;> rfl

theorem dict_raiseTarget (i was : Nat) (s : State) : (raiseTarget i was s).dict = s.dict := by
  unfold raiseTarget; extract_lets tgt
  split
  · split
    · exact (dict_resetLow _ _).trans ((dict_retarget _ _).trans rfl)
    · exact dict_retarget _ _
  · exact dict_retarget _ _

theorem ferryXfer_raiseSrc (i : Nat) (x : List Byte) (s : State) : ferryXfer (raiseSrc i x s) = ferryXfer s := by
  unfold raiseSrc; extract_lets was z s1 s2 c s3
  have h2 : s2.dict = s.dict := (dict_raiseTarget _ _ _).trans rfl
  have h3 : ferryXfer s3 = ferryXfer s := (ferryXfer_of_framed (keeps_logAdd _ _ _ _ _)).trans (congrArg Dict.xferFerry h2)
  exact ferryXfer_ite rfl (ferryXfer_ite ((ferryXfer_event _ _ _ _).trans h3) h3)

theorem ferryXfer_setCause (i : Nat) (on : Bool) (x : List Byte) (s : State) : ferryXfer (setCause i on x s) = ferryXfer s := by
  unfold setCause
  exact ferryXfer_ite (ferryXfer_ite rfl (ferryXfer_raiseSrc _ _ _)) rfl

theorem ferryXfer_setTbSrc (n src : Nat) (stop : Bool) (s : State) : ferryXfer (setTbSrc n src stop s) = ferryXfer s :=
  ferryXfer_of_framed (keeps_setTbSrc _ _ _ _)

theorem ferryXfer_runFrom (n src : Nat) (s : State) : ferryXfer (runFrom n src s) = ferryXfer s := by
  unfold runFrom; extract_lets old s1
  have h1 : ferryXfer s1 = ferryXfer s := (ferryXfer_setCause _ _ _ _).trans (ferryXfer_setTbSrc _ _ _ _)
  clear_value s1
  refine ferryXfer_ite rfl ?_
  split
  · exact (ferryXfer_of_framed (keeps_rateSource _)).trans h1
  · exact h1
  · exact (ferryXfer_setCause _ _ _ _).trans h1
  · exact ferryXfer_ite h1 h1
  · exact h1

theorem ferryXfer_switchTb (src : Nat) (s : State) (n : Nat) : ferryXfer (switchTb src s n) = ferryXfer s := by
  unfold switchTb
  exact ferryXfer_ite rfl ((ferryXfer_runFrom _ _ _).trans rfl)

theorem ferryXfer_leaveTb0 (e : Bool) (s : State) (n : Nat) : ferryXfer (leaveTb0 e s n) = ferryXfer s := by
  unfold leaveTb0 forceTb
  exact ferryXfer_ite (ferryXfer_ite rfl ((ferryXfer_raiseSrc _ _ _).trans ((ferryXfer_switchTb _ _ _).trans rfl)))
    (ferryXfer_switchTb _ _ _)

theorem ferryXfer_haltTb (s : State) (n : Nat) : ferryXfer (haltTb s n) = ferryXfer s := by
  unfold haltTb stopTb; extract_lets s1 y s2 s3
  have h2 : ferryXfer s2 = ferryXfer s := ferryXfer_ite (ferryXfer_setTbSrc _ _ _ _) (ferryXfer_setTbSrc _ _ _ _)
  have h3 : ferryXfer s3 = ferryXfer s := ferryXfer_ite ((ferryXfer_setCause _ _ _ _).trans h2) h2
  exact ferryXfer_ite rfl ((ferryXfer_setCause _ _ _ _).trans h3)

theorem ferryXfer_loseTb0 (s : State) : ferryXfer (loseTb0 s) = ferryXfer s := by
  unfold loseTb0; extract_lets x s1
  have h1 : ferryXfer s1 = ferryXfer s := rfl
  clear_value s1
  refine (ferryXfer_foldl ferryXfer_haltTb _ _).trans (ferryXfer_ite ?_ h1)
  exact (ferryXfer_foldl (ferryXfer_leaveTb0 false) _ _).trans h1

/-! ## Entry to FL0 (R119, R125, R411, R417) -/

theorem linkRegained_lane (s : State) : (linkRegained s).lane = { s.lane with downAt := none } := by
  unfold linkRegained setCause
  split
  · exact kept_lane (keeps_raiseSrc _ _ _)
  next h => rw [Bool.not_eq_true, Option.isSome_eq_false_iff, Option.isNone_iff_eq_none] at h; rw [← h]; rfl

theorem enterFl0_lane (d : Nat) (s : State) : (enterFl0 d s).lane = { s.lane with
    txOn := s.lane.lanes, st := .fl0, step := 0, markerDelay := d, txMode := .data, firstAlign := true, upFrom := s.now
    frozen := false, ei1Run := 0, ei2Run := 0, exitFl1 := false, retrainFails := 0, adaptAt := s.now, downAt := none } := by
  unfold enterFl0
  rw [linkRegained_lane, kept_lane (keeps_offerTb0 _)]
  rfl

/-- TB0 is offered and qualified with the entry to FL0 (R417). -/
theorem enterFl0_tb (d : Nat) (s : State) : (enterFl0 d s).tb.offered = true ∧ (enterFl0 d s).tb.tb0 = true := by
  have hflags : ∀ x, (linkRegained (offerTb0 x)).tb.offered = true ∧ (linkRegained (offerTb0 x)).tb.tb0 = true := fun x => by
    have h := (tbFlags_of_framed (keeps_linkRegained (offerTb0 x)) (by decide)).trans (tbFlags_offerTb0 x)
    simp only [tbFlags, Prod.mk.injEq] at h
    exact ⟨h.1, h.2.1⟩
  unfold enterFl0
  exact hflags _

/-- The cause of the link loss ends with the entry to FL0 (R411). -/
theorem enterFl0_causes (d : Nat) (s : State) : bmGet (enterFl0 d s).saf.causes 0x05 = false := by
  unfold enterFl0 linkRegained
  exact causes_setCause_off _ _ _

/-- A command that enters FL0 from a state that differs in its lane block at most. -/
theorem act_entersFl0 {o : Host.Outcome State Fault Refusal} {t d : Nat} {f : State → State} {s x : State}
    (ho : o = act t f s) (hd : s.pw.dev ≠ .off) (hf : f (s.advance t) = enterFl0 d x)
    (hx : keepsBut [.lane] (s.advance t) x) : ∃ s', o = .next s' ∧ keepsBut linkBlks (s.advance t) s' ∧
    s'.lane = (enterFl0 d x).lane ∧ s'.tb.offered = true ∧ s'.tb.tb0 = true ∧ bmGet s'.saf.causes 0x05 = false := by
  subst ho
  refine act_does_dict t f hd ?_ fun s' hk => ?_
  · rw [hf]
    exact keeps_trans (keeps_mono hx (by decide)) (keeps_enterFl0 _ _)
  · obtain ⟨hoff, h0⟩ := enterFl0_tb d x
    rw [kept_lane hk, kept_tb hk, kept_saf hk, hf]
    exact ⟨rfl, hoff, h0, enterFl0_causes _ _⟩

theorem exec_fl0Entry (t d : Nat) (s : State) : exec (.fl0Entry t d) s = execFl0Entry t d s := rfl
theorem exec_fastRetrainComplete (t d : Nat) (s : State) :
    exec (.fastRetrainComplete t d) s = execFastRetrainComplete t d s := rfl

section
variable {t d : Nat} {s : State} (hd : s.pw.dev ≠ .off)
include hd

/-- FL0 follows a training (R119). -/
theorem fl0Entry_enters (hst : s.lane.st = .atRate) (h8 : s.lane.step = 8) (hn : 2 ≤ s.lane.syncSlots) :
    ∃ s', execFl0Entry t d s = .next s' ∧ keepsBut linkBlks (s.advance t) s' ∧ s'.lane.st = .fl0 ∧
    s'.lane.markerDelay = d ∧ s'.lane.txMode = .data ∧ s'.lane.txOn = s.lane.lanes ∧ s'.lane.downAt = none ∧
    s'.tb.offered = true ∧ s'.tb.tb0 = true ∧ bmGet s'.saf.causes 0x05 = false := by
  obtain ⟨s', he, hk, hl, htb⟩ := act_entersFl0 (o := execFl0Entry t d s) (d := d) (x := s.advance t) rfl hd
    (by simp [hst, h8, hn]) (keeps_refl _ _)
  rw [enterFl0_lane, advance_lane] at hl
  refine ⟨s', he, hk, ?_, ?_, ?_, ?_, ?_, htb⟩ <;> rw [hl]

/-- FL0 follows a fast retrain, which is counted (R125). -/
theorem fastRetrainComplete_enters (hst : s.lane.st = .retrain) (h8 : s.lane.step = 8) (hn : 2 ≤ s.lane.syncSlots) :
    ∃ s', execFastRetrainComplete t d s = .next s' ∧ keepsBut linkBlks (s.advance t) s' ∧ s'.lane.st = .fl0 ∧
    s'.lane.markerDelay = d ∧ s'.lane.fastRetrains = s.lane.fastRetrains + 1 ∧ s'.lane.downAt = none ∧
    s'.tb.offered = true ∧ s'.tb.tb0 = true ∧ bmGet s'.saf.causes 0x05 = false := by
  obtain ⟨s', he, hk, hl, htb⟩ := act_entersFl0 (o := execFastRetrainComplete t d s) (d := d)
    (x := modLane (fun x => { x with fastRetrains := x.fastRetrains + 1 }) (s.advance t)) rfl hd (by simp [hst, h8, hn])
    (keeps_modLane _ _)
  rw [enterFl0_lane, modLane, advance_lane] at hl
  refine ⟨s', he, hk, ?_, ?_, ?_, ?_, htb⟩ <;> rw [hl]

end

/-! ## Loss of the link (R113, R114, R123) -/

/-- The loss is the link-down event: out of FL0 without a preceding EI slot, or out of an exit of FL1 that has begun (R123,
R129; log 157). -/
def isLinkDown (s : State) : Bool :=
  (s.lane.st = .fl0 && s.lane.ei1Run = 0 && s.lane.ei2Run = 0) || (s.lane.st = .fl1 && s.lane.exitFl1)

section
variable {s : State} (h : s.lane.st = .fl0 ∨ s.lane.st = .fl1 ∨ s.lane.st = .retrain)
include h

theorem linkDown_lane : (linkDown s).lane = { s.lane with
    st := if s.lane.st = .retrain then .retrain else .down, step := if s.lane.st = .retrain then 6 else 0
    txOn := 0, txMode := .idle, rxReady := false, frozen := false, ei1Run := 0, ei2Run := 0, exitFl1 := false
    syncSlots := 0, markers := [], firstAlign := true, ts4Run := 0
    linkDowns := if isLinkDown s then s.lane.linkDowns + 1 else s.lane.linkDowns
    downAt := if isLinkDown s then some s.now else s.lane.downAt } := by
  unfold linkDown
  rw [if_pos (by simpa [or_assoc] using h)]
  exact (kept_lane (keeps_closeSess _ _)).trans ((kept_lane (keeps_loseTb0 _)).trans rfl)

/-- TB0 is offered no more, and no Ferry transfer or session is left (R123, R417). -/
theorem linkDown_ends :
    (linkDown s).tb.offered = false ∧ (linkDown s).dict.xferFerry = none ∧ (linkDown s).dict.sesFerry.isOpen = false := by
  unfold linkDown
  rw [if_pos (by simpa [or_assoc] using h)]
  exact ⟨(congrArg Tb.offered (kept_tb (keeps_closeSess _ _))).trans (offered_loseTb0 _), (ferryXfer_loseTb0 _).trans rfl, rfl⟩

end

/-- The end of a command leaves the transfer of the Ferry path alone, and closes its session at most. -/
theorem renode_ferry (a s : State) : (renode a s).dict.xferFerry = s.dict.xferFerry ∧
    (s.dict.sesFerry.isOpen = false → (renode a s).dict.sesFerry.isOpen = false) := by
  unfold renode; split <;> split <;> simp

theorem exec_linkDown (t : Nat) (s : State) : exec (.linkDown t) s = execLinkDown t s := rfl
theorem exec_blockLockLoss (t : Nat) (lane : Fin 4) (bad : Nat) (s : State) :
    exec (.blockLockLoss t lane bad) s = execBlockLockLoss t lane bad s := rfl

/-- LINK_DOWN in FL0, FL1 or a fast retrain. -/
theorem linkDown_takes {t : Nat} {s : State} (hd : s.pw.dev ≠ .off)
    (h : s.lane.st = .fl0 ∨ s.lane.st = .fl1 ∨ s.lane.st = .retrain) : ∃ s', execLinkDown t s = .next s' ∧
    keepsBut linkBlks (s.advance t) s' ∧ s'.lane = (linkDown (s.advance t)).lane ∧ s'.tb.offered = false ∧
    s'.dict.xferFerry = none ∧ s'.dict.sesFerry.isOpen = false := by
  obtain ⟨hoff, hxfer, hopen⟩ := linkDown_ends (s := s.advance t) (by simpa using h)
  obtain ⟨hx, ho⟩ := renode_ferry s (linkDown (s.advance t))
  exact ⟨_, act_on t _ hd, keeps_step (keeps_linkDown _) (keeps_end _ _), rfl, hoff, hx.trans hxfer, ho hopen⟩

section
variable {t : Nat} {s : State} (hd : s.pw.dev ≠ .off)
include hd

/-- The link-down event (R123, R129). -/
theorem linkDown_event (h : s.lane.st = .fl0 ∧ s.lane.ei1Run = 0 ∧ s.lane.ei2Run = 0 ∨ s.lane.st = .fl1 ∧ s.lane.exitFl1 = true) :
    ∃ s', execLinkDown t s = .next s' ∧ keepsBut linkBlks (s.advance t) s' ∧ s'.lane.st = .down ∧ s'.lane.txOn = 0 ∧
    s'.lane.txMode = .idle ∧ s'.lane.linkDowns = s.lane.linkDowns + 1 ∧ s'.lane.downAt = some (s.advance t).now ∧
    s'.tb.offered = false ∧ s'.dict.xferFerry = none ∧ s'.dict.sesFerry.isOpen = false := by
  have hst : s.lane.st = .fl0 ∨ s.lane.st = .fl1 ∨ s.lane.st = .retrain := h.imp And.left (Or.inl ∘ And.left)
  have hev : isLinkDown (s.advance t) = true := by simpa [isLinkDown, and_assoc] using h
  have hne : s.lane.st ≠ .retrain := by obtain ⟨h, -⟩ | ⟨h, -⟩ := h <;> simp [h]
  obtain ⟨s', he, hk, hl, hrest⟩ := linkDown_takes (t := t) hd hst
  rw [linkDown_lane (by simpa using hst), hev, advance_lane, if_neg hne] at hl
  refine ⟨s', he, hk, ?_, ?_, ?_, ?_, ?_, hrest⟩ <;> simp [hl]

/-- After an EI slot, or in FL1, the loss is no such event (log 157). -/
theorem linkDown_noEvent (h : s.lane.st = .fl1 ∧ s.lane.exitFl1 = false ∨ s.lane.st = .fl0 ∧
    (s.lane.ei1Run ≠ 0 ∨ s.lane.ei2Run ≠ 0)) : ∃ s', execLinkDown t s = .next s' ∧
    keepsBut linkBlks (s.advance t) s' ∧ s'.lane.st = .down ∧ s'.lane.txOn = 0 ∧ s'.lane.linkDowns = s.lane.linkDowns ∧
    s'.lane.downAt = s.lane.downAt ∧ s'.tb.offered = false := by
  have hst : s.lane.st = .fl0 ∨ s.lane.st = .fl1 ∨ s.lane.st = .retrain := h.symm.imp And.left (Or.inl ∘ And.left)
  have hev : isLinkDown (s.advance t) = false := by
    obtain ⟨h, hx⟩ | ⟨h, hr⟩ := h
    · simp [isLinkDown, h, hx]
    · simp [isLinkDown, h]; omega
  have hne : s.lane.st ≠ .retrain := by obtain ⟨h, -⟩ | ⟨h, -⟩ := h <;> simp [h]
  obtain ⟨s', he, hk, hl, hoff, -⟩ := linkDown_takes (t := t) hd hst
  rw [linkDown_lane (by simpa using hst), hev, advance_lane, if_neg hne] at hl
  refine ⟨s', he, hk, ?_, ?_, ?_, ?_, hoff⟩ <;> simp [hl]

/-- A fast retrain stays under way, back in step 6 (R125). -/
theorem linkDown_retrain (h : s.lane.st = .retrain) : ∃ s', execLinkDown t s = .next s' ∧
    keepsBut linkBlks (s.advance t) s' ∧ s'.lane.st = .retrain ∧ s'.lane.step = 6 ∧
    s'.lane.linkDowns = s.lane.linkDowns ∧ s'.lane.retrainFails = s.lane.retrainFails := by
  obtain ⟨s', he, hk, hl, -⟩ := linkDown_takes (t := t) hd (.inr (.inr h))
  rw [linkDown_lane (by simp [h])] at hl
  refine ⟨s', he, hk, ?_, ?_, ?_, ?_⟩ <;> simp [hl, h, isLinkDown]

end

/-- The loss of block lock on a lane in force takes the link down out of FL0 (R114, R123). -/
theorem lockLoss_fl0 {l : Nat} {s : State} (hst : s.lane.st = .fl0) (hl : l < s.lane.lanes) :
    ∃ y, lockLoss l s = linkDown y ∧ y.lane = { s.lane with
      lock := modNth s.lane.lock l (fun _ => false), lockLosses := modNth s.lane.lockLosses l (· + 1) } := by
  unfold lockLoss; extract_lets near s1 x s2 s3
  have h2 : s2.lane = { s.lane with
      lock := modNth s.lane.lock l (fun _ => false), lockLosses := modNth s.lane.lockLosses l (· + 1) } := by
    simp [s2, s1, modLane, hst]
  have h3 : s3.lane = s2.lane := by
    simp only [s3]
    split
    · exact kept_lane (keeps_raiseSrc _ _ _)
    · rfl
  refine ⟨s3, if_pos ?_, h3.trans h2⟩
  simp [h3, h2, hst, hl]

theorem blockLockLoss_fl0 {t bad : Nat} {lane : Fin 4} {s : State} (hd : s.pw.dev ≠ .off) (hr : rxOn s = true)
    (hlock : s.lane.lock[lane.val]? = some true) (hst : s.lane.st = .fl0) (hl : lane.val < s.lane.lanes) :
    ∃ s', execBlockLockLoss t lane bad s = .next s' ∧ keepsBut linkBlks (s.advance t) s' ∧ s'.lane.st = .down ∧
    s'.lane.lockLosses = s.lane.lockLosses.modify lane.val (· + 1) ∧
    s'.lane.badHeaders = s.lane.badHeaders.modify lane.val (· + BitVec.ofNat 32 (min 16 bad)) ∧
    s'.lane.lock[lane.val]? = some false := by
  obtain ⟨x, hx⟩ : ∃ x, x = modLane (fun l => { l with
      badHeaders := modNth l.badHeaders lane.val (· + BitVec.ofNat 32 (min 16 bad)) }) (s.advance t) := ⟨_, rfl⟩
  have hxl : x.lane = { s.lane with
      badHeaders := modNth s.lane.badHeaders lane.val (· + BitVec.ofNat 32 (min 16 bad)) } := by
    rw [hx, modLane, advance_lane]
  have hkx : keepsBut linkBlks (s.advance t) x := by rw [hx]; exact keeps_mono (keeps_modLane _ _) (by decide)
  obtain ⟨s', he, hk, hy⟩ := act_leads (o := execBlockLockLoss t lane bad s) (y := lockLoss lane.val x) rfl hd
    (by rw [hx]; simp [hr, rxLanes, hst, hl, nth, hlock]) (keeps_trans hkx (keeps_lockLoss _ _))
  obtain ⟨y, hloss, hyl⟩ := lockLoss_fl0 (l := lane.val) (s := x) (by rw [hxl, hst]) (by rw [hxl]; exact hl)
  rw [hxl] at hyl
  have hlane : s'.lane = _ := (kept_lane hy).trans ((congrArg State.lane hloss).trans (linkDown_lane (by simp [hyl, hst])))
  rw [hyl] at hlane
  refine ⟨s', he, hk, ?_, ?_, ?_, ?_⟩ <;> rw [hlane]
  · exact if_neg (by simp [hst])
  · rfl
  · rfl
  · simp [modNth, hlock]

/-! ## Slots that end FL1, training and retrain (R119, R125, R127, R129) -/

theorem exec_syncSlots (t n : Nat) (blks : List (List Byte)) (s : State) :
    exec (.syncSlots t blks n) s = execSync t blks n s := rfl
theorem exec_ts3 (t : Nat) (blks : List (List Byte)) (s : State) : exec (.ts3 t blks) s = execTs3 t blks s := rfl
theorem exec_ei1 (t n : Nat) (blks : List (List Byte)) (s : State) : exec (.ei1 t blks n) s = execEi1 t blks n s := rfl

theorem keeps_leaveIdle (s : State) : keepsBut [.lane, .phy] s (leaveIdle s) := by
  unfold leaveIdle
  exact keeps_ite (keeps_step (keeps_mono (keeps_modLane _ s) (by decide)) (keeps_phy _ _)) (keeps_refl _ _)

/-- The transmitters send data on every lane in force once they have left the idle pattern. -/
theorem leaveIdle_tx {s : State} (h : s.lane.txMode = .idlePattern ∨ s.lane.txMode = .data ∧ s.lane.txOn = s.lane.lanes) :
    (leaveIdle s).lane.txOn = s.lane.lanes ∧ (leaveIdle s).lane.txMode = .data := by
  obtain h | ⟨hm, hn⟩ := h
  · simp [leaveIdle, h, modLane]
  · simp [leaveIdle, hm, hn]

section
variable {t n : Nat} {blks : List (List Byte)} {s : State} (hd : s.pw.dev ≠ .off)
include hd

/-- A SYNC slot good on every lane ends FL1 (R127). -/
theorem sync_endsFl1 (hst : s.lane.st = .fl1) (hok : plainOk 1 blks s = true) (hblk : slotBlk blks s ≠ [])
    (htx : s.lane.txMode = .idlePattern ∨ s.lane.txMode = .data ∧ s.lane.txOn = s.lane.lanes) :
    ∃ s', execSync t blks n s = .next s' ∧ keepsBut [.lane, .out, .phy] (s.advance t) s' ∧ s'.lane.st = .fl0 ∧
    s'.lane.frozen = false ∧ s'.lane.txOn = s.lane.lanes ∧ s'.lane.txMode = .data ∧ s'.out = .slot 1 n :: s.out := by
  obtain ⟨x, hx, hkx, b, c, hl⟩ := takeSlots_at false blks n t s
  obtain ⟨hon, hmode⟩ := leaveIdle_tx (s := x) (by simpa [hl] using htx)
  have hki := keeps_trans hkx (keeps_leaveIdle x)
  obtain ⟨s', he, hk, hy⟩ := act_reaches (o := execSync t blks n s) (bs := [.lane, .out, .phy]) rfl hd
    (by simp [hx, hl, hst, hok, hblk]; exact rfl)
    (keeps_step (keeps_step (keeps_step (keeps_mono hki (by decide)) (keeps_phy _ _)) (keeps_modLane _ _)) (keeps_sendPlain _ _ _ _))
  refine ⟨s', he, hk, ?_⟩
  rw [kept_lane hy, kept_out hy]
  exact ⟨rfl, rfl, hon.trans (by rw [hl]), hmode, congrArg (Out.slot 1 n :: ·) ((kept_out hki).trans (advance_out s t))⟩

/-- In step 8 the SYNC slots are counted (R119). -/
theorem sync_counts (hst : s.lane.st = .atRate ∨ s.lane.st = .retrain) (h8 : s.lane.step = 8)
    (hok : plainOk 1 blks s = true) (hblk : slotBlk blks s ≠ []) : ∃ s', execSync t blks n s = .next s' ∧
    keepsBut [.lane, .phy] (s.advance t) s' ∧ s'.lane.syncSlots = s.lane.syncSlots + n ∧ s'.lane.st = s.lane.st ∧
    s'.lane.step = 8 := by
  obtain ⟨x, hx, hkx, b, c, hl⟩ := takeSlots_at false blks n t s
  obtain ⟨s', he, hk, hy⟩ := act_reaches (o := execSync t blks n s) (bs := [.lane, .phy])
    (y := modLane (fun x => { x with syncSlots := x.syncSlots + n }) x) rfl hd
    (by obtain h | h := hst <;> simp [hx, hl, h, h8, hok, hblk])
    (keeps_step hkx (keeps_modLane _ _))
  refine ⟨s', he, hk, ?_⟩
  rw [kept_lane hy, modLane, hl]
  exact ⟨rfl, rfl, h8⟩

/-- A SYNC slot that is not yet good on every lane only begins the exit of FL1 (R129). -/
theorem sync_beginsExit (hst : s.lane.st = .fl1) (hok : plainOk 1 blks s = false) (h0 : ctlOk 1 (nth blks 0 []) = true) :
    ∃ s', execSync t blks n s = .next s' ∧ keepsBut [.lane, .phy] (s.advance t) s' ∧ s'.lane.st = .fl1 ∧
    s'.lane.exitFl1 = true := by
  obtain ⟨x, hx, hkx, b, c, hl⟩ := takeSlots_at false blks n t s
  obtain ⟨s', he, hk, hy⟩ := act_reaches (o := execSync t blks n s) (bs := [.lane, .phy])
    (y := modLane (fun x => { x with exitFl1 := true }) x) rfl hd (by simp [hx, hl, hst, hok, h0])
    (keeps_step hkx (keeps_modLane _ _))
  refine ⟨s', he, hk, ?_⟩
  rw [kept_lane hy, modLane, hl]
  exact ⟨hst, rfl⟩

end

/-! ## A fast retrain (R125) -/

theorem keeps_startRetrain (s : State) : keepsBut [.lane, .pw] s (startRetrain s) := by
  unfold startRetrain
  exact keeps_step (keeps_mono (keeps_pw _ _) (by decide)) (keeps_modLane _ _)

theorem keeps_startTs3 (s : State) : keepsBut [.lane, .out, .phy] s (startTs3 s) := by
  unfold startTs3
  exact keeps_step (keeps_step (keeps_mono (keeps_modLane _ _) (by decide)) (keeps_modLane _ _)) (keeps_sendTs _ _ _ _)

/-- What the start of TS3 sets on the lanes: the mode and the lanes sent, and the block it repeats. -/
theorem startTs3_lane (s : State) : ∃ w, (startTs3 s).lane = { s.lane with
    txOn := s.lane.lanes, txMode := .ts3, txNow := s.lane.txRate, txBlk := w } := ⟨_, rfl⟩

theorem startTs3_out (s : State) : (startTs3 s).out = .slot 0x12 1 :: s.out := rfl

/-- A fast retrain begins only with nothing received: in FL2 or after a loss. -/
theorem receives_of_mayRetrain {s : State} (h : mayRetrain s = true) : receives s = false := by
  simp only [mayRetrain, Bool.and_eq_true, Bool.or_eq_true, decide_eq_true_eq] at h
  obtain ⟨⟨⟨hst, -⟩, -⟩, -⟩ := h
  obtain h | h := hst <;> simp [receives, h]

/-- Ferry receive is on once a fast retrain has begun. -/
theorem rxOn_startRetrain {s : State} (h : mayRetrain s = true) : rxOn (startRetrain s) = true := by
  have h2 : nth s.pw.doms 4 0 = 2 ∨ nth s.pw.doms 4 0 = 1 := by
    simp only [mayRetrain, rxOn, Bool.and_eq_true, Bool.or_eq_true, beq_iff_eq] at h
    exact h.2.imp id And.right
  simp only [nth] at h2
  simp only [startRetrain, rxOn, modLane, nth, modNth, List.getElem?_modify, beq_iff_eq] at h2 ⊢
  cases hdom : s.pw.doms[4]? with
  | none => simp [hdom] at h2
  | some d => rw [hdom] at h2; simp at h2 ⊢; omega

section
variable {t n : Nat} {blks : List (List Byte)} {s : State} (hd : s.pw.dev ≠ .off)
include hd

/-- TS3 at the rate in force starts a fast retrain where one may begin, and the TS3 of the engine with it (R125, R128). -/
theorem ts3_startsRetrain (hok : ctlOk 0x12 (slotBlk blks s) = true) (hm : mayRetrain s = true)
    (hrate : leField (slotBlk blks s) 3 1 = s.lane.rate) (hn : readSlots blks 1 s = 1) :
    ∃ s', execTs3 t blks s = .next s' ∧ keepsBut [.lane, .out, .phy, .pw] (s.advance t) s' ∧ s'.lane.st = .retrain ∧
    s'.lane.step = 6 ∧ s'.lane.txMode = .ts3 ∧ s'.lane.rxReady = false ∧ s'.lane.stepAt = (s.advance t).now := by
  have hdeaf : takeSlots false blks 1 (s.advance t) = s.advance t := takeSlots_deaf (by simpa using receives_of_mayRetrain hm)
  have hrx : rxOn (startRetrain (s.advance t)) = true := rxOn_startRetrain (by simpa using hm)
  have hst : (startRetrain (s.advance t)).lane.st = .retrain := rfl
  have hmode : (startRetrain (s.advance t)).lane.txMode = .idle := rfl
  obtain ⟨s', he, hk, hy⟩ := act_reaches (o := execTs3 t blks s) (bs := [.lane, .out, .phy, .pw]) rfl hd
    (by simp [hdeaf, hn, hok, hm, hrate, hrx, hst]; exact rfl)
    (keeps_step (keeps_step (keeps_mono (keeps_startRetrain _) (by decide)) (keeps_modLane _ _)) (keeps_startTs3 _))
  refine ⟨s', he, hk, ?_⟩
  rw [kept_lane hy]
  exact ⟨rfl, rfl, rfl, rfl, rfl⟩

/-- In a training the precoding that TS3 announces is taken (R119). -/
theorem ts3_precoding (hok : ctlOk 0x12 (slotBlk blks s) = true) (hr : rxOn s = true) (hst : s.lane.st = .atRate)
    (hn : readSlots blks 1 s = 1) : ∃ s', execTs3 t blks s = .next s' ∧ keepsBut [.lane, .phy] (s.advance t) s' ∧
    s'.lane.st = .atRate ∧ s'.lane.step = s.lane.step ∧
    s'.lane.rxPrecode = bitOf (leField (slotBlk blks s) 4 1) 0 := by
  obtain ⟨x, hx, hkx, b, c, hl⟩ := takeSlots_at false blks 1 t s
  have hm : mayRetrain x = false := by simp [mayRetrain, hl, hst]
  obtain ⟨s', he, hk, hy⟩ := act_reaches (o := execTs3 t blks s) (bs := [.lane, .phy]) rfl hd
    (by simp [hx, hn, hok, hm, rxOn_of_kept hkx, hr, hl, hst, modLane]; exact rfl)
    (keeps_step hkx (keeps_lane _ _))
  refine ⟨s', he, hk, ?_⟩
  rw [kept_lane hy]
  exact ⟨rfl, rfl, rfl⟩

end

/-! ## EI1 (R126) -/

/-- A packet under way in the output is sent before the transmitters stop; the address stays. -/
theorem keeps_flushIdle (s : State) : keepsBut [.fy, .out, .phy] s (flushIdle s) := by
  unfold flushIdle sendOn sendPacket sendStream send
  split
  · exact keeps_refl _ _
  · intro b hb; cases b <;> simp_all [sameBlk]
  · split <;> intro b hb <;> cases b <;> simp_all [sameBlk]

theorem flushIdle_address (s : State) : (flushIdle s).fy.address = s.fy.address := by
  unfold flushIdle sendOn sendPacket sendStream send
  split
  · rfl
  · rfl
  · split <;> rfl

/-- The way into FL1 once no packet is under way: four EI1 slots forwarded, then the idle pattern on lane 0 alone (R126). -/
def goFl1 (s : State) : State :=
  let s := modLane (fun x => { x with
    st := .fl1, frozen := true, txOn := 1, txMode := .idlePattern, txNow := {}, exitFl1 := false, firstAlign := true
    lock := [true, false, false, false] }) (sendPlain 3 4 .adjoins s)
  { s with phy := sendIdle s.phy }

theorem keeps_goFl1 (s : State) : keepsBut [.lane, .out, .phy] s (goFl1 s) :=
  keeps_step (keeps_step (keeps_mono (keeps_sendPlain _ _ _ _) (by decide)) (keeps_modLane _ _)) (keeps_phy _ _)

section
variable {t n : Nat} {blks : List (List Byte)} {s : State} (hd : s.pw.dev ≠ .off)
include hd

/-- Four EI1 slots in a row lead to FL1 (R126). -/
theorem ei1_entersFl1 (hst : s.lane.st = .fl0) (hok : plainOk 3 blks s = true) (hblk : slotBlk blks s ≠ [])
    (h4 : 4 ≤ s.lane.ei1Run + n) : ∃ s', execEi1 t blks n s = .next s' ∧
    keepsBut [.lane, .out, .phy, .fy] (s.advance t) s' ∧ s'.lane.st = .fl1 ∧ s'.lane.frozen = true ∧ s'.lane.txOn = 1 ∧
    s'.lane.txMode = .idlePattern ∧ s'.out.head? = some (.slot 3 4) := by
  obtain ⟨x, hx, hkx, b, c, hl⟩ := takeSlots_at false blks n t s
  obtain ⟨y, hy⟩ : ∃ y, y = flushIdle (modLane (fun x => { x with ei1Run := 4 }) x) := ⟨_, rfl⟩
  have hky : keepsBut [.lane, .out, .phy, .fy] (s.advance t) y := by
    rw [hy]
    exact keeps_step (keeps_step (keeps_mono hkx (by decide)) (keeps_modLane _ _)) (keeps_flushIdle _)
  have haddr : y.fy.address = s.fy.address := by rw [hy, flushIdle_address, modLane, kept_fy hkx, advance_fy]
  obtain ⟨s', he, hk, hz⟩ := act_reaches_addressed (o := execEi1 t blks n s) (y := goFl1 y) rfl hd
    (by simp [hx, hl, hst, hok, hblk, Nat.min_eq_left h4, hy, goFl1]) (keeps_step hky (keeps_goFl1 y)) haddr
  refine ⟨s', he, hk, ?_⟩
  rw [kept_lane hz, kept_out hz]
  exact ⟨rfl, rfl, rfl, rfl, rfl⟩

/-- Fewer are counted (R126). -/
theorem ei1_counts (hst : s.lane.st = .fl0) (hok : plainOk 3 blks s = true) (hblk : slotBlk blks s ≠ [])
    (h4 : s.lane.ei1Run + n < 4) : ∃ s', execEi1 t blks n s = .next s' ∧
    keepsBut [.lane, .phy] (s.advance t) s' ∧ s'.lane.st = .fl0 ∧ s'.lane.ei1Run = s.lane.ei1Run + n := by
  obtain ⟨x, hx, hkx, b, c, hl⟩ := takeSlots_at false blks n t s
  obtain ⟨s', he, hk, hy⟩ := act_reaches (o := execEi1 t blks n s) (bs := [.lane, .phy])
    (y := modLane (fun x => { x with ei1Run := s.lane.ei1Run + n }) x) rfl hd
    (by simp [hx, hl, hst, hok, hblk, Nat.min_eq_right (Nat.le_of_lt h4), Nat.ne_of_lt h4]) (keeps_step hkx (keeps_modLane _ _))
  refine ⟨s', he, hk, ?_⟩
  rw [kept_lane hy, modLane, hl]
  exact ⟨hst, rfl⟩

end

/-- Settles O3: the entries to FL0, the ends of FL1 and of the link, the fast retrain and EI1, clause by clause. -/
theorem linkComesAndGoes : Obligations.LinkComesAndGoes := by
  unfold Obligations.LinkComesAndGoes
  simp only [exec_fl0Entry, exec_fastRetrainComplete, exec_syncSlots, exec_ts3, exec_linkDown, exec_blockLockLoss, exec_ei1]
  exact ⟨fun t d s hd hst h8 hn => fl0Entry_enters hd hst h8 hn,
    fun t d s hd hst h8 hn => fastRetrainComplete_enters hd hst h8 hn,
    fun t d s hd h => act_idle rfl hd (by simpa using fun _ h8 hn => absurd h (by omega)),
    fun t d s hd h => act_idle rfl hd (by simpa using fun _ h8 hn => absurd h (by omega)),
    fun t n blks s hd hst hok hblk htx => sync_endsFl1 hd hst hok hblk htx,
    fun t n blks s hd hst h8 hok hblk => sync_counts hd hst h8 hok hblk,
    fun t n blks s hd hst hok h0 => sync_beginsExit hd hst hok h0,
    fun t blks s hd hok hm hrate hn => ts3_startsRetrain hd hok hm hrate hn,
    fun t blks s hd hok hr hst hn => ts3_precoding hd hok hr hst hn, fun t s hd h => linkDown_event hd h,
    fun t s hd h => linkDown_noEvent hd h, fun t s hd h => linkDown_retrain hd h,
    fun t bad lane s hd hr hlock hst hl => blockLockLoss_fl0 hd hr hlock hst hl,
    fun t bad lane s hd hl => act_idle rfl hd (by simp [Nat.not_lt.2 hl]),
    fun t n blks s hd hst hok hblk h4 => ei1_entersFl1 hd hst hok hblk h4,
    fun t n blks s hd hst hok hblk h4 => ei1_counts hd hst hok hblk h4⟩

end Sys2Proof
end

section
/-!
PROOFS. A training follows its blocks (TrainingFollows): signal, block lock, TS1, TS2, TS4 and the adaptation.
-/

namespace Sys2Proof

set_option Elab.async false

open Sys2Proof.Machine

/-! ## Signal and block lock (R99, R114, R119, R125) -/

theorem exec_signalDetect (t : Nat) (s : State) : exec (.signalDetect t) s = execSignalDetect t s := rfl
theorem exec_blockLock (t : Nat) (lane : Fin 4) (s : State) : exec (.blockLock t lane) s = execBlockLock t lane s := rfl

/-- A lane that is received reads its block lock; that of lane 0 ends step 1 (R114, R119). -/
def gainLock (lane : Fin 4) (s : State) : State := { s with
  lane := { s.lane with
    lock := s.lane.lock.modify lane.val (fun _ => true)
    step := if s.lane.st = .slow ∧ s.lane.step = 1 ∧ lane = 0 then 2 else s.lane.step
    stepAt := if s.lane.st = .slow ∧ s.lane.step = 1 ∧ lane = 0 then s.now else s.lane.stepAt }
  phy := if nth s.lane.lock lane.val false then s.phy else lockRx lane.val s.phy }

theorem keeps_gainLock (lane : Fin 4) (s : State) : keepsBut [.lane, .phy] s (gainLock lane s) :=
  keeps_step (s1 := { s with lane := (gainLock lane s).lane }) (keeps_mono (keeps_lane _ _) (by decide)) (keeps_phy _ _)

section
variable {t : Nat} {s : State} (hd : s.pw.dev ≠ .off)
include hd

/-- A signal begins a fast retrain where one may begin (R125). -/
theorem signalDetect_retrains (hm : mayRetrain s = true) : ∃ s', execSignalDetect t s = .next s' ∧
    keepsBut [.lane, .pw] (s.advance t) s' ∧ s'.lane.st = .retrain ∧ s'.lane.step = 6 ∧
    s'.lane.stepAt = (s.advance t).now ∧ s'.lane.rxReady = false ∧ s'.lane.txMode = .idle := by
  have hst : s.lane.st ≠ .detect := fun h => by simp [mayRetrain, h] at hm
  obtain ⟨s', he, hk, hy⟩ := act_reaches (o := execSignalDetect t s) (y := startRetrain (s.advance t)) rfl hd
    (by simp [hst, hm]) (keeps_startRetrain _)
  refine ⟨s', he, hk, ?_⟩
  rw [kept_lane hy]
  exact ⟨rfl, rfl, rfl, rfl, rfl⟩

/-- Block lock of a lane outside a fast retrain; that of lane 0 ends step 1 (R114, R119). -/
theorem blockLock_locks {lane : Fin 4} (hr : rxOn s = true) (hl : lane.val < rxLanes s) (hst : s.lane.st ≠ .retrain) :
    ∃ s', execBlockLock t lane s = .next s' ∧ keepsBut [.lane, .phy] (s.advance t) s' ∧
    s'.lane = { s.lane with
      lock := s.lane.lock.modify lane.val (fun _ => true)
      step := if s.lane.st = .slow ∧ s.lane.step = 1 ∧ lane = 0 then 2 else s.lane.step
      stepAt := if s.lane.st = .slow ∧ s.lane.step = 1 ∧ lane = 0 then (s.advance t).now else s.lane.stepAt } := by
  obtain ⟨s', he, hk, hy⟩ := act_reaches (o := execBlockLock t lane s) (y := gainLock lane (s.advance t)) rfl hd
    (by simp [hr, hl, hst, modLane, gainLock, modNth, and_assoc]) (keeps_gainLock _ _)
  refine ⟨s', he, hk, ?_⟩
  rw [kept_lane hy, gainLock, advance_lane]

/-- In a fast retrain the block lock of lane 0 starts the TS3 of the engine (R125). -/
theorem blockLock_startsTs3 (hr : rxOn s = true) (hst : s.lane.st = .retrain) (hn : 0 < s.lane.lanes)
    (hm : s.lane.txMode = .idle) : ∃ s', execBlockLock t 0 s = .next s' ∧
    keepsBut [.lane, .out, .phy] (s.advance t) s' ∧ s'.lane.txMode = .ts3 ∧ s'.lane.txOn = s.lane.lanes ∧
    s'.lane.lock = s.lane.lock.modify 0 (fun _ => true) ∧ s'.out = .slot 0x12 1 :: s.out := by
  have hl : 0 < rxLanes s := by simpa [rxLanes, hst] using hn
  obtain ⟨s', he, hk, hy⟩ := act_reaches (o := execBlockLock t 0 s) (bs := [.lane, .out, .phy])
    (y := startTs3 (gainLock 0 (s.advance t))) rfl hd (by simp [hr, hl, hst, hm, modLane, gainLock, modNth])
    (keeps_step (keeps_mono (keeps_gainLock _ _) (by decide)) (keeps_startTs3 _))
  obtain ⟨w, hw⟩ := startTs3_lane (gainLock 0 (s.advance t))
  refine ⟨s', he, hk, ?_⟩
  rw [kept_lane hy, kept_out hy, startTs3_out, hw, gainLock, advance_lane, advance_out]
  exact ⟨rfl, rfl, rfl, rfl⟩

end

/-! ## TS1 (R119, R120) -/

theorem exec_ts1 (t n : Nat) (blks : List (List Byte)) (skew : List Nat) (s : State) :
    exec (.ts1 t blks skew n) s = execTs1 t blks skew n s := rfl
theorem exec_ts2 (t n : Nat) (blks : List (List Byte)) (s : State) : exec (.ts2 t blks n) s = execTs2 t blks n s := rfl
theorem exec_ts4 (t n : Nat) (blks : List (List Byte)) (s : State) : exec (.ts4 t blks n) s = execTs4 t blks n s := rfl

theorem keeps_startTs1 (n lanes rate refuse up rHop rReason : Nat) (s : State) :
    keepsBut [.lane, .out, .phy] s (startTs1 n lanes rate refuse up rHop rReason s) := by
  unfold startTs1
  exact keeps_step (keeps_step (keeps_mono (keeps_modLane _ _) (by decide)) (keeps_modLane _ _)) (keeps_sendTs _ _ _ _)

/-- Training parameters of a TS1 block: LANES, RATE and GEN. -/
def ts1Par (blk : List Byte) : Nat × Nat × Nat := (leField blk 2 1, leField blk 3 1, leField blk 9 1)

/-- TS1 slots are judged: the receiver is in steps 2 to 4 and at least one slot was read whole. -/
def TakesTs1 (blks : List (List Byte)) (n : Nat) (s : State) : Prop :=
  rxOn s = true ∧ s.lane.st = .slow ∧ 2 ≤ s.lane.step ∧ s.lane.step ≤ 4 ∧ 0 < readSlots blks n s

section
variable {t n : Nat} {blks : List (List Byte)} {skew : List Nat} {s : State} (hd : s.pw.dev ≠ .off)
  (ht : TakesTs1 blks n s)
include hd ht

/-- A slot that fails ends both runs (R112, R113, R119). -/
theorem ts1_fails (hok : ctlOk 0x10 (slotBlk blks s) = false) : ∃ s', execTs1 t blks skew n s = .next s' ∧
    keepsBut [.lane, .phy] (s.advance t) s' ∧ s'.lane.ts1Run = 0 ∧ s'.lane.ts2Run = 0 ∧ s'.lane.step = s.lane.step := by
  obtain ⟨hr, hst, h2, h4, hn⟩ := ht
  obtain ⟨x, hx, hkx, b, c, hl⟩ := takeSlots_at true blks n t s
  obtain ⟨s', he, hk, hy⟩ := act_reaches (o := execTs1 t blks skew n s) (bs := [.lane, .phy])
    (y := modLane (fun x => { x with ts1Run := 0, ts2Run := 0 }) x) rfl hd
    (by simp [hx, hl, hst, h2, h4, hok, rxOn_of_kept hkx, hr, Nat.pos_iff_ne_zero.1 hn]) (keeps_step hkx (keeps_modLane _ _))
  refine ⟨s', he, hk, ?_⟩
  rw [kept_lane hy, modLane, hl]
  exact ⟨rfl, rfl, rfl⟩

end

/-- What a good TS1 block sets, before its parameters are judged: those parameters, and the run of equal ones. -/
theorem takeTs1_lane (blk : List Byte) (s : State) : (takeTs1 blk s).lane = { s.lane with
    hops := leField blk 5 1, gen := leField blk 9 1, rxPrecode := bitOf (leField blk 4 1) 0
    tgtLanes := leField blk 2 1, tgtRate := leField blk 3 1, tsPar := some (ts1Par blk), ts2Run := 0
    ts1Run := if s.lane.tsPar = some (ts1Par blk) then s.lane.ts1Run else 0
    step := if s.lane.tsPar = some (ts1Par blk) then s.lane.step else 2
    stepAt := if s.lane.tsPar.isNone || s.lane.tsPar = some (ts1Par blk) then s.lane.stepAt else s.now
    refusedGen := if s.lane.refusedGen = some (leField blk 9 1) then s.lane.refusedGen else none } := rfl

/-- The state once a good TS1 block is taken. -/
theorem takeTs1_at {t : Nat} {s x : State} (hk : keepsBut [.lane, .phy] (s.advance t) x) (blk : List Byte) :
    ∃ w, takeTs1 blk x = w ∧ keepsBut [.lane, .phy] (s.advance t) w ∧ w.lane = (takeTs1 blk x).lane :=
  ⟨_, rfl, keeps_step hk (keeps_modLane _ _), rfl⟩

/-- Parameters that the objects allow, on lanes that are locked and numbered right: the block counts (R119). -/
theorem ts1_judged {t : Nat} {s w : State} {blk : List Byte} {blks : List (List Byte)} {skew : List Nat}
    (hk : keepsBut [.lane, .phy] (s.advance t) w) (hlanes : w.lane.tgtLanes = leField blk 2 1)
    (hrate : w.lane.tgtRate = leField blk 3 1) (hlock : w.lane.lock = s.lane.lock)
    (hc : trainRefusal s (leField blk 2 1) (leField blk 3 1) = 0) (h2 : step2Cause s (leField blk 2 1) blks skew = 0)
    (hall : slotOk 0x10 (leField blk 2 1) blks = true) : trainRefusal w w.lane.tgtLanes w.lane.tgtRate = 0 ∧
    step2Cause w w.lane.tgtLanes blks skew = 0 ∧ slotOk 0x10 w.lane.tgtLanes blks = true := by
  rw [hlanes, hrate, trainRefusal_of_kept hk, step2Cause_congr hlock]
  exact ⟨hc, h2, hall⟩

section
variable {t n : Nat} {blks : List (List Byte)} {skew : List Nat} {s : State} (hd : s.pw.dev ≠ .off)
  (ht : TakesTs1 blks n s) (hok : ctlOk 0x10 (slotBlk blks s) = true)
include hd ht hok

/-- A RATE or LANES beyond the written one is refused with its code (R120). -/
theorem ts1_refused {code : Nat}
    (hc : trainRefusal s (leField (slotBlk blks s) 2 1) (leField (slotBlk blks s) 3 1) = code) (h0 : code ≠ 0) :
    ∃ s', execTs1 t blks skew n s = .next s' ∧ keepsBut [.lane, .out, .phy] (s.advance t) s' ∧ s'.lane.failReason = code ∧
    s'.lane.refusedGen = some (leField (slotBlk blks s) 9 1) ∧ s'.lane.step = 3 ∧ s'.lane.txOn = 1 ∧
    s'.lane.txMode = .ts1 := by
  obtain ⟨hr, hst, h2, h4, hn⟩ := ht
  obtain ⟨x, hx, hkx, b, c, hl⟩ := takeSlots_at true blks n t s
  obtain ⟨w, hw, hkw, hlw⟩ := takeTs1_at hkx (slotBlk blks s)
  rw [takeTs1_lane, hl] at hlw
  have hcode : trainRefusal w w.lane.tgtLanes w.lane.tgtRate = code := by rw [hlw, trainRefusal_of_kept hkw, hc]
  obtain ⟨s', he, hk, hy⟩ := act_reaches (o := execTs1 t blks skew n s) (bs := [.lane, .out, .phy]) rfl hd
    (by simp [hx, hl, hst, h2, h4, hok, rxOn_of_kept hkx, hr, Nat.pos_iff_ne_zero.1 hn, hw, hcode, h0]; exact rfl)
    (keeps_step (keeps_step (keeps_mono hkw (by decide)) (keeps_modLane _ _)) (keeps_startTs1 _ _ _ _ _ _ _ _))
  refine ⟨s', he, hk, ?_⟩
  rw [kept_lane hy]
  exact ⟨rfl, congrArg some (by rw [hlw]), rfl, rfl, rfl⟩

variable (hc : trainRefusal s (leField (slotBlk blks s) 2 1) (leField (slotBlk blks s) 3 1) = 0)
  (h2 : step2Cause s (leField (slotBlk blks s) 2 1) blks skew = 0)
  (hall : slotOk 0x10 (leField (slotBlk blks s) 2 1) blks = true)
include hc h2 hall

/-- The 16th good TS1 in a row ends step 2: TS1 goes out on the lanes named (R119). -/
theorem ts1_sixteenth
    (h16 : 16 ≤ (if s.lane.tsPar = some (ts1Par (slotBlk blks s)) then s.lane.ts1Run else 0) + readSlots blks n s)
    (hnew : s.lane.step ≠ 4 ∨ s.lane.tsPar ≠ some (ts1Par (slotBlk blks s))) :
    ∃ s', execTs1 t blks skew n s = .next s' ∧ keepsBut [.lane, .out, .phy] (s.advance t) s' ∧ s'.lane.step = 4 ∧
    s'.lane.ts1Run = 16 ∧ s'.lane.txOn = leField (slotBlk blks s) 2 1 ∧ s'.lane.txMode = .ts1 ∧
    s'.lane.tgtLanes = leField (slotBlk blks s) 2 1 ∧ s'.lane.tgtRate = leField (slotBlk blks s) 3 1 ∧
    s'.lane.hops = leField (slotBlk blks s) 5 1 ∧ s'.out = .slot 0x10 1 :: s.out := by
  obtain ⟨hr, hst, hlo, hhi, hn⟩ := ht
  obtain ⟨x, hx, hkx, b, c, hl⟩ := takeSlots_at true blks n t s
  obtain ⟨w, hw, hkw, hlw⟩ := takeTs1_at hkx (slotBlk blks s)
  rw [takeTs1_lane, hl] at hlw
  obtain ⟨hcode, hcause, hslot⟩ := ts1_judged hkw (by rw [hlw]) (by rw [hlw]) (by rw [hlw]) hc h2 hall
  have hrun : min 16 (w.lane.ts1Run + readSlots blks n s) = 16 := by rw [hlw]; exact Nat.min_eq_left h16
  have hstep : (if w.lane.step = 2 then 3 else w.lane.step) ≠ 4 := by
    have hat : w.lane.step = if s.lane.tsPar = some (ts1Par (slotBlk blks s)) then s.lane.step else 2 := by rw [hlw]
    rw [hat]
    obtain h | h := hnew
    · split <;> split <;> omega
    · rw [if_neg h]
      decide
  obtain ⟨s', he, hk, hy⟩ := act_reaches (o := execTs1 t blks skew n s) (bs := [.lane, .out, .phy]) rfl hd
    (by simp [hx, hl, hst, hlo, hhi, hok, rxOn_of_kept hkx, hr, Nat.pos_iff_ne_zero.1 hn, hw, hcode, hcause, hslot, hrun,
          hstep, modLane]
        exact rfl)
    (keeps_step (keeps_step (keeps_mono hkw (by decide)) (keeps_lane _ _)) (keeps_startTs1 _ _ _ _ _ _ _ _))
  have hlanes : w.lane.tgtLanes = leField (slotBlk blks s) 2 1 := by rw [hlw]
  have hrate : w.lane.tgtRate = leField (slotBlk blks s) 3 1 := by rw [hlw]
  have hhops : w.lane.hops = leField (slotBlk blks s) 5 1 := by rw [hlw]
  refine ⟨s', he, hk, ?_⟩
  rw [kept_lane hy, kept_out hy]
  exact ⟨rfl, rfl, hlanes, rfl, hlanes, hrate, hhops,
    congrArg (Out.slot 0x10 1 :: ·) ((kept_out hkw).trans (advance_out s t))⟩

/-- Fewer are counted on, and step 3 follows step 2 (R119). -/
theorem ts1_counts (hsame : s.lane.tsPar = some (ts1Par (slotBlk blks s)))
    (h16 : s.lane.ts1Run + readSlots blks n s < 16) : ∃ s', execTs1 t blks skew n s = .next s' ∧
    keepsBut [.lane, .phy] (s.advance t) s' ∧ s'.lane.step = (if s.lane.step = 2 then 3 else s.lane.step) ∧
    s'.lane.ts1Run = s.lane.ts1Run + readSlots blks n s := by
  obtain ⟨hr, hst, hlo, hhi, hn⟩ := ht
  obtain ⟨x, hx, hkx, b, c, hl⟩ := takeSlots_at true blks n t s
  obtain ⟨w, hw, hkw, hlw⟩ := takeTs1_at hkx (slotBlk blks s)
  rw [takeTs1_lane, hl, if_pos hsame, if_pos hsame] at hlw
  obtain ⟨hcode, hcause, hslot⟩ := ts1_judged hkw (by rw [hlw]) (by rw [hlw]) (by rw [hlw]) hc h2 hall
  have hrun : min 16 (w.lane.ts1Run + readSlots blks n s) = s.lane.ts1Run + readSlots blks n s := by
    rw [hlw]; exact Nat.min_eq_right (Nat.le_of_lt h16)
  obtain ⟨s', he, hk, hy⟩ := act_reaches (o := execTs1 t blks skew n s) (bs := [.lane, .phy]) rfl hd
    (by simp [hx, hl, hst, hlo, hhi, hok, rxOn_of_kept hkx, hr, Nat.pos_iff_ne_zero.1 hn, hw, hcode, hcause, hslot, hrun,
          Nat.ne_of_lt h16, modLane]
        exact rfl)
    (keeps_step hkw (keeps_lane _ _))
  refine ⟨s', he, hk, ?_⟩
  rw [kept_lane hy]
  exact ⟨by rw [hlw], rfl⟩

end

/-! ## TS2 and TS4 (R119) -/

/-- Step 8 follows step 7 when the receiver is ready and 8 TS4 have come; nothing else of the lane block that is judged moves. -/
theorem tryTs4_lane {s s' : State} (h : s'.lane = (tryTs4 s).lane) : s'.lane.ts4Run = s.lane.ts4Run ∧
    s'.lane.rxReady = s.lane.rxReady ∧ s'.lane.adapted = s.lane.adapted ∧ s'.lane.lock = s.lane.lock ∧ s'.lane.step =
    (if s.lane.step = 7 ∧ s.lane.rxReady = true ∧ s.lane.ts4Run = 8 then 8 else s.lane.step) := by
  rw [h]
  unfold tryTs4
  split
  next h =>
    simp only [Bool.and_eq_true, decide_eq_true_eq] at h
    obtain ⟨⟨hready, hrun⟩, hstep⟩ := h
    exact ⟨rfl, rfl, rfl, rfl, (if_pos ⟨hstep, hready, hrun⟩).symm⟩
  next h =>
    simp only [Bool.and_eq_true, decide_eq_true_eq] at h
    exact ⟨rfl, rfl, rfl, rfl, (if_neg fun ⟨hstep, hready, hrun⟩ => h ⟨⟨hready, hrun⟩, hstep⟩).symm⟩

section
variable {t n : Nat} {blks : List (List Byte)} {s : State} (hd : s.pw.dev ≠ .off) (hr : rxOn s = true)
include hd hr

section
variable (hst : s.lane.st = .slow) (h4 : s.lane.step = 4) (hok : ctlOk 0x11 (slotBlk blks s) = true)
include hst h4 hok

/-- The 8th TS2 takes the rate and the lanes of the training (R119). -/
theorem ts2_eighth (hg : s.lane.refusedGen = none) (hn : 0 < readSlots blks n s)
    (h8 : 8 ≤ s.lane.ts2Run + readSlots blks n s) : ∃ s', execTs2 t blks n s = .next s' ∧
    keepsBut [.lane, .out, .phy] (s.advance t) s' ∧ s'.out = .slot 0x12 1 :: .slot 0x11 16 :: s.out ∧
    s'.lane.st = .atRate ∧ s'.lane.step = 6 ∧ s'.lane.rate = s.lane.tgtRate ∧ s'.lane.lanes = s.lane.tgtLanes ∧
    s'.lane.txMode = .ts3 := by
  obtain ⟨x, hx, hkx, b, c, hl⟩ := takeSlots_at true blks n t s
  obtain ⟨s', he, hk, hy⟩ := act_reaches (o := execTs2 t blks n s) (bs := [.lane, .out, .phy]) rfl hd
    (by simp [hx, hl, hst, h4, hok, hg, rxOn_of_kept hkx, hr, Nat.pos_iff_ne_zero.1 hn, Nat.min_eq_left h8]; exact rfl)
    (keeps_step (keeps_step (keeps_step (keeps_step (keeps_mono hkx (by decide)) (keeps_modLane _ _)) (keeps_sendTs _ _ _ _))
      (keeps_modLane _ _)) (keeps_startTs3 _))
  have hrate : x.lane.tgtRate = s.lane.tgtRate := by rw [hl]
  have hlanes : x.lane.tgtLanes = s.lane.tgtLanes := by rw [hl]
  refine ⟨s', he, hk, ?_⟩
  rw [kept_lane hy, kept_out hy, startTs3_out]
  exact ⟨congrArg (Out.slot 0x12 1 :: .slot 0x11 16 :: ·) ((kept_out hkx).trans (advance_out s t)), rfl, rfl, hrate, hlanes, rfl⟩

/-- Fewer are counted on (R119). -/
theorem ts2_counts (hg : s.lane.refusedGen = none) (hn : 0 < readSlots blks n s)
    (h8 : s.lane.ts2Run + readSlots blks n s < 8) : ∃ s', execTs2 t blks n s = .next s' ∧
    keepsBut [.lane, .phy] (s.advance t) s' ∧ s'.lane.ts2Run = s.lane.ts2Run + readSlots blks n s ∧ s'.lane.step = 4 ∧
    s'.lane.st = .slow := by
  obtain ⟨x, hx, hkx, b, c, hl⟩ := takeSlots_at true blks n t s
  obtain ⟨s', he, hk, hy⟩ := act_reaches (o := execTs2 t blks n s) (bs := [.lane, .phy]) rfl hd
    (by simp [hx, hl, hst, h4, hok, hg, rxOn_of_kept hkx, hr, Nat.pos_iff_ne_zero.1 hn, Nat.min_eq_right (Nat.le_of_lt h8),
          Nat.ne_of_lt h8]
        exact rfl)
    (keeps_step hkx (keeps_modLane _ _))
  refine ⟨s', he, hk, ?_⟩
  rw [kept_lane hy, modLane, hl]
  exact ⟨rfl, h4, hst⟩

/-- TS2 of a training that was refused are ignored (R120). -/
theorem ts2_ignored (hg : s.lane.refusedGen.isSome = true) : ∃ s', execTs2 t blks n s = .next s' ∧
    keepsBut [.lane, .phy] (s.advance t) s' ∧ s'.lane.ts2Run = s.lane.ts2Run ∧ s'.lane.st = .slow ∧ s'.lane.step = 4 := by
  obtain ⟨x, hx, hkx, b, c, hl⟩ := takeSlots_at true blks n t s
  obtain ⟨s', he, hk, hy⟩ := act_reaches (o := execTs2 t blks n s) (bs := [.lane, .phy]) (y := x) rfl hd
    (by simp [hx, hl, hst, h4, hok, hg, rxOn_of_kept hkx, hr]) hkx
  refine ⟨s', he, hk, ?_⟩
  rw [kept_lane hy, hl]
  exact ⟨rfl, hst, h4⟩

end

/-- TS4 are counted up to 8 (R119). -/
theorem ts4_counts (hst : s.lane.st = .atRate ∨ s.lane.st = .retrain) (hok : ctlOk 0x13 (slotBlk blks s) = true)
    (hn : 0 < readSlots blks n s) : ∃ s', execTs4 t blks n s = .next s' ∧ keepsBut [.lane, .out, .phy] (s.advance t) s' ∧
    s'.lane.ts4Run = min 8 (s.lane.ts4Run + readSlots blks n s) ∧
    (s'.lane.step = 8 ↔ s.lane.step = 8 ∨ s.lane.step = 7 ∧ s.lane.rxReady = true ∧
    8 ≤ s.lane.ts4Run + readSlots blks n s) := by
  obtain ⟨x, hx, hkx, b, c, hl⟩ := takeSlots_at false blks n t s
  obtain ⟨z, hz⟩ : ∃ z, z = modLane (fun x => { x with
    ts4Run := min 8 (x.ts4Run + readSlots blks n s), rxPrecode := bitOf (leField (slotBlk blks s) 4 1) 0 }) x := ⟨_, rfl⟩
  obtain ⟨s', he, hk, hy⟩ := act_reaches (o := execTs4 t blks n s) (bs := [.lane, .out, .phy]) (y := tryTs4 z) rfl hd
    (by obtain h | h := hst <;> simp [hx, hl, h, hok, rxOn_of_kept hkx, hr, Nat.pos_iff_ne_zero.1 hn, hz])
    (keeps_step (hz ▸ keeps_step (keeps_mono hkx (by decide)) (keeps_modLane _ _)) (keeps_tryTs4 _))
  obtain ⟨hrun, -, -, -, hstep⟩ := tryTs4_lane (kept_lane hy)
  rw [hz, modLane, hl] at hrun hstep
  refine ⟨s', he, hk, hrun, ?_⟩
  rw [hstep]
  split
  next h =>
    obtain ⟨h7, hready, h8⟩ := h
    exact ⟨fun _ => .inr ⟨h7, hready, h8 ▸ Nat.min_le_right 8 _⟩, fun _ => rfl⟩
  next h => exact ⟨.inl, fun h' => h'.elim id fun ⟨h7, hready, h8⟩ => absurd ⟨h7, hready, Nat.min_eq_left h8⟩ h⟩

end

/-! ## Adaptation complete (R118, R119) -/

theorem exec_adaptationComplete (t : Nat) (ctle : List Nat) (dfe : List (List Int)) (eye skew : List Nat) (s : State) :
    exec (.adaptationComplete t ctle dfe eye skew) s = execAdaptationComplete t ctle dfe eye skew s := rfl

/-- The state with which step 7 begins: the lanes adapted, and the TS3 of the engine on its way. -/
def adaptedAt (ctle : List Nat) (dfe : List (List Int)) (eye : List Nat) (s : State) : State :=
  let s := adaptLanes ctle dfe eye s
  if s.lane.txMode = .idle then startTs3 s else s

theorem keeps_adaptedAt (ctle : List Nat) (dfe : List (List Int)) (eye : List Nat) (s : State) :
    keepsBut [.lane, .out, .phy] s (adaptedAt ctle dfe eye s) := by
  have ha : keepsBut [.lane, .out, .phy] s (adaptLanes ctle dfe eye s) := keeps_mono (keeps_modLane _ _) (by decide)
  unfold adaptedAt
  exact keeps_ite (keeps_step ha (keeps_startTs3 _)) ha

theorem adaptedAt_lane (ctle : List Nat) (dfe : List (List Int)) (eye : List Nat) (s : State) :
    (adaptedAt ctle dfe eye s).lane.lanes = s.lane.lanes ∧ (adaptedAt ctle dfe eye s).lane.ts4Run = s.lane.ts4Run := by
  unfold adaptedAt; extract_lets a
  split <;> exact ⟨rfl, rfl⟩

section
variable {t : Nat} {ctle eye skew : List Nat} {dfe : List (List Int)} {s : State} (hd : s.pw.dev ≠ .off)
include hd

/-- An adaptation complete with a skew within 64 ns ends step 6 (R118, R119). -/
theorem adaptationComplete_ready (hr : rxOn s = true) (hst : s.lane.st = .atRate ∨ s.lane.st = .retrain)
    (h6 : s.lane.step = 6) (hskew : ∀ k ∈ skew.take s.lane.lanes, k ≤ 64000) :
    ∃ s', execAdaptationComplete t ctle dfe eye skew s = .next s' ∧ keepsBut [.lane, .out, .phy] (s.advance t) s' ∧
    s'.lane.rxReady = true ∧ s'.lane.adapted = true ∧ s'.lane.step = (if s.lane.ts4Run = 8 then 8 else 7) ∧
    s'.lane.lock = (List.range 4).map (fun i => decide (i < s.lane.lanes)) := by
  obtain ⟨hlanes, hrun⟩ := adaptedAt_lane ctle dfe eye (s.advance t)
  have hall : (skew.take s.lane.lanes).all (fun k => decide (k ≤ 64000)) = true := by simpa using hskew
  obtain ⟨s', he, hk, hy⟩ := act_reaches (o := execAdaptationComplete t ctle dfe eye skew s) (bs := [.lane, .out, .phy]) rfl hd
    (by exact if_pos (by obtain h | h := hst <;> simp [hr, h, h6, hall]))
    (keeps_step (keeps_step (keeps_step (keeps_adaptedAt ctle dfe eye (s.advance t)) (keeps_phy _ _)) (keeps_modLane _ _))
      (keeps_tryTs4 _))
  obtain ⟨-, hready, hadapted, hlock, hstep⟩ := tryTs4_lane (kept_lane hy)
  rw [modLane] at hready hadapted hlock hstep
  refine ⟨s', he, hk, hready, hadapted, ?_, ?_⟩
  · rw [hstep]
    simp [hrun]
  · rw [hlock]
    simp [hlanes, upTo]

/-- A larger skew leaves step 6 as it was (R118). -/
theorem adaptationComplete_skewed (hskew : ∃ k ∈ skew.take s.lane.lanes, 64000 < k) :
    ∃ s', execAdaptationComplete t ctle dfe eye skew s = .next s' ∧ keepsBut [] (s.advance t) s' ∧ s'.lane = s.lane := by
  have hall : (skew.take s.lane.lanes).all (fun k => decide (k ≤ 64000)) = false := by
    obtain ⟨k, hk, hlt⟩ := hskew
    exact List.all_eq_false.2 ⟨k, hk, by simpa using hlt⟩
  exact act_idle rfl hd (by simp [hall])

end

/-- Settles O1: signal and block lock, TS1, TS2, TS4 and the adaptation, clause by clause. -/
theorem trainingFollows : Obligations.TrainingFollows := by
  unfold Obligations.TrainingFollows
  simp only [exec_signalDetect, exec_blockLock, exec_ts1, exec_ts2, exec_ts4, exec_adaptationComplete]
  exact ⟨fun t s hd hr hst hi => act_lane rfl hd (by simp [hr, hst, hi, modLane]),
    fun t s hd hm => signalDetect_retrains hd hm,
    fun t s hd hm h => act_idle rfl hd (by obtain h | h | h := h <;> simp [hm, h, Option.isSome_iff_ne_none.1]),
    fun t lane s hd hr hl hst => blockLock_locks hd hr hl hst,
    fun t s hd hr hst hn hm => blockLock_startsTs3 hd hr hst hn hm,
    fun t lane s hd hr hl => act_idle rfl hd (by simp [Nat.not_lt.2 hl]),
    fun t n blks skew s hd hr hst hlo hhi hok hc h2 hall hn h16 hnew =>
      ts1_sixteenth hd ⟨hr, hst, hlo, hhi, hn⟩ hok hc h2 hall h16 hnew,
    fun t n blks skew s hd hr hst hlo hhi hok hc h2 hall hsame hn h16 =>
      ts1_counts hd ⟨hr, hst, hlo, hhi, hn⟩ hok hc h2 hall hsame h16,
    fun t n blks skew s hd hr hst hlo hhi hn hok hc => ts1_refused hd ⟨hr, hst, hlo, hhi, hn⟩ hok rfl hc,
    fun t n blks skew s hd hr hst hlo hhi hn hok => ts1_fails hd ⟨hr, hst, hlo, hhi, hn⟩ hok,
    fun t n blks s hd hr hst h4 hok hg hn h8 => ts2_eighth hd hr hst h4 hok hg hn h8,
    fun t n blks s hd hr hst h4 hok hg hn h8 => ts2_counts hd hr hst h4 hok hg hn h8,
    fun t n blks s hd hr hst h4 hg hok => ts2_ignored hd hr hst h4 hok hg,
    fun t n blks s hd hr hst hok hn => ts4_counts hd hr hst hok hn,
    fun t ctle dfe eye skew s hd hr hst h6 hskew => adaptationComplete_ready hd hr hst h6 hskew,
    fun t ctle dfe eye skew s hd hskew => adaptationComplete_skewed hd hskew⟩

end Sys2Proof
end

section
/-!
PROOFS. Three statements that the model does not keep (MarkersAreCaptured, HeadersDecideHandling, LowStatesAreEntered).
-/

namespace Sys2Proof

set_option Elab.async false

open Sys2Proof.Machine

/-! ## Counterexamples: clauses that the model does not keep

Each is a state and a command that the model evaluates; what a clause says of the next state is then read off the evaluation. -/

/-- The state that an outcome leads to, where there is one. -/
def afterwards (o : Host.Outcome State Fault Refusal) : Option State :=
  match o with
  | .next s => some s
  | _ => none

theorem eq_of_afterwards {α : Type} {o : Host.Outcome State Fault Refusal} {s : State} {g : State → α} {v : α}
    (he : o = .next s) (h : (afterwards o).map g = some v) : g s = v := by
  subst he
  exact Option.some.inj h

/-! ### A good marker whose skew has moved by more than a block (R116, R118, R123)

The skew of the ALIGN slot lies more than one block time from the trained value, which is a loss of block lock: in FL0 the
link is down, and the captured markers are gone with it. -/

/-- A good ALIGN block of lane 0 of one lane, COUNT 9. -/
def alignOfCount9 : List Byte :=
  let body : List Byte := [2, 0, 1, 0, 0, 0, 0, 0, 9, 0, 0, 0, 0, 0]
  body ++ leBytes 2 (crcOf crcHdr body)

/-- FL0 on one lane after a marker of COUNT 8. -/
def oneLaneUp : State :=
  { pw := { dev := .ready, doms := [2, 2, 2, 2, 2, 2] }, lane := { st := .fl0, lanes := 1, count := some 8 } }

theorem alignOfCount9_good : ctlOk 0x02 (slotBlk [alignOfCount9] oneLaneUp) = true := by decide +kernel

/-- The lock is lost with that slot, and no marker is left. -/
theorem markers_after_skewJump :
    (afterwards (exec (.align 0 [alignOfCount9] [100000, 0, 0, 0] 64) oneLaneUp)).map (·.lane.markers) = some [] := by
  decide +kernel

/-- Refutes O9: by clause 1 a good marker in FL0 is the first of the captured ones, but where its skew shows the loss of block
lock the link goes down with it and the captured markers are emptied. -/
theorem not_markersAreCaptured : ¬ Obligations.MarkersAreCaptured := by
  unfold Obligations.MarkersAreCaptured
  rintro ⟨hcaptured, -⟩
  obtain ⟨s', he, -, -, hhead, -⟩ := hcaptured 0 64 [alignOfCount9] [100000, 0, 0, 0] oneLaneUp (by decide) rfl alignOfCount9_good
  rw [eq_of_afterwards he markers_after_skewJump] at hhead
  cases hhead

/-! ### A packet without a meaning that arrives in an exit (R134, R438)

A packet that the engine takes in while it exits a low state is counted in power.early_drops, and that counter is not among
the parts that clause 1 lists. -/

/-- The header of a MASK packet of LEN 0 to engine 0, with its check: without a payload it has no operation. -/
def noOpHeader : BitVec 64 := BitVec.ofNat 64 (2 + 2 ^ 48 * crcOf crcHdr (leBytes 6 2))

/-- A packet of that header, with the right trailer. -/
def noOpPacket : Packet :=
  { hdr := noOpHeader, payload := [], trailer := BitVec.ofNat 32 (crcOf crcIeee (leBytes 8 noOpHeader.toNat)), errored := false }

/-- Engine 0 in FL0 while it exits a low state. -/
def exitingUp : State :=
  { pw := { dev := .ready, exiting := true, doms := [2, 2, 2, 2, 2, 2] }, lane := { st := .fl0 }, fy := { address := 0 } }

theorem earlyDrops_after_noOp :
    (afterwards (exec (.packetHeader 0 noOpPacket false []) exitingUp)).map (·.pw.earlyDrops) = some 1 := by decide +kernel

/-- Refutes O34: by clause 1 no packet header changes the power block, but one dropped in an exit is counted there. -/
theorem not_headersDecideHandling : ¬ Obligations.HeadersDecideHandling := by
  unfold Obligations.HeadersDecideHandling
  rintro ⟨hcounted, -⟩
  obtain ⟨s', he, hk, -⟩ := hcounted 0 noOpPacket false [] exitingUp (by decide) rfl
  have hdrops : s'.pw.earlyDrops = 0 := by rw [kept_pw hk, advance_pw]; rfl
  rw [eq_of_afterwards he earlyDrops_after_noOp] at hdrops
  cases hdrops

/-! ### A commit after a reset request of the same instant (R391, R415, R434)

A request to reset 0xF0 is undone where its source is raised in the same instant, and the state of the safety block before it
comes back, DISC_EN included. The last grant drops DISC_EN; with the EI2 slots seen it also takes FL2, where TB0 ends, and
the last time base that stops raises 0xF0. -/

/-- What a reset request of instant 0 in LIMP found: the discharge path closed. -/
def resetFound : SafBefore :=
  { at_ := 0, state := .limp, transitions := 0, resetsAccepted := 0, pendingReturn := false, limpPattern := 1, limpIn := [],
    limpLoaded := false, limpLaunched := false, limpLost := false, limpSums := {}, holdN := false, holdS := false, discEn := true,
    discAt := 0, closeOk := true, firstReadyDone := true, discStep := 0, discOnly4 := false, discDeferred := false }

/-- A sequence of entry to QUIET at its last grant, of the update path, with the EI2 slots seen and a reset request accepted
in the same instant. -/
def lastGrantAfterReset : State :=
  { pw := { dev := .ready, doms := List.replicate 16 2, seq := .preparing, target := .quiet, ei2Seen := 4
            answered := [.block 1, .block 2, .block 3, .block 4, .block 5, .block 6, .block 13, .block 15, .dictServer, .block 14] }
    tb := { src := [0, 0, 1, 1, 1, 1, 1, 1, 1, 1, 1, 1, 1], keeper := .unqualified }
    lane := { st := .fl0, adapted := true }
    saf := { discEn := true, before := some resetFound }
    objs := [(okey 0x2D10 3, List.replicate 256 2)] }

theorem discEn_after_lastGrant :
    (afterwards (exec (.prepareAnswer 0 .updatePath) lastGrantAfterReset)).map (·.saf.discEn) = some true := by decide +kernel

/-- Refutes O19: by clause 9 DISC_EN is low after the last grant, but the end of TB0 in the same instant can undo a reset
request, which brings DISC_EN back. -/
theorem not_lowStatesAreEntered : ¬ Obligations.LowStatesAreEntered := by
  unfold Obligations.LowStatesAreEntered
  rintro ⟨-, -, -, -, -, -, -, -, hquiet, -⟩
  obtain ⟨s', he, -, -, -, hdisc, -⟩ := hquiet 0 .updatePath lastGrantAfterReset (by decide) rfl (by decide +kernel)
    (by decide +kernel) (by decide +kernel) (by decide +kernel) (by decide +kernel) rfl rfl rfl
  rw [eq_of_afterwards he discEn_after_lastGrant] at hdisc
  cases hdisc

end Sys2Proof
end

section
/-!
PROOFS. The slot commands (SlotsMoveOn): a statement that the model does not keep.
-/

namespace Sys2Proof

open Sys2Proof.Machine

/-! ## Counterexample: a CRC unit that snoops the transfer of slot.configure (R459)

slot.configure and palette.data are DOMAINs. A CRC unit that is started with SOURCE DOMAIN takes the bytes of the complete
transfer and finishes by itself at its end, with RESULT and the next RSEQ. The units belong to the management subsystem, which is
not among the parts that the clauses of an accepted write of these objects list. -/

/-- A configure of slot 0: 64 bytes at 256, 8 by 4 pixels of format 1 with a stride of 8. -/
def configureSlot0 : List Byte :=
  leBytes 4 0 ++ leBytes 4 256 ++ leBytes 4 64 ++ leBytes 2 8 ++ leBytes 2 4 ++ leBytes 2 8 ++ leBytes 1 1 ++ leBytes 5 0

/-- CRC unit 0 as CRC_START leaves it: CRC-32 over 32 bits, SOURCE 5 (DOMAIN). -/
def domainSnooper : CrcUnit := { ctrl := 32 + 256 * 5, value := 0xFFFFFFFF, started := true }

/-- The engine in READY with every slot FREE, and a unit that waits for the next DOMAIN transfer. -/
def readyWithSnooper : State :=
  { pw := { dev := .ready, doms := List.replicate 16 2 }
    tb := { src := [0, 0, 0, 0, 0, 1, 0, 0, 0, 0, 0, 0, 0], keeper := .unqualified }
    surf := { slots := List.replicate 256 {} }
    mg := { crc := domainSnooper :: List.replicate 7 {} } }

theorem configureSlot0_accepted :
    takes readyWithSnooper .can 0x2410 1 configureSlot0 = true ∧ cfgCheck readyWithSnooper configureSlot0 = 0 := by
  decide +kernel

/-- The configure finishes the unit: its RSEQ has risen. -/
theorem rseq_after_configureSlot0 :
    (afterwards (exec (.slotConfigure 0 .can configureSlot0) readyWithSnooper)).map (fun s => (nth s.mg.crc 0 {}).rseq) =
      some 1 := by decide +kernel

/-- Refutes O38: by clause 1 an accepted configure changes nothing of the management subsystem, but its transfer feeds and
finishes a CRC unit there that snoops DOMAIN transfers. -/
theorem not_slotsMoveOn : ¬ Obligations.SlotsMoveOn := by
  unfold Obligations.SlotsMoveOn
  rintro ⟨hconfigure, -⟩
  obtain ⟨htakes, hcheck⟩ := configureSlot0_accepted
  obtain ⟨s', he, hk, -⟩ :=
    hconfigure 0 .can configureSlot0 readyWithSnooper (by decide) htakes hcheck (by decide +kernel) (by decide +kernel)
  have hrseq : (nth s'.mg.crc 0 {}).rseq = 0 := by rw [kept_mg hk, advance_mg]; rfl
  rw [eq_of_afterwards he rseq_after_configureSlot0] at hrseq
  cases hrseq

end Sys2Proof
end

section
/-!
PROOFS. Screening, sweeps and the calibrations (CalibrationsComplete): a statement that the model does not keep.
-/

namespace Sys2Proof

open Sys2Proof.Machine

/-! ## A snooping CRC unit ends with the stream that it snoops (R459) -/

/-- A unit that takes the bytes of a stream of a source without a selector. -/
def snooping (src : Nat) (x : CrcUnit) : Bool := x.started && !x.taken && decide (bitsOf x.ctrl 11 8 = src)

/-- A change of another unit leaves a unit alone. -/
theorem nth_modUnit_ne {u v : Nat} (h : v ≠ u) (f : CrcUnit → CrcUnit) (s : State) :
    nth (modUnit v f s).mg.crc u {} = nth s.mg.crc u {} := by
  simp [nth, modUnit, modNth, h]

/-- What a change of a unit leaves in it, where the unit exists. -/
theorem nth_modUnit_self (u : Nat) (f : CrcUnit → CrcUnit) (s : State) :
    nth (modUnit u f s).mg.crc u {} = (s.mg.crc[u]?.map f).getD {} := by
  simp [nth, modUnit, modNth]

/-- Bytes fed to a unit move its value alone: a unit that snoops goes on with it. -/
theorem snooping_unitFeed {src u : Nat} (v : Nat) (bs : List Byte) {s : State}
    (h : snooping src (nth s.mg.crc u {}) = true) : snooping src (nth (unitFeed v bs s).mg.crc u {}) = true := by
  unfold unitFeed
  by_cases hv : v = u
  · subst hv
    rw [nth_modUnit_self]
    rw [nth] at h
    cases hx : s.mg.crc[v]? <;> (rw [hx] at h; exact h)
  · rwa [nth_modUnit_ne hv]

/-- What each step of a fold keeps, the fold keeps. -/
theorem foldl_preserves {α : Type} {f : State → α → State} {P : State → Prop} (hf : ∀ s a, P s → P (f s a)) (l : List α)
    {s : State} (h : P s) : P (l.foldl f s) := by
  induction l generalizing s with
  | nil => exact h
  | cons a l ih => exact ih (hf s a h)

/-- What a piece of a stream does with unit v. -/
def feedUnit (src : Nat) (bs : List Byte) (s : State) (v : Nat) : State :=
  if snooping src (nth s.mg.crc v {}) then unitFeed v bs s else s

theorem snoop_eq_foldl (src : Nat) (bs : List Byte) (s : State) :
    snoop src none bs s = (upTo 8).foldl (feedUnit src bs) s := by
  simp only [snoop, Option.all_none, Bool.and_true]
  rfl

/-- The bytes of a stream leave every unit that snoops it at that. -/
theorem snooping_snoop {src u : Nat} (bs : List Byte) {s : State}
    (h : snooping src (nth s.mg.crc u {}) = true) : snooping src (nth (snoop src none bs s).mg.crc u {}) = true := by
  rw [snoop_eq_foldl]
  refine foldl_preserves (P := fun s => snooping src (nth s.mg.crc u {}) = true) (fun y v hy => ?_) (upTo 8) h
  unfold feedUnit
  split
  · exact snooping_unitFeed v bs hy
  · exact hy

theorem nth_unitFinish_ne {u v : Nat} (h : v ≠ u) (s : State) :
    nth (unitFinish v s).mg.crc u {} = nth s.mg.crc u {} := nth_modUnit_ne h _ s

/-- A unit that finishes is started no longer. -/
theorem started_unitFinish_self (u : Nat) (s : State) : (nth (unitFinish u s).mg.crc u {}).started = false := by
  refine (congrArg CrcUnit.started (nth_modUnit_self u _ s)).trans ?_
  cases s.mg.crc[u]? <;> rfl

/-- What the end of a stream does with unit v. -/
def endUnit (src : Nat) (s : State) (v : Nat) : State := if snooping src (nth s.mg.crc v {}) then unitFinish v s else s

theorem snoopEnd_eq_foldl (src : Nat) (s : State) : snoopEnd src none s = (upTo 8).foldl (endUnit src) s := by
  simp only [snoopEnd, Option.all_none, Bool.and_true]
  rfl

theorem nth_endUnit_ne {u v : Nat} (h : v ≠ u) (src : Nat) (s : State) :
    nth (endUnit src s v).mg.crc u {} = nth s.mg.crc u {} := by
  unfold endUnit
  split
  · exact nth_unitFinish_ne h s
  · rfl

/-- A unit that is not started stays so at the end of a stream. -/
theorem started_endUnit {src u : Nat} (v : Nat) {s : State} (h : (nth s.mg.crc u {}).started = false) :
    (nth (endUnit src s v).mg.crc u {}).started = false := by
  by_cases hv : v = u
  · subst hv
    unfold endUnit
    split
    · exact started_unitFinish_self v s
    · exact h
  · rwa [nth_endUnit_ne hv]

/-- The end of a stream stops each unit that snoops it, among the units it goes through. -/
theorem started_foldl_endUnit {src u : Nat} (l : List Nat) (hu : u ∈ l) {s : State}
    (h : snooping src (nth s.mg.crc u {}) = true) : (nth (l.foldl (endUnit src) s).mg.crc u {}).started = false := by
  induction l generalizing s with
  | nil => cases hu
  | cons v l ih =>
    rw [List.foldl_cons]
    by_cases hv : v = u
    · subst hv
      have hstop : (nth (endUnit src s v).mg.crc v {}).started = false := by
        rw [endUnit, if_pos h]; exact started_unitFinish_self v s
      exact foldl_preserves (P := fun s => (nth s.mg.crc v {}).started = false) (fun _ w => started_endUnit w) l hstop
    · exact ih (List.mem_of_ne_of_mem (Ne.symm hv) hu) (by rwa [nth_endUnit_ne hv])

/-- A transfer that its handler takes stops each CRC unit that snoops DOMAIN transfers. -/
theorem fedH_stops_snooper {h : List Byte → State → Nat × State} {data : List Byte} {s : State} {u : Nat} (hu : u < 8)
    (hz : (fedH h data s).1 = 0) (hx : snooping 5 (nth (h data s).2.mg.crc u {}) = true) :
    (nth (fedH h data s).2.mg.crc u {}).started = false := by
  by_cases hr : (h data s).1 = 0
  · simp only [fedH, if_pos hr, snoopEnd_eq_foldl]
    exact started_foldl_endUnit (upTo 8) (List.mem_range.2 hu) (snooping_snoop data hx)
  · rw [fedH, if_neg hr] at hz
    exact absurd hz hr

/-! ## Counterexample: a CRC unit that snoops the transfer of diag.gain_update (R459)

diag.gain_update is a DOMAIN, so an accepted write of it ends a CRC unit that is started with SOURCE DOMAIN. The units belong to
the management subsystem, which is not among the parts that clauses 11 and 12, on accepted gain updates, list. -/

/-- The handler of a gain update leaves the management subsystem alone. -/
theorem mg_gainUpdateH (data : List Byte) (s : State) : (gainUpdateH data s).2.mg = s.mg := by
  unfold gainUpdateH
  dsimp only
  split
  · rfl
  · split
    · rfl
    · exact kept_mg (keeps_gainWrite _ _ _)

/-- A gain update of district 0 with code 0 for each of its pixels. -/
def zeroGains : List Byte := List.replicate 32772 0

/-- The load in progress has sampled the idle bank of district 0, and CRC unit 0 waits for the next DOMAIN transfer. -/
def loadingWithSnooper : State :=
  { readyWithSnooper with
    dict := { sesCan := { isOpen := true } }
    quay := { loading := true, smp := { bank := [true] } } }

/-- A field of bytes 0 is 0. -/
theorem leField_replicate_zero (n off k : Nat) : leField (List.replicate n 0) off k = 0 := by
  have hz (m : Nat) : leNat (List.replicate m 0) = 0 := by
    induction m with
    | zero => rfl
    | succ m ih => rw [List.replicate_succ, leNat, ih]; rfl
  rw [leField, List.drop_replicate, List.take_replicate, hz]

theorem zeroGains_codes (i : Nat) : leField zeroGains (4 + 2 * i) 2 ≤ 1023 := by
  rw [zeroGains, leField_replicate_zero]
  decide

theorem zeroGains_taken : takes loadingWithSnooper .can 0x2850 1 zeroGains = true := by decide +kernel

theorem zeroGains_waits : gainBusy loadingWithSnooper (leField zeroGains 0 1) = true := by decide +kernel

/-- An accepted gain update stops the unit that snoops it. -/
theorem snooper_stopped_by_gainUpdate {s' : State} (he : exec (.gainUpdate 0 .can zeroGains) loadingWithSnooper = .next s')
    (ha : s'.dict.answer = 0) : (nth s'.mg.crc 0 {}).started = false := by
  obtain ⟨x, y, hx, hy, hcode, hk⟩ :=
    objWrite_handled (s := loadingWithSnooper) (t := 0) (h := fedH gainUpdateH) (by decide) zeroGains_taken
  obtain rfl : s' = y := Host.Outcome.next.inj (he.symm.trans hy)
  have hmg : (gainUpdateH zeroGains x).2.mg = loadingWithSnooper.mg := by
    rw [mg_gainUpdateH, kept_mg hx, advance_mg]
  rw [kept_mg hk]
  exact fedH_stops_snooper (by decide) (hcode.symm.trans ha) (by rw [hmg]; decide)

/-- Refutes O47: by clause 12 a gain update that waits for the load changes nothing of the management subsystem, but its transfer
feeds and finishes a CRC unit there that snoops DOMAIN transfers. -/
theorem not_calibrationsComplete : ¬ Obligations.CalibrationsComplete := by
  unfold Obligations.CalibrationsComplete
  rintro ⟨-, -, -, -, -, -, -, -, -, -, -, hwaits, -⟩
  obtain ⟨s', he, hk, hanswer, -⟩ :=
    hwaits 0 .can zeroGains loadingWithSnooper (by decide) zeroGains_taken (by decide +kernel) (by decide +kernel)
      (fun i _ => zeroGains_codes i) zeroGains_waits
  have hstarted : (nth s'.mg.crc 0 {}).started = true := by rw [kept_mg hk, advance_mg]; rfl
  rw [snooper_stopped_by_gainUpdate he hanswer] at hstarted
  cases hstarted

end Sys2Proof
end

section
/-!
PROOFS. The external switch and its check (DisconnectSwitchIsChecked): what each reading of DISC_FB does at each step, and
what a raise of source 0x03 leaves of the check.
-/

namespace Sys2Proof

set_option Elab.async false

open Sys2Proof.Machine

/-! ## What a reading of DISC_FB does at each step (R408, R409) -/

/-- DISC_FB has read anew; with the switch open the engine stops switching (R300). -/
def readFb (closed : Bool) (s : State) : State :=
  let s := { s with saf := { s.saf with discFb := closed, discAt := if s.saf.discStep = 0 then s.now else s.saf.discAt } }
  if closed then s else supplyStop s

theorem exec_discFbChange (t : Nat) (closed : Bool) (s : State) :
    exec (.discFbChange t closed) s = act t (fun s => keepDisc (discRun (readFb closed s))) s := rfl

/-- The step of the check has failed: the check is over (R408). -/
def failCheck (s : State) : State := keepDisc { s with saf := { s.saf with discStep := 0, discOnly4 := false } }

/-- What the end of T_fb finds, once the check has gone as far as DISC_FB lets it (R408, R409). -/
def judgeFb (s : State) : State :=
  if !fbTimeOver s then s
  else if s.saf.discStep ≠ 0 then setCause 0x03 true (leBytes 1 s.saf.discStep) (failCheck s)
  else if s.saf.discFb ≠ s.saf.discEn then setCause 0x03 true [] s
  else s

theorem exec_discFbTimeout (t : Nat) (s : State) :
    exec (.discFbTimeout t) s = act t (fun s => judgeFb (discRun s)) s := rfl

theorem keeps_keepDisc (s : State) : keepsBut [.saf] s (keepDisc s) := keeps_saf _ _

theorem keeps_readFb_closed (s : State) : keepsBut [.saf] s (readFb true s) := keeps_saf _ _

theorem keeps_readFb_open (s : State) : keepsBut [.saf, .sup] s (readFb false s) :=
  keeps_step (keeps_mono (keeps_saf s _) (by decide)) (keeps_sup _ _)

theorem keeps_readFb (closed : Bool) (s : State) : keepsBut [.saf, .sup] s (readFb closed s) := by
  cases closed
  · exact keeps_readFb_open s
  · exact keeps_mono (keeps_readFb_closed s) (by decide)

/-- A step of the check that DISC_FB does not pass: 1 and 3 wait for it to open, 2 and 4 for it to close (R408). -/
def stepWaits (s : State) : Prop :=
  (s.saf.discStep = 1 ∨ s.saf.discStep = 3) ∧ s.saf.discFb = true ∨
    (s.saf.discStep = 2 ∨ s.saf.discStep = 4) ∧ s.saf.discFb = false

theorem discRun_of_idle {s : State} (h : s.saf.discStep = 0) : discRun s = discAgree s := by
  simp [discRun, discEval, h]

theorem discRun_of_waits {s : State} (h : stepWaits s) : discRun s = s := by
  obtain ⟨h1 | h3, hfb⟩ | ⟨h2 | h4, hfb⟩ := h
  · simp [discRun, discEval, discAgree, h1, hfb]
  · simp [discRun, discEval, discAgree, h3, hfb]
  · simp [discRun, discEval, discAgree, h2, hfb]
  · simp [discRun, discEval, discAgree, h4, hfb]

/-- Step 1 passes with the switch open; step 2 asserts DISC_EN and waits (R408). -/
theorem discRun_of_step1 {s : State} (h : s.saf.discStep = 1) (hfb : s.saf.discFb = false) :
    discRun s = { s with saf := { s.saf with discStep := 2, discAt := s.now, discEn := true } } := by
  simp [discRun, discEval, discAgree, h, hfb]

/-- Step 2 passes with the switch closed; step 3 drops DISC_EN and waits (R408). -/
theorem discRun_of_step2 {s : State} (h : s.saf.discStep = 2) (hfb : s.saf.discFb = true) :
    discRun s = { s with saf := { s.saf with discStep := 3, discAt := s.now, discEn := false } } := by
  simp [discRun, discEval, discAgree, h, hfb]

theorem saf_setHold (on : Bool) (s : State) : (setHold on s).saf = { s.saf with holdN := on, holdS := on } := by
  cases on <;> rfl

theorem saf_updPermission (s : State) :
    ∃ p n h, (updPermission s).saf = { s.saf with permission := p, holdN := n, holdS := h } := by
  unfold updPermission
  extract_lets on fell z s1
  split
  · exact ⟨on, false, false, saf_setHold _ _⟩
  · exact ⟨on, s.saf.holdN, s.saf.holdS, rfl⟩

theorem saf_discAgree (s : State) : ∃ c, (discAgree s).saf = { s.saf with causes := c } := by
  unfold discAgree
  split
  · exact ⟨_, rfl⟩
  · exact ⟨s.saf.causes, rfl⟩

/-- Step 4 passes with the switch closed, and with it the check (R408, R409). -/
theorem saf_discRun_of_step4 {s : State} (h4 : s.saf.discStep = 4) (hfb : s.saf.discFb = true) :
    ∃ c p n h, (discRun s).saf = { s.saf with
      discPassed := s.saf.discPassed || !s.saf.discOnly4, discStep := 0, discOnly4 := false, closeOk := true
      causes := c, permission := p, holdN := n, holdS := h } := by
  have agreed : ∀ y, ∃ c p n h, (discAgree (updPermission y)).saf =
      { y.saf with causes := c, permission := p, holdN := n, holdS := h } := fun y => by
    obtain ⟨p, n, h, hp⟩ := saf_updPermission y
    obtain ⟨c, hc⟩ := saf_discAgree (updPermission y)
    exact ⟨c, p, n, h, by rw [hc, hp]⟩
  simp only [discRun, discEval, h4, hfb, if_true]
  exact agreed _

/-! ## What a raise leaves of the check (R392, R408)

An entry to a higher state leaves the check as it was or ends it, and a reset request of the same instant begins at most the
repetition of step 4: neither passes the whole check. -/

/-- Where the check stands: passed, DISC_FB, the step, and whether step 4 runs alone. -/
def discCheck (s : State) : Bool × Bool × Nat × Bool := (s.saf.discPassed, s.saf.discFb, s.saf.discStep, s.saf.discOnly4)

theorem discCheck_of_framed {bs : List Blk} {s s' : State} (h : keepsBut bs s s') (hn : Blk.saf ∉ bs := by decide) :
    discCheck s' = discCheck s := by rw [discCheck, kept_saf h hn, discCheck]

theorem discCheck_updPermission (s : State) : discCheck (updPermission s) = discCheck s := by
  obtain ⟨p, n, h, he⟩ := saf_updPermission s
  rw [discCheck, he, discCheck]

theorem discCheck_discAgree (s : State) : discCheck (discAgree s) = discCheck s := by
  obtain ⟨c, he⟩ := saf_discAgree s
  rw [discCheck, he, discCheck]

theorem discCheck_setHold (on : Bool) (s : State) : discCheck (setHold on s) = discCheck s := by
  rw [discCheck, saf_setHold, discCheck]

theorem discCheck_gainFold (l : List (Nat × List Byte)) (s : State) :
    discCheck (l.foldl (fun s w => gainWrite w.1 w.2 s) s) = discCheck s := by
  induction l generalizing s with
  | nil => rfl
  | cons w l ih => exact (ih _).trans rfl

theorem discCheck_abandonLoad (s : State) : discCheck (abandonLoad s) = discCheck s := by
  unfold abandonLoad gainDrain
  extract_lets s1
  have h1 : discCheck s1 = discCheck s := discCheck_of_framed (keeps_emptyHalves s)
  clear_value s1
  exact (discCheck_gainFold _ _).trans h1

/-- The check stands as before, or no step of it is under way. -/
def checkKeptOrOver (s s' : State) : Prop :=
  discCheck s' = discCheck s ∨ s'.saf.discPassed = s.saf.discPassed ∧ s'.saf.discStep = 0

theorem checkKeptOrOver_of_eq {s x s' : State} (hx : discCheck x = discCheck s) (h : checkKeptOrOver x s') :
    checkKeptOrOver s s' := by
  obtain he | ⟨hp, h0⟩ := h
  · exact .inl (he.trans hx)
  · exact .inr ⟨hp.trans (congrArg Prod.fst hx), h0⟩

theorem checkKeptOrOver_dropDisc (s : State) : checkKeptOrOver s (dropDisc s) := by
  have ended : ∀ y, discCheck y = (s.saf.discPassed, s.saf.discFb, 0, false) →
      checkKeptOrOver s (discAgree y) := fun y hy => by
    have h := (discCheck_discAgree y).trans hy
    simp only [discCheck, Prod.mk.injEq] at h
    exact .inr ⟨h.1, h.2.2.1⟩
  unfold dropDisc
  extract_lets was z s1 opened
  refine ended _ ?_
  split <;> rfl

theorem checkKeptOrOver_holdEntry (s : State) : checkKeptOrOver s (holdEntry s) := by
  unfold holdEntry
  extract_lets z s0 s1
  have h0 : discCheck s0 = discCheck s := (discCheck_of_framed (keeps_stopSchedule _)).trans rfl
  have h1 : discCheck s1 = discCheck s := (discCheck_setHold _ _).trans h0
  split
  · split
    · exact checkKeptOrOver_of_eq h1 (checkKeptOrOver_dropDisc _)
    · exact .inl h1
  · split
    · exact checkKeptOrOver_of_eq h0 (checkKeptOrOver_dropDisc _)
    · exact .inl h0

theorem checkKeptOrOver_darkEntry (s : State) : checkKeptOrOver s (darkEntry s) := by
  unfold darkEntry
  have hd := checkKeptOrOver_dropDisc (setHold false (blank (stopSchedule
    { s with saf := { s.saf with limpPattern := 0, discStep := 0, discOnly4 := false } })))
  have hc : ∀ x, discCheck (setHold false (blank (stopSchedule x))) = discCheck x := fun x =>
    (discCheck_setHold _ _).trans ((discCheck_of_framed (keeps_blank _)).trans (discCheck_of_framed (keeps_stopSchedule _)))
  have hx := hc { s with saf := { s.saf with limpPattern := 0, discStep := 0, discOnly4 := false } }
  obtain he | hover := checkKeptOrOver_of_eq hx hd
  · simp only [discCheck, Prod.mk.injEq] at he
    exact .inr ⟨he.1, he.2.2.1⟩
  · exact .inr hover

theorem discCheck_limpEntry (n : Nat) (s : State) : discCheck (limpEntry n s) = discCheck s :=
  (discCheck_setHold _ _).trans ((discCheck_of_framed (keeps_dropItems _)).trans rfl)

theorem checkKeptOrOver_enterUp (c i : Nat) (s : State) : checkKeptOrOver s (enterUp c i s) := by
  unfold enterUp
  extract_lets pick lost x s1 z s2
  have h2 : discCheck s2 = discCheck s := rfl
  have h3 : discCheck (abandonLoad s2) = discCheck s := (discCheck_abandonLoad _).trans h2
  clear_value s2 x
  split
  · exact .inl rfl
  · split
    · exact .inl ((discCheck_limpEntry _ _).trans h3)
    · exact checkKeptOrOver_of_eq h3 (checkKeptOrOver_holdEntry _)
    · exact checkKeptOrOver_of_eq h3 (checkKeptOrOver_darkEntry _)
    · exact .inl h2

/-- Nothing of the whole check is left that DISC_FB, as it stands, could pass: no step runs, or step 1, which passes open and
leaves step 2 to wait for closed, or step 4 alone. -/
def wholeCheckStuck : Bool × Bool × Nat × Bool → Prop
  | (_, fb, step, only4) => step = 0 ∨ step = 1 ∨ (step = 2 ∧ fb = false) ∨ (step = 4 ∧ only4 = true)

/-- The whole check has passed or not, and cannot pass as DISC_FB stands. -/
def stuckAt (passed : Bool) (s : State) : Prop := s.saf.discPassed = passed ∧ wholeCheckStuck (discCheck s)

theorem stuckAt_of_check {p : Bool} {s s' : State} (h : discCheck s' = discCheck s) (hs : stuckAt p s) : stuckAt p s' := by
  obtain ⟨hp, hw⟩ := hs
  exact ⟨(congrArg Prod.fst h).trans hp, h ▸ hw⟩

theorem stuckAt_of_keptOrOver {p : Bool} {s s' : State} (h : checkKeptOrOver s s') (hs : stuckAt p s) : stuckAt p s' := by
  obtain he | ⟨hp, h0⟩ := h
  · exact stuckAt_of_check he hs
  · exact ⟨hp.trans hs.1, .inl h0⟩

theorem stuckAt_discRun {p : Bool} {s : State} (h : stuckAt p s) : stuckAt p (discRun s) := by
  obtain ⟨hp, h0 | h1 | ⟨h2, hfb⟩ | ⟨h4, h4only⟩⟩ := h
  · rw [discRun_of_idle h0]
    exact stuckAt_of_check (discCheck_discAgree s) ⟨hp, .inl h0⟩
  · cases hfb : s.saf.discFb with
    | false => rw [discRun_of_step1 h1 hfb]; exact ⟨hp, .inr (.inr (.inl ⟨rfl, hfb⟩))⟩
    | true => rw [discRun_of_waits (.inl ⟨.inl h1, hfb⟩)]; exact ⟨hp, .inr (.inl h1)⟩
  · rw [discRun_of_waits (.inr ⟨.inl h2, hfb⟩)]
    exact ⟨hp, .inr (.inr (.inl ⟨h2, hfb⟩))⟩
  · cases hfb : s.saf.discFb with
    | false => rw [discRun_of_waits (.inr ⟨.inr h4, hfb⟩)]; exact ⟨hp, .inr (.inr (.inr ⟨h4, h4only⟩))⟩
    | true =>
      obtain ⟨c, q, n, h, he⟩ := saf_discRun_of_step4 h4 hfb
      have honly : s.saf.discOnly4 = true := h4only
      exact ⟨by rw [he]; simp [hp, honly], .inl (by rw [he])⟩

theorem stuckAt_assertDisc {p : Bool} {s : State} (h : stuckAt p s) : stuckAt p (assertDisc s) := by
  unfold assertDisc
  split
  · exact h
  · split
    · exact h
    · split
      · exact ⟨h.1, .inr (.inl rfl)⟩
      · exact ⟨h.1, .inr (.inr (.inr ⟨rfl, rfl⟩))⟩

theorem stuckAt_lowerTo {p : Bool} {tgt : Nat} {s s' : State} (hl : lowerTo tgt s = some s') (h : stuckAt p s) :
    stuckAt p s' := by
  unfold lowerTo at hl
  split at hl
  · split at hl
    · cases hl
    · cases hl
      have hsafety : stuckAt p (setSafety .limp s) := h
      exact stuckAt_of_check (discCheck_limpEntry _ _) (stuckAt_discRun (stuckAt_assertDisc hsafety))
  · cases hl
    split
    · exact stuckAt_of_check (discCheck_setHold _ _) h
    · exact h

theorem stuckAt_turnReturn {p : Bool} (tgt : Nat) {s : State} (h : stuckAt p s) : stuckAt p (turnReturn tgt s) := by
  unfold turnReturn
  extract_lets z s1
  have h1 : stuckAt p s1 := h
  split
  · exact h1
  · cases hl : lowerTo tgt s1 with
    | none => exact h1
    | some x => exact stuckAt_lowerTo hl h1

theorem stuckAt_resetLow {p : Bool} (tgt : Nat) {s : State} (h : stuckAt p s) : stuckAt p (resetLow tgt s) := by
  unfold resetLow
  split
  · exact h
  · split
    next hl => exact stuckAt_lowerTo hl h
    next => exact h

theorem stuckAt_retarget {p : Bool} (i : Nat) {s : State} (h : stuckAt p s) : stuckAt p (retarget i s) := by
  unfold retarget
  extract_lets tgt c
  split
  · exact stuckAt_of_keptOrOver (checkKeptOrOver_enterUp _ _ _) h
  · split
    · exact stuckAt_turnReturn _ h
    · split
      · exact h
      · split <;> exact h

/-- A raise never passes the whole check, where a reset request of the same instant found no step under way. -/
theorem stuckAt_raiseTarget {p : Bool} (i was : Nat) {s : State} (h : stuckAt p s)
    (hb : ∀ o ∈ s.saf.before, o.discStep = 0) : stuckAt p (raiseTarget i was s) := by
  unfold raiseTarget
  extract_lets tgt
  split
  next o ho =>
    split
    · have hundo : stuckAt p (undoReset o s) := ⟨h.1, .inl (hb o ho)⟩
      exact stuckAt_resetLow _ (stuckAt_retarget _ hundo)
    · exact stuckAt_retarget _ h
  next => exact stuckAt_retarget _ h

/-- What a raise does before its target is worked out: the source is latched, counted, and its interrupt pends (R387, R388). -/
def latchSrc (i : Nat) (s : State) : State :=
  lineHelm 64 true { s with saf := { s.saf with
    latched := bmSet s.saf.latched i
    causes := if isCond i then bmSet s.saf.causes i else s.saf.causes
    raises := modNth s.saf.raises i satInc16 } }

/-- A raise leaves in the Tollgate what its target makes of it; its entry in the log and its event change nothing there. -/
theorem saf_raiseSrc (i : Nat) (x : List Byte) (s : State) (h : hasSource i = true) :
    (raiseSrc i x s).saf = (raiseTarget i (targetClass s) (latchSrc i s)).saf := by
  unfold raiseSrc
  extract_lets was z s1 s2 c s3
  rw [if_neg (by simp [h])]
  have h3 : s3.saf = s2.saf := kept_saf (keeps_logAdd _ _ _ _ _)
  split
  · exact (kept_saf (keeps_event _ _ _ _)).trans h3
  · exact h3

/-- A raise never passes the whole check, where a reset request of the same instant found no step under way. -/
theorem discPassed_raiseSrc {i : Nat} (x : List Byte) {s : State} (h : hasSource i = true) (h0 : s.saf.discStep = 0)
    (hb : ∀ o ∈ s.saf.before, o.discStep = 0) : (raiseSrc i x s).saf.discPassed = s.saf.discPassed := by
  have hs : stuckAt s.saf.discPassed (latchSrc i s) := ⟨rfl, .inl h0⟩
  rw [saf_raiseSrc i x s h]
  exact (stuckAt_raiseTarget i (targetClass s) hs hb).1

/-- A raise begins no check, without a reset request of the same instant or a return that waits (R392). -/
theorem discStep_raiseSrc {i : Nat} (x : List Byte) {s : State} (h : hasSource i = true) (h0 : s.saf.discStep = 0)
    (hb : s.saf.before = none) (hr : s.saf.pendingReturn = false) : (raiseSrc i x s).saf.discStep = 0 := by
  rw [saf_raiseSrc i x s h]
  have hbefore : (latchSrc i s).saf.before = none := hb
  have hreturn : (latchSrc i s).saf.pendingReturn = false := hr
  have hstep : (latchSrc i s).saf.discStep = 0 := h0
  generalize latchSrc i s = y at *
  simp only [raiseTarget, hbefore, retarget, hreturn, Bool.false_and, Bool.false_eq_true, if_false]
  split
  · obtain he | ⟨-, h0⟩ := checkKeptOrOver_enterUp (targetClass y) i y
    · exact (congrArg (·.2.2.1) he).trans hstep
    · exact h0
  · split
    · exact hstep
    · split <;> exact hstep

/-! ## The two commands -/

/-- A reading that agrees with DISC_EN outside the check (R300, R409). -/
theorem discFbChange_agrees (t : Nat) (closed : Bool) (s : State) (hd : s.pw.dev ≠ .off) (h0 : s.saf.discStep = 0)
    (he : closed = s.saf.discEn) : ∃ s', exec (.discFbChange t closed) s = .next s' ∧
    keepsBut [.saf, .sup] (s.advance t) s' ∧ s'.saf.discFb = closed ∧
    s'.saf.discAt = (s.advance t).now ∧ s'.saf.causes = bmClr s.saf.causes 0x03 ∧ s'.saf.discEn = s.saf.discEn ∧
    s'.saf.discStep = 0 ∧ s'.saf.latched = s.saf.latched ∧ s'.saf.state = s.saf.state ∧
    s'.saf.permission = s.saf.permission ∧
    s'.sup.phg = (if closed = true then s.sup.phg else [false, false, false, false]) := by
  have hs : (readFb closed (s.advance t)).saf = { s.saf with discFb := closed, discAt := (s.advance t).now } := by
    cases closed <;> simp [readFb, supplyStop, h0]
  have hp : (readFb closed (s.advance t)).sup.phg = if closed = true then s.sup.phg else [false, false, false, false] := by
    cases closed <;> simp [readFb, supplyStop]
  have hrun : discRun (readFb closed (s.advance t)) = { readFb closed (s.advance t) with
      saf := { s.saf with discFb := closed, discAt := (s.advance t).now, causes := bmClr s.saf.causes 0x03 } } := by
    rw [discRun_of_idle (by rw [hs]; exact h0), discAgree, if_pos (by rw [hs]; simp [h0, he]), hs]
  rw [exec_discFbChange]
  refine act_does t _ hd ?_ fun s' hk => ?_
  · refine keeps_step ?_ (keeps_keepDisc _)
    rw [hrun]
    exact keeps_step (keeps_readFb closed _) (keeps_saf _ _)
  · rw [kept_saf hk, kept_sup hk, hrun]
    exact ⟨rfl, rfl, rfl, rfl, h0, rfl, rfl, rfl, hp⟩

/-- Open passes step 1 (R408). -/
theorem discFbChange_step1 (t : Nat) (s : State) (hd : s.pw.dev ≠ .off) (h1 : s.saf.discStep = 1) :
    ∃ s', exec (.discFbChange t false) s = .next s' ∧ keepsBut [.saf, .sup] (s.advance t) s' ∧ s'.saf.discStep = 2 ∧
    s'.saf.discEn = true ∧ s'.saf.discFb = false := by
  have hrun := discRun_of_step1 (s := readFb false (s.advance t)) (by simpa [readFb, supplyStop] using h1) rfl
  rw [exec_discFbChange]
  refine act_does t _ hd ?_ fun s' hk => ?_
  · refine keeps_step ?_ (keeps_keepDisc _)
    rw [hrun]
    exact keeps_step (keeps_readFb_open _) (keeps_saf _ _)
  · rw [kept_saf hk, hrun]
    exact ⟨rfl, rfl, rfl⟩

/-- Closed passes step 2 (R408). -/
theorem discFbChange_step2 (t : Nat) (s : State) (hd : s.pw.dev ≠ .off) (h2 : s.saf.discStep = 2) :
    ∃ s', exec (.discFbChange t true) s = .next s' ∧ keepsBut [.saf] (s.advance t) s' ∧ s'.saf.discStep = 3 ∧
    s'.saf.discEn = false ∧ s'.saf.discFb = true := by
  have hrun := discRun_of_step2 (s := readFb true (s.advance t)) (by simpa [readFb] using h2) rfl
  rw [exec_discFbChange]
  refine act_does t _ hd ?_ fun s' hk => ?_
  · refine keeps_step ?_ (keeps_keepDisc _)
    rw [hrun]
    exact keeps_step (keeps_readFb_closed _) (keeps_saf _ _)
  · rw [kept_saf hk, hrun]
    exact ⟨rfl, rfl, rfl⟩

/-- Closed leaves step 3 waiting (R408). -/
theorem discFbChange_step3 (t : Nat) (s : State) (hd : s.pw.dev ≠ .off) (h3 : s.saf.discStep = 3) :
    ∃ s', exec (.discFbChange t true) s = .next s' ∧ keepsBut [.saf] (s.advance t) s' ∧ s'.saf.discFb = true ∧
    s'.saf.discStep = 3 ∧ s'.saf.discEn = s.saf.discEn ∧ s'.saf.causes = s.saf.causes ∧
    s'.saf.permission = s.saf.permission := by
  have hrun := discRun_of_waits (s := readFb true (s.advance t)) (.inl ⟨.inr (by simpa [readFb] using h3), rfl⟩)
  rw [exec_discFbChange]
  refine act_does t _ hd ?_ fun s' hk => ?_
  · rw [hrun]
    exact keeps_step (keeps_readFb_closed _) (keeps_keepDisc _)
  · rw [kept_saf hk, hrun]
    simp [keepDisc, readFb, h3]

/-- Closed passes step 4, and the check with it (R408, R409). -/
theorem discFbChange_step4 (t : Nat) (s : State) (hd : s.pw.dev ≠ .off) (h4 : s.saf.discStep = 4) :
    ∃ s', exec (.discFbChange t true) s = .next s' ∧ keepsBut lightBlks (s.advance t) s' ∧ s'.saf.discStep = 0 ∧
    s'.saf.discPassed = (s.saf.discPassed || !s.saf.discOnly4) ∧ s'.saf.closeOk = true := by
  obtain ⟨c, p, n, h, hrun⟩ :=
    saf_discRun_of_step4 (s := readFb true (s.advance t)) (by simpa [readFb] using h4) rfl
  rw [exec_discFbChange]
  refine act_does t _ hd ?_ fun s' hk => ?_
  · exact keeps_step (keeps_trans (keeps_mono (keeps_readFb_closed _) (by decide)) (keeps_discRun _)) (keeps_keepDisc _)
  · rw [kept_saf hk, keepDisc, hrun]
    simp [readFb]

/-- T_fb over with the pins in disagreement outside the check (R409). -/
theorem discFbTimeout_disagrees (t : Nat) (s : State) (hd : s.pw.dev ≠ .off) (h0 : s.saf.discStep = 0)
    (hne : s.saf.discFb ≠ s.saf.discEn) (hc : bmGet s.saf.causes 0x03 = false) (hover : fbTimeOver (s.advance t) = true) :
    ∃ s', exec (.discFbTimeout t) s = .next s' ∧ keepsBut raiseBlks (s.advance t) s' ∧
    bmGet s'.saf.latched 0x03 = true := by
  have hrun : discRun (s.advance t) = s.advance t := by
    rw [discRun_of_idle (by simpa using h0), discAgree, if_neg (by simp [hne])]
  have hjudge : judgeFb (discRun (s.advance t)) = setCause 0x03 true [] (s.advance t) := by
    rw [hrun, judgeFb, if_neg (by simp [hover]), if_neg (by simp [h0]), if_pos (by simpa using hne)]
  rw [exec_discFbTimeout]
  refine act_does_dict t _ hd ?_ fun s' hk => ?_
  · rw [hjudge]
    exact keeps_setCause _ _ _ _
  · rw [kept_saf hk, hjudge]
    exact latched_setCause_on _ _ _ (by decide) (by decide) (by simpa using hc)

/-- T_fb over at a step that waits: the check has failed (R408). -/
theorem discFbTimeout_fails (t : Nat) (s : State) (hd : s.pw.dev ≠ .off) (hw : stepWaits s)
    (hc : bmGet s.saf.causes 0x03 = false) (hover : fbTimeOver (s.advance t) = true) :
    ∃ s', exec (.discFbTimeout t) s = .next s' ∧ keepsBut raiseBlks (s.advance t) s' ∧ bmGet s'.saf.latched 0x03 = true ∧
    s'.saf.discPassed = s.saf.discPassed ∧
    (s.saf.before = none → s.saf.pendingReturn = false → s'.saf.discStep = 0) := by
  have hstep : s.saf.discStep ≠ 0 := by
    obtain ⟨h1 | h3, -⟩ | ⟨h2 | h4, -⟩ := hw <;> omega
  have hcause : bmGet (failCheck (s.advance t)).saf.causes 0x03 = false := by simpa [failCheck, keepDisc] using hc
  have hjudge : judgeFb (discRun (s.advance t)) = raiseSrc 0x03 (leBytes 1 s.saf.discStep) (failCheck (s.advance t)) := by
    rw [discRun_of_waits (by simpa [stepWaits] using hw), judgeFb, if_neg (by simp [hover]), if_pos (by simpa using hstep),
      setCause, if_pos rfl, if_neg (by simp [hcause]), advance_saf]
  have hbefore : ∀ o ∈ (failCheck (s.advance t)).saf.before, o.discStep = 0 := by simp [failCheck, keepDisc]
  rw [exec_discFbTimeout]
  refine act_does_dict t _ hd ?_ fun s' hk => ?_
  · rw [hjudge]
    exact keeps_trans (keeps_mono (keeps_trans (keeps_saf _ _) (keeps_keepDisc _)) (by decide)) (keeps_raiseSrc _ _ _)
  · rw [kept_saf hk, hjudge]
    refine ⟨latched_raiseSrc _ _ _ (by decide) (by decide), ?_, fun hb hr => ?_⟩
    · rw [discPassed_raiseSrc _ (by decide) rfl hbefore]
      simp [failCheck, keepDisc]
    · exact discStep_raiseSrc _ (by decide) rfl (by simp [failCheck, keepDisc, hb]) (by simpa [failCheck, keepDisc] using hr)

/-- Before T_fb is over a step that waits goes on waiting (R408). -/
theorem discFbTimeout_early (t : Nat) (s : State) (hd : s.pw.dev ≠ .off) (hw : stepWaits s)
    (hearly : fbTimeOver (s.advance t) = false) :
    ∃ s', exec (.discFbTimeout t) s = .next s' ∧ keepsBut [] (s.advance t) s' ∧ s'.saf = s.saf := by
  have hjudge : judgeFb (discRun (s.advance t)) = s.advance t := by
    rw [discRun_of_waits (by simpa [stepWaits] using hw), judgeFb, if_pos (by simp [hearly])]
  rw [exec_discFbTimeout]
  refine act_does t _ hd (by rw [hjudge]; exact keeps_refl _ _) fun s' hk => ?_
  rw [kept_saf hk, hjudge, advance_saf]

/-- Settles O14: each step of the check passes or waits as DISC_FB reads, and the end of T_fb raises 0x03 where the pins disagree
or the step has not passed, clause by clause. -/
theorem disconnectSwitchIsChecked : Obligations.DisconnectSwitchIsChecked :=
  ⟨discFbChange_agrees, discFbChange_step1, discFbChange_step2, discFbChange_step3, discFbChange_step4,
    discFbTimeout_disagrees, discFbTimeout_fails, discFbTimeout_early⟩

end Sys2Proof
end

section
/-!
PROOFS. The hits of I_lim (PhaseLimitsAreCounted): what a sample of the control engine does besides counting them, and their
count.
-/

namespace Sys2Proof

set_option Elab.async false

open Sys2Proof.Machine

/-! ## What a raise leaves of the supply

An entry to a safety state can rest the engine and takes learning its weight; what R302 counts with stays. -/

/-- What the hits of I_lim are judged and counted with (R302). -/
def limitPart (s : State) : Nat × Nat × List Int × List Bool × List Nat × Cnt :=
  (s.sup.phases, s.sup.phaseLimit, s.sup.lastI, s.sup.limitHit, s.sup.limitRun, s.sup.phaseLimits)

theorem limitPart_of_framed {bs : List Blk} {s s' : State} (h : keepsBut bs s s') (hn : Blk.sup ∉ bs := by decide) :
    limitPart s' = limitPart s := by rw [limitPart, kept_sup h hn, limitPart]

theorem limitPart_ite {c : Prop} [Decidable c] {a b s : State} (h : limitPart a = limitPart s)
    (h' : limitPart b = limitPart s) : limitPart (if c then a else b) = limitPart s := by split <;> assumption

theorem limitPart_setHold (on : Bool) (s : State) : limitPart (setHold on s) = limitPart s :=
  limitPart_of_framed (keeps_setHold _ _)

theorem limitPart_dropDisc (s : State) : limitPart (dropDisc s) = limitPart s := by
  unfold dropDisc; extract_lets was z s1 opened
  exact (limitPart_of_framed (keeps_discAgree _)).trans (limitPart_ite rfl rfl)

theorem limitPart_abandonLoad (s : State) : limitPart (abandonLoad s) = limitPart s := by
  unfold abandonLoad; extract_lets s1
  have h1 : limitPart s1 = limitPart s := limitPart_of_framed (keeps_emptyHalves s)
  clear_value s1
  exact (limitPart_of_framed (keeps_gainDrain _)).trans h1

theorem limitPart_holdEntry (s : State) : limitPart (holdEntry s) = limitPart s := by
  unfold holdEntry; extract_lets z s0 s1
  have h0 : limitPart s0 = limitPart s := (limitPart_of_framed (keeps_stopSchedule _)).trans rfl
  have h1 : limitPart s1 = limitPart s := (limitPart_setHold _ _).trans h0
  clear_value s0 s1
  exact limitPart_ite (limitPart_ite ((limitPart_dropDisc _).trans h1) h1)
    (limitPart_ite ((limitPart_dropDisc _).trans h0) h0)

theorem limitPart_darkEntry (s : State) : limitPart (darkEntry s) = limitPart s := by
  unfold darkEntry; rw [limitPart_dropDisc, limitPart_setHold]
  exact (limitPart_of_framed (keeps_blank _)).trans ((limitPart_of_framed (keeps_stopSchedule _)).trans rfl)

theorem limitPart_enterUp (c i : Nat) (s : State) : limitPart (enterUp c i s) = limitPart s := by
  unfold enterUp; extract_lets pick lost x s1 z s2
  have h2 : limitPart s2 = limitPart s := rfl
  have h3 : limitPart (abandonLoad s2) = limitPart s := (limitPart_abandonLoad _).trans h2
  clear_value s2 x
  refine limitPart_ite rfl ?_
  split
  · exact (limitPart_of_framed (keeps_limpEntry _ _)).trans h3
  · exact (limitPart_holdEntry _).trans h3
  · exact (limitPart_darkEntry _).trans h3
  · exact h2

theorem sup_updPermission (s : State) : (updPermission s).sup = s.sup := by
  unfold updPermission; extract_lets on fell z s1
  split
  · exact (kept_sup (keeps_setHold _ _)).trans ((kept_sup (keeps_blank s1)).trans rfl)
  · rfl

theorem sup_discEval (k : Nat) (s : State) : (discEval k s).sup = s.sup := by
  induction k generalizing s with
  | zero => rfl
  | succ k ih =>
    unfold discEval
    split
    · split
      · rfl
      · exact ih _
    · split
      · exact ih _
      · rfl
    · split
      · rfl
      · exact ih _
    · split
      · exact sup_updPermission _
      · rfl
    · rfl

theorem sup_closeDisc (s : State) : (closeDisc s).sup = s.sup :=
  (kept_sup (keeps_discAgree _)).trans ((sup_discEval _ _).trans (kept_sup (keeps_assertDisc _)))

/-- A move to a lower safety state, where there is one, leaves the supply alone. -/
theorem sup_lowerTo {tgt : Nat} {s s' : State} (h : lowerTo tgt s = some s') : s'.sup = s.sup := by
  unfold lowerTo at h
  split at h
  · split at h
    · cases h
    · cases h
      exact (kept_sup (keeps_limpEntry _ _)).trans ((sup_closeDisc _).trans (kept_sup (keeps_setSafety _ _)))
  · cases h
    split
    · exact (kept_sup (keeps_setHold _ _)).trans (kept_sup (keeps_setSafety _ _))
    · exact kept_sup (keeps_setSafety _ _)

theorem sup_turnReturn (tgt : Nat) (s : State) : (turnReturn tgt s).sup = s.sup := by
  unfold turnReturn; extract_lets z s1
  have h1 : s1.sup = s.sup := rfl
  clear_value s1
  split
  · exact h1
  · cases h : lowerTo tgt s1 with
    | none => exact h1
    | some x => exact (sup_lowerTo h).trans h1

theorem sup_resetLow (tgt : Nat) (s : State) : (resetLow tgt s).sup = s.sup := by
  unfold resetLow
  split
  · rfl
  · split
    next h => exact (sup_lowerTo h).trans rfl
    next => rfl

theorem limitPart_of_sup {s s' : State} (h : s'.sup = s.sup) : limitPart s' = limitPart s := by
  rw [limitPart, h, limitPart]

theorem limitPart_retarget (i : Nat) (s : State) : limitPart (retarget i s) = limitPart s := by
  unfold retarget; extract_lets tgt c
  exact limitPart_ite (limitPart_enterUp _ _ _) (limitPart_ite (limitPart_of_sup (sup_turnReturn _ _))
    (limitPart_ite rfl (limitPart_ite rfl rfl)))

theorem limitPart_raiseTarget (i was : Nat) (s : State) : limitPart (raiseTarget i was s) = limitPart s := by
  unfold raiseTarget; extract_lets tgt
  split
  · exact limitPart_ite ((limitPart_of_sup (sup_resetLow _ _)).trans ((limitPart_retarget _ _).trans rfl))
      (limitPart_retarget _ _)
  · exact limitPart_retarget _ _

theorem limitPart_raiseSrc (i : Nat) (x : List Byte) (s : State) : limitPart (raiseSrc i x s) = limitPart s := by
  unfold raiseSrc; extract_lets was z s1 s2 c s3
  have h2 : limitPart s2 = limitPart s := (limitPart_raiseTarget _ _ _).trans rfl
  have h3 : limitPart s3 = limitPart s := (limitPart_of_framed (keeps_logAdd _ _ _ _ _)).trans h2
  exact limitPart_ite rfl (limitPart_ite ((limitPart_of_framed (keeps_event _ _ _ _)).trans h3) h3)

/-- A raise clears no latched bit (R387). -/
theorem latched_raiseSrc_of_latched {j : Nat} (i : Nat) (x : List Byte) {s : State} (h : bmGet s.saf.latched j = true) :
    bmGet (raiseSrc i x s).saf.latched j = true := by
  by_cases hi : hasSource i = true
  · have hl := latches_raiseSrc (j := 0) (by simp [lasts]) i x s hi
    simp only [latches, Prod.mk.injEq] at hl
    obtain ⟨hlatched, -⟩ := hl
    have hj : s.saf.latched.getLsbD j = true := h
    rw [hlatched, bmGet, bmSet, BitVec.getLsbD_or, hj, Bool.true_or]
  · rw [raiseSrc, if_pos (by simpa using hi)]
    exact h

/-! ## What a sample does besides counting hits (R302 to R304, R312, R317) -/

/-- A part of a sample that counts no hit of I_lim: it changes what a raise can change, leaves what hits are counted with, and
clears no latched bit. -/
structure CountsNone (s s' : State) : Prop where
  frame : keepsBut raiseBlks s s'
  limits : limitPart s' = limitPart s
  latched : ∀ j, bmGet s.saf.latched j = true → bmGet s'.saf.latched j = true

theorem CountsNone.refl (s : State) : CountsNone s s := ⟨keeps_refl _ _, rfl, fun _ h => h⟩

theorem CountsNone.trans {s s' s'' : State} (h : CountsNone s s') (h' : CountsNone s' s'') : CountsNone s s'' :=
  ⟨keeps_trans h.frame h'.frame, h'.limits.trans h.limits, fun j hj => h'.latched j (h.latched j hj)⟩

theorem CountsNone.ite {c : Prop} [Decidable c] {s a b : State} (h : CountsNone s a) (h' : CountsNone s b) :
    CountsNone s (if c then a else b) := by split <;> assumption

theorem countsNone_sup {x : Sup} {s : State} (h : limitPart { s with sup := x } = limitPart s) :
    CountsNone s { s with sup := x } :=
  ⟨keeps_mono (keeps_sup _ _) (by decide), h, fun _ hj => hj⟩

theorem countsNone_modSup {f : Sup → Sup} {s : State} (h : limitPart (modSup f s) = limitPart s) : CountsNone s (modSup f s) :=
  countsNone_sup h

theorem countsNone_raiseSrc (i : Nat) (x : List Byte) (s : State) : CountsNone s (raiseSrc i x s) :=
  ⟨keeps_raiseSrc _ _ _, limitPart_raiseSrc _ _ _, fun _ hj => latched_raiseSrc_of_latched i x hj⟩

theorem countsNone_setCause (i : Nat) (on : Bool) (x : List Byte) (s : State) : CountsNone s (setCause i on x s) := by
  unfold setCause
  exact .ite (.ite (.refl s) (countsNone_raiseSrc i x s)) ⟨keeps_mono (keeps_saf _ _) (by decide), rfl, fun _ hj => hj⟩

theorem countsNone_transientSrc (i : Nat) (x : List Byte) (s : State) : CountsNone s (transientSrc i x s) where
  frame := keeps_mono (keeps_transientSrc i x s) (by decide)
  limits := limitPart_of_framed (keeps_transientSrc i x s)
  latched j hj := by
    unfold transientSrc
    rw [kept_saf (keeps_logAdd _ _ _ _ _)]
    exact hj

theorem countsNone_repClear (s : State) : CountsNone s (repClear s) := countsNone_modSup rfl

theorem countsNone_supplyStop (s : State) : CountsNone s (supplyStop s) := countsNone_sup rfl

theorem countsNone_vledFrom (v : Nat) (s : State) : CountsNone s (vledFrom v s) := countsNone_modSup rfl

theorem countsNone_vledStep (s : State) : CountsNone s (vledStep s) := by
  unfold vledStep
  exact countsNone_modSup rfl

theorem countsNone_bfSat (hit : Bool) (s : State) : CountsNone s (bfSat hit s) := by
  unfold bfSat
  exact .ite ((countsNone_modSup rfl).trans (countsNone_raiseSrc _ _ _)) (.refl s)

theorem countsNone_retriesPass (s : State) : CountsNone s (retriesPass s) := by
  unfold retriesPass
  extract_lets past ovLast ov s1 uvLast uv s2
  have h1 : CountsNone s s1 :=
    .ite (.ite (countsNone_modSup rfl) ((countsNone_modSup rfl).trans (countsNone_transientSrc _ _ ov))) (.refl s)
  have huv : CountsNone s uv := h1.trans (countsNone_modSup rfl)
  have h2 : CountsNone s s2 := .ite (.ite huv (huv.trans (countsNone_transientSrc _ _ uv))) h1
  clear_value s2
  refine foldl_preserves (P := CountsNone s) (fun y p hy => ?_) _ h2
  exact .ite ((hy.trans (countsNone_modSup rfl)).trans (countsNone_transientSrc _ _ _)) hy

theorem countsNone_profFall (s : State) : CountsNone s (profFall s) := by
  unfold profFall
  extract_lets s1
  have h1 : CountsNone s s1 := countsNone_modSup rfl
  exact .ite (.refl s) (.ite (h1.trans (countsNone_modSup rfl)) h1)

theorem countsNone_binEnd (s : State) : CountsNone s (binEnd s) := by
  unfold binEnd
  split
  · exact .refl s
  · extract_lets u done
    have hdone : CountsNone s done := countsNone_modSup rfl
    refine .ite hdone ?_
    split
    · exact hdone.trans (countsNone_modSup rfl)
    · exact (hdone.trans (countsNone_modSup rfl)).trans (countsNone_bfSat _ _)

theorem countsNone_binMove (s : State) : CountsNone s (binMove s) := by
  unfold binMove
  exact .ite (.refl s) ((countsNone_binEnd s).trans (countsNone_modSup rfl))

theorem countsNone_sampleLoop (v : Nat) (s : State) : CountsNone s (sampleLoop v s) := by
  unfold sampleLoop
  extract_lets s1 imax e acc u ff iref es fs bs s2
  have h1 : CountsNone s s1 :=
    .ite (.refl s) (((countsNone_modSup rfl).trans (countsNone_vledFrom v _)).trans (countsNone_setCause _ _ _ _))
  have h2 : CountsNone s s2 := h1.trans (countsNone_modSup rfl)
  exact (((h2.trans (countsNone_bfSat _ _)).trans (countsNone_bfSat _ _)).trans (countsNone_bfSat _ _)).trans
    (countsNone_vledStep _)

/-! ## The count (R302) -/

theorem upTo_four : upTo 4 = [0, 1, 2, 3] := rfl

theorem nth_map_upTo {α : Type} (f : Nat → α) (d : α) {n p : Nat} (hp : p < n) : nth ((upTo n).map f) p d = f p := by
  simp [nth, upTo, hp]

/-- The hits of the sample counted, and the runs of each phase (R302). -/
def countHits (s : State) : State :=
  modSup (fun u => { u with
    limitHit := [false, false, false, false]
    limitRun := (upTo 4).map (fun p => if hitsLimit s u.lastI p then nth u.limitRun p 0 + 1 else 0)
    phaseLimits := if (upTo 4).any (hitsLimit s u.lastI) then u.phaseLimits + 1 else u.phaseLimits }) s

/-- The 1,001st hit in a row of phase p raises its source (R302). -/
def raiseAtLimit (run : List Nat) (s : State) (p : Nat) : State := if nth run p 0 = 1001 then raiseSrc (0x82 + p) [] s else s

theorem limitSample_eq (s : State) :
    limitSample s = (upTo 4).foldl (raiseAtLimit (countHits s).sup.limitRun) (countHits s) := rfl

theorem countsNone_raiseAtLimit (run : List Nat) (s : State) (p : Nat) : CountsNone s (raiseAtLimit run s p) :=
  .ite (countsNone_raiseSrc _ _ s) (.refl s)

theorem countsNone_limitRaises (run : List Nat) (l : List Nat) (s : State) : CountsNone s (l.foldl (raiseAtLimit run) s) :=
  foldl_preserves (P := CountsNone s) (fun y p hy => hy.trans (countsNone_raiseAtLimit run y p)) l (.refl s)

/-- A phase with its 1,001st hit in a row is latched (R302, R387). -/
theorem latched_limitRaises {run : List Nat} {p : Nat} (hp : p < 4) (hrun : nth run p 0 = 1001) (l : List Nat) (hl : p ∈ l)
    (s : State) : bmGet (l.foldl (raiseAtLimit run) s).saf.latched (0x82 + p) = true := by
  have hsource : ∀ p < 4, hasSource (0x82 + p) = true := by decide
  induction l generalizing s with
  | nil => cases hl
  | cons q l ih =>
    rw [List.foldl_cons]
    by_cases hq : q = p
    · subst hq
      refine (countsNone_limitRaises run l _).latched _ ?_
      rw [raiseAtLimit, if_pos hrun]
      exact latched_raiseSrc _ _ _ (hsource q hp) (by omega)
    · exact ih (List.mem_of_ne_of_mem (Ne.symm hq) hl) _

theorem sup_limitRaises (run : List Nat) (s : State) :
    ((upTo 4).foldl (raiseAtLimit run) s).sup.phaseLimits = s.sup.phaseLimits ∧
    ((upTo 4).foldl (raiseAtLimit run) s).sup.limitRun = s.sup.limitRun := by
  have h := (countsNone_limitRaises run (upTo 4) s).limits
  simp only [limitPart, Prod.mk.injEq] at h
  obtain ⟨-, -, -, -, hrun, hcount⟩ := h
  exact ⟨hcount, hrun⟩

/-! ## A sample in its three parts (R302, R303) -/

@[simp] theorem blockOn_advance (s : State) (t b : Nat) : blockOn (s.advance t) b = blockOn s b := by
  have hwaits : coreWaits (s.advance t) b = coreWaits s b := by simp [coreWaits]
  have hset : tbSet (s.advance t) b = tbSet s b := by simp [tbSet, hwaits]
  simp [blockOn, blockPowered, blockTimed, hset]

/-- The measurements of a sample are kept. -/
def keepMeasurements (v : Nat) (i : List Int) (s : State) : State :=
  modSup (fun u => { u with
    sampleAt := s.now, levelCnt := min 1000 (u.levelCnt + 1), lastV := v, lastI := (upTo 4).map (fun p => nth i p 0) }) s

/-- What a sample does before it counts the hits. -/
def beforeCount (s : State) : State :=
  binMove (profFall (retriesPass (if s.sup.clearPend then repClear s else s)))

/-- What a sample does after it has counted the hits. -/
def afterCount (v : Nat) (s : State) : State :=
  let s := if (upTo s.sup.phases).any (imbalanced s) then s else setCause 0x8A false [] s
  if !maySwitch s then setCause 0x8E false [] (supplyStop s)
  else if s.sup.ovTrip then s
  else sampleLoop v s

/-- A sample: none without the engine, its power or TB7 (R300), else its three parts. -/
def takeSample (v : Nat) (i : List Int) (s : State) : State :=
  if !active s || !blockOn s 6 || nth s.tb.src 7 2 = 2 then s
  else afterCount v (limitSample (beforeCount (keepMeasurements v i s)))

theorem exec_controlSample (t v : Nat) (i : List Int) (s : State) :
    exec (.controlSample t v i) s = act t (takeSample v i) s := by
  unfold takeSample afterCount beforeCount keepMeasurements
  rfl

theorem takeSample_of_runs {t v : Nat} {i : List Int} {s : State} (hactive : active s = true) (hon : blockOn s 6 = true)
    (htb : nth s.tb.src 7 2 ≠ 2) : takeSample v i (s.advance t) =
      afterCount v (limitSample (beforeCount (keepMeasurements v i (s.advance t)))) := by
  simp [takeSample, hactive, hon, htb]

theorem countsNone_beforeCount (s : State) : CountsNone s (beforeCount s) := by
  have h : CountsNone s (if s.sup.clearPend then repClear s else s) := .ite (countsNone_repClear s) (.refl s)
  exact ((h.trans (countsNone_retriesPass _)).trans (countsNone_profFall _)).trans (countsNone_binMove _)

theorem countsNone_afterCount (v : Nat) (s : State) : CountsNone s (afterCount v s) := by
  unfold afterCount
  extract_lets s1
  have h1 : CountsNone s s1 := .ite (.refl s) (countsNone_setCause _ _ _ s)
  clear_value s1
  exact .ite ((h1.trans (countsNone_supplyStop _)).trans (countsNone_setCause _ _ _ _))
    (.ite h1 (h1.trans (countsNone_sampleLoop v _)))

theorem keeps_limitSample (s : State) : keepsBut raiseBlks s (limitSample s) := by
  rw [limitSample_eq]
  exact keeps_trans (keeps_mono (keeps_sup _ _) (by decide)) (countsNone_limitRaises _ _ _).frame

theorem limitPart_beforeCount (v t : Nat) (i : List Int) (s : State) :
    limitPart (beforeCount (keepMeasurements v i (s.advance t))) = (s.sup.phases, s.sup.phaseLimit,
      (upTo 4).map (fun p => nth i p 0), s.sup.limitHit, s.sup.limitRun, s.sup.phaseLimits) := by
  rw [(countsNone_beforeCount _).limits]
  simp [limitPart, keepMeasurements, modSup]

/-- The hits that a sample counts: those of the currents that it is given, at the limit in force (R302). -/
theorem countHits_beforeCount (v t : Nat) (i : List Int) (s : State) :
    (countHits (beforeCount (keepMeasurements v i (s.advance t)))).sup.phaseLimits =
      s.sup.phaseLimits + (if (upTo 4).any (hitsLimit s i) = true then 1 else 0) ∧
    ∀ p < 4, nth (countHits (beforeCount (keepMeasurements v i (s.advance t)))).sup.limitRun p 0 =
      if hitsLimit s i p = true then nth s.sup.limitRun p 0 + 1 else 0 := by
  have hl := limitPart_beforeCount v t i s
  generalize beforeCount (keepMeasurements v i (s.advance t)) = y at hl ⊢
  simp only [limitPart, Prod.mk.injEq] at hl
  obtain ⟨hphases, hlimit, hcurrents, hhit, hrun, hcount⟩ := hl
  have hits : ∀ p < 4, hitsLimit y y.sup.lastI p = hitsLimit s i p := fun p hp => by
    simp only [hitsLimit, hphases, hlimit, hhit, hcurrents, nth_map_upTo _ _ hp]
  have hany : (upTo 4).any (hitsLimit y y.sup.lastI) = (upTo 4).any (hitsLimit s i) := by
    simp only [upTo_four, List.any_cons, List.any_nil, hits, Nat.reduceLT]
  constructor
  · simp only [countHits, modSup, hany, hcount]
    split <;> simp
  · intro p hp
    simp only [countHits, modSup, nth_map_upTo _ _ hp, hits p hp, hrun]

/-- Settles O60: what comes before and after the count in a sample leaves the hits, the runs and the latched bits as they are, and
the raises at the 1,001st hit come last of the count. -/
theorem phaseLimitsAreCounted : Obligations.PhaseLimitsAreCounted := by
  intro t v i s hd hactive hon htb
  let y := beforeCount (keepMeasurements v i (s.advance t))
  have heffect : takeSample v i (s.advance t) = afterCount v (limitSample y) := takeSample_of_runs hactive hon htb
  have hafter := countsNone_afterCount v (limitSample y)
  rw [exec_controlSample]
  refine act_does_dict t _ hd ?_ fun s' hk => ?_
  · rw [heffect]
    have hkept : keepsBut raiseBlks (s.advance t) (keepMeasurements v i (s.advance t)) :=
      keeps_mono (keeps_sup _ _) (by decide)
    exact keeps_trans (keeps_trans (keeps_trans hkept (countsNone_beforeCount _).frame) (keeps_limitSample y)) hafter.frame
  · rw [kept_sup hk, kept_saf hk, heffect]
    have hlimits := hafter.limits
    simp only [limitPart, Prod.mk.injEq] at hlimits
    obtain ⟨-, -, -, -, hrun, hcount⟩ := hlimits
    obtain ⟨hraisedCount, hraisedRun⟩ := sup_limitRaises (countHits y).sup.limitRun (countHits y)
    obtain ⟨hcounted, hruns⟩ := countHits_beforeCount v t i s
    refine ⟨?_, fun p hp => ?_, fun p hp hhit h1000 => ?_⟩
    · rw [hcount, limitSample_eq, hraisedCount, hcounted]
    · rw [hrun, limitSample_eq, hraisedRun, hruns p hp]
    · have h1001 : nth (countHits y).sup.limitRun p 0 = 1001 := by rw [hruns p hp, if_pos hhit, h1000]
      refine hafter.latched _ ?_
      rw [limitSample_eq]
      exact latched_limitRaises hp h1001 (upTo 4) (List.mem_range.2 hp) _

end Sys2Proof
end

section
/-!
PROOFS. Three statements about the power stage that the model does not keep (TheControlEngineSamples, PhasesSwitch,
StageFaultsAreTaken).
-/

namespace Sys2Proof

set_option Elab.async false

open Sys2Proof.Machine

/-! ## Counterexamples: what a raise does to the power stage

A raise that takes the safety state up can drop DISC_EN, and with it the engine rests: the integrator is cleared and switching
stops (R300, R398, R399). -/

/-- READY with DISC_EN asserted and the switch closed, every source at class HOLD, at 5 us. -/
def closedInReady : State :=
  { now := 5000000
    pw := { dev := .ready, doms := List.replicate 16 2 }
    tb := { src := [0, 0, 0, 0, 0, 1, 0, 1, 0, 0, 0, 0, 0] }
    saf := { discEn := true, discFb := true, closeOk := true }
    objs := [(okey 0x2D10 3, List.replicate 256 3)] }

/-! ### A sample before the close check has passed, in which a phase reaches I_lim for the 1,001st time (R300, R302, R398)

The engine may not switch yet and holds an integral. The raise of 0x83 enters HOLD, which drops DISC_EN in READY. -/

/-- Phase 1 has reached I_lim in 1,000 consecutive samples, and the close check is still to pass. -/
def closingAtLimit : State :=
  { closedInReady with
    saf := { closedInReady.saf with closeOk := false }
    sup := { acc := 7, limitRun := [0, 1000, 0, 0] } }

theorem integral_after_limitRun :
    (afterwards (exec (.controlSample 5000000 3000 [0, 8001, 0, 0]) closingAtLimit)).map (·.sup.acc) = some 0 := by
  decide +kernel

/-- Refutes O48: by clause 3 the integrator rests where the engine may not switch, but the raise for a phase at I_lim can enter
HOLD in READY, and the integrator is cleared with DISC_EN. -/
theorem not_theControlEngineSamples : ¬ Obligations.TheControlEngineSamples := by
  unfold Obligations.TheControlEngineSamples
  rintro ⟨-, -, hrests, -⟩
  obtain ⟨s', he, -, -, -, -, hacc, -⟩ := hrests 5000000 3000 [0, 8001, 0, 0] closingAtLimit (by decide) rfl
    (by decide +kernel) (by decide) (by decide +kernel)
  rw [eq_of_afterwards he integral_after_limitRun] at hacc
  cases hacc

/-! ### A raise after a reset request of the same instant (R391, R415)

The raise undoes the request and brings back the safety state that it found. Where that is a lower one than the state now, HOLD
is entered anew, and the safety state after the command is the one before it though the stage has been stopped. The clauses take
any state that meets their hypotheses, and do not ask whether commands lead to it. -/

/-- HOLD in READY, the closed switch kept, with a reset request of this instant that found LIMP. Phase 2 carries no current. -/
def holdAfterReset : State :=
  { closedInReady with
    saf := { closedInReady.saf with state := .hold, before := some { resetFound with at_ := 5000000 } }
    sup := { mode := .sampled, lastI := [5000, 5000, 0, 5000] } }

/-- What a command leaves of the safety state and of the mode of the engine. -/
def stateAndMode (s : State) : Safety × SupMode := (s.saf.state, s.sup.mode)

theorem stateAndMode_after_freeRunning :
    (afterwards (exec (.freeRunning 5000000) holdAfterReset)).map stateAndMode = some (.hold, .off) := by decide +kernel

theorem stateAndMode_after_imbalance :
    (afterwards (exec (.phaseImbalance 5000000 2) holdAfterReset)).map stateAndMode = some (.hold, .off) := by decide +kernel

/-- Refutes O49: by clause 6 the engine runs free where the safety state is as before, but HOLD entered anew after the raise has
undone a reset request of the instant stops it. -/
theorem not_phasesSwitch : ¬ Obligations.PhasesSwitch := by
  unfold Obligations.PhasesSwitch
  rintro ⟨-, -, -, -, -, hfree, -⟩
  obtain ⟨s', he, -, -, -, -, hmode⟩ := hfree 5000000 holdAfterReset (by decide) (by decide +kernel) (by decide) (by decide)
    (by decide +kernel)
  have hafter : stateAndMode s' = (.hold, .off) := eq_of_afterwards he stateAndMode_after_freeRunning
  obtain ⟨hstate, hoff⟩ := Prod.mk.inj hafter
  rw [hmode hstate] at hoff
  cases hoff

/-- Refutes O50: by clause 14 an imbalance moves nothing of the supply where the safety state is as before, but HOLD entered anew
after the raise has undone a reset request of the instant stops the engine. -/
theorem not_stageFaultsAreTaken : ¬ Obligations.StageFaultsAreTaken := by
  unfold Obligations.StageFaultsAreTaken
  rintro ⟨-, -, -, -, -, -, -, -, -, -, -, -, -, himbalance, -⟩
  obtain ⟨s', he, -, -, -, hsup⟩ := himbalance 5000000 2 holdAfterReset (by decide) rfl (by decide +kernel) (by decide)
    (by decide +kernel) (by decide +kernel)
  have hafter : stateAndMode s' = (.hold, .off) := eq_of_afterwards he stateAndMode_after_imbalance
  obtain ⟨hstate, hoff⟩ := Prod.mk.inj hafter
  rw [hsup hstate] at hoff
  cases hoff

end Sys2Proof
end
